-- ==== Sys2Proof/Word.lean ====
section
/-! DEFINITION. The words the spec treats as bits: 32-bit register words (R9) and bytes. -/
namespace Sys2Proof

/-- A register word: registers are 32 bits (00_scope.md, Register cards). -/
abbrev Word := BitVec 32

/-- A byte of pool, deep, host, flash or keeping-store memory. -/
abbrev Byte := BitVec 8

end Sys2Proof
end

