-- ==== Sys2Proof/Syntax.lean ====
section
/-! DEFINITION. The commands of the LRV-9256: the rows of spec/opcode_table.json, each with its operands. The table gives its rows no
bits; operands are what the row's rules name (an offset, a value, a unit) and what comes from outside the device (a sample, a frame, a
reading). -/
namespace Sys2Proof

/-- A resource that has a ready list (R294). -/
inductive Resource where
  | engine (sg : Fin 64)
  | acq (u : Fin 16)
  | tdc (u : Fin 64)
  | cpx (p : Fin 8)
  | moveEngine
  | loader
  | tack
  | none
deriving DecidableEq, Repr

/-- A link frame (R325): class, hops, origin, SEQ and its payload as a little-endian number. -/
structure Frame where
  cls : Nat
  hops : Nat
  origin : Nat
  seq : Nat
  payload : Nat
deriving DecidableEq, Repr

/-- A pool requester (Table — Pool priority): its class and instance. -/
inductive Requester where
  | fetch (sg : Fin 64)
  | streamer (sg : Fin 64)
  | source (u : Fin 16)
  | modulation (u : Fin 16)
  | acquisition (u : Fin 16)
  | frames (u : Fin 32)
  | failWriter
  | failDrain
  | capture (p : Fin 8) (gen : Fin 3)
  | scheduler
  | descriptors
  | task (slot : Fin 4096)
  | results (u : Fin 64)
  | shroud
  | bulk (port : Fin 16)
deriving DecidableEq, Repr

/-- A request that arrives at a pool bank: requester, word, and for a write its 32 byte enables and 256 data bits. -/
structure PoolArrival where
  who : Requester
  word : Nat
  write : Option (Nat × Nat)
deriving DecidableEq, Repr

/-- What the check bits of a read word show (R233): no error, one bit in a quarter, more than one in a quarter. -/
inductive EccResult where
  | good
  | corrected
  | uncorrectable (quarter : Fin 4)
deriving DecidableEq, Repr

/-- A part of a task's work or of an access: how many bytes, records or chunks, and whether its read of deep memory fails its link CRC for
good (R247). -/
structure DeepPart where
  n : Nat
  bad : Bool
deriving DecidableEq, Repr

/-- A read of deep memory as a whole: whose, and whether it fails its link CRC for good (R247). -/
structure DeepRead (α : Type) where
  who : α
  bad : Bool
deriving DecidableEq, Repr

/-- A write through a bulk port (R281): its bytes, and the pool words, counted from the first it touches, in which another write of its core
cycle wins (R237). -/
structure PortBytes where
  bytes : List Byte
  lost : List (Fin 17)
deriving DecidableEq, Repr

/-- What the test of a pool region finds (R238, R239): the words that fail the march with their failing bits, and what the check bits of
its words show as they are read (words not named: no error). -/
structure RegionFinds where
  failing : List (Fin 32 × Nat)
  ecc : List (Fin 32 × EccResult)
deriving DecidableEq, Repr

/-- A write drain of a controller (R249): for each write it serves in turn, whether its link CRC keeps failing (R247; those not named do
not). -/
structure DramDrain where
  controller : Fin 8
  failed : List Bool
deriving DecidableEq, Repr

/-- How a block reset ends (R385): whether its self-check passes, and whether the reload of an engine's local store meets a master word that
cannot be corrected (R84). -/
structure ResetEnd where
  passed : Bool
  masterError : Bool
deriving DecidableEq, Repr

/-- A received link frame of the class its row names (R325, R326): header fields, payload as a little-endian number, and whether its
CRC, length and code groups are good. -/
structure Arrival where
  hops : Nat
  origin : Nat
  seq : Nat
  payload : Nat
  clean : Bool
deriving DecidableEq, Repr

/-- A training sequence (R328): lane and port number, FLAGS, requested preset, preset in use. -/
structure Training where
  lane : Nat
  port : Nat
  seen : Bool
  req : Bool
  preset : Nat
  inUse : Nat
deriving DecidableEq, Repr

/-- What a calibration run read in a bank (R370, R375, R376): temperature in quarter degrees and its change meanwhile, the lengths of the
40 cells of each of 96 lines, 16 readings of each of 128 quantities, and of each of the quadrant's 64 phase steps if measured with
this bank. -/
structure BankReadings where
  temp : Int
  change : Nat
  cells : List (List Nat)
  readings : List (List Int)
  steps : List (List Int)
deriving DecidableEq, Repr

/-- What a start finds at a GDDR7 controller (R248, R252, R450, R453): its board record passes its check, command and address training
succeeds where a start is to train it, the density its device reports, data training succeeds. -/
structure DramStart where
  record : Bool
  caTrained : Bool
  density : Fin 3
  trained : Bool
deriving DecidableEq, Repr

/-- What the receivers of a port meet beside frames and training sequences (R324, R331): an alignment column whose comma comes at these
UI on the four lanes, a lost clock, a code error, and the two silences that may have lasted too long. -/
inductive LinkLoss where
  | aligned (arrival : List Nat)
  | clockLost (lane : Nat)
  | codeError (lane : Nat)
  | noAlignment
  | noDiscover
deriving DecidableEq, Repr

/-- The commands: one constructor per row of the table of operations and events. -/
inductive Instr where
  /-- REGISTER_WRITE (R10–R12, R306): an aligned 32-bit write; met names the W1C bits that an event of the same core cycle sets. -/
  | registerWrite (off : Fin 67108864) (value met : Word)
  /-- MISALIGNED_REGISTER_ACCESS (R9): any other access than an aligned 32-bit one. -/
  | misalignedRegisterAccess (off : Fin 67108864) (isRead : Bool)
  /-- RC_FIELD_READ (R11–R13): an aligned 32-bit read; met names the RC fields that an event of the same core cycle has met; the
  highest bit of a counter's field there says that the counter stood at its greatest value before. -/
  | rcFieldRead (off : Fin 67108864) (met : Word)
  /-- DESCRIPTOR_FETCH (R268, R274). -/
  | descriptorFetch (k : Fin 64)
  /-- FETCH_ERROR (R270). -/
  | fetchError (k : Fin 64)
  /-- CQ_WRITE_ERROR (R270). -/
  | cqWriteError (k : Fin 64)
  /-- MOVE (R273, R276): further bytes of the move in a slot. -/
  | move (slot : Fin 4096) (part : DeepPart)
  /-- TABLE_WRITE (R104, R276): n further bytes. -/
  | tableWrite (slot : Fin 4096) (n : Nat)
  /-- LOAD (R418, R419): the slot, and its read of deep memory. -/
  | load (read : DeepRead (Fin 4096))
  /-- UNLOAD (R276). -/
  | unload (slot : Fin 4096)
  /-- BURST (R24, R276): the burst at the head of its engine's ready list is checked and armed. -/
  | burst (slot : Fin 4096)
  /-- CAPTURE (R186): the capture at the head of its unit's ready list is checked and opens the unit. -/
  | capture (slot : Fin 4096)
  /-- MEASURE (R213): the set at the head of its unit's ready list is checked and opens the unit. -/
  | measure (slot : Fin 4096)
  /-- DSP (R223–R228): n further steps of the job in a slot. -/
  | dsp (slot : Fin 4096) (n : Nat)
  /-- REFILL (R168): n further bytes. -/
  | refill (slot : Fin 4096) (n : Nat)
  /-- LOG_UPLOAD (R276): further records or chunks. -/
  | logUpload (slot : Fin 4096) (part : DeepPart)
  /-- TACK (R106, R309, R310): the checks of the TACK in CHECKING. -/
  | tack (slot : Fin 4096)
  /-- CANCEL (R276, R298): acts on the task in the target slot. -/
  | cancel (slot : Fin 4096)
  /-- NOP (R295). -/
  | nop (slot : Fin 4096)
  /-- TASK_ENTER_CHECKING (R24, R289, R295). -/
  | taskEnterChecking (r : Resource)
  /-- REEF_GRANT (R315, R316). -/
  | reefGrant
  /-- REEF_QUEUE_TIMEOUT (R315). -/
  | reefQueueTimeout (slot : Fin 4096)
  /-- TASK_FINISH (R290, R291). -/
  | taskFinish (slot : Fin 4096)
  /-- CASCADE_CANCEL (R293). -/
  | cascadeCancel
  /-- TASK_DEADLINE_EXPIRY (R301). -/
  | taskDeadlineExpiry (slot : Fin 4096)
  /-- TASK_RELEASE (R278, R285, R296). -/
  | taskRelease (flow : Fin 32)
  /-- IRQ_COALESCE_TIMEOUT (R285). -/
  | irqCoalesceTimeout (k : Fin 64)
  /-- SLOT_CLEAR_CREDIT (R304). -/
  | slotClearCredit
  /-- RING_ENABLE (R265): a write of HIF_RINGk_CFG with EN = 1. -/
  | ringEnable (k : Fin 64) (sqlog2 cqlog2 : Fin 32)
  /-- RING_DISABLE (R265): a write of HIF_RINGk_CFG with EN = 0. -/
  | ringDisable (k : Fin 64) (sqlog2 cqlog2 : Fin 32)
  /-- SQ_TAIL_DOORBELL (R266, R267). -/
  | sqTailDoorbell (k : Fin 64) (value : Word)
  /-- CQ_HEAD_DOORBELL (R266, R267). -/
  | cqHeadDoorbell (k : Fin 64) (value : Word)
  /-- BULK_PORT_WRITE (R281–R283). -/
  | bulkPortWrite (n : Fin 16) (data : PortBytes)
  /-- BULK_PORT_READ (R281–R283): bytes read. -/
  | bulkPortRead (n : Fin 16) (part : DeepPart)
  /-- FUNCTION_RESET (R455, R456): 0 function level reset, 1 hot reset, 2 link down. -/
  | functionReset (kind : Fin 3)
  /-- BURST_START (R60, R127). -/
  | burstStart (sg : Fin 64)
  /-- VECTOR_CYCLE_ISSUE (R39, R61, R93, R108, R109). -/
  | vectorCycleIssue (sg : Fin 64)
  /-- VEC (R39): the engine begins the instruction with its first line. -/
  | vec (sg : Fin 64)
  /-- RPT (R39): the engine begins the instruction with its first line. -/
  | rpt (sg : Fin 64)
  /-- JMP (R39): the engine begins the instruction with its first line. -/
  | jmp (sg : Fin 64)
  /-- JCF (R42): the engine begins the instruction with its first line. -/
  | jcf (sg : Fin 64)
  /-- LBEG (R44): the engine begins the instruction with its first line. -/
  | lbeg (sg : Fin 64)
  /-- LEND (R44): the engine begins the instruction with its first line. -/
  | lend (sg : Fin 64)
  /-- CALL (R45): the engine begins the instruction with its first line. -/
  | call (sg : Fin 64)
  /-- RET (R45): the engine begins the instruction with its first line. -/
  | ret (sg : Fin 64)
  /-- MATCH (R46, R47): the engine begins the instruction with its first line. -/
  | matchLoop (sg : Fin 64)
  /-- MATCH_TIMEOUT (R47). -/
  | matchTimeout (sg : Fin 64)
  /-- REACT (R50): the engine begins the instruction with its first line. -/
  | react (sg : Fin 64)
  /-- REACT_RULE_FIRE (R144–R148): the decisions that the samples taken so far allow, and the sub-cycles they govern. -/
  | reactRuleFire (sg : Fin 64)
  /-- REACT_WINDOW_END (R146). -/
  | reactWindowEnd (sg : Fin 64)
  /-- TSET (R51): the engine begins the instruction with its first line. -/
  | tset (sg : Fin 64)
  /-- SRC START (R165): the engine begins the instruction with its first line. -/
  | srcStart (sg : Fin 64)
  /-- SRC STOP (R165): the engine begins the instruction with its first line. -/
  | srcStop (sg : Fin 64)
  /-- SRC JUMP (R165, R166): the engine begins the instruction with its first line. -/
  | srcJump (sg : Fin 64)
  /-- TRIG ARM (R52, R188): the engine begins the instruction with its first line. -/
  | trigArm (sg : Fin 64)
  /-- TRIG FORCE (R52, R188): the engine begins the instruction with its first line. -/
  | trigForce (sg : Fin 64)
  /-- TRIG STOP (R52, R188): the engine begins the instruction with its first line. -/
  | trigStop (sg : Fin 64)
  /-- SYNC SEND (R48, R335): the engine begins the instruction with its first line. -/
  | syncSend (sg : Fin 64)
  /-- SYNC WAIT (R49): the engine begins the instruction with its first line. -/
  | syncWait (sg : Fin 64)
  /-- SYNC_WAIT_TIMEOUT (R49). -/
  | syncWaitTimeout (sg : Fin 64)
  /-- STREAM OPEN (R53): the engine begins the instruction with its first line. -/
  | streamOpen (sg : Fin 64)
  /-- STREAM CLOSE (R53): the engine begins the instruction with its first line. -/
  | streamClose (sg : Fin 64)
  /-- SETG (R39): the engine begins the instruction with its first line. -/
  | setg (sg : Fin 64)
  /-- CLF (R54): the engine begins the instruction with its first line. -/
  | clf (sg : Fin 64)
  /-- HALT (R60): the engine begins the instruction with its first line. -/
  | halt (sg : Fin 64)
  /-- ENGINE_ABORT (R62): a write of SE_CTRL.ABORT. -/
  | engineAbort (sg : Fin 64)
  /-- BURST_COMPLETE (R60, R63, R136). -/
  | burstComplete (sg : Fin 64)
  /-- SE_GR_WRITE (R65, R422). -/
  | seGrWrite (sg : Fin 64) (g : Fin 16) (value : Word)
  /-- DEEP_STREAM_BLOCK_FETCH (R53, R55–R58): the engine, and its read of deep memory. -/
  | deepStreamBlockFetch (read : DeepRead (Fin 64))
  /-- SNAPSHOT_REQUEST (R77): a write of SE_TRAPREQ.SNAPSHOT. -/
  | snapshotRequest (sg : Fin 64)
  /-- HKREQ_TRAP_REQUEST (R77). -/
  | hkreqTrapRequest (sg : Fin 64)
  /-- MICRO_TRAP_ENTRY (R78–R83). -/
  | microTrapEntry (sg : Fin 64)
  /-- MICRO_TRAP_RESUME (R82): upset names a bit of the save area that has changed since entry, if one has. -/
  | microTrapResume (sg : Fin 64) (upset : Option (Fin 512))
  /-- TRAP_DEFERRAL_LIMIT (R81). -/
  | trapDeferralLimit (sg : Fin 64)
  /-- LOCAL_STORE_CHECK_ERROR (R72, R84). -/
  | localStoreCheckError (sg : Fin 64) (addr : Fin 2048) (correctable : Bool)
  /-- UCODE_COMMIT_SVN (R89). -/
  | ucodeCommitSvn
  /-- FUSE_WRITE_DONE (R89, R408). -/
  | fuseWriteDone (firmware : Bool)
  /-- TS_EDGE_WRITE (R103). -/
  | tsEdgeWrite (c : Fin 256) (e : Fin 6) (value : Word)
  /-- STROBE_JUDGEMENT (R115–R126): the channel's placed strobe or window that comes next, with the samples CML + 2 CMH at its instant (for a window, at its start and end, and another value seen between, if one was). -/
  | strobeJudgement (c : Fin 256) (before after : Fin 4) (between : Option (Fin 4))
  /-- CMP_CLEAR (R127). -/
  | cmpClear (sg : Fin 64)
  /-- FAIL_RECORD_STAGE (R133). -/
  | failRecordStage
  /-- FAIL_LOG_DRAIN (R133, R135): one record. -/
  | failLogDrain (st : Fin 4)
  /-- CHUNK_SEAL_TIMEOUT (R138). -/
  | chunkSealTimeout (st : Fin 4)
  /-- CMP_LOG_RDPTR_WRITE (R134). -/
  | cmpLogRdptrWrite (st : Fin 4) (value : Word)
  /-- SRC_BOUNDARY (R163, R166). -/
  | srcBoundary (u : Fin 16)
  /-- SRC_RING_READ (R167, R169). -/
  | srcRingRead (u : Fin 16)
  /-- SRC_RING_WRPTR_WRITE (R167). -/
  | srcRingWrptrWrite (u : Fin 16) (value : Word)
  /-- CAPTURE_WORD (R180–R193, R198–R200): the place of a word in a sub-cycle of a vector cycle. -/
  | captureWord (u : Fin 16) (cycle : Nat) (sub : Fin 8)
  /-- ACQ_PREFILL_DONE (R187). -/
  | acqPrefillDone (u : Fin 16)
  /-- ACQ_RECORD_CLOSE (R190, R196, R197). -/
  | acqRecordClose (u : Fin 16)
  /-- ACQ_REARM_END (R190). -/
  | acqRearmEnd (u : Fin 16)
  /-- AQ_ARM (R188). -/
  | aqArm (u : Fin 16)
  /-- AQ_FORCE (R188). -/
  | aqForce (u : Fin 16)
  /-- AQ_STOP (R188). -/
  | aqStop (u : Fin 16)
  /-- LOCATOR_TRANSITION (R195): the transition's phase step of 64 ticks, counted from device time 0. -/
  | locatorTransition (u : Fin 16) (phase : Nat)
  /-- TDC_INPUT_EDGE (R202, R206, R209): phase step of 64 ticks, ring count to the next step, direction. -/
  | tdcInputEdge (u : Fin 64) (onB : Bool) (phase rings : Nat) (rising : Bool)
  /-- TDC_MINW_DECISION (R207). -/
  | tdcMinwDecision (u : Fin 64) (onB : Bool)
  /-- TDC_CONVERSION_DONE (R203, R204, R210–R212). -/
  | tdcConversionDone (u : Fin 64)
  /-- TDC_RING_UPDATE (R205): the ring periods measured, in 2^-24 ns. -/
  | tdcRingUpdate (u : Fin 64) (slow fast : Word)
  /-- TDC_STUCK_TIMEOUT (R208). -/
  | tdcStuckTimeout (u : Fin 64) (onB : Bool)
  /-- TDC_GATE_END (R210). -/
  | tdcGateEnd (u : Fin 64)
  /-- TDC_SET_ARM (R214). -/
  | tdcSetArm (u : Fin 64)
  /-- TDC_SET_TIMEOUT (R214, R215). -/
  | tdcSetTimeout (u : Fin 64)
  /-- DSP_JOB_COMPLETE (R221, R222, R229). -/
  | dspJobComplete (slot : Fin 4096)
  /-- CPX_CB_WRITE (R222): register 0 BASE, 1 LEN, 2 PTR of a circular buffer. -/
  | cpxCbWrite (p : Fin 8) (b : Fin 8) (which : Fin 3) (value : Word)
  /-- POOL_ACCESS (R232–R237): one core cycle of a bank. -/
  | poolAccess (bank : Fin 512) (arrivals : List PoolArrival) (ecc : EccResult)
  /-- POOL_STALL_PROMOTION (R236). -/
  | poolStallPromotion (bank : Fin 512)
  /-- BIST_REGION_TEST (R238–R240): whether it yields, and what it finds. -/
  | bistRegionTest (yields : Bool) (finds : RegionFinds)
  /-- MEM_ALLOC_CREATE (R244). -/
  | memAllocCreate (index : Fin 1024)
  /-- MEM_ALLOC_FREE (R244). -/
  | memAllocFree (index : Fin 1024)
  /-- DEEP_ALLOC_CREATE (R244). -/
  | deepAllocCreate (index : Fin 1024)
  /-- DEEP_ALLOC_FREE (R244). -/
  | deepAllocFree (index : Fin 1024)
  /-- ALLOC_CMD_RESERVED (R244). -/
  | allocCmdReserved (isDeep : Bool) (index : Fin 1024)
  /-- DRAM_WRITE_DRAIN (R249). -/
  | dramWriteDrain (drain : DramDrain)
  /-- DRAM_TEMP_CHECK (R253): the device temperature in quarter degrees. -/
  | dramTempCheck (temp : Int)
  /-- DRAM_RETRAIN (R253, R254): whether a working setting was found. -/
  | dramRetrain (n : Fin 8) (found : Bool) (temp : Int)
  /-- DRAM_CTRL_FENCE (R255, R256). -/
  | dramCtrlFence (n : Fin 8)
  /-- DRAM_CTRL_RESET (R256). -/
  | dramCtrlReset (n : Fin 8)
  /-- DRAM_CTRL_RESET_DONE (R256). -/
  | dramCtrlResetDone (n : Fin 8) (trained : Bool) (temp : Int)
  /-- TACK_COMMIT (R96, R137, R175, R311, R424). -/
  | tackCommit (slot : Fin 4096)
  /-- BANK_A_CLEAR (R306): WBANK is written with the value it has. -/
  | bankAClear
  /-- BANK_B_CLEAR (R306): WBANK is written with the value it has. -/
  | bankBClear
  /-- WBANK_SELECT (R306). -/
  | wbankSelect (bank : Fin 2)
  /-- THERM_N_CHANGE (R318): the level that the other devices give THERM_N. -/
  | thermNChange (low : Bool)
  /-- SENSOR_READ (R318, R371): the 16 sensors in quarter degrees. -/
  | sensorRead (temps : List Int)
  /-- TRAINING_SEQUENCE_RX (R328, R329): skew between the lanes in UI. -/
  | trainingSequenceRx (p : Fin 4) (lane : Fin 4) (t : Training) (valid : Bool) (skew : Nat)
  /-- LINK_TRAIN_TIMEOUT (R329). -/
  | linkTrainTimeout (p : Fin 4)
  /-- TUNE_PRESET_STEP (R330): the eye height of each lane. -/
  | tunePresetStep (p : Fin 4) (eyes : List Nat)
  /-- LINK_FAILURE (R331). -/
  | linkFailure (p : Fin 4) (loss : LinkLoss)
  /-- LINK_RETRAIN (R331): a write of LNK_Pp_CFG with RETRAIN = 1; value gives its other fields. -/
  | linkRetrain (p : Fin 4) (value : Word)
  /-- FRAME_TX (R327, R350, R353): phase of its SOF in ticks. -/
  | frameTx (p : Fin 4) (phase : Fin 8192)
  /-- DISCOVER_TIMER (R333). -/
  | discoverTimer (p : Fin 4)
  /-- DISCOVER_RX (R326, R333, R334). -/
  | discoverRx (p : Fin 4) (a : Arrival)
  /-- SYNC_FRAME_RX (R326, R336–R338). -/
  | syncFrameRx (p : Fin 4) (a : Arrival)
  /-- SYNC_EVENT_DELIVERY (R336): the events whose RELEASE has come. -/
  | syncEventDelivery
  /-- LINK_FRAME_RX (R340). -/
  | linkFrameRx (p : Fin 4) (a : Arrival)
  /-- LINK_CREDIT_TIMER (R340). -/
  | linkCreditTimer (p : Fin 4)
  /-- FAIL_FRAME_TIMER (R339). -/
  | failFrameTimer (p : Fin 4)
  /-- FAIL_FRAME_RX (R341). -/
  | failFrameRx (p : Fin 4) (a : Arrival)
  /-- EYE_SCAN_START (R332). -/
  | eyeScanStart (p : Fin 4) (lane : Fin 4) (dwell voff poff : Fin 64)
  /-- EYE_SCAN_DONE (R332). -/
  | eyeScanDone (p : Fin 4) (errs : Nat)
  /-- I3C_DAA (R343): the devices that answer ENTDAA, each with PID, BCR and DCR. -/
  | i3cDaa (q : Fin 4) (devices : List (Nat × Nat × Nat))
  /-- I3C_HOT_JOIN (R346). -/
  | i3cHotJoin (q : Fin 4) (pid bcr dcr : Nat)
  /-- I3C_POLL (R345): bit k: slot k acknowledges. -/
  | i3cPoll (q : Fin 4) (acks : Nat)
  /-- COMPANION_RELEASE (R346). -/
  | companionRelease (q : Fin 4) (k : Fin 15)
  /-- I3C_IBI (R347). -/
  | i3cIbi (q : Fin 4) (da : Fin 128) (mdb : Fin 256)
  /-- I3C_PRIVATE_TRANSFER (R347). -/
  | i3cPrivateTransfer (q : Fin 4) (da : Fin 128) (reads : Bool) (len : Fin 64)
  /-- I3C_TRANSFER_DONE (R347). -/
  | i3cTransferDone (q : Fin 4) (nack : Bool) (bytes : List Byte)
  /-- ANNOUNCE_TIMER (R352). -/
  | announceTimer (p : Fin 4)
  /-- TIME_REQUEST_TIMER (R352, R353). -/
  | timeRequestTimer (p : Fin 4)
  /-- TIME_REQUEST_RX (R352): phase of the SOF in ticks. -/
  | timeRequestRx (p : Fin 4) (a : Arrival) (phase : Fin 8192)
  /-- TIME_RESPONSE_RX (R354–R356). -/
  | timeResponseRx (p : Fin 4) (a : Arrival) (phase : Fin 8192)
  /-- TIME_ANNOUNCE_RX (R358, R359). -/
  | timeAnnounceRx (p : Fin 4) (a : Arrival)
  /-- ANNOUNCE_EXPIRY (R358, R361). -/
  | announceExpiry (p : Fin 4)
  /-- TXQ_ENTRY_EXPIRY (R353). -/
  | txqEntryExpiry (p : Fin 4)
  /-- TIME_STEP_APPLY (R357, R362). -/
  | timeStepApply
  /-- SLEW_COMPLETE (R356). -/
  | slewComplete
  /-- ADJ_EFFECTIVE (R359). -/
  | adjEffective
  /-- TIM_ADJ_WRITE (R359). -/
  | timAdjWrite (value : Word)
  /-- TIME_SET (R357). -/
  | timeSet
  /-- TIME_ACCEPT (R356). -/
  | timeAccept
  /-- TT_ENABLE (R362, R364). -/
  | ttEnable (n : Fin 4) (periodic outen pol : Bool) (width : Fin 65536)
  /-- TT_DISABLE (R364): a write of TT_CFG with EN = 0; value gives its other fields. -/
  | ttDisable (n : Fin 4) (value : Word)
  /-- TT_FIRE (R362, R363). -/
  | ttFire (n : Fin 4)
  /-- TTOUT_PULSE_END (R363). -/
  | ttoutPulseEnd (n : Fin 4)
  /-- TTIN_EDGE (R365): whether it meets a time-clock edge. -/
  | ttinEdge (k : Fin 2) (onEdge : Bool)
  /-- CAL_RUN_START (R374). -/
  | calRunStart (banks : Fin 65536)
  /-- CAL_RUN_ABORT (R374). -/
  | calRunAbort (banks : Fin 65536)
  /-- CAL_BANK_COMPLETE (R375–R379): what the bank's measurement found, and whether the keeping store takes the write that ends the run. -/
  | calBankComplete (b : Fin 16) (r : BankReadings) (stored : Bool)
  /-- FAULT_REGISTER (R381, R382, R388–R390). -/
  | faultRegister
  /-- FAULT_REACTION (R383–R386, R391, R393). -/
  | faultReaction
  /-- BLOCK_RESET_DONE (R385, R392). -/
  | blockResetDone (src : Fin 272) (ended : ResetEnd)
  /-- FAULT_UNFENCE (R387). -/
  | faultUnfence
  /-- SELF_CHECK_DONE (R387). -/
  | selfCheckDone (src : Fin 272) (passed : Bool)
  /-- FAULT_CLEAR_FIRST (R389). -/
  | faultClearFirst
  /-- FAULT_OUT_RELEASE (R386). -/
  | faultOutRelease
  /-- FAULT_INJECT (R382). -/
  | faultInject (src : Fin 1024) (kind : Fin 64)
  /-- STICKY_CLEAR (R388). -/
  | stickyClear (src : Fin 320)
  /-- PAIR_ARM_RX (R398, R399). -/
  | pairArmRx (p : Fin 4) (a : Arrival)
  /-- BACKSTAY_MATCH_DEADLINE (R399). -/
  | backstayMatchDeadline (sg : Fin 64)
  /-- DIGEST_SEND (R400). -/
  | digestSend (sg : Fin 64)
  /-- PAIR_DIGEST_RX (R401). -/
  | pairDigestRx (p : Fin 4) (a : Arrival)
  /-- PARTNER_LOST_TIMEOUT (R400). -/
  | partnerLostTimeout (sg : Fin 64)
  /-- PAIR_TAKEOVER_RX (R403). -/
  | pairTakeoverRx (p : Fin 4) (a : Arrival)
  /-- PSEL_RESTORE (R403). -/
  | pselRestore (banks : Fin 65536)
  /-- BOOT_ROM (R407–R411, R445, R448). -/
  | bootRom
  /-- BOOT_FIRMWARE (R445). -/
  | bootFirmware
  /-- BOOT_MICROCODE (R68, R69, R85–R88): whether the master store shows an uncorrectable error. -/
  | bootMicrocode (masterError : Bool)
  /-- BOOT_SELFTEST (R445, R450): the engines that fail, by bit, and the pool words that fail. -/
  | bootSelftest (failed : Nat) (words : List Nat)
  /-- BOOT_CALIBRATION (R445, R450). -/
  | bootCalibration (temps : List Int)
  /-- BOOT_MEMORY (R248, R252, R445, R450, R453): the data rate that the board record gives, the device temperature, what each controller finds. -/
  | bootMemory (rate : Fin 64) (temp : Int) (found : List DramStart)
  /-- BOOT_LINKS (R445). -/
  | bootLinks
  /-- BOOT_SERVICE (R448). -/
  | bootService
  /-- BOOT_TIMEOUT (R445). -/
  | bootTimeout
  /-- FW_COMMIT_SVN (R408). -/
  | fwCommitSvn
  /-- ATTESTATION_START (R413). -/
  | attestationStart
  /-- ATTESTATION_DONE (R412, R414). -/
  | attestationDone
  /-- LIFECYCLE_DEPLOY (R425): the write carries CONFIRM. -/
  | lifecycleDeploy
  /-- LIFECYCLE_RETURN (R425): the write carries CONFIRM. -/
  | lifecycleReturn
  /-- DEBUG_OPEN (R427–R429). -/
  | debugOpen
  /-- DEBUG_ERASE_DONE (R429, R430). -/
  | debugEraseDone
  /-- DEBUG_CLOSE (R430). -/
  | debugClose
  /-- EXTEST_INSTRUCTION (R426): 0 BYPASS, 1 EXTEST, 2 EXTEST_PULSE, 3 EXTEST_TRAIN. -/
  | extestInstruction (code : Fin 4)
  /-- CNS_COUNTER_WRAP (R435, R440): n events that carry a counter past 2^48 - 1. -/
  | cnsCounterWrap (k : Fin 8) (n : Nat)
  /-- CNS_CLEAR_ALL (R435): the write gives RUN a value too. -/
  | cnsClearAll (run : Bool)
  /-- CNS_COUNTER_WRITE (R435, R438). -/
  | cnsCounterWrite (k : Fin 8) (hi : Bool) (value : Word)
  /-- CNS_COUNTER_CHECK_ERROR (R438). -/
  | cnsCounterCheckError (k : Fin 8)
  /-- CNS_BW_WINDOW_END (R442). -/
  | cnsBwWindowEnd
  /-- POWER_ON_RESET (R446, R454): RESET_N goes low, or PWRGOOD rises. -/
  | powerOnReset (pin : Bool)
  /-- PWRGOOD_FALL (R446, R469). -/
  | pwrgoodFall
  /-- RESET_RELEASE (R445). -/
  | resetRelease
  /-- CHIP_RESET (R449, R454): a confirmed write of SYS_CTRL.CHIP; a CHIP reaction and a boot timeout come about in FAULT_REACTION and BOOT_TIMEOUT. -/
  | chipReset (clratt : Bool)
  /-- CATRAIN_REQUEST (R453). -/
  | catrainRequest
  /-- TEST_ENTRY (R458, R459). -/
  | testEntry
  /-- TEST_DONE (R459): the engines that fail, by bit, and the pool words that fail. -/
  | testDone (failed : Nat) (words : List Nat)
  /-- POWER_STATE_REQUEST (R257, R457, R458). -/
  | powerStateRequest (state : Fin 4)
  /-- POWER_STATE_EXIT_DONE (R457). -/
  | powerStateExitDone
  /-- D3HOT_RETRY (R458). -/
  | d3hotRetry
  /-- FLASH_READ (R452): GO with OP READ. -/
  | flashRead (len : Fin 512)
  /-- FLASH_PROGRAM (R452): GO with OP PROGRAM. -/
  | flashProgram (len : Fin 512)
  /-- FLASH_ERASE (R452): GO with OP ERASE. -/
  | flashErase (len : Fin 512)
  /-- FLASH_OP_DONE (R452). -/
  | flashOpDone (error : Bool)
  /-- LO_READ_CAPTURE (R350, R439): a read of a LO register. -/
  | loReadCapture (off : Fin 67108864)
  /-- PCIE_POWER_STATE_CHANGE (R458). -/
  | pciePowerStateChange (d3hot : Bool)
  /-- PCIE_LINK_TRAINED (R261): RATE code and width. -/
  | pcieLinkTrained (rate : Fin 7) (width : Fin 9)
  /-- TRAINING_SEQUENCE_TX (R328–R330). -/
  | trainingSequenceTx (p : Fin 4)
  /-- CAPTURE_SPILL_DRAIN (R199): one word. -/
  | captureSpillDrain (u : Fin 16)
  /-- LIFECYCLE_PROVISION (R425): fused seed, helper data, certificate and FACTORY set copies by slot. -/
  | lifecycleProvision (seed : Nat) (helper certificate : List Byte) (sets : List (Fin 2 × List Byte))
deriving DecidableEq, Repr

end Sys2Proof
end

