-- ==== Sys2Proof/Decode.lean ====
section
/-! DEFINITION. Commands by the bits of spec/opcode_table.json: no row of the table has bits. -/
namespace Sys2Proof

/-- The command that a word spells by the table's bits. The table's rows are operations and events without an encoding, so no word
spells a command. -/
def decodeTableWord (_nbits _w : Nat) : Option Instr := none

end Sys2Proof
end

