-- ==== Sys2Proof/Config.lean ====
section
/-! DEFINITION. The free values: constants without a body, which stand for what the spec leaves open. Nothing can be proved of
their values; whatever is proved holds for every value. -/
namespace Sys2Proof.Config

/-- The n-th free value drawn; its user takes it modulo the width it needs. -/
opaque freeValue : Nat → Nat

/-- Coefficient of a modulation interpolator phase (1 to 63) and tap (0 to 6); R174 fixes only the sum with tap 7. -/
opaque coefficient : Nat → Nat → Int

/-- The error of the sine generator at an amplitude and phase; R176 bounds it by one tick. -/
opaque sineError : Nat → Nat → Int

/-- Word of the ROM part of the master control store (R68): the spec gives no microcode. -/
opaque romWord : Nat → Nat

/-- What only the microcode fixes (R71): the ALU's operations (ALUOP, operands A and B, IMM), the micro-conditions (UCOND, ALU result, micro
loop counter, latches), the next value of the condition latches (UCOND, ALU result, latches), and the general register that an instruction
field names (instruction word). -/
opaque microAlu : Nat → Nat → Nat → Nat → Nat
opaque microCond : Nat → Nat → Nat → Nat → Bool
opaque microLatches : Nat → Nat → Nat → Nat
opaque microGr : Nat → Nat

/-! The algorithms that the spec names by standard and does not restate (R85, R407, R410, R415–R418, R424, R427). -/

/-- SHA-512 of a byte string, its bytes read little-endian. -/
opaque sha512 : List Byte → Nat

/-- Whether an Ed25519 signature (RFC 8032) of a message verifies under a public key. -/
opaque ed25519 : Nat → List Byte → Nat → Bool

/-- The Ed25519 signature of a message by a secret seed, and the public key of a seed. -/
opaque ed25519Sign : Nat → List Byte → Nat
opaque ed25519Pub : Nat → Nat

/-- X25519 (RFC 7748) of a scalar and a point. -/
opaque x25519 : Nat → Nat → Nat

/-- AES-256-GCM decryption: plaintext of a ciphertext under a key and nonce. -/
opaque gcmPlain : Nat → Nat → List Byte → Nat

/-- AES-256-GCM encryption under a key and nonce of a plaintext with additional data: the ciphertext, then the 16-byte tag. -/
opaque gcmSeal : Nat → Nat → List Byte → List Byte → Nat

/-- Whether a GCM tag authenticates: key, nonce, additional data, ciphertext, tag. -/
opaque gcmTag : Nat → Nat → List Byte → List Byte → Nat → Bool

/-- The response a device's PUF gives with helper data, if it can be reconstructed (R410, R411). -/
opaque puf : Nat → List Byte → Option Nat

/-- The key under which microcode patches are encrypted and the key that signs them (R85, R87): the spec gives neither. -/
opaque patchKey : Nat
opaque patchSigner : Nat

/-- The Oluhal firmware key (R407), of which the fuses hold the digest: the spec does not give it. -/
opaque firmwareKey : Nat

end Sys2Proof.Config
end

