-- ==== Sys2Proof/Machine/Bits.lean ====
section
/-! DEFINITION. Bit fields of numbers and words, byte lists and two's complement: the arithmetic every meaning shares. -/
namespace Sys2Proof

/-- Bits [lo + width - 1 : lo] of a number. -/
def bitsOf (n lo width : Nat) : Nat := n / 2 ^ lo % 2 ^ width

/-- The number with bits [lo + width - 1 : lo] replaced by v modulo 2^width. -/
def putBits (n lo width v : Nat) : Nat :=
  n % 2 ^ lo + (v % 2 ^ width) * 2 ^ lo + n / 2 ^ (lo + width) * 2 ^ (lo + width)

/-- Bit i of a number. -/
def bitOf (n i : Nat) : Bool := n / 2 ^ i % 2 == 1

/-- 1 for true, 0 for false. -/
def b2n (b : Bool) : Nat := if b then 1 else 0

/-- A number with bit i set. -/
def setBit (n i : Nat) : Nat := putBits n i 1 1

/-- A number with bit i clear. -/
def clearBit (n i : Nat) : Nat := putBits n i 1 0

/-- The bits of a below 2^width that b does not have. -/
def andNot (width a b : Nat) : Nat := a &&& (2 ^ width - 1 - b % 2 ^ width)

/-- Two's complement reading of the low width bits. -/
def signed (width n : Nat) : Int :=
  let m := n % 2 ^ width
  if m < 2 ^ (width - 1) then (m : Int) else (m : Int) - (2 ^ width : Nat)

/-- Two's complement coding in width bits. -/
def unsigned (width : Nat) (i : Int) : Nat := (i % ((2 ^ width : Nat) : Int)).toNat

/-- Whether a signed value fits width bits. -/
def fitsSigned (width : Nat) (i : Int) : Bool :=
  decide (-((2 ^ (width - 1) : Nat) : Int) ≤ i) && decide (i < ((2 ^ (width - 1) : Nat) : Int))

/-- Round half up to an integer: the nearest integer to a / b for b > 0. -/
def roundDiv (a : Int) (b : Nat) : Int := (2 * a + (b : Int)) / (2 * (b : Int))

/-- Ceiling of a / b. -/
def ceilDiv (a b : Nat) : Nat := (a + b - 1) / b

/-- The number whose bytes, lowest first, are these. -/
def ofBytes : List Byte → Nat
  | [] => 0
  | b :: t => b.toNat + 256 * ofBytes t

/-- The count lowest bytes of a number, lowest first. -/
def toBytes : Nat → Nat → List Byte
  | 0, _ => []
  | count + 1, n => BitVec.ofNat 8 n :: toBytes count (n / 256)

/-- The set bits of a number below a bound, ascending. -/
def bitsSet (bound n : Nat) : List Nat := (List.range bound).filter (bitOf n)

/-- The number of set bits below a bound. -/
def popCount (bound n : Nat) : Nat := (bitsSet bound n).length

/-- Sum of a list of numbers. -/
def sumNat (l : List Nat) : Nat := l.foldl (· + ·) 0

/-- Whether every pair of distinct places of a list satisfies a symmetric test. -/
def allPairs {α : Type} (p : α → α → Bool) : List α → Bool
  | [] => true
  | a :: t => t.all (p a) && allPairs p t

/-- Whether two half-open ranges [a, a + n) and [b, b + m) overlap. -/
def rangesOverlap (a n b m : Nat) : Bool := a < b + m && b < a + n && 0 < n && 0 < m

/-- Repeat a function on a value. -/
def iter {α : Type} : Nat → (α → α) → α → α
  | 0, _, a => a
  | n + 1, f, a => iter n f (f a)

/-- The list with position i replaced; one past its end is reached by places that hold nothing. -/
def setAt {α : Type} [Inhabited α] : List α → Nat → α → List α
  | [], 0, v => [v]
  | [], i + 1, v => default :: setAt [] i v
  | _ :: t, 0, v => v :: t
  | a :: t, i + 1, v => a :: setAt t i v

/-- Element i of a list, or a default past its end. -/
def nth {α : Type} : List α → Nat → α → α
  | [], _, d => d
  | a :: _, 0, _ => a
  | _ :: t, i + 1, d => nth t i d

end Sys2Proof
end

