-- ==== Sys2Proof/Machine/Cards.lean ====
section
/-! DEFINITION. The register cards (R460 and each chapter's cards): where each register lies, its reset value where the
spec gives one, and the fields that a host access acts on (R11). Bits of a card that no entry lists are RO or reserved. -/
namespace Sys2Proof

/-- Field access types of R11; RO needs no entry. -/
inductive Access where
  | rw | wo | w1c | rc | st
deriving DecidableEq, Repr

/-- The bits [lo + width - 1 : lo] of a card with their access type. -/
structure FieldSpec where
  lo : Nat
  width : Nat
  acc : Access
deriving DecidableEq, Repr

/-- A register card: offset of instance 0, the (stride, count) of each instance number, reset value, fields. -/
structure Card where
  base : Nat
  dims : List (Nat × Nat)
  reset : Nat
  fields : List FieldSpec
deriving DecidableEq, Repr

/-- Cards of 00_scope.md. -/
def cards00 : List Card := [
  ⟨0x0, [], 0x92562001, []⟩]

/-- Cards of 02_sequence_engines.md. -/
def cards02 : List Card := [
  ⟨0x1000000, [(0x4000, 64)], 0x0, [⟨21, 1, .st⟩, ⟨20, 1, .st⟩, ⟨16, 4, .st⟩, ⟨0, 1, .st⟩]⟩,
  ⟨0x1000004, [(0x4000, 64)], 0x0, [⟨8, 4, .st⟩, ⟨0, 8, .st⟩]⟩,
  ⟨0x1000008, [(0x4000, 64)], 0x0, [⟨0, 16, .st⟩]⟩,
  ⟨0x100000C, [(0x4000, 64)], 0x0, []⟩,
  ⟨0x1000010, [(0x4000, 64)], 0x0, [⟨0, 16, .st⟩]⟩,
  ⟨0x1000014, [(0x4000, 64)], 0x0, []⟩,
  ⟨0x1000018, [(0x4000, 64)], 0x0, [⟨0, 1, .rw⟩]⟩,
  ⟨0x100001C, [(0x4000, 64)], 0x0, [⟨0, 1, .wo⟩]⟩,
  ⟨0x1000020, [(0x4000, 64)], 0x0, []⟩,
  ⟨0x1000024, [(0x4000, 64)], 0x0, []⟩,
  ⟨0x1000028, [(0x4000, 64)], 0x0, []⟩,
  ⟨0x100002C, [(0x4000, 64)], 0x0, []⟩,
  ⟨0x1000040, [(0x4000, 64), (0x4, 8)], 0x0, [⟨0, 32, .st⟩]⟩,
  ⟨0x1000080, [(0x4000, 64), (0x4, 32)], 0x0, [⟨0, 32, .st⟩]⟩,
  ⟨0x1000100, [(0x4000, 64), (0x4, 16)], 0x0, [⟨0, 32, .rw⟩]⟩,
  ⟨0x1000200, [(0x4000, 64), (0x20, 16), (0x4, 8)], 0x0, [⟨0, 32, .st⟩]⟩]

/-- Cards of 03_control_store.md. -/
def cards03 : List Card := [
  ⟨0x1000400, [(0x4000, 64)], 0x64, [⟨0, 16, .rw⟩]⟩,
  ⟨0x1000404, [(0x4000, 64)], 0x0, [⟨16, 16, .rc⟩]⟩,
  ⟨0x1000408, [(0x4000, 64)], 0x0, [⟨0, 1, .wo⟩]⟩,
  ⟨0x100040C, [(0x4000, 64)], 0x0, [⟨16, 16, .rc⟩]⟩,
  ⟨0x1000410, [(0x4000, 64)], 0x0, []⟩,
  ⟨0x1000440, [(0x4000, 64), (0x4, 16)], 0x0, []⟩,
  ⟨0x1000480, [(0x4000, 64), (0x4, 8)], 0x0, []⟩,
  ⟨0x10004C0, [(0x4000, 64), (0x4, 16)], 0x0, []⟩,
  ⟨0x1000500, [(0x4000, 64)], 0x0, []⟩,
  ⟨0x1100000, [], 0x0, []⟩,
  ⟨0x1100004, [], 0x0, []⟩,
  ⟨0x1100008, [], 0x0, []⟩,
  ⟨0x110000C, [], 0x0, [⟨0, 1, .wo⟩]⟩,
  ⟨0x1100010, [], 0x0, []⟩]

/-- Cards of 04_edge_timing.md. -/
def cards04 : List Card := [
  ⟨0x1400000, [(0x1000, 256), (0x4, 16)], 0x0, [⟨15, 1, .st⟩, ⟨12, 3, .st⟩, ⟨8, 3, .st⟩, ⟨6, 1, .st⟩, ⟨4, 2, .st⟩, ⟨2, 2, .st⟩, ⟨0, 1, .st⟩]⟩,
  ⟨0x1400040, [(0x1000, 256)], 0x0, [⟨0, 8, .rw⟩]⟩,
  ⟨0x1400044, [(0x1000, 256), (0x4, 6)], 0x0, [⟨0, 32, .st⟩]⟩,
  ⟨0x1400060, [(0x1000, 256)], 0x0, [⟨2, 1, .w1c⟩, ⟨1, 1, .w1c⟩, ⟨0, 1, .w1c⟩]⟩,
  ⟨0x1400064, [(0x1000, 256)], 0x0, [⟨0, 16, .rc⟩]⟩,
  ⟨0x1400068, [(0x1000, 256)], 0x0, []⟩,
  ⟨0x1500000, [(0x1000, 64)], 0x0, [⟨4, 2, .st⟩, ⟨0, 1, .st⟩]⟩,
  ⟨0x1500004, [(0x1000, 64)], 0x1000, [⟨0, 32, .st⟩]⟩,
  ⟨0x1500008, [(0x1000, 64)], 0x0, [⟨0, 2, .st⟩]⟩,
  ⟨0x1500010, [(0x1000, 64), (0x4, 8)], 0x0, [⟨0, 32, .st⟩]⟩,
  ⟨0x1500030, [(0x1000, 64), (0x4, 8)], 0x0, []⟩,
  ⟨0x1500050, [(0x1000, 64)], 0x0, []⟩,
  ⟨0x17F0000, [], 0x0, []⟩]

/-- Cards of 05_compare_and_fail.md. -/
def cards05 : List Card := [
  ⟨0x1800000, [(0x100, 256)], 0x0, [⟨0, 1, .st⟩]⟩,
  ⟨0x1800004, [(0x100, 256)], 0x0, []⟩,
  ⟨0x1800008, [(0x100, 256)], 0x0, [⟨16, 16, .rc⟩, ⟨0, 1, .w1c⟩]⟩,
  ⟨0x1820000, [(0x400, 64)], 0x0, [⟨8, 2, .st⟩, ⟨7, 1, .st⟩, ⟨6, 1, .st⟩, ⟨0, 2, .st⟩]⟩,
  ⟨0x1820004, [(0x400, 64)], 0x0, [⟨0, 32, .st⟩]⟩,
  ⟨0x1820008, [(0x400, 64)], 0x0, [⟨0, 1, .wo⟩]⟩,
  ⟨0x182000C, [(0x400, 64)], 0x0, []⟩,
  ⟨0x1820010, [(0x400, 64)], 0x0, []⟩,
  ⟨0x1820014, [(0x400, 64)], 0x0, []⟩,
  ⟨0x1820018, [(0x400, 64)], 0x0, []⟩,
  ⟨0x1820100, [(0x400, 64), (0x10, 16)], 0x0, []⟩,
  ⟨0x1820104, [(0x400, 64), (0x10, 16)], 0x0, []⟩,
  ⟨0x1820108, [(0x400, 64), (0x10, 16)], 0x0, []⟩,
  ⟨0x182010C, [(0x400, 64), (0x10, 16)], 0x0, []⟩,
  ⟨0x1840000, [(0x100, 4)], 0x0, [⟨8, 8, .st⟩, ⟨3, 1, .st⟩, ⟨2, 1, .st⟩, ⟨1, 1, .st⟩, ⟨0, 1, .st⟩]⟩,
  ⟨0x1840004, [(0x100, 4)], 0x0, [⟨0, 32, .st⟩]⟩,
  ⟨0x1840008, [(0x100, 4)], 0x0, [⟨0, 32, .st⟩]⟩,
  ⟨0x184000C, [(0x100, 4)], 0x0, [⟨0, 32, .st⟩]⟩,
  ⟨0x1840010, [(0x100, 4)], 0x0, [⟨0, 32, .st⟩]⟩,
  ⟨0x1840014, [(0x100, 4)], 0x0, []⟩,
  ⟨0x1840018, [(0x100, 4)], 0x0, [⟨0, 32, .rw⟩]⟩,
  ⟨0x184001C, [(0x100, 4)], 0x0, [⟨0, 32, .rc⟩]⟩,
  ⟨0x1840020, [(0x100, 4)], 0x0, [⟨2, 1, .w1c⟩, ⟨1, 1, .w1c⟩]⟩]

/-- Cards of 06_reactive_vectors.md, part 1. -/
def cards06p1 : List Card := [
  ⟨0x1C00000, [(0x1000, 64), (0x100, 8)], 0x0, [⟨24, 8, .st⟩, ⟨20, 4, .st⟩, ⟨16, 4, .st⟩, ⟨12, 4, .st⟩, ⟨8, 4, .st⟩, ⟨4, 2, .st⟩, ⟨1, 1, .st⟩, ⟨0, 1, .st⟩]⟩,
  ⟨0x1C00004, [(0x1000, 64), (0x100, 8)], 0x0, [⟨0, 32, .st⟩]⟩,
  ⟨0x1C00010, [(0x1000, 64), (0x100, 8), (0x4, 8)], 0x0, [⟨0, 32, .st⟩]⟩,
  ⟨0x1C00040, [(0x1000, 64), (0x100, 8), (0x10, 4)], 0x0, [⟨0, 32, .st⟩]⟩,
  ⟨0x1C00044, [(0x1000, 64), (0x100, 8), (0x10, 4)], 0x0, [⟨0, 32, .st⟩]⟩,
  ⟨0x1C00048, [(0x1000, 64), (0x100, 8), (0x10, 4)], 0x0, [⟨0, 32, .st⟩]⟩,
  ⟨0x1C0004C, [(0x1000, 64), (0x100, 8), (0x10, 4)], 0x0, [⟨0, 32, .st⟩]⟩,
  ⟨0x1C00080, [(0x1000, 64), (0x100, 8)], 0x0, []⟩,
  ⟨0x1C00084, [(0x1000, 64), (0x100, 8)], 0x0, [⟨16, 16, .rc⟩, ⟨0, 16, .rc⟩]⟩,
  ⟨0x1E00000, [(0x100, 32)], 0x0, [⟨31, 1, .st⟩, ⟨30, 1, .st⟩, ⟨29, 1, .st⟩, ⟨28, 1, .st⟩, ⟨27, 1, .st⟩, ⟨26, 1, .st⟩, ⟨21, 3, .st⟩, ⟨16, 5, .st⟩, ⟨12, 4, .st⟩, ⟨0, 6, .st⟩]⟩,
  ⟨0x1E00004, [(0x100, 32)], 0x0, [⟨16, 8, .st⟩, ⟨0, 5, .st⟩]⟩,
  ⟨0x1E00008, [(0x100, 32)], 0x0, [⟨8, 4, .st⟩, ⟨4, 4, .st⟩, ⟨0, 4, .st⟩]⟩,
  ⟨0x1E0000C, [(0x100, 32)], 0x0, [⟨0, 32, .st⟩]⟩,
  ⟨0x1E00010, [(0x100, 32)], 0x0, [⟨0, 32, .st⟩]⟩,
  ⟨0x1E00014, [(0x100, 32)], 0x0, [⟨0, 32, .st⟩]⟩,
  ⟨0x1E00018, [(0x100, 32)], 0x0, [⟨0, 32, .st⟩]⟩,
  ⟨0x1E0001C, [(0x100, 32)], 0x0, [⟨0, 16, .st⟩]⟩,
  ⟨0x1E00020, [(0x100, 32)], 0x0, [⟨5, 1, .w1c⟩, ⟨4, 1, .w1c⟩, ⟨3, 1, .w1c⟩, ⟨2, 1, .w1c⟩, ⟨1, 1, .w1c⟩]⟩,
  ⟨0x1E00024, [(0x100, 32)], 0x0, [⟨0, 32, .rc⟩]⟩,
  ⟨0x1E00028, [(0x100, 32)], 0x0, [⟨16, 16, .rc⟩, ⟨0, 16, .rc⟩]⟩,
  ⟨0x1E0002C, [(0x100, 32)], 0x0, [⟨0, 32, .st⟩]⟩,
  ⟨0x1E00030, [(0x100, 32)], 0x0, [⟨0, 32, .st⟩]⟩,
  ⟨0x1E00034, [(0x100, 32)], 0x0, []⟩,
  ⟨0x1E00038, [(0x100, 32)], 0x0, [⟨0, 32, .rw⟩]⟩]

/-- Cards of 06_reactive_vectors.md, part 2. -/
def cards06p2 : List Card := [
  ⟨0x1E0003C, [(0x100, 32)], 0x0, [⟨0, 32, .rc⟩]⟩]

/-- All cards of 06_reactive_vectors.md. -/
def cards06 : List Card := cards06p1 ++ cards06p2

/-- Cards of 07_source_and_modulation.md, part 1. -/
def cards07p1 : List Card := [
  ⟨0x2000000, [(0x1000, 16)], 0x0, [⟨31, 1, .st⟩, ⟨29, 2, .st⟩, ⟨26, 3, .st⟩, ⟨16, 8, .st⟩, ⟨8, 8, .st⟩, ⟨0, 6, .st⟩]⟩,
  ⟨0x2000004, [(0x1000, 16)], 0x0, [⟨0, 32, .st⟩]⟩,
  ⟨0x2000008, [(0x1000, 16)], 0x0, [⟨0, 32, .st⟩]⟩,
  ⟨0x200000C, [(0x1000, 16)], 0x0, [⟨16, 11, .st⟩, ⟨0, 9, .st⟩]⟩,
  ⟨0x2000010, [(0x1000, 16)], 0x0, [⟨0, 32, .st⟩]⟩,
  ⟨0x2000014, [(0x1000, 16)], 0x0, [⟨0, 32, .st⟩]⟩,
  ⟨0x2000018, [(0x1000, 16)], 0x0, [⟨0, 32, .rw⟩]⟩,
  ⟨0x200001C, [(0x1000, 16)], 0x0, []⟩,
  ⟨0x2000020, [(0x1000, 16)], 0x0, [⟨0, 32, .rw⟩]⟩,
  ⟨0x2000024, [(0x1000, 16)], 0x0, []⟩,
  ⟨0x2000028, [(0x1000, 16)], 0x0, [⟨29, 1, .w1c⟩]⟩,
  ⟨0x200002C, [(0x1000, 16)], 0x0, []⟩,
  ⟨0x2000030, [(0x1000, 16)], 0x0, []⟩,
  ⟨0x2000034, [(0x1000, 16)], 0x0, []⟩,
  ⟨0x2000038, [(0x1000, 16)], 0x0, [⟨1, 1, .w1c⟩, ⟨0, 1, .w1c⟩]⟩,
  ⟨0x2100000, [(0x1000, 16)], 0x0, [⟨31, 1, .st⟩, ⟨29, 2, .st⟩, ⟨23, 6, .st⟩, ⟨6, 10, .st⟩, ⟨0, 6, .st⟩]⟩,
  ⟨0x2100004, [(0x1000, 16)], 0x0, [⟨0, 16, .st⟩]⟩,
  ⟨0x2100008, [(0x1000, 16)], 0x0, [⟨0, 32, .st⟩]⟩,
  ⟨0x210000C, [(0x1000, 16)], 0x0, [⟨0, 32, .st⟩]⟩,
  ⟨0x2100010, [(0x1000, 16)], 0x0, [⟨0, 32, .st⟩]⟩,
  ⟨0x2100014, [(0x1000, 16)], 0x0, [⟨0, 15, .st⟩]⟩,
  ⟨0x2100018, [(0x1000, 16)], 0x0, [⟨0, 32, .st⟩]⟩,
  ⟨0x210001C, [(0x1000, 16)], 0x0, [⟨0, 32, .st⟩]⟩,
  ⟨0x2100020, [(0x1000, 16)], 0x0, [⟨0, 32, .st⟩]⟩]

/-- Cards of 07_source_and_modulation.md, part 2. -/
def cards07p2 : List Card := [
  ⟨0x2100024, [(0x1000, 16)], 0x0, [⟨16, 11, .st⟩, ⟨0, 9, .st⟩]⟩,
  ⟨0x2100028, [(0x1000, 16)], 0x0, [⟨31, 1, .st⟩, ⟨0, 10, .st⟩]⟩,
  ⟨0x210002C, [(0x1000, 16)], 0x0, [⟨29, 1, .w1c⟩]⟩,
  ⟨0x2100030, [(0x1000, 16)], 0x0, [⟨0, 1, .w1c⟩]⟩,
  ⟨0x2100034, [(0x1000, 16)], 0x0, [⟨0, 32, .rc⟩]⟩]

/-- All cards of 07_source_and_modulation.md. -/
def cards07 : List Card := cards07p1 ++ cards07p2

/-- Cards of 08_acquisition.md. -/
def cards08 : List Card := [
  ⟨0x2400000, [(0x1000, 16)], 0x0, [⟨31, 1, .st⟩, ⟨29, 2, .st⟩, ⟨28, 1, .st⟩, ⟨27, 1, .st⟩, ⟨16, 8, .st⟩, ⟨8, 6, .st⟩, ⟨0, 6, .st⟩]⟩,
  ⟨0x2400004, [(0x1000, 16)], 0x0, [⟨0, 16, .st⟩]⟩,
  ⟨0x2400008, [(0x1000, 16)], 0x0, [⟨0, 32, .st⟩]⟩,
  ⟨0x240000C, [(0x1000, 16)], 0x0, [⟨0, 32, .st⟩]⟩,
  ⟨0x2400010, [(0x1000, 16), (0x4, 8)], 0x0, [⟨0, 32, .st⟩]⟩,
  ⟨0x2400030, [(0x1000, 16)], 0x0, [⟨0, 32, .st⟩]⟩,
  ⟨0x2400034, [(0x1000, 16)], 0x0, [⟨0, 32, .st⟩]⟩,
  ⟨0x2400038, [(0x1000, 16)], 0x0, [⟨0, 32, .st⟩]⟩,
  ⟨0x240003C, [(0x1000, 16)], 0x0, [⟨0, 32, .st⟩]⟩,
  ⟨0x2400040, [(0x1000, 16)], 0x0, [⟨0, 32, .st⟩]⟩,
  ⟨0x2400044, [(0x1000, 16)], 0x0, [⟨31, 1, .st⟩, ⟨0, 5, .st⟩]⟩,
  ⟨0x2400080, [(0x1000, 16), (0x20, 4)], 0x0, [⟨31, 1, .st⟩, ⟨29, 2, .st⟩]⟩,
  ⟨0x2400084, [(0x1000, 16), (0x20, 4)], 0x0, [⟨0, 32, .st⟩]⟩,
  ⟨0x2400088, [(0x1000, 16), (0x20, 4)], 0x0, [⟨0, 32, .st⟩]⟩,
  ⟨0x240008C, [(0x1000, 16), (0x20, 4)], 0x0, [⟨0, 32, .st⟩]⟩,
  ⟨0x2400090, [(0x1000, 16), (0x20, 4)], 0x0, [⟨0, 32, .st⟩]⟩,
  ⟨0x2400100, [(0x1000, 16)], 0x0, [⟨2, 1, .wo⟩, ⟨1, 1, .wo⟩, ⟨0, 1, .wo⟩]⟩,
  ⟨0x2400104, [(0x1000, 16)], 0x0, []⟩,
  ⟨0x2400108, [(0x1000, 16)], 0x0, [⟨16, 16, .rc⟩, ⟨0, 16, .rc⟩]⟩,
  ⟨0x240010C, [(0x1000, 16)], 0x0, [⟨3, 1, .w1c⟩, ⟨2, 1, .w1c⟩, ⟨1, 1, .w1c⟩, ⟨0, 1, .w1c⟩]⟩,
  ⟨0x2400110, [(0x1000, 16)], 0x0, []⟩,
  ⟨0x2400114, [(0x1000, 16)], 0x0, []⟩]

/-- Cards of 09_interval_measurement.md. -/
def cards09 : List Card := [
  ⟨0x2800000, [(0x1000, 64)], 0x0, [⟨31, 1, .st⟩, ⟨29, 2, .st⟩, ⟨28, 1, .st⟩, ⟨0, 8, .st⟩]⟩,
  ⟨0x2800004, [(0x1000, 64)], 0x0, [⟨16, 2, .st⟩, ⟨8, 1, .st⟩, ⟨0, 8, .st⟩]⟩,
  ⟨0x2800008, [(0x1000, 64)], 0x0, [⟨16, 2, .st⟩, ⟨8, 1, .st⟩, ⟨0, 8, .st⟩]⟩,
  ⟨0x280000C, [(0x1000, 64)], 0x0, [⟨24, 8, .st⟩, ⟨0, 16, .st⟩]⟩,
  ⟨0x2800010, [(0x1000, 64)], 0x0, [⟨0, 16, .st⟩]⟩,
  ⟨0x2800014, [(0x1000, 64)], 0x0, [⟨0, 16, .st⟩]⟩,
  ⟨0x2800018, [(0x1000, 64)], 0x0, [⟨0, 32, .st⟩]⟩,
  ⟨0x280001C, [(0x1000, 64)], 0x0, [⟨0, 32, .st⟩]⟩,
  ⟨0x2800020, [(0x1000, 64)], 0x0, [⟨0, 32, .st⟩]⟩,
  ⟨0x2800024, [(0x1000, 64)], 0x0, [⟨0, 32, .st⟩]⟩,
  ⟨0x2800028, [(0x1000, 64)], 0x0, [⟨0, 32, .st⟩]⟩,
  ⟨0x280002C, [(0x1000, 64)], 0x0, [⟨0, 32, .st⟩]⟩,
  ⟨0x2800040, [(0x1000, 64)], 0x0, [⟨4, 1, .w1c⟩, ⟨3, 1, .w1c⟩, ⟨2, 1, .w1c⟩, ⟨0, 1, .w1c⟩]⟩,
  ⟨0x2800044, [(0x1000, 64)], 0x0, []⟩,
  ⟨0x2800048, [(0x1000, 64)], 0x0, [⟨0, 32, .rc⟩]⟩,
  ⟨0x280004C, [(0x1000, 64)], 0x0, [⟨16, 16, .rc⟩, ⟨0, 16, .rc⟩]⟩,
  ⟨0x2800050, [(0x1000, 64)], 0x0, []⟩,
  ⟨0x2800054, [(0x1000, 64)], 0x0, []⟩]

/-- Cards of 10_capture_processors.md. -/
def cards10 : List Card := [
  ⟨0x2C00000, [(0x1000, 8)], 0x0, [⟨0, 16, .rc⟩]⟩,
  ⟨0x2C00004, [(0x1000, 8)], 0x0, []⟩,
  ⟨0x2C00008, [(0x1000, 8)], 0x0, [⟨2, 1, .w1c⟩, ⟨1, 1, .w1c⟩, ⟨0, 1, .w1c⟩]⟩,
  ⟨0x2C0000C, [(0x1000, 8)], 0x0, []⟩,
  ⟨0x2C00010, [(0x1000, 8)], 0x0, []⟩,
  ⟨0x2C00040, [(0x1000, 8), (0x10, 8)], 0x0, [⟨0, 32, .rw⟩]⟩,
  ⟨0x2C00044, [(0x1000, 8), (0x10, 8)], 0x40, [⟨0, 32, .rw⟩]⟩,
  ⟨0x2C00048, [(0x1000, 8), (0x10, 8)], 0x0, [⟨0, 32, .rw⟩]⟩,
  ⟨0x2C0004C, [(0x1000, 8), (0x10, 8)], 0x0, []⟩]

/-- Cards of 11_memory.md, part 1. -/
def cards11p1 : List Card := [
  ⟨0x800000, [], 0x0, [⟨16, 2, .wo⟩, ⟨0, 10, .wo⟩]⟩,
  ⟨0x800004, [], 0x0, [⟨0, 32, .rw⟩]⟩,
  ⟨0x800008, [], 0x0, [⟨0, 32, .rw⟩]⟩,
  ⟨0x80000C, [], 0x0, []⟩,
  ⟨0x800010, [], 0x0, [⟨16, 16, .rc⟩]⟩,
  ⟨0x800014, [], 0x0, []⟩,
  ⟨0x800018, [], 0x0, [⟨16, 16, .rc⟩, ⟨0, 16, .rc⟩]⟩,
  ⟨0x80001C, [], 0x0, []⟩,
  ⟨0x800020, [], 0x0, [⟨31, 1, .rw⟩, ⟨0, 16, .rw⟩]⟩,
  ⟨0x800024, [], 0x0, [⟨24, 8, .rc⟩, ⟨16, 8, .rc⟩, ⟨0, 16, .rc⟩]⟩,
  ⟨0x801000, [(0x8, 1024)], 0x0, []⟩,
  ⟨0x801004, [(0x8, 1024)], 0x0, []⟩,
  ⟨0x900000, [], 0x0, []⟩,
  ⟨0x900004, [], 0x0, [⟨16, 2, .wo⟩, ⟨0, 10, .wo⟩]⟩,
  ⟨0x900008, [], 0x0, [⟨0, 32, .rw⟩]⟩,
  ⟨0x90000C, [], 0x0, [⟨0, 32, .rw⟩]⟩,
  ⟨0x900010, [], 0x0, [⟨0, 32, .rw⟩]⟩,
  ⟨0x900014, [], 0x0, [⟨0, 32, .rw⟩]⟩,
  ⟨0x900018, [], 0x0, [⟨0, 8, .rw⟩]⟩,
  ⟨0x90001C, [], 0x0, []⟩,
  ⟨0x900020, [], 0xFF, [⟨0, 8, .rw⟩]⟩,
  ⟨0x910000, [(0x10, 1024), (0x4, 4)], 0x0, []⟩,
  ⟨0x901000, [(0x100, 8)], 0x0, []⟩,
  ⟨0x901004, [(0x100, 8)], 0x0, [⟨16, 16, .rc⟩]⟩]

/-- Cards of 11_memory.md, part 2. -/
def cards11p2 : List Card := [
  ⟨0x901008, [(0x100, 8)], 0x0, [⟨1, 1, .wo⟩, ⟨0, 1, .wo⟩]⟩,
  ⟨0x90100C, [(0x100, 8)], 0x0, [⟨16, 16, .rc⟩]⟩]

/-- All cards of 11_memory.md. -/
def cards11 : List Card := cards11p1 ++ cards11p2

/-- Cards of 12_host_control.md. -/
def cards12 : List Card := [
  ⟨0x100000, [], 0x0, []⟩,
  ⟨0x101800, [(0x4, 64)], 0x0, []⟩,
  ⟨0x103000, [(0x4, 64)], 0x0, [⟨7, 1, .rw⟩, ⟨15, 1, .rw⟩, ⟨23, 1, .rw⟩, ⟨31, 1, .rw⟩, ⟨0, 6, .rw⟩, ⟨8, 6, .rw⟩, ⟨16, 6, .rw⟩, ⟨24, 6, .rw⟩]⟩,
  ⟨0x103100, [(0x4, 8)], 0x0, [⟨0, 32, .w1c⟩]⟩,
  ⟨0x101000, [(0x20, 64)], 0x0, [⟨0, 32, .rw⟩]⟩,
  ⟨0x101004, [(0x20, 64)], 0x0, [⟨0, 32, .rw⟩]⟩,
  ⟨0x101008, [(0x20, 64)], 0x0, [⟨0, 32, .rw⟩]⟩,
  ⟨0x10100C, [(0x20, 64)], 0x0, [⟨0, 32, .rw⟩]⟩,
  ⟨0x101010, [(0x20, 64)], 0x0, [⟨31, 1, .rw⟩, ⟨8, 5, .rw⟩, ⟨0, 5, .rw⟩]⟩,
  ⟨0x101014, [(0x20, 64)], 0x0, [⟨0, 32, .rw⟩]⟩,
  ⟨0x101018, [(0x20, 64)], 0x0, []⟩,
  ⟨0x10101C, [(0x20, 64)], 0x0, []⟩,
  ⟨0x102000, [(0x10, 16)], 0x0, [⟨0, 32, .rw⟩]⟩,
  ⟨0x102004, [(0x10, 16)], 0x0, [⟨0, 32, .rw⟩]⟩,
  ⟨0x102008, [(0x10, 16)], 0x1, [⟨0, 2, .rw⟩]⟩,
  ⟨0x10200C, [(0x10, 16)], 0x0, [⟨0, 1, .w1c⟩]⟩]

/-- Cards of 13_flow_scheduler.md. -/
def cards13 : List Card := [
  ⟨0x200000, [], 0x10000000, []⟩,
  ⟨0x200004, [], 0x0, [⟨0, 12, .rw⟩]⟩,
  ⟨0x200008, [], 0x0, []⟩,
  ⟨0x20000C, [], 0x0, [⟨0, 1, .wo⟩]⟩,
  ⟨0x200010, [], 0x0, [⟨0, 32, .rc⟩]⟩,
  ⟨0x200100, [(0x4, 32)], 0x1000, [⟨31, 1, .rw⟩, ⟨0, 13, .rw⟩]⟩,
  ⟨0x200200, [(0x4, 32)], 0x0, [⟨24, 8, .rc⟩, ⟨16, 8, .rc⟩]⟩]

/-- Cards of 14_tack_and_reef.md. -/
def cards14 : List Card := [
  ⟨0x300000, [], 0x0, [⟨9, 1, .wo⟩, ⟨8, 1, .wo⟩, ⟨0, 1, .rw⟩]⟩,
  ⟨0x300004, [], 0x0, [⟨0, 16, .rc⟩]⟩,
  ⟨0x300008, [], 0x0, []⟩,
  ⟨0x30000C, [], 0x0, []⟩,
  ⟨0x300010, [], 0x0, [⟨31, 1, .rw⟩, ⟨26, 3, .rw⟩, ⟨0, 26, .rw⟩]⟩,
  ⟨0x300014, [], 0x0, []⟩,
  ⟨0x300018, [], 0x0, []⟩,
  ⟨0x400000, [], 0x5DC, [⟨0, 16, .rw⟩]⟩,
  ⟨0x400004, [], 0x186, []⟩,
  ⟨0x400008, [], 0x0, []⟩,
  ⟨0x40000C, [], 0x3E8, [⟨0, 16, .rw⟩]⟩,
  ⟨0x400010, [], 0x6404B0, [⟨30, 1, .w1c⟩, ⟨16, 8, .rw⟩, ⟨0, 16, .rw⟩]⟩,
  ⟨0x400014, [], 0x0, []⟩,
  ⟨0x400018, [], 0x0, [⟨16, 16, .rc⟩, ⟨0, 16, .rc⟩]⟩,
  ⟨0x40001C, [], 0x0, []⟩]

/-- Cards of 15_alapel_links.md. -/
def cards15 : List Card := [
  ⟨0xA00000, [(0x1000, 4)], 0xC0000000, [⟨31, 1, .rw⟩, ⟨30, 1, .rw⟩, ⟨29, 1, .wo⟩, ⟨24, 3, .rw⟩, ⟨20, 4, .rw⟩, ⟨16, 1, .st⟩, ⟨14, 2, .st⟩, ⟨8, 1, .st⟩, ⟨6, 2, .st⟩]⟩,
  ⟨0xA00004, [(0x1000, 4)], 0x0, [⟨0, 16, .rc⟩]⟩,
  ⟨0xA00008, [(0x1000, 4)], 0x0, []⟩,
  ⟨0xA0000C, [(0x1000, 4)], 0x0, []⟩,
  ⟨0xA00010, [(0x1000, 4)], 0x0, []⟩,
  ⟨0xA00014, [(0x1000, 4)], 0x0, [⟨16, 16, .rc⟩, ⟨0, 16, .rc⟩]⟩,
  ⟨0xA00018, [(0x1000, 4)], 0x0, [⟨24, 8, .rc⟩, ⟨16, 8, .rc⟩, ⟨8, 8, .rc⟩]⟩,
  ⟨0xA0001C, [(0x1000, 4)], 0x0, [⟨16, 16, .rc⟩, ⟨8, 8, .rc⟩]⟩,
  ⟨0xA00020, [(0x1000, 4)], 0x0, [⟨31, 1, .wo⟩, ⟨28, 2, .rw⟩, ⟨22, 6, .rw⟩, ⟨8, 6, .rw⟩, ⟨0, 6, .rw⟩]⟩,
  ⟨0xA00024, [(0x1000, 4)], 0x0, []⟩,
  ⟨0xA08000, [], 0x0, [⟨0, 16, .rw⟩]⟩,
  ⟨0xA08004, [], 0x0, []⟩,
  ⟨0xA08008, [], 0x0, []⟩,
  ⟨0xD00000, [(0x1000, 4)], 0x80000001, [⟨31, 1, .rw⟩, ⟨0, 8, .rw⟩]⟩,
  ⟨0xD00040, [(0x1000, 4), (0x4, 8)], 0xFFFFFFFF, [⟨0, 32, .st⟩]⟩,
  ⟨0xD00080, [(0x1000, 4)], 0x0, [⟨24, 8, .rc⟩]⟩,
  ⟨0xD00084, [(0x1000, 4)], 0x0, [⟨24, 8, .rc⟩]⟩,
  ⟨0xD000C0, [(0x1000, 4)], 0x0, [⟨31, 1, .wo⟩, ⟨24, 1, .rw⟩, ⟨16, 6, .rw⟩, ⟨0, 7, .rw⟩]⟩,
  ⟨0xD000E0, [(0x1000, 4), (0x4, 8)], 0x0, [⟨0, 32, .rw⟩]⟩,
  ⟨0xD00100, [(0x1000, 4), (0x10, 15)], 0x0, [⟨0, 32, .rw⟩]⟩,
  ⟨0xD00104, [(0x1000, 4), (0x10, 15)], 0x0, [⟨0, 16, .rw⟩]⟩,
  ⟨0xD00108, [(0x1000, 4), (0x10, 15)], 0x0, []⟩,
  ⟨0xD0010C, [(0x1000, 4), (0x10, 15)], 0x0, [⟨0, 1, .wo⟩]⟩]

/-- Cards of 16_device_time.md, part 1. -/
def cards16p1 : List Card := [
  ⟨0xB00000, [], 0x0, []⟩,
  ⟨0xB00004, [], 0x0, []⟩,
  ⟨0xB00008, [], 0x0, []⟩,
  ⟨0xB0000C, [], 0x6400FF, [⟨16, 16, .rw⟩, ⟨8, 1, .rw⟩, ⟨0, 8, .rw⟩]⟩,
  ⟨0xB00010, [], 0x0, [⟨0, 32, .rw⟩]⟩,
  ⟨0xB00014, [], 0x68DB8, [⟨0, 32, .rw⟩]⟩,
  ⟨0xB00018, [], 0x0, [⟨0, 32, .rw⟩]⟩,
  ⟨0xB0001C, [], 0x0, [⟨0, 32, .rw⟩]⟩,
  ⟨0xB00020, [], 0x0, [⟨0, 32, .rw⟩]⟩,
  ⟨0xB00024, [], 0x0, [⟨1, 1, .wo⟩, ⟨0, 1, .wo⟩]⟩,
  ⟨0xB00028, [], 0x0, [⟨20, 1, .w1c⟩, ⟨0, 16, .rc⟩]⟩,
  ⟨0xB0002C, [], 0x0, []⟩,
  ⟨0xB00030, [], 0x0, []⟩,
  ⟨0xB00034, [], 0x0, []⟩,
  ⟨0xB00038, [], 0x0, []⟩,
  ⟨0xB0003C, [], 0x0, []⟩,
  ⟨0xB00040, [(0x4, 4)], 0x0, [⟨24, 8, .rc⟩, ⟨16, 8, .rc⟩, ⟨8, 8, .rc⟩]⟩,
  ⟨0xB00050, [(0x8, 2)], 0x0, []⟩,
  ⟨0xB00054, [(0x8, 2)], 0x0, []⟩,
  ⟨0xB00060, [], 0x0, [⟨0, 32, .rc⟩]⟩,
  ⟨0xB01000, [(0x40, 4)], 0x0, [⟨31, 1, .rw⟩, ⟨30, 1, .rw⟩, ⟨29, 1, .rw⟩, ⟨28, 1, .rw⟩, ⟨0, 16, .rw⟩]⟩,
  ⟨0xB01004, [(0x40, 4)], 0x0, [⟨0, 32, .rw⟩]⟩,
  ⟨0xB01008, [(0x40, 4)], 0x0, [⟨0, 32, .rw⟩]⟩,
  ⟨0xB0100C, [(0x40, 4)], 0x0, [⟨0, 32, .rw⟩]⟩]

/-- Cards of 16_device_time.md, part 2. -/
def cards16p2 : List Card := [
  ⟨0xB01010, [(0x40, 4)], 0x0, [⟨0, 32, .rw⟩]⟩,
  ⟨0xB01014, [(0x40, 4)], 0x0, [⟨0, 32, .rw⟩]⟩,
  ⟨0xB01018, [(0x40, 4)], 0x0, [⟨0, 32, .rw⟩]⟩,
  ⟨0xB0101C, [(0x40, 4)], 0x0, [⟨16, 16, .rc⟩, ⟨8, 8, .rc⟩]⟩]

/-- All cards of 16_device_time.md. -/
def cards16 : List Card := cards16p1 ++ cards16p2

/-- Cards of 17_calibration.md. -/
def cards17 : List Card := [
  ⟨0xC00000, [], 0x0, [⟨31, 1, .wo⟩, ⟨30, 1, .wo⟩, ⟨0, 16, .rw⟩]⟩,
  ⟨0xC00004, [], 0x0, []⟩,
  ⟨0xC00008, [(0x4, 2)], 0x0, []⟩,
  ⟨0xC00010, [], 0x0, []⟩,
  ⟨0xC00040, [(0x4, 8)], 0x0, []⟩,
  ⟨0xC00060, [], 0x0, [⟨0, 3, .rw⟩]⟩,
  ⟨0xC00080, [(0x4, 8)], 0x0, []⟩,
  ⟨0xC000C0, [(0x4, 16)], 0x0, []⟩,
  ⟨0xC00100, [], 0x0, [⟨0, 16, .st⟩]⟩,
  ⟨0xC00104, [], 0x0, [⟨8, 8, .rw⟩, ⟨0, 4, .rw⟩]⟩,
  ⟨0xC00108, [], 0x0, []⟩]

/-- Cards of 18_faults_and_backstay.md. -/
def cards18 : List Card := [
  ⟨0x500000, [], 0x0, [⟨0, 10, .rw⟩]⟩,
  ⟨0x500004, [], 0x0, [⟨6, 1, .rw⟩, ⟨5, 1, .rw⟩, ⟨4, 1, .rw⟩, ⟨3, 1, .rw⟩, ⟨2, 1, .rw⟩, ⟨1, 1, .rw⟩, ⟨0, 1, .rw⟩]⟩,
  ⟨0x500008, [], 0x0, [⟨0, 16, .rc⟩]⟩,
  ⟨0x50000C, [], 0x0, [⟨2, 1, .wo⟩, ⟨1, 1, .wo⟩, ⟨0, 1, .wo⟩]⟩,
  ⟨0x500010, [(0x4, 4)], 0x0, []⟩,
  ⟨0x500020, [], 0x0, [⟨8, 8, .rc⟩, ⟨0, 8, .rc⟩]⟩,
  ⟨0x500024, [], 0x0, [⟨10, 6, .wo⟩, ⟨0, 10, .wo⟩]⟩,
  ⟨0x500040, [(0x4, 10)], 0x0, [⟨0, 32, .w1c⟩]⟩,
  ⟨0x500080, [(0x4, 4)], 0x0, []⟩,
  ⟨0x508000, [], 0x0, [⟨4, 2, .st⟩, ⟨0, 2, .st⟩]⟩,
  ⟨0x508004, [], 0x0, [⟨0, 32, .st⟩]⟩,
  ⟨0x508008, [], 0x0, [⟨0, 32, .st⟩]⟩,
  ⟨0x50800C, [], 0x0, [⟨8, 8, .rc⟩]⟩,
  ⟨0x508010, [], 0x0, [⟨0, 16, .wo⟩]⟩,
  ⟨0x508014, [], 0x0, []⟩,
  ⟨0x508018, [], 0x0, []⟩,
  ⟨0x508100, [(0x4, 64)], 0x0, []⟩]

/-- Cards of 19_shroud_security.md. -/
def cards19 : List Card := [
  ⟨0x600000, [], 0x0, []⟩,
  ⟨0x600004, [], 0x0, []⟩,
  ⟨0x600008, [], 0x0, []⟩,
  ⟨0x60000C, [], 0x0, [⟨16, 16, .wo⟩, ⟨2, 1, .wo⟩, ⟨1, 1, .wo⟩, ⟨0, 1, .wo⟩]⟩,
  ⟨0x600010, [], 0x0, [⟨0, 32, .rw⟩]⟩,
  ⟨0x600014, [], 0x0, [⟨31, 1, .wo⟩]⟩,
  ⟨0x600020, [(0x4, 8)], 0x0, [⟨0, 32, .rw⟩]⟩,
  ⟨0x600040, [(0x4, 8)], 0x0, []⟩,
  ⟨0x600080, [(0x4, 40)], 0x0, [⟨0, 32, .rw⟩]⟩,
  ⟨0x600120, [], 0x0, [⟨31, 1, .wo⟩, ⟨30, 1, .wo⟩]⟩,
  ⟨0x600128, [], 0x0, []⟩,
  ⟨0x60012C, [], 0x0, []⟩,
  ⟨0x600130, [], 0x0, [⟨16, 16, .rc⟩, ⟨0, 16, .rc⟩]⟩]

/-- Cards of 20_crows_nest.md. -/
def cards20 : List Card := [
  ⟨0x700000, [], 0x0, []⟩,
  ⟨0x700004, [], 0x0, []⟩,
  ⟨0x700008, [], 0x0, [⟨1, 1, .wo⟩, ⟨0, 1, .rw⟩]⟩,
  ⟨0x70000C, [], 0x0, [⟨0, 1, .rw⟩]⟩,
  ⟨0x700010, [], 0x0, [⟨0, 8, .w1c⟩]⟩,
  ⟨0x700040, [(0x10, 8)], 0x0, [⟨31, 1, .rw⟩, ⟨30, 1, .rw⟩, ⟨29, 1, .rw⟩, ⟨16, 6, .rw⟩, ⟨0, 9, .rw⟩]⟩,
  ⟨0x700044, [(0x10, 8)], 0x0, [⟨0, 32, .rw⟩]⟩,
  ⟨0x700048, [(0x10, 8)], 0x0, [⟨0, 16, .rw⟩]⟩,
  ⟨0x700100, [], 0x0, [⟨31, 1, .w1c⟩, ⟨0, 16, .rc⟩]⟩,
  ⟨0x700104, [], 0x0, []⟩,
  ⟨0x700108, [], 0x0, []⟩,
  ⟨0x70010C, [], 0x0, []⟩,
  ⟨0x700110, [], 0x0, []⟩,
  ⟨0x700114, [], 0x0, []⟩,
  ⟨0x700200, [], 0x0, [⟨31, 1, .rw⟩, ⟨0, 16, .rw⟩]⟩,
  ⟨0x700204, [], 0x0, []⟩,
  ⟨0x700240, [(0x8, 12)], 0x0, []⟩,
  ⟨0x700244, [(0x8, 12)], 0x0, []⟩]

/-- Cards of 21_startup_and_register_map.md. -/
def cards21 : List Card := [
  ⟨0x4, [], 0x0, []⟩,
  ⟨0x8, [], 0x0, []⟩,
  ⟨0xC, [], 0x0, [⟨16, 16, .wo⟩, ⟨3, 1, .wo⟩, ⟨2, 1, .wo⟩, ⟨1, 1, .wo⟩, ⟨0, 1, .wo⟩]⟩,
  ⟨0x10, [], 0x0, [⟨0, 2, .wo⟩]⟩,
  ⟨0x20, [], 0x0, [⟨0, 32, .rw⟩]⟩,
  ⟨0x24, [], 0x0, [⟨31, 1, .wo⟩, ⟨24, 2, .rw⟩, ⟨0, 9, .rw⟩]⟩,
  ⟨0x100, [(0x4, 64)], 0x0, [⟨0, 32, .rw⟩]⟩]

end Sys2Proof
end

