-- ==== Sys2Proof/Machine/CardOps.lean ====
section
/-! DEFINITION. Looking a BAR0 offset up in the register cards (R460): its card, its reset value and the bits of each
access type (R11). -/
namespace Sys2Proof

/-- Whether a distance from instance 0 is that of some instance. -/
def onGrid : List (Nat × Nat) → Nat → Bool
  | [], r => r == 0
  | (stride, count) :: t, r => decide (r / stride < count) && onGrid t (r % stride)

/-- Whether a card covers an offset. -/
def Card.covers (c : Card) (off : Nat) : Bool := decide (c.base ≤ off) && onGrid c.dims (off - c.base)

/-- The MSI-X table at 0x01F_0000 and pending-bit array at 0x01F_8000 (R262, R286), laid out as PCI Express gives them:
64 entries of message address, data and vector control, whose mask bit is 1 after reset. PRESUMED (log 4). -/
def cardsMsix : List Card := [
  ⟨0x1F0000, [(0x10, 64)], 0, [⟨2, 30, .rw⟩]⟩,
  ⟨0x1F0004, [(0x10, 64)], 0, [⟨0, 32, .rw⟩]⟩,
  ⟨0x1F0008, [(0x10, 64)], 0, [⟨0, 32, .rw⟩]⟩,
  ⟨0x1F000C, [(0x10, 64)], 1, [⟨0, 1, .rw⟩]⟩,
  ⟨0x1F8000, [(0x4, 2)], 0, []⟩]

/-- The cards of the window an offset lies in (R14, Register cards). -/
def windowCards (off : Nat) : List Card :=
  if off < 0x100000 then cards00 ++ cards21
  else if off < 0x200000 then cards12 ++ cardsMsix
  else if off < 0x300000 then cards13
  else if off < 0x500000 then cards14
  else if off < 0x600000 then cards18
  else if off < 0x700000 then cards19
  else if off < 0x800000 then cards20
  else if off < 0xA00000 then cards11
  else if off < 0xB00000 then cards15
  else if off < 0xC00000 then cards16
  else if off < 0xD00000 then cards17
  else if off < 0xE00000 then cards15
  else if off < 0x1000000 then []
  else if off < 0x1400000 then cards02 ++ cards03
  else if off < 0x1800000 then cards04
  else if off < 0x1C00000 then cards05
  else if off < 0x2000000 then cards06
  else if off < 0x2400000 then cards07
  else if off < 0x2800000 then cards08
  else if off < 0x2C00000 then cards09
  else if off < 0x3000000 then cards10
  else []

/-- The card of an offset; none: the offset holds no register (R10). -/
def cardAt (off : Nat) : Option Card := (windowCards off).find? fun c => c.covers off

/-- The bits of an offset that have an access type, as a mask. -/
def accessMask (a : Access) (off : Nat) : Nat :=
  match cardAt off with
  | none => 0
  | some c => sumNat (c.fields.map fun f => if f.acc = a then (2 ^ f.width - 1) * 2 ^ f.lo else 0)

/-- The cards whose reset value is not 0, one by one, so that a reset value is found without a search of all. -/
def resetCards : List Card := [
  ⟨0x1F000C, [(0x10, 64)], 1, []⟩,
  ⟨0x0, [], 0x92562001, []⟩,
  ⟨0x102008, [(0x10, 16)], 0x1, []⟩,
  ⟨0x200000, [], 0x10000000, []⟩,
  ⟨0x200100, [(0x4, 32)], 0x1000, []⟩,
  ⟨0x400000, [], 0x5DC, []⟩,
  ⟨0x400004, [], 0x186, []⟩,
  ⟨0x40000C, [], 0x3E8, []⟩,
  ⟨0x400010, [], 0x6404B0, []⟩,
  ⟨0x900020, [], 0xFF, []⟩,
  ⟨0xA00000, [(0x1000, 4)], 0xC0000000, []⟩,
  ⟨0xB0000C, [], 0x6400FF, []⟩,
  ⟨0xB00014, [], 0x68DB8, []⟩,
  ⟨0xD00000, [(0x1000, 4)], 0x80000001, []⟩,
  ⟨0xD00040, [(0x1000, 4), (0x4, 8)], 0xFFFFFFFF, []⟩,
  ⟨0x1000400, [(0x4000, 64)], 0x64, []⟩,
  ⟨0x1500004, [(0x1000, 64)], 0x1000, []⟩,
  ⟨0x2C00044, [(0x1000, 8), (0x10, 8)], 0x40, []⟩]

/-- The value an offset reads as after reset (each card's reset line; 0 where no card gives another). -/
def regReset (off : Nat) : Word :=
  match resetCards.find? fun c => c.covers off with
  | none => 0
  | some c => BitVec.ofNat 32 c.reset

end Sys2Proof
end

