-- ==== Sys2Proof/Machine/RegMap.lean ====
section
/-! DEFINITION. The BAR0 byte offset of every register (21_startup_and_register_map.md, R460), under the
spec's own register names, its instance numbers as arguments. -/
namespace Sys2Proof.R

/-! Registers specified in 00_scope.md. -/
def SYS_PART_ID : Nat := 0x0

/-! Registers specified in 02_sequence_engines.md. -/
def SE_CFG (n : Nat) : Nat := 0x1000000 + 0x4000 * n
def SE_SAFE (n : Nat) : Nat := 0x1000004 + 0x4000 * n
def SE_SITEMASK (n : Nat) : Nat := 0x1000008 + 0x4000 * n
def SE_AUTOMASKED (n : Nat) : Nat := 0x100000C + 0x4000 * n
def SE_MMPOL (n : Nat) : Nat := 0x1000010 + 0x4000 * n
def SE_MATCHST (n : Nat) : Nat := 0x1000014 + 0x4000 * n
def SE_HFLAG (n : Nat) : Nat := 0x1000018 + 0x4000 * n
def SE_CTRL (n : Nat) : Nat := 0x100001C + 0x4000 * n
def SE_STATE (n : Nat) : Nat := 0x1000020 + 0x4000 * n
def SE_CAUSE (n : Nat) : Nat := 0x1000024 + 0x4000 * n
def SE_CYCLE_LO (n : Nat) : Nat := 0x1000028 + 0x4000 * n
def SE_CYCLE_HI (n : Nat) : Nat := 0x100002C + 0x4000 * n
def SE_CHMAP (n k : Nat) : Nat := 0x1000040 + 0x4000 * n + 4 * k
def SE_CHSITE (n k : Nat) : Nat := 0x1000080 + 0x4000 * n + 4 * k
def SE_GR (n k : Nat) : Nat := 0x1000100 + 0x4000 * n + 4 * k
def SE_MM (n k w : Nat) : Nat := 0x1000200 + 0x4000 * n + 32 * k + 4 * w

/-! Registers specified in 03_control_store.md. -/
def SE_TRAPLIM (n : Nat) : Nat := 0x1000400 + 0x4000 * n
def SE_TRAPST (n : Nat) : Nat := 0x1000404 + 0x4000 * n
def SE_TRAPREQ (n : Nat) : Nat := 0x1000408 + 0x4000 * n
def SE_UCERR (n : Nat) : Nat := 0x100040C + 0x4000 * n
def SE_UPC (n : Nat) : Nat := 0x1000410 + 0x4000 * n
def SE_SAVE (n w : Nat) : Nat := 0x1000440 + 0x4000 * n + 4 * w
def SE_SNAPLOOP (n k : Nat) : Nat := 0x1000480 + 0x4000 * n + 4 * k
def SE_SNAPCALL (n k : Nat) : Nat := 0x10004C0 + 0x4000 * n + 4 * k
def SE_SNAPDEPTH (n : Nat) : Nat := 0x1000500 + 0x4000 * n
def SEQ_UCODE_STATUS : Nat := 0x1100000
def SEQ_UCODE_VERSION : Nat := 0x1100004
def SEQ_UCODE_SVN : Nat := 0x1100008
def SEQ_UCODE_CTRL : Nat := 0x110000C
def SEQ_ROM_VERSION : Nat := 0x1100010

/-! Registers specified in 04_edge_timing.md. -/
def WT_CODE (c k : Nat) : Nat := 0x1400000 + 0x1000 * c + 4 * k
def CH_TSSEL (c : Nat) : Nat := 0x1400040 + 0x1000 * c
def TS_EDGE (c e : Nat) : Nat := 0x1400044 + 0x1000 * c + 4 * e
def CH_TSTAT (c : Nat) : Nat := 0x1400060 + 0x1000 * c
def CH_CLAMPCNT (c : Nat) : Nat := 0x1400064 + 0x1000 * c
def CH_CLAMPFIRST (c : Nat) : Nat := 0x1400068 + 0x1000 * c
def PG_CFG (n : Nat) : Nat := 0x1500000 + 0x1000 * n
def PG_PERIOD_LO (n : Nat) : Nat := 0x1500004 + 0x1000 * n
def PG_PERIOD_HI (n : Nat) : Nat := 0x1500008 + 0x1000 * n
def TS_VALID (n w : Nat) : Nat := 0x1500010 + 0x1000 * n + 4 * w
def TS_USED (n w : Nat) : Nat := 0x1500030 + 0x1000 * n + 4 * w
def TMG_SG_ERR (n : Nat) : Nat := 0x1500050 + 0x1000 * n
def TMG_LIMITS : Nat := 0x17F0000

/-! Registers specified in 05_compare_and_fail.md. -/
def CMP_CHCFG (c : Nat) : Nat := 0x1800000 + 0x100 * c
def CMP_FAILCNT (c : Nat) : Nat := 0x1800004 + 0x100 * c
def CMP_CHSTAT (c : Nat) : Nat := 0x1800008 + 0x100 * c
def CMP_SGCFG (n : Nat) : Nat := 0x1820000 + 0x400 * n
def CMP_SGLOGCAP (n : Nat) : Nat := 0x1820004 + 0x400 * n
def CMP_SGCTRL (n : Nat) : Nat := 0x1820008 + 0x400 * n
def CMP_SITEFAIL (n : Nat) : Nat := 0x182000C + 0x400 * n
def CMP_SGLOGGED (n : Nat) : Nat := 0x1820010 + 0x400 * n
def CMP_SGCAPPED (n : Nat) : Nat := 0x1820014 + 0x400 * n
def CMP_SGBURST (n : Nat) : Nat := 0x1820018 + 0x400 * n
def CMP_FF_0 (n k : Nat) : Nat := 0x1820100 + 0x400 * n + 16 * k
def CMP_FF_1 (n k : Nat) : Nat := 0x1820104 + 0x400 * n + 16 * k
def CMP_FF_2 (n k : Nat) : Nat := 0x1820108 + 0x400 * n + 16 * k
def CMP_FF_3 (n k : Nat) : Nat := 0x182010C + 0x400 * n + 16 * k
def CMP_LOG_CFG (s : Nat) : Nat := 0x1840000 + 0x100 * s
def CMP_LOG_BASE_LO (s : Nat) : Nat := 0x1840004 + 0x100 * s
def CMP_LOG_BASE_HI (s : Nat) : Nat := 0x1840008 + 0x100 * s
def CMP_LOG_SIZE (s : Nat) : Nat := 0x184000C + 0x100 * s
def CMP_LOG_STAGE (s : Nat) : Nat := 0x1840010 + 0x100 * s
def CMP_LOG_WRPTR (s : Nat) : Nat := 0x1840014 + 0x100 * s
def CMP_LOG_RDPTR (s : Nat) : Nat := 0x1840018 + 0x100 * s
def CMP_LOG_DROP (s : Nat) : Nat := 0x184001C + 0x100 * s
def CMP_LOG_STAT (s : Nat) : Nat := 0x1840020 + 0x100 * s

/-! Registers specified in 06_reactive_vectors.md. -/
def RCT_RCFG (n r : Nat) : Nat := 0x1C00000 + 0x1000 * n + 0x100 * r
def RCT_RSLOTEN (n r : Nat) : Nat := 0x1C00004 + 0x1000 * n + 0x100 * r
def RCT_RSLOT (n r k : Nat) : Nat := 0x1C00010 + 0x1000 * n + 0x100 * r + 4 * k
def RCT_RT_VAL_LO (n r t : Nat) : Nat := 0x1C00040 + 0x1000 * n + 0x100 * r + 16 * t
def RCT_RT_VAL_HI (n r t : Nat) : Nat := 0x1C00044 + 0x1000 * n + 0x100 * r + 16 * t
def RCT_RT_CARE_LO (n r t : Nat) : Nat := 0x1C00048 + 0x1000 * n + 0x100 * r + 16 * t
def RCT_RT_CARE_HI (n r t : Nat) : Nat := 0x1C0004C + 0x1000 * n + 0x100 * r + 16 * t
def RCT_RSTAT (n r : Nat) : Nat := 0x1C00080 + 0x1000 * n + 0x100 * r
def RCT_RCOUNT (n r : Nat) : Nat := 0x1C00084 + 0x1000 * n + 0x100 * r
def CV_CFG (u : Nat) : Nat := 0x1E00000 + 0x100 * u
def CV_LANES (u : Nat) : Nat := 0x1E00004 + 0x100 * u
def CV_CODES (u : Nat) : Nat := 0x1E00008 + 0x100 * u
def CV_INIT_LO (u : Nat) : Nat := 0x1E0000C + 0x100 * u
def CV_INIT_HI (u : Nat) : Nat := 0x1E00010 + 0x100 * u
def CV_XOR_LO (u : Nat) : Nat := 0x1E00014 + 0x100 * u
def CV_XOR_HI (u : Nat) : Nat := 0x1E00018 + 0x100 * u
def CV_ALIVE (u : Nat) : Nat := 0x1E0001C + 0x100 * u
def CV_STAT (u : Nat) : Nat := 0x1E00020 + 0x100 * u
def CV_FRAMES (u : Nat) : Nat := 0x1E00024 + 0x100 * u
def CV_ERRS (u : Nat) : Nat := 0x1E00028 + 0x100 * u
def CV_BUF_BASE (u : Nat) : Nat := 0x1E0002C + 0x100 * u
def CV_BUF_SIZE (u : Nat) : Nat := 0x1E00030 + 0x100 * u
def CV_BUF_WRPTR (u : Nat) : Nat := 0x1E00034 + 0x100 * u
def CV_BUF_RDPTR (u : Nat) : Nat := 0x1E00038 + 0x100 * u
def CV_BUF_DROP (u : Nat) : Nat := 0x1E0003C + 0x100 * u

/-! Registers specified in 07_source_and_modulation.md. -/
def SRC_CFG (u : Nat) : Nat := 0x2000000 + 0x1000 * u
def SRC_MEM_BASE (u : Nat) : Nat := 0x2000004 + 0x1000 * u
def SRC_MEM_SIZE (u : Nat) : Nat := 0x2000008 + 0x1000 * u
def SRC_TABLEN (u : Nat) : Nat := 0x200000C + 0x1000 * u
def SRC_RING_BASE (u : Nat) : Nat := 0x2000010 + 0x1000 * u
def SRC_RING_SIZE (u : Nat) : Nat := 0x2000014 + 0x1000 * u
def SRC_RING_WRPTR (u : Nat) : Nat := 0x2000018 + 0x1000 * u
def SRC_RING_RDPTR (u : Nat) : Nat := 0x200001C + 0x1000 * u
def SRC_RING_LOW (u : Nat) : Nat := 0x2000020 + 0x1000 * u
def SRC_STAT (u : Nat) : Nat := 0x2000024 + 0x1000 * u
def SRC_JSTAT (u : Nat) : Nat := 0x2000028 + 0x1000 * u
def SRC_URSAMPLE (u : Nat) : Nat := 0x200002C + 0x1000 * u
def SRC_PLAYED_LO (u : Nat) : Nat := 0x2000030 + 0x1000 * u
def SRC_PLAYED_HI (u : Nat) : Nat := 0x2000034 + 0x1000 * u
def SRC_FLAGS (u : Nat) : Nat := 0x2000038 + 0x1000 * u
def MOD_CFG (u : Nat) : Nat := 0x2100000 + 0x1000 * u
def MOD_CHMASK (u : Nat) : Nat := 0x2100004 + 0x1000 * u
def MOD_RATIO (u : Nat) : Nat := 0x2100008 + 0x1000 * u
def MOD_FREQ_LO (u : Nat) : Nat := 0x210000C + 0x1000 * u
def MOD_FREQ_HI (u : Nat) : Nat := 0x2100010 + 0x1000 * u
def MOD_AMP (u : Nat) : Nat := 0x2100014 + 0x1000 * u
def MOD_PHASE0 (u : Nat) : Nat := 0x2100018 + 0x1000 * u
def MOD_MEM_BASE (u : Nat) : Nat := 0x210001C + 0x1000 * u
def MOD_MEM_SIZE (u : Nat) : Nat := 0x2100020 + 0x1000 * u
def MOD_TABLEN (u : Nat) : Nat := 0x2100024 + 0x1000 * u
def MOD_JUMP (u : Nat) : Nat := 0x2100028 + 0x1000 * u
def MOD_JSTAT (u : Nat) : Nat := 0x210002C + 0x1000 * u
def MOD_FLAGS (u : Nat) : Nat := 0x2100030 + 0x1000 * u
def MOD_SATCNT (u : Nat) : Nat := 0x2100034 + 0x1000 * u

/-! Registers specified in 08_acquisition.md. -/
def AQ_CFG (u : Nat) : Nat := 0x2400000 + 0x1000 * u
def AQ_DECIM (u : Nat) : Nat := 0x2400004 + 0x1000 * u
def AQ_PRE (u : Nat) : Nat := 0x2400008 + 0x1000 * u
def AQ_POST (u : Nat) : Nat := 0x240000C + 0x1000 * u
def AQ_LANE (u k : Nat) : Nat := 0x2400010 + 0x1000 * u + 4 * k
def AQ_BUF_BASE (u : Nat) : Nat := 0x2400030 + 0x1000 * u
def AQ_BUF_SIZE (u : Nat) : Nat := 0x2400034 + 0x1000 * u
def AQ_SPILL_BASE_LO (u : Nat) : Nat := 0x2400038 + 0x1000 * u
def AQ_SPILL_BASE_HI (u : Nat) : Nat := 0x240003C + 0x1000 * u
def AQ_SPILL_SIZE (u : Nat) : Nat := 0x2400040 + 0x1000 * u
def AQ_LOC (u : Nat) : Nat := 0x2400044 + 0x1000 * u
def AQ_TC_CFG (u k : Nat) : Nat := 0x2400080 + 0x1000 * u + 32 * k
def AQ_TC_VAL_LO (u k : Nat) : Nat := 0x2400084 + 0x1000 * u + 32 * k
def AQ_TC_VAL_HI (u k : Nat) : Nat := 0x2400088 + 0x1000 * u + 32 * k
def AQ_TC_CARE_LO (u k : Nat) : Nat := 0x240008C + 0x1000 * u + 32 * k
def AQ_TC_CARE_HI (u k : Nat) : Nat := 0x2400090 + 0x1000 * u + 32 * k
def AQ_CTRL (u : Nat) : Nat := 0x2400100 + 0x1000 * u
def AQ_STAT (u : Nat) : Nat := 0x2400104 + 0x1000 * u
def AQ_IGN (u : Nat) : Nat := 0x2400108 + 0x1000 * u
def AQ_FLAGS (u : Nat) : Nat := 0x240010C + 0x1000 * u
def AQ_WORDS_LO (u : Nat) : Nat := 0x2400110 + 0x1000 * u
def AQ_WORDS_HI (u : Nat) : Nat := 0x2400114 + 0x1000 * u

/-! Registers specified in 09_interval_measurement.md. -/
def TDC_CFG (u : Nat) : Nat := 0x2800000 + 0x1000 * u
def TDC_INA (u : Nat) : Nat := 0x2800004 + 0x1000 * u
def TDC_INB (u : Nat) : Nat := 0x2800008 + 0x1000 * u
def TDC_COND (u : Nat) : Nat := 0x280000C + 0x1000 * u
def TDC_STUCK (u : Nat) : Nat := 0x2800010 + 0x1000 * u
def TDC_PERIODS (u : Nat) : Nat := 0x2800014 + 0x1000 * u
def TDC_GATE (u : Nat) : Nat := 0x2800018 + 0x1000 * u
def TDC_TIMEOUT (u : Nat) : Nat := 0x280001C + 0x1000 * u
def TDC_RES_BASE (u : Nat) : Nat := 0x2800020 + 0x1000 * u
def TDC_RES_SIZE (u : Nat) : Nat := 0x2800024 + 0x1000 * u
def TDC_TSTART_LO (u : Nat) : Nat := 0x2800028 + 0x1000 * u
def TDC_TSTART_HI (u : Nat) : Nat := 0x280002C + 0x1000 * u
def TDC_STAT (u : Nat) : Nat := 0x2800040 + 0x1000 * u
def TDC_DONE (u : Nat) : Nat := 0x2800044 + 0x1000 * u
def TDC_DROP (u : Nat) : Nat := 0x2800048 + 0x1000 * u
def TDC_IGN (u : Nat) : Nat := 0x280004C + 0x1000 * u
def TDC_RINGS (u : Nat) : Nat := 0x2800050 + 0x1000 * u
def TDC_RINGF (u : Nat) : Nat := 0x2800054 + 0x1000 * u

/-! Registers specified in 10_capture_processors.md. -/
def CPX_STAT (p : Nat) : Nat := 0x2C00000 + 0x1000 * p
def CPX_AOV (p : Nat) : Nat := 0x2C00004 + 0x1000 * p
def CPX_FLAGS (p : Nat) : Nat := 0x2C00008 + 0x1000 * p
def CPX_ELEM_LO (p : Nat) : Nat := 0x2C0000C + 0x1000 * p
def CPX_ELEM_HI (p : Nat) : Nat := 0x2C00010 + 0x1000 * p
def CPX_CB_BASE (p k : Nat) : Nat := 0x2C00040 + 0x1000 * p + 16 * k
def CPX_CB_LEN (p k : Nat) : Nat := 0x2C00044 + 0x1000 * p + 16 * k
def CPX_CB_PTR (p k : Nat) : Nat := 0x2C00048 + 0x1000 * p + 16 * k
def CPX_CB_PEND (p k : Nat) : Nat := 0x2C0004C + 0x1000 * p + 16 * k

/-! Registers specified in 11_memory.md. -/
def MEM_ACMD : Nat := 0x800000
def MEM_AW_BASE : Nat := 0x800004
def MEM_AW_SIZE : Nat := 0x800008
def MEM_ARESULT : Nat := 0x80000C
def MEM_COLL : Nat := 0x800010
def MEM_COLLADDR : Nat := 0x800014
def MEM_ECC : Nat := 0x800018
def MEM_ECCADDR : Nat := 0x80001C
def MEM_BIST_CFG : Nat := 0x800020
def MEM_BIST_STAT : Nat := 0x800024
def MEM_AT_BASE (k : Nat) : Nat := 0x801000 + 8 * k
def MEM_AT_SIZE (k : Nat) : Nat := 0x801004 + 8 * k
def DRM_CFG : Nat := 0x900000
def DRM_ACMD : Nat := 0x900004
def DRM_AW_BASE_LO : Nat := 0x900008
def DRM_AW_BASE_HI : Nat := 0x90000C
def DRM_AW_SIZE : Nat := 0x900010
def DRM_AW_LOCAL : Nat := 0x900014
def DRM_AW_CHMASK : Nat := 0x900018
def DRM_ARESULT : Nat := 0x90001C
def DRM_PASR : Nat := 0x900020
def DRM_AT (k w : Nat) : Nat := 0x910000 + 16 * k + 4 * w
def DRM_DC_STAT (n : Nat) : Nat := 0x901000 + 0x100 * n
def DRM_DC_TRAIN (n : Nat) : Nat := 0x901004 + 0x100 * n
def DRM_DC_CTRL (n : Nat) : Nat := 0x901008 + 0x100 * n
def DRM_DC_WQ (n : Nat) : Nat := 0x90100C + 0x100 * n

/-! Registers specified in 12_host_control.md. -/
def HIF_LINK : Nat := 0x100000
def HIF_RING_LOSTTAG (k : Nat) : Nat := 0x101800 + 4 * k
def HIF_EVMAP (k : Nat) : Nat := 0x103000 + 4 * k
def HIF_EVPEND (w : Nat) : Nat := 0x103100 + 4 * w
def HIF_RING_SQBASE_LO (k : Nat) : Nat := 0x101000 + 0x20 * k
def HIF_RING_SQBASE_HI (k : Nat) : Nat := 0x101004 + 0x20 * k
def HIF_RING_CQBASE_LO (k : Nat) : Nat := 0x101008 + 0x20 * k
def HIF_RING_CQBASE_HI (k : Nat) : Nat := 0x10100C + 0x20 * k
def HIF_RING_CFG (k : Nat) : Nat := 0x101010 + 0x20 * k
def HIF_RING_IRQ (k : Nat) : Nat := 0x101014 + 0x20 * k
def HIF_RING_STAT (k : Nat) : Nat := 0x101018 + 0x20 * k
def HIF_RING_POS (k : Nat) : Nat := 0x10101C + 0x20 * k
def HIF_BP_ADDR_LO (n : Nat) : Nat := 0x102000 + 0x10 * n
def HIF_BP_ADDR_HI (n : Nat) : Nat := 0x102004 + 0x10 * n
def HIF_BP_CTRL (n : Nat) : Nat := 0x102008 + 0x10 * n
def HIF_BP_STAT (n : Nat) : Nat := 0x10200C + 0x10 * n

/-! Registers specified in 13_flow_scheduler.md. -/
def SCH_STAT : Nat := 0x200000
def SCH_SLOTSEL : Nat := 0x200004
def SCH_SLOTINFO : Nat := 0x200008
def SCH_SLOTCTRL : Nat := 0x20000C
def SCH_UNDER : Nat := 0x200010
def SCH_FLOW_CFG (k : Nat) : Nat := 0x200100 + 4 * k
def SCH_FLOW_STAT (k : Nat) : Nat := 0x200200 + 4 * k

/-! Registers specified in 14_tack_and_reef.md. -/
def TCK_CTRL : Nat := 0x300000
def TCK_STAT : Nat := 0x300004
def TCK_PEND : Nat := 0x300008
def TCK_ERR : Nat := 0x30000C
def TCK_PEEK_ADDR : Nat := 0x300010
def TCK_PEEK_DATA : Nat := 0x300014
def TCK_PEEK_STAT : Nat := 0x300018
def REEF_BUDGET : Nat := 0x400000
def REEF_BASE : Nat := 0x400004
def REEF_GRANTED : Nat := 0x400008
def REEF_QWAIT : Nat := 0x40000C
def REEF_ALARM : Nat := 0x400010
def REEF_RESV : Nat := 0x400014
def REEF_REFUSED : Nat := 0x400018
def REEF_TEMP : Nat := 0x40001C

/-! Registers specified in 15_alapel_links.md. -/
def LNK_P_CFG (p : Nat) : Nat := 0xA00000 + 0x1000 * p
def LNK_P_STAT (p : Nat) : Nat := 0xA00004 + 0x1000 * p
def LNK_P_PART_LO (p : Nat) : Nat := 0xA00008 + 0x1000 * p
def LNK_P_PART_HI (p : Nat) : Nat := 0xA0000C + 0x1000 * p
def LNK_P_PART_ID (p : Nat) : Nat := 0xA00010 + 0x1000 * p
def LNK_P_ERR (p : Nat) : Nat := 0xA00014 + 0x1000 * p
def LNK_P_SYNC (p : Nat) : Nat := 0xA00018 + 0x1000 * p
def LNK_P_FAIL (p : Nat) : Nat := 0xA0001C + 0x1000 * p
def LNK_P_EYE_CTRL (p : Nat) : Nat := 0xA00020 + 0x1000 * p
def LNK_P_EYE_ERRS (p : Nat) : Nat := 0xA00024 + 0x1000 * p
def LNK_ID : Nat := 0xA08000
def LNK_UID_LO : Nat := 0xA08004
def LNK_UID_HI : Nat := 0xA08008
def PEM_Q_CFG (q : Nat) : Nat := 0xD00000 + 0x1000 * q
def PEM_Q_BIND (q w : Nat) : Nat := 0xD00040 + 0x1000 * q + 4 * w
def PEM_Q_UNK (q : Nat) : Nat := 0xD00080 + 0x1000 * q
def PEM_Q_IBI (q : Nat) : Nat := 0xD00084 + 0x1000 * q
def PEM_Q_XCTL (q : Nat) : Nat := 0xD000C0 + 0x1000 * q
def PEM_Q_XDATA (q w : Nat) : Nat := 0xD000E0 + 0x1000 * q + 4 * w
def PEM_Q_SLOT_PID_LO (q s : Nat) : Nat := 0xD00100 + 0x1000 * q + 16 * s
def PEM_Q_SLOT_PID_HI (q s : Nat) : Nat := 0xD00104 + 0x1000 * q + 16 * s
def PEM_Q_SLOT_STAT (q s : Nat) : Nat := 0xD00108 + 0x1000 * q + 16 * s
def PEM_Q_SLOT_CTRL (q s : Nat) : Nat := 0xD0010C + 0x1000 * q + 16 * s

/-! Registers specified in 16_device_time.md. -/
def TIM_NOW_NS_LO : Nat := 0xB00000
def TIM_NOW_NS_HI : Nat := 0xB00004
def TIM_NOW_FRAC : Nat := 0xB00008
def TIM_CFG : Nat := 0xB0000C
def TIM_ADJ : Nat := 0xB00010
def TIM_SLEW : Nat := 0xB00014
def TIM_SET_NS_LO : Nat := 0xB00018
def TIM_SET_NS_HI : Nat := 0xB0001C
def TIM_SET_FRAC : Nat := 0xB00020
def TIM_CTRL : Nat := 0xB00024
def TIM_STAT : Nat := 0xB00028
def TIM_MEAS : Nat := 0xB0002C
def TIM_LASTD_LO : Nat := 0xB00030
def TIM_LASTD_HI : Nat := 0xB00034
def TIM_MASTER_LO : Nat := 0xB00038
def TIM_MASTER_HI : Nat := 0xB0003C
def TIM_P_TXQ (p : Nat) : Nat := 0xB00040 + 4 * p
def TIM_TTIN_LO (k : Nat) : Nat := 0xB00050 + 8 * k
def TIM_TTIN_HI (k : Nat) : Nat := 0xB00054 + 8 * k
def TIM_TTINCNT : Nat := 0xB00060
def TT_CFG (n : Nat) : Nat := 0xB01000 + 0x40 * n
def TT_START_LO (n : Nat) : Nat := 0xB01004 + 0x40 * n
def TT_START_HI (n : Nat) : Nat := 0xB01008 + 0x40 * n
def TT_START_FRAC (n : Nat) : Nat := 0xB0100C + 0x40 * n
def TT_PERIOD_LO (n : Nat) : Nat := 0xB01010 + 0x40 * n
def TT_PERIOD_HI (n : Nat) : Nat := 0xB01014 + 0x40 * n
def TT_COUNT (n : Nat) : Nat := 0xB01018 + 0x40 * n
def TT_STAT (n : Nat) : Nat := 0xB0101C + 0x40 * n

/-! Registers specified in 17_calibration.md. -/
def CAL_RUN : Nat := 0xC00000
def CAL_RUNSTAT : Nat := 0xC00004
def CAL_BANKRES (w : Nat) : Nat := 0xC00008 + 4 * w
def CAL_BANKERR : Nat := 0xC00010
def CAL_SET_INFO (k : Nat) : Nat := 0xC00040 + 4 * k
def CAL_SETSEL : Nat := 0xC00060
def CAL_SETTEMP (w : Nat) : Nat := 0xC00080 + 4 * w
def CAL_BANKSTAT (b : Nat) : Nat := 0xC000C0 + 4 * b
def CAL_DEVSKEW : Nat := 0xC00100
def CAL_PEEKSEL : Nat := 0xC00104
def CAL_PEEKVAL : Nat := 0xC00108

/-! Registers specified in 18_faults_and_backstay.md. -/
def FLT_SRCSEL : Nat := 0x500000
def FLT_SRCCFG : Nat := 0x500004
def FLT_SRCSTAT : Nat := 0x500008
def FLT_CTRL : Nat := 0x50000C
def FLT_SRCREC (w : Nat) : Nat := 0x500010 + 4 * w
def FLT_STAT : Nat := 0x500020
def FLT_INJECT : Nat := 0x500024
def FLT_STICKY (w : Nat) : Nat := 0x500040 + 4 * w
def FLT_FIRST (w : Nat) : Nat := 0x500080 + 4 * w
def BKS_CFG : Nat := 0x508000
def BKS_SGMASK_LO : Nat := 0x508004
def BKS_SGMASK_HI : Nat := 0x508008
def BKS_STAT : Nat := 0x50800C
def BKS_CTRL : Nat := 0x508010
def BKS_LASTDIS_LO : Nat := 0x508014
def BKS_LASTDIS_HI : Nat := 0x508018
def BKS_SGSTAT (k : Nat) : Nat := 0x508100 + 4 * k

/-! Registers specified in 19_shroud_security.md. -/
def SHR_STAT : Nat := 0x600000
def SHR_FWVERSION : Nat := 0x600004
def SHR_FWSVN : Nat := 0x600008
def SHR_CTRL : Nat := 0x60000C
def SHR_ATT_ADDR : Nat := 0x600010
def SHR_ATT_CTRL : Nat := 0x600014
def SHR_ATT_NONCE (w : Nat) : Nat := 0x600020 + 4 * w
def SHR_DBG_NONCE (w : Nat) : Nat := 0x600040 + 4 * w
def SHR_DBG_REQ (w : Nat) : Nat := 0x600080 + 4 * w
def SHR_DBG_CTRL : Nat := 0x600120
def SHR_SESSION_LO : Nat := 0x600128
def SHR_SESSION_HI : Nat := 0x60012C
def SHR_AUTHFAIL : Nat := 0x600130

/-! Registers specified in 20_crows_nest.md. -/
def CNS_CYCLE_LO : Nat := 0x700000
def CNS_CYCLE_HI : Nat := 0x700004
def CNS_GCTRL : Nat := 0x700008
def CNS_ACCESS : Nat := 0x70000C
def CNS_OVF : Nat := 0x700010
def CNS_CTR_CFG (k : Nat) : Nat := 0x700040 + 16 * k
def CNS_CTR_LO (k : Nat) : Nat := 0x700044 + 16 * k
def CNS_CTR_HI (k : Nat) : Nat := 0x700048 + 16 * k
def CNS_SAMPSTAT : Nat := 0x700100
def CNS_SAMP_CYC_LO : Nat := 0x700104
def CNS_SAMP_CYC_HI : Nat := 0x700108
def CNS_SAMP_IA : Nat := 0x70010C
def CNS_SAMP_VC_LO : Nat := 0x700110
def CNS_SAMP_VC_HI : Nat := 0x700114
def CNS_BWCFG : Nat := 0x700200
def CNS_BWSTAT : Nat := 0x700204
def CNS_BW_LO (p : Nat) : Nat := 0x700240 + 8 * p
def CNS_BW_HI (p : Nat) : Nat := 0x700244 + 8 * p

/-! Registers specified in 21_startup_and_register_map.md. -/
def SYS_BOOT_STATE : Nat := 0x4
def SYS_RESETCAUSE : Nat := 0x8
def SYS_CTRL : Nat := 0xC
def SYS_PWR : Nat := 0x10
def SYS_FLASH_ADDR : Nat := 0x20
def SYS_FLASH_CTRL : Nat := 0x24
def SYS_FLASH_DATA (w : Nat) : Nat := 0x100 + 4 * w

end Sys2Proof.R
end

