-- ==== Sys2Proof/Machine/Fields.lean ====
section
/-! DEFINITION. The named fields of the register cards (R11 and each chapter's cards). A register whose one field is
[31:0] has none here: it is read and written whole. -/
namespace Sys2Proof

/-- A field of a register: the register's offset, the field's lowest bit and its width. -/
structure Field where
  off : Nat
  lo : Nat
  width : Nat
deriving DecidableEq, Repr

end Sys2Proof
namespace Sys2Proof.F

/-! Fields of the cards of 00_scope.md. -/
def SYS_PART_ID.PART_NUMBER : Field := ⟨R.SYS_PART_ID, 16, 16⟩
def SYS_PART_ID.SPEED_GRADE : Field := ⟨R.SYS_PART_ID, 12, 4⟩
def SYS_PART_ID.STEPPING : Field := ⟨R.SYS_PART_ID, 0, 8⟩

/-! Fields of the cards of 02_sequence_engines.md. -/
def SE_CFG.FLAT (n : Nat) : Field := ⟨R.SE_CFG n, 24, 8⟩
def SE_CFG.PARK (n : Nat) : Field := ⟨R.SE_CFG n, 21, 1⟩
def SE_CFG.AUTOMASK (n : Nat) : Field := ⟨R.SE_CFG n, 20, 1⟩
def SE_CFG.NSITES (n : Nat) : Field := ⟨R.SE_CFG n, 16, 4⟩
def SE_CFG.GANG (n : Nat) : Field := ⟨R.SE_CFG n, 0, 1⟩
def SE_SAFE.SAFE_CODE (n : Nat) : Field := ⟨R.SE_SAFE n, 8, 4⟩
def SE_SAFE.SAFE_TS (n : Nat) : Field := ⟨R.SE_SAFE n, 0, 8⟩
def SE_SITEMASK.MASK (n : Nat) : Field := ⟨R.SE_SITEMASK n, 0, 16⟩
def SE_AUTOMASKED.MASKED (n : Nat) : Field := ⟨R.SE_AUTOMASKED n, 0, 16⟩
def SE_MMPOL.ALL (n : Nat) : Field := ⟨R.SE_MMPOL n, 0, 16⟩
def SE_MATCHST.MATCHED (n : Nat) : Field := ⟨R.SE_MATCHST n, 0, 16⟩
def SE_HFLAG.HF (n : Nat) : Field := ⟨R.SE_HFLAG n, 0, 1⟩
def SE_CTRL.ABORT (n : Nat) : Field := ⟨R.SE_CTRL n, 0, 1⟩
def SE_STATE.STATE (n : Nat) : Field := ⟨R.SE_STATE n, 28, 4⟩
def SE_STATE.IA (n : Nat) : Field := ⟨R.SE_STATE n, 0, 24⟩
def SE_CAUSE.ABORT_SEEN (n : Nat) : Field := ⟨R.SE_CAUSE n, 8, 1⟩
def SE_CAUSE.CAUSE (n : Nat) : Field := ⟨R.SE_CAUSE n, 0, 8⟩
def SE_CHSITE.SITE (n k j : Nat) : Field := ⟨R.SE_CHSITE n k, 4 * j, 4⟩

/-! Fields of the cards of 03_control_store.md. -/
def SE_TRAPLIM.LIMIT (n : Nat) : Field := ⟨R.SE_TRAPLIM n, 0, 16⟩
def SE_TRAPST.TAKEN (n : Nat) : Field := ⟨R.SE_TRAPST n, 16, 16⟩
def SE_TRAPST.LASTCAUSE (n : Nat) : Field := ⟨R.SE_TRAPST n, 8, 4⟩
def SE_TRAPST.ACTIVE (n : Nat) : Field := ⟨R.SE_TRAPST n, 4, 1⟩
def SE_TRAPST.PENDING (n : Nat) : Field := ⟨R.SE_TRAPST n, 0, 4⟩
def SE_TRAPREQ.SNAPSHOT (n : Nat) : Field := ⟨R.SE_TRAPREQ n, 0, 1⟩
def SE_UCERR.CORRECTED (n : Nat) : Field := ⟨R.SE_UCERR n, 16, 16⟩
def SE_UCERR.LASTADDR (n : Nat) : Field := ⟨R.SE_UCERR n, 0, 11⟩
def SE_UPC.UPC (n : Nat) : Field := ⟨R.SE_UPC n, 0, 11⟩
def SE_SNAPCALL.ADDR (n k : Nat) : Field := ⟨R.SE_SNAPCALL n k, 0, 24⟩
def SE_SNAPDEPTH.CALL (n : Nat) : Field := ⟨R.SE_SNAPDEPTH n, 4, 5⟩
def SE_SNAPDEPTH.LOOP (n : Nat) : Field := ⟨R.SE_SNAPDEPTH n, 0, 4⟩
def SEQ_UCODE_STATUS.RESULT : Field := ⟨R.SEQ_UCODE_STATUS, 4, 4⟩
def SEQ_UCODE_STATUS.SOURCE : Field := ⟨R.SEQ_UCODE_STATUS, 0, 1⟩
def SEQ_UCODE_SVN.COMMIT_BUSY : Field := ⟨R.SEQ_UCODE_SVN, 31, 1⟩
def SEQ_UCODE_SVN.FUSED_MIN : Field := ⟨R.SEQ_UCODE_SVN, 16, 7⟩
def SEQ_UCODE_SVN.RUNNING : Field := ⟨R.SEQ_UCODE_SVN, 0, 16⟩
def SEQ_UCODE_CTRL.COMMIT_SVN : Field := ⟨R.SEQ_UCODE_CTRL, 0, 1⟩

/-! Fields of the cards of 04_edge_timing.md. -/
def WT_CODE.WIN (c k : Nat) : Field := ⟨R.WT_CODE c k, 15, 1⟩
def WT_CODE.S1MODE (c k : Nat) : Field := ⟨R.WT_CODE c k, 12, 3⟩
def WT_CODE.S0MODE (c k : Nat) : Field := ⟨R.WT_CODE c k, 8, 3⟩
def WT_CODE.E3EN (c k : Nat) : Field := ⟨R.WT_CODE c k, 6, 1⟩
def WT_CODE.E2LVL (c k : Nat) : Field := ⟨R.WT_CODE c k, 4, 2⟩
def WT_CODE.E1LVL (c k : Nat) : Field := ⟨R.WT_CODE c k, 2, 2⟩
def WT_CODE.E0EN (c k : Nat) : Field := ⟨R.WT_CODE c k, 0, 1⟩
def CH_TSSEL.TS (c : Nat) : Field := ⟨R.CH_TSSEL c, 0, 8⟩
def CH_TSTAT.STB_CLAMP (c : Nat) : Field := ⟨R.CH_TSTAT c, 2, 1⟩
def CH_TSTAT.DEN_CLAMP (c : Nat) : Field := ⟨R.CH_TSTAT c, 1, 1⟩
def CH_TSTAT.DRV_CLAMP (c : Nat) : Field := ⟨R.CH_TSTAT c, 0, 1⟩
def CH_CLAMPCNT.COUNT (c : Nat) : Field := ⟨R.CH_CLAMPCNT c, 0, 16⟩
def PG_CFG.MULT (n : Nat) : Field := ⟨R.PG_CFG n, 4, 2⟩
def PG_CFG.EN (n : Nat) : Field := ⟨R.PG_CFG n, 0, 1⟩
def PG_PERIOD_HI.TICKS_HI (n : Nat) : Field := ⟨R.PG_PERIOD_HI n, 0, 2⟩
def TMG_SG_ERR.CHECK (n : Nat) : Field := ⟨R.TMG_SG_ERR n, 28, 4⟩
def TMG_SG_ERR.EDGE (n : Nat) : Field := ⟨R.TMG_SG_ERR n, 24, 3⟩
def TMG_SG_ERR.TS (n : Nat) : Field := ⟨R.TMG_SG_ERR n, 16, 8⟩
def TMG_SG_ERR.CODE (n : Nat) : Field := ⟨R.TMG_SG_ERR n, 12, 4⟩
def TMG_SG_ERR.CH (n : Nat) : Field := ⟨R.TMG_SG_ERR n, 0, 8⟩
def TMG_LIMITS.TMIN : Field := ⟨R.TMG_LIMITS, 16, 16⟩
def TMG_LIMITS.SUBMIN : Field := ⟨R.TMG_LIMITS, 0, 16⟩

/-! Fields of the cards of 05_compare_and_fail.md. -/
def CMP_CHCFG.MASK (c : Nat) : Field := ⟨R.CMP_CHCFG c, 0, 1⟩
def CMP_CHSTAT.CROSSCNT (c : Nat) : Field := ⟨R.CMP_CHSTAT c, 16, 16⟩
def CMP_CHSTAT.SAT (c : Nat) : Field := ⟨R.CMP_CHSTAT c, 1, 1⟩
def CMP_CHSTAT.CROSSED (c : Nat) : Field := ⟨R.CMP_CHSTAT c, 0, 1⟩
def CMP_SGCFG.CONCEAL (n : Nat) : Field := ⟨R.CMP_SGCFG n, 31, 1⟩
def CMP_SGCFG.LOGSTREAM (n : Nat) : Field := ⟨R.CMP_SGCFG n, 8, 2⟩
def CMP_SGCFG.LOGMASKED (n : Nat) : Field := ⟨R.CMP_SGCFG n, 7, 1⟩
def CMP_SGCFG.KEEPCNT (n : Nat) : Field := ⟨R.CMP_SGCFG n, 6, 1⟩
def CMP_SGCFG.LOGMODE (n : Nat) : Field := ⟨R.CMP_SGCFG n, 0, 2⟩
def CMP_SGCTRL.CLEAR (n : Nat) : Field := ⟨R.CMP_SGCTRL n, 0, 1⟩
def CMP_SITEFAIL.FAIL (n : Nat) : Field := ⟨R.CMP_SITEFAIL n, 0, 16⟩
def CMP_SGBURST.NUMBER (n : Nat) : Field := ⟨R.CMP_SGBURST n, 0, 16⟩
def CMP_FF_1.VALID (n k : Nat) : Field := ⟨R.CMP_FF_1 n k, 31, 1⟩
def CMP_FF_1.WINF (n k : Nat) : Field := ⟨R.CMP_FF_1 n k, 30, 1⟩
def CMP_FF_1.STB (n k : Nat) : Field := ⟨R.CMP_FF_1 n k, 29, 1⟩
def CMP_FF_1.SUB (n k : Nat) : Field := ⟨R.CMP_FF_1 n k, 26, 3⟩
def CMP_FF_1.CH (n k : Nat) : Field := ⟨R.CMP_FF_1 n k, 16, 8⟩
def CMP_FF_1.CYCLE_HI (n k : Nat) : Field := ⟨R.CMP_FF_1 n k, 0, 16⟩
def CMP_FF_2.TS (n k : Nat) : Field := ⟨R.CMP_FF_2 n k, 24, 8⟩
def CMP_FF_2.IA (n k : Nat) : Field := ⟨R.CMP_FF_2 n k, 0, 24⟩
def CMP_FF_3.CML (n k : Nat) : Field := ⟨R.CMP_FF_3 n k, 5, 1⟩
def CMP_FF_3.CMH (n k : Nat) : Field := ⟨R.CMP_FF_3 n k, 4, 1⟩
def CMP_FF_3.MODE (n k : Nat) : Field := ⟨R.CMP_FF_3 n k, 0, 3⟩
def CMP_LOG_CFG.BW (s : Nat) : Field := ⟨R.CMP_LOG_CFG s, 8, 8⟩
def CMP_LOG_CFG.ENCRYPT (s : Nat) : Field := ⟨R.CMP_LOG_CFG s, 3, 1⟩
def CMP_LOG_CFG.DEEP (s : Nat) : Field := ⟨R.CMP_LOG_CFG s, 2, 1⟩
def CMP_LOG_CFG.WRAP (s : Nat) : Field := ⟨R.CMP_LOG_CFG s, 1, 1⟩
def CMP_LOG_CFG.EN (s : Nat) : Field := ⟨R.CMP_LOG_CFG s, 0, 1⟩
def CMP_LOG_STAT.WRAPPED (s : Nat) : Field := ⟨R.CMP_LOG_STAT s, 2, 1⟩
def CMP_LOG_STAT.LOST (s : Nat) : Field := ⟨R.CMP_LOG_STAT s, 1, 1⟩
def CMP_LOG_STAT.FULL (s : Nat) : Field := ⟨R.CMP_LOG_STAT s, 0, 1⟩

/-! Fields of the cards of 06_reactive_vectors.md. -/
def RCT_RCFG.SUBMASK (n r : Nat) : Field := ⟨R.RCT_RCFG n r, 24, 8⟩
def RCT_RCFG.TGT3 (n r : Nat) : Field := ⟨R.RCT_RCFG n r, 20, 4⟩
def RCT_RCFG.TGT2 (n r : Nat) : Field := ⟨R.RCT_RCFG n r, 16, 4⟩
def RCT_RCFG.TGT1 (n r : Nat) : Field := ⟨R.RCT_RCFG n r, 12, 4⟩
def RCT_RCFG.TGT0 (n r : Nat) : Field := ⟨R.RCT_RCFG n r, 8, 4⟩
def RCT_RCFG.NALT (n r : Nat) : Field := ⟨R.RCT_RCFG n r, 4, 2⟩
def RCT_RCFG.STB (n r : Nat) : Field := ⟨R.RCT_RCFG n r, 1, 1⟩
def RCT_RCFG.EN (n r : Nat) : Field := ⟨R.RCT_RCFG n r, 0, 1⟩
def RCT_RSLOT.CH (n r k j : Nat) : Field := ⟨R.RCT_RSLOT n r k, 8 * j, 8⟩
def RCT_RSTAT.FIRED (n r : Nat) : Field := ⟨R.RCT_RSTAT n r, 31, 1⟩
def RCT_RSTAT.LATE (n r : Nat) : Field := ⟨R.RCT_RSTAT n r, 30, 1⟩
def RCT_RSTAT.ALT (n r : Nat) : Field := ⟨R.RCT_RSTAT n r, 28, 2⟩
def RCT_RSTAT.BADTGT (n r : Nat) : Field := ⟨R.RCT_RSTAT n r, 27, 1⟩
def RCT_RSTAT.COST (n r : Nat) : Field := ⟨R.RCT_RSTAT n r, 0, 24⟩
def RCT_RCOUNT.FIRES (n r : Nat) : Field := ⟨R.RCT_RCOUNT n r, 16, 16⟩
def RCT_RCOUNT.LATES (n r : Nat) : Field := ⟨R.RCT_RCOUNT n r, 0, 16⟩
def CV_CFG.EN (u : Nat) : Field := ⟨R.CV_CFG u, 31, 1⟩
def CV_CFG.MODE (u : Nat) : Field := ⟨R.CV_CFG u, 30, 1⟩
def CV_CFG.REFLECT (u : Nat) : Field := ⟨R.CV_CFG u, 29, 1⟩
def CV_CFG.FORDER (u : Nat) : Field := ⟨R.CV_CFG u, 28, 1⟩
def CV_CFG.FAILMAP (u : Nat) : Field := ⟨R.CV_CFG u, 27, 1⟩
def CV_CFG.STRIP (u : Nat) : Field := ⟨R.CV_CFG u, 26, 1⟩
def CV_CFG.POLY (u : Nat) : Field := ⟨R.CV_CFG u, 21, 3⟩
def CV_CFG.ALEN (u : Nat) : Field := ⟨R.CV_CFG u, 16, 5⟩
def CV_CFG.STEP (u : Nat) : Field := ⟨R.CV_CFG u, 12, 4⟩
def CV_CFG.SG (u : Nat) : Field := ⟨R.CV_CFG u, 0, 6⟩
def CV_LANES.FIRSTCH (u : Nat) : Field := ⟨R.CV_LANES u, 16, 8⟩
def CV_LANES.NLANES (u : Nat) : Field := ⟨R.CV_LANES u, 0, 5⟩
def CV_CODES.CF (u : Nat) : Field := ⟨R.CV_CODES u, 8, 4⟩
def CV_CODES.C1 (u : Nat) : Field := ⟨R.CV_CODES u, 4, 4⟩
def CV_CODES.C0 (u : Nat) : Field := ⟨R.CV_CODES u, 0, 4⟩
def CV_ALIVE.INIT (u : Nat) : Field := ⟨R.CV_ALIVE u, 0, 16⟩
def CV_STAT.PARTIAL (u : Nat) : Field := ⟨R.CV_STAT u, 5, 1⟩
def CV_STAT.BROKEN (u : Nat) : Field := ⟨R.CV_STAT u, 4, 1⟩
def CV_STAT.LEVEL (u : Nat) : Field := ⟨R.CV_STAT u, 3, 1⟩
def CV_STAT.ALIVE_ERR (u : Nat) : Field := ⟨R.CV_STAT u, 2, 1⟩
def CV_STAT.CRC_ERR (u : Nat) : Field := ⟨R.CV_STAT u, 1, 1⟩
def CV_ERRS.CRC (u : Nat) : Field := ⟨R.CV_ERRS u, 16, 16⟩
def CV_ERRS.ALIVE (u : Nat) : Field := ⟨R.CV_ERRS u, 0, 16⟩

/-! Fields of the cards of 07_source_and_modulation.md. -/
def SRC_CFG.EN (u : Nat) : Field := ⟨R.SRC_CFG u, 31, 1⟩
def SRC_CFG.URPOL (u : Nat) : Field := ⟨R.SRC_CFG u, 29, 2⟩
def SRC_CFG.WIDTH (u : Nat) : Field := ⟨R.SRC_CFG u, 26, 3⟩
def SRC_CFG.IDLESEG (u : Nat) : Field := ⟨R.SRC_CFG u, 16, 8⟩
def SRC_CFG.FIRSTCH (u : Nat) : Field := ⟨R.SRC_CFG u, 8, 8⟩
def SRC_CFG.SG (u : Nat) : Field := ⟨R.SRC_CFG u, 0, 6⟩
def SRC_TABLEN.SEQCOUNT (u : Nat) : Field := ⟨R.SRC_TABLEN u, 16, 11⟩
def SRC_TABLEN.SEGCOUNT (u : Nat) : Field := ⟨R.SRC_TABLEN u, 0, 9⟩
def SRC_STAT.STATE (u : Nat) : Field := ⟨R.SRC_STAT u, 28, 4⟩
def SRC_STAT.ENTRY (u : Nat) : Field := ⟨R.SRC_STAT u, 16, 10⟩
def SRC_STAT.REPDONE (u : Nat) : Field := ⟨R.SRC_STAT u, 0, 16⟩
def SRC_JSTAT.VALID (u : Nat) : Field := ⟨R.SRC_JSTAT u, 31, 1⟩
def SRC_JSTAT.FOLLOWING (u : Nat) : Field := ⟨R.SRC_JSTAT u, 30, 1⟩
def SRC_JSTAT.DISCARDED (u : Nat) : Field := ⟨R.SRC_JSTAT u, 29, 1⟩
def SRC_JSTAT.ENTRY (u : Nat) : Field := ⟨R.SRC_JSTAT u, 16, 10⟩
def SRC_JSTAT.LEAD (u : Nat) : Field := ⟨R.SRC_JSTAT u, 0, 16⟩
def SRC_FLAGS.LOW (u : Nat) : Field := ⟨R.SRC_FLAGS u, 1, 1⟩
def SRC_FLAGS.UNDERRUN (u : Nat) : Field := ⟨R.SRC_FLAGS u, 0, 1⟩
def MOD_CFG.EN (u : Nat) : Field := ⟨R.MOD_CFG u, 31, 1⟩
def MOD_CFG.MODE (u : Nat) : Field := ⟨R.MOD_CFG u, 29, 2⟩
def MOD_CFG.EDGES (u : Nat) : Field := ⟨R.MOD_CFG u, 23, 6⟩
def MOD_CFG.STARTENT (u : Nat) : Field := ⟨R.MOD_CFG u, 6, 10⟩
def MOD_CFG.SG (u : Nat) : Field := ⟨R.MOD_CFG u, 0, 6⟩
def MOD_CHMASK.CH (u : Nat) : Field := ⟨R.MOD_CHMASK u, 0, 16⟩
def MOD_FREQ_HI.FREQ (u : Nat) : Field := ⟨R.MOD_FREQ_HI u, 0, 16⟩
def MOD_AMP.AMP (u : Nat) : Field := ⟨R.MOD_AMP u, 0, 15⟩
def MOD_TABLEN.SEQCOUNT (u : Nat) : Field := ⟨R.MOD_TABLEN u, 16, 11⟩
def MOD_TABLEN.SEGCOUNT (u : Nat) : Field := ⟨R.MOD_TABLEN u, 0, 9⟩
def MOD_JUMP.REQ (u : Nat) : Field := ⟨R.MOD_JUMP u, 31, 1⟩
def MOD_JUMP.ENTRY (u : Nat) : Field := ⟨R.MOD_JUMP u, 0, 10⟩
def MOD_JSTAT.VALID (u : Nat) : Field := ⟨R.MOD_JSTAT u, 31, 1⟩
def MOD_JSTAT.FOLLOWING (u : Nat) : Field := ⟨R.MOD_JSTAT u, 30, 1⟩
def MOD_JSTAT.DISCARDED (u : Nat) : Field := ⟨R.MOD_JSTAT u, 29, 1⟩
def MOD_JSTAT.ENTRY (u : Nat) : Field := ⟨R.MOD_JSTAT u, 16, 10⟩
def MOD_JSTAT.LEAD (u : Nat) : Field := ⟨R.MOD_JSTAT u, 0, 16⟩
def MOD_FLAGS.SAT (u : Nat) : Field := ⟨R.MOD_FLAGS u, 0, 1⟩

/-! Fields of the cards of 08_acquisition.md. -/
def AQ_CFG.EN (u : Nat) : Field := ⟨R.AQ_CFG u, 31, 1⟩
def AQ_CFG.FORMAT (u : Nat) : Field := ⟨R.AQ_CFG u, 29, 2⟩
def AQ_CFG.STB (u : Nat) : Field := ⟨R.AQ_CFG u, 28, 1⟩
def AQ_CFG.SPILL (u : Nat) : Field := ⟨R.AQ_CFG u, 27, 1⟩
def AQ_CFG.SUBMASK (u : Nat) : Field := ⟨R.AQ_CFG u, 16, 8⟩
def AQ_CFG.NLANES (u : Nat) : Field := ⟨R.AQ_CFG u, 8, 6⟩
def AQ_CFG.SG (u : Nat) : Field := ⟨R.AQ_CFG u, 0, 6⟩
def AQ_DECIM.DECIM (u : Nat) : Field := ⟨R.AQ_DECIM u, 0, 16⟩
def AQ_LANE.CH (u k j : Nat) : Field := ⟨R.AQ_LANE u k, 8 * j, 8⟩
def AQ_LOC.EN (u : Nat) : Field := ⟨R.AQ_LOC u, 31, 1⟩
def AQ_LOC.LANE (u : Nat) : Field := ⟨R.AQ_LOC u, 0, 5⟩
def AQ_TC_CFG.EN (u k : Nat) : Field := ⟨R.AQ_TC_CFG u k, 31, 1⟩
def AQ_TC_CFG.KIND (u k : Nat) : Field := ⟨R.AQ_TC_CFG u k, 29, 2⟩
def AQ_CTRL.STOP (u : Nat) : Field := ⟨R.AQ_CTRL u, 2, 1⟩
def AQ_CTRL.FORCE (u : Nat) : Field := ⟨R.AQ_CTRL u, 1, 1⟩
def AQ_CTRL.ARM (u : Nat) : Field := ⟨R.AQ_CTRL u, 0, 1⟩
def AQ_STAT.STATE (u : Nat) : Field := ⟨R.AQ_STAT u, 28, 4⟩
def AQ_STAT.RECORD (u : Nat) : Field := ⟨R.AQ_STAT u, 0, 16⟩
def AQ_IGN.PREFILL (u : Nat) : Field := ⟨R.AQ_IGN u, 16, 16⟩
def AQ_IGN.REARM (u : Nat) : Field := ⟨R.AQ_IGN u, 0, 16⟩
def AQ_FLAGS.NOTASK (u : Nat) : Field := ⟨R.AQ_FLAGS u, 3, 1⟩
def AQ_FLAGS.GAPOVF (u : Nat) : Field := ⟨R.AQ_FLAGS u, 2, 1⟩
def AQ_FLAGS.OVERRUN (u : Nat) : Field := ⟨R.AQ_FLAGS u, 1, 1⟩
def AQ_FLAGS.TRIGD (u : Nat) : Field := ⟨R.AQ_FLAGS u, 0, 1⟩

/-! Fields of the cards of 09_interval_measurement.md. -/
def TDC_CFG.EN (u : Nat) : Field := ⟨R.TDC_CFG u, 31, 1⟩
def TDC_CFG.MODE (u : Nat) : Field := ⟨R.TDC_CFG u, 29, 2⟩
def TDC_CFG.FORCE64 (u : Nat) : Field := ⟨R.TDC_CFG u, 28, 1⟩
def TDC_CFG.PRESCALE (u : Nat) : Field := ⟨R.TDC_CFG u, 0, 8⟩
def TDC_INA.POL (u : Nat) : Field := ⟨R.TDC_INA u, 16, 2⟩
def TDC_INA.SRC (u : Nat) : Field := ⟨R.TDC_INA u, 8, 1⟩
def TDC_INA.CH (u : Nat) : Field := ⟨R.TDC_INA u, 0, 8⟩
def TDC_INB.POL (u : Nat) : Field := ⟨R.TDC_INB u, 16, 2⟩
def TDC_INB.SRC (u : Nat) : Field := ⟨R.TDC_INB u, 8, 1⟩
def TDC_INB.CH (u : Nat) : Field := ⟨R.TDC_INB u, 0, 8⟩
def TDC_COND.MINW (u : Nat) : Field := ⟨R.TDC_COND u, 24, 8⟩
def TDC_COND.HOLDOFF (u : Nat) : Field := ⟨R.TDC_COND u, 0, 16⟩
def TDC_STUCK.TIMEOUT (u : Nat) : Field := ⟨R.TDC_STUCK u, 0, 16⟩
def TDC_PERIODS.PERIODS (u : Nat) : Field := ⟨R.TDC_PERIODS u, 0, 16⟩
def TDC_STAT.STATE (u : Nat) : Field := ⟨R.TDC_STAT u, 28, 4⟩
def TDC_STAT.TIMEOUT (u : Nat) : Field := ⟨R.TDC_STAT u, 4, 1⟩
def TDC_STAT.STUCK (u : Nat) : Field := ⟨R.TDC_STAT u, 3, 1⟩
def TDC_STAT.OVERRUN (u : Nat) : Field := ⟨R.TDC_STAT u, 2, 1⟩
def TDC_STAT.FALLBACK (u : Nat) : Field := ⟨R.TDC_STAT u, 1, 1⟩
def TDC_STAT.FBSEEN (u : Nat) : Field := ⟨R.TDC_STAT u, 0, 1⟩
def TDC_IGN.NARROW (u : Nat) : Field := ⟨R.TDC_IGN u, 16, 16⟩
def TDC_IGN.HOLD (u : Nat) : Field := ⟨R.TDC_IGN u, 0, 16⟩

/-! Fields of the cards of 10_capture_processors.md. -/
def CPX_STAT.STATE (p : Nat) : Field := ⟨R.CPX_STAT p, 28, 4⟩
def CPX_STAT.OP (p : Nat) : Field := ⟨R.CPX_STAT p, 24, 4⟩
def CPX_STAT.JOBS (p : Nat) : Field := ⟨R.CPX_STAT p, 0, 16⟩
def CPX_AOV.LANES (p : Nat) : Field := ⟨R.CPX_AOV p, 0, 16⟩
def CPX_FLAGS.ESAT (p : Nat) : Field := ⟨R.CPX_FLAGS p, 2, 1⟩
def CPX_FLAGS.BSAT (p : Nat) : Field := ⟨R.CPX_FLAGS p, 1, 1⟩
def CPX_FLAGS.AOV (p : Nat) : Field := ⟨R.CPX_FLAGS p, 0, 1⟩
def CPX_CB_PEND.PTR (p k : Nat) : Field := ⟨R.CPX_CB_PEND p k, 2, 1⟩
def CPX_CB_PEND.LEN (p k : Nat) : Field := ⟨R.CPX_CB_PEND p k, 1, 1⟩
def CPX_CB_PEND.BASE (p k : Nat) : Field := ⟨R.CPX_CB_PEND p k, 0, 1⟩

/-! Fields of the cards of 11_memory.md. -/
def MEM_ACMD.OP : Field := ⟨R.MEM_ACMD, 16, 2⟩
def MEM_ACMD.INDEX : Field := ⟨R.MEM_ACMD, 0, 10⟩
def MEM_ARESULT.RESULT : Field := ⟨R.MEM_ARESULT, 0, 3⟩
def MEM_COLL.COUNT : Field := ⟨R.MEM_COLL, 16, 16⟩
def MEM_COLL.CLASS : Field := ⟨R.MEM_COLL, 0, 3⟩
def MEM_ECC.CORRECTED : Field := ⟨R.MEM_ECC, 16, 16⟩
def MEM_ECC.POISONED : Field := ⟨R.MEM_ECC, 0, 16⟩
def MEM_BIST_CFG.EN : Field := ⟨R.MEM_BIST_CFG, 31, 1⟩
def MEM_BIST_CFG.INTERVAL : Field := ⟨R.MEM_BIST_CFG, 0, 16⟩
def MEM_BIST_STAT.FAILS : Field := ⟨R.MEM_BIST_STAT, 24, 8⟩
def MEM_BIST_STAT.SKIPS : Field := ⟨R.MEM_BIST_STAT, 16, 8⟩
def MEM_BIST_STAT.YIELDS : Field := ⟨R.MEM_BIST_STAT, 0, 16⟩
def MEM_AT_SIZE.VALID (k : Nat) : Field := ⟨R.MEM_AT_SIZE k, 31, 1⟩
def MEM_AT_SIZE.PROT (k : Nat) : Field := ⟨R.MEM_AT_SIZE k, 30, 1⟩
def MEM_AT_SIZE.INUSE (k : Nat) : Field := ⟨R.MEM_AT_SIZE k, 29, 1⟩
def MEM_AT_SIZE.UNITS (k : Nat) : Field := ⟨R.MEM_AT_SIZE k, 0, 16⟩
def DRM_CFG.FENCED : Field := ⟨R.DRM_CFG, 24, 8⟩
def DRM_CFG.DENSITY : Field := ⟨R.DRM_CFG, 16, 2⟩
def DRM_CFG.RATE : Field := ⟨R.DRM_CFG, 0, 6⟩
def DRM_ACMD.OP : Field := ⟨R.DRM_ACMD, 16, 2⟩
def DRM_ACMD.INDEX : Field := ⟨R.DRM_ACMD, 0, 10⟩
def DRM_AW_BASE_HI.VALUE : Field := ⟨R.DRM_AW_BASE_HI, 0, 32⟩
def DRM_AW_CHMASK.MASK : Field := ⟨R.DRM_AW_CHMASK, 0, 8⟩
def DRM_ARESULT.RESULT : Field := ⟨R.DRM_ARESULT, 0, 3⟩
def DRM_PASR.KEEP : Field := ⟨R.DRM_PASR, 0, 8⟩
def DRM_DC_STAT.STATE (n : Nat) : Field := ⟨R.DRM_DC_STAT n, 28, 4⟩
def DRM_DC_STAT.CAUSE (n : Nat) : Field := ⟨R.DRM_DC_STAT n, 24, 4⟩
def DRM_DC_STAT.RESVGBS (n : Nat) : Field := ⟨R.DRM_DC_STAT n, 0, 16⟩
def DRM_DC_TRAIN.FAILS (n : Nat) : Field := ⟨R.DRM_DC_TRAIN n, 16, 16⟩
def DRM_DC_TRAIN.CONSEC (n : Nat) : Field := ⟨R.DRM_DC_TRAIN n, 0, 2⟩
def DRM_DC_CTRL.FENCE (n : Nat) : Field := ⟨R.DRM_DC_CTRL n, 1, 1⟩
def DRM_DC_CTRL.RESET (n : Nat) : Field := ⟨R.DRM_DC_CTRL n, 0, 1⟩
def DRM_DC_WQ.DRAINS (n : Nat) : Field := ⟨R.DRM_DC_WQ n, 16, 16⟩
def DRM_DC_WQ.DEPTH (n : Nat) : Field := ⟨R.DRM_DC_WQ n, 0, 7⟩

/-! Fields of the cards of 12_host_control.md. -/
def HIF_LINK.CAPGBS : Field := ⟨R.HIF_LINK, 16, 16⟩
def HIF_LINK.WIDTH : Field := ⟨R.HIF_LINK, 4, 4⟩
def HIF_LINK.RATE : Field := ⟨R.HIF_LINK, 0, 4⟩
def HIF_EVMAP.EN (k j : Nat) : Field := ⟨R.HIF_EVMAP k, 7 + 8 * j, 1⟩
def HIF_EVMAP.VEC (k j : Nat) : Field := ⟨R.HIF_EVMAP k, 8 * j, 6⟩
def HIF_RING_CFG.EN (k : Nat) : Field := ⟨R.HIF_RING_CFG k, 31, 1⟩
def HIF_RING_CFG.CQLOG2 (k : Nat) : Field := ⟨R.HIF_RING_CFG k, 8, 5⟩
def HIF_RING_CFG.SQLOG2 (k : Nat) : Field := ⟨R.HIF_RING_CFG k, 0, 5⟩
def HIF_RING_IRQ.COUNT (k : Nat) : Field := ⟨R.HIF_RING_IRQ k, 16, 16⟩
def HIF_RING_IRQ.USEC (k : Nat) : Field := ⟨R.HIF_RING_IRQ k, 0, 16⟩
def HIF_RING_STAT.STATE (k : Nat) : Field := ⟨R.HIF_RING_STAT k, 28, 4⟩
def HIF_RING_STAT.ERRCAUSE (k : Nat) : Field := ⟨R.HIF_RING_STAT k, 24, 4⟩
def HIF_RING_STAT.OUTSTANDING (k : Nat) : Field := ⟨R.HIF_RING_STAT k, 0, 17⟩
def HIF_RING_POS.CQTAIL (k : Nat) : Field := ⟨R.HIF_RING_POS k, 16, 16⟩
def HIF_RING_POS.SQHEAD (k : Nat) : Field := ⟨R.HIF_RING_POS k, 0, 16⟩
def HIF_BP_CTRL.SPACE (n : Nat) : Field := ⟨R.HIF_BP_CTRL n, 0, 2⟩
def HIF_BP_STAT.BUSY (n : Nat) : Field := ⟨R.HIF_BP_STAT n, 2, 1⟩
def HIF_BP_STAT.INVALID (n : Nat) : Field := ⟨R.HIF_BP_STAT n, 1, 1⟩
def HIF_BP_STAT.END (n : Nat) : Field := ⟨R.HIF_BP_STAT n, 0, 1⟩

/-! Fields of the cards of 13_flow_scheduler.md. -/
def SCH_STAT.FREE : Field := ⟨R.SCH_STAT, 16, 13⟩
def SCH_STAT.READY : Field := ⟨R.SCH_STAT, 0, 13⟩
def SCH_SLOTSEL.SLOT : Field := ⟨R.SCH_SLOTSEL, 0, 12⟩
def SCH_SLOTINFO.STATE : Field := ⟨R.SCH_SLOTINFO, 29, 3⟩
def SCH_SLOTINFO.FLOW : Field := ⟨R.SCH_SLOTINFO, 24, 5⟩
def SCH_SLOTINFO.OPCODE : Field := ⟨R.SCH_SLOTINFO, 16, 8⟩
def SCH_SLOTINFO.COUNT : Field := ⟨R.SCH_SLOTINFO, 0, 16⟩
def SCH_SLOTCTRL.CLRCREDIT : Field := ⟨R.SCH_SLOTCTRL, 0, 1⟩
def SCH_FLOW_CFG.CASCADE (k : Nat) : Field := ⟨R.SCH_FLOW_CFG k, 31, 1⟩
def SCH_FLOW_CFG.LIMIT (k : Nat) : Field := ⟨R.SCH_FLOW_CFG k, 0, 13⟩
def SCH_FLOW_STAT.CASCADED (k : Nat) : Field := ⟨R.SCH_FLOW_STAT k, 24, 8⟩
def SCH_FLOW_STAT.DLMISS (k : Nat) : Field := ⟨R.SCH_FLOW_STAT k, 16, 8⟩
def SCH_FLOW_STAT.HELD (k : Nat) : Field := ⟨R.SCH_FLOW_STAT k, 0, 13⟩

/-! Fields of the cards of 14_tack_and_reef.md. -/
def TCK_CTRL.CLRB : Field := ⟨R.TCK_CTRL, 9, 1⟩
def TCK_CTRL.CLRA : Field := ⟨R.TCK_CTRL, 8, 1⟩
def TCK_CTRL.WBANK : Field := ⟨R.TCK_CTRL, 0, 1⟩
def TCK_STAT.STATEA : Field := ⟨R.TCK_STAT, 28, 4⟩
def TCK_STAT.STATEB : Field := ⟨R.TCK_STAT, 24, 4⟩
def TCK_STAT.COMMITS : Field := ⟨R.TCK_STAT, 0, 16⟩
def TCK_PEND.PENDING : Field := ⟨R.TCK_PEND, 31, 1⟩
def TCK_PEND.BANK : Field := ⟨R.TCK_PEND, 30, 1⟩
def TCK_PEND.WHEN : Field := ⟨R.TCK_PEND, 28, 2⟩
def TCK_PEND.SG : Field := ⟨R.TCK_PEND, 0, 6⟩
def TCK_ERR.CHECK : Field := ⟨R.TCK_ERR, 28, 4⟩
def TCK_ERR.OFFSET : Field := ⟨R.TCK_ERR, 0, 26⟩
def TCK_PEEK_ADDR.BANK : Field := ⟨R.TCK_PEEK_ADDR, 31, 1⟩
def TCK_PEEK_ADDR.SPACE : Field := ⟨R.TCK_PEEK_ADDR, 26, 3⟩
def TCK_PEEK_ADDR.OFFSET : Field := ⟨R.TCK_PEEK_ADDR, 0, 26⟩
def TCK_PEEK_STAT.STAGED : Field := ⟨R.TCK_PEEK_STAT, 0, 1⟩
def REEF_BUDGET.UNITS : Field := ⟨R.REEF_BUDGET, 0, 16⟩
def REEF_BASE.UNITS : Field := ⟨R.REEF_BASE, 0, 16⟩
def REEF_GRANTED.QUEUED : Field := ⟨R.REEF_GRANTED, 16, 16⟩
def REEF_GRANTED.UNITS : Field := ⟨R.REEF_GRANTED, 0, 16⟩
def REEF_QWAIT.USEC : Field := ⟨R.REEF_QWAIT, 0, 16⟩
def REEF_ALARM.ACTIVE : Field := ⟨R.REEF_ALARM, 31, 1⟩
def REEF_ALARM.SEEN : Field := ⟨R.REEF_ALARM, 30, 1⟩
def REEF_ALARM.DRIVING : Field := ⟨R.REEF_ALARM, 29, 1⟩
def REEF_ALARM.TEMP : Field := ⟨R.REEF_ALARM, 16, 8⟩
def REEF_ALARM.BUDGET : Field := ⟨R.REEF_ALARM, 0, 16⟩
def REEF_RESV.GBS : Field := ⟨R.REEF_RESV, 0, 16⟩
def REEF_REFUSED.BW : Field := ⟨R.REEF_REFUSED, 16, 16⟩
def REEF_REFUSED.POWER : Field := ⟨R.REEF_REFUSED, 0, 16⟩
def REEF_TEMP.SENSOR : Field := ⟨R.REEF_TEMP, 8, 4⟩
def REEF_TEMP.MAX : Field := ⟨R.REEF_TEMP, 0, 8⟩

/-! Fields of the cards of 15_alapel_links.md. -/
def LNK_P_CFG.EN (p : Nat) : Field := ⟨R.LNK_P_CFG p, 31, 1⟩
def LNK_P_CFG.AUTOTX (p : Nat) : Field := ⟨R.LNK_P_CFG p, 30, 1⟩
def LNK_P_CFG.RETRAIN (p : Nat) : Field := ⟨R.LNK_P_CFG p, 29, 1⟩
def LNK_P_CFG.PRESET (p : Nat) : Field := ⟨R.LNK_P_CFG p, 24, 3⟩
def LNK_P_CFG.FWD (p : Nat) : Field := ⟨R.LNK_P_CFG p, 20, 4⟩
def LNK_P_CFG.FAILOUT (p : Nat) : Field := ⟨R.LNK_P_CFG p, 16, 1⟩
def LNK_P_CFG.OUTSTREAM (p : Nat) : Field := ⟨R.LNK_P_CFG p, 14, 2⟩
def LNK_P_CFG.FAILIN (p : Nat) : Field := ⟨R.LNK_P_CFG p, 8, 1⟩
def LNK_P_CFG.INSTREAM (p : Nat) : Field := ⟨R.LNK_P_CFG p, 6, 2⟩
def LNK_P_STAT.STATE (p : Nat) : Field := ⟨R.LNK_P_STAT p, 28, 4⟩
def LNK_P_STAT.ATTACHED (p : Nat) : Field := ⟨R.LNK_P_STAT p, 27, 1⟩
def LNK_P_STAT.LANEREV (p : Nat) : Field := ⟨R.LNK_P_STAT p, 26, 1⟩
def LNK_P_STAT.IDCLASH (p : Nat) : Field := ⟨R.LNK_P_STAT p, 25, 1⟩
def LNK_P_STAT.TXPRESET (p : Nat) : Field := ⟨R.LNK_P_STAT p, 20, 3⟩
def LNK_P_STAT.RXPRESET (p : Nat) : Field := ⟨R.LNK_P_STAT p, 16, 3⟩
def LNK_P_STAT.RETRAINS (p : Nat) : Field := ⟨R.LNK_P_STAT p, 0, 16⟩
def LNK_P_PART_ID.ID (p : Nat) : Field := ⟨R.LNK_P_PART_ID p, 16, 16⟩
def LNK_P_PART_ID.PORT (p : Nat) : Field := ⟨R.LNK_P_PART_ID p, 14, 2⟩
def LNK_P_PART_ID.GRADE (p : Nat) : Field := ⟨R.LNK_P_PART_ID p, 8, 4⟩
def LNK_P_PART_ID.STEPPING (p : Nat) : Field := ⟨R.LNK_P_PART_ID p, 0, 8⟩
def LNK_P_ERR.CRC (p : Nat) : Field := ⟨R.LNK_P_ERR p, 16, 16⟩
def LNK_P_ERR.CODE (p : Nat) : Field := ⟨R.LNK_P_ERR p, 0, 16⟩
def LNK_P_SYNC.LATE (p : Nat) : Field := ⟨R.LNK_P_SYNC p, 24, 8⟩
def LNK_P_SYNC.DUP (p : Nat) : Field := ⟨R.LNK_P_SYNC p, 16, 8⟩
def LNK_P_SYNC.TXDROP (p : Nat) : Field := ⟨R.LNK_P_SYNC p, 8, 8⟩
def LNK_P_FAIL.TXDROP (p : Nat) : Field := ⟨R.LNK_P_FAIL p, 16, 16⟩
def LNK_P_FAIL.GAPS (p : Nat) : Field := ⟨R.LNK_P_FAIL p, 8, 8⟩
def LNK_P_FAIL.CREDITS (p : Nat) : Field := ⟨R.LNK_P_FAIL p, 0, 8⟩
def LNK_P_EYE_CTRL.START (p : Nat) : Field := ⟨R.LNK_P_EYE_CTRL p, 31, 1⟩
def LNK_P_EYE_CTRL.BUSY (p : Nat) : Field := ⟨R.LNK_P_EYE_CTRL p, 30, 1⟩
def LNK_P_EYE_CTRL.LANE (p : Nat) : Field := ⟨R.LNK_P_EYE_CTRL p, 28, 2⟩
def LNK_P_EYE_CTRL.DWELL (p : Nat) : Field := ⟨R.LNK_P_EYE_CTRL p, 22, 6⟩
def LNK_P_EYE_CTRL.VOFF (p : Nat) : Field := ⟨R.LNK_P_EYE_CTRL p, 8, 6⟩
def LNK_P_EYE_CTRL.POFF (p : Nat) : Field := ⟨R.LNK_P_EYE_CTRL p, 0, 6⟩
def LNK_ID.ID : Field := ⟨R.LNK_ID, 0, 16⟩
def PEM_Q_CFG.EN (q : Nat) : Field := ⟨R.PEM_Q_CFG q, 31, 1⟩
def PEM_Q_CFG.POLL (q : Nat) : Field := ⟨R.PEM_Q_CFG q, 0, 8⟩
def PEM_Q_BIND.SLOT (q w j : Nat) : Field := ⟨R.PEM_Q_BIND q w, 4 * j, 4⟩
def PEM_Q_UNK.COUNT (q : Nat) : Field := ⟨R.PEM_Q_UNK q, 24, 8⟩
def PEM_Q_UNK.MDB (q : Nat) : Field := ⟨R.PEM_Q_UNK q, 8, 8⟩
def PEM_Q_UNK.DA (q : Nat) : Field := ⟨R.PEM_Q_UNK q, 0, 7⟩
def PEM_Q_IBI.COUNT (q : Nat) : Field := ⟨R.PEM_Q_IBI q, 24, 8⟩
def PEM_Q_IBI.MDB (q : Nat) : Field := ⟨R.PEM_Q_IBI q, 8, 8⟩
def PEM_Q_IBI.DA (q : Nat) : Field := ⟨R.PEM_Q_IBI q, 0, 7⟩
def PEM_Q_XCTL.START (q : Nat) : Field := ⟨R.PEM_Q_XCTL q, 31, 1⟩
def PEM_Q_XCTL.BUSY (q : Nat) : Field := ⟨R.PEM_Q_XCTL q, 30, 1⟩
def PEM_Q_XCTL.STATUS (q : Nat) : Field := ⟨R.PEM_Q_XCTL q, 28, 2⟩
def PEM_Q_XCTL.READ (q : Nat) : Field := ⟨R.PEM_Q_XCTL q, 24, 1⟩
def PEM_Q_XCTL.LEN (q : Nat) : Field := ⟨R.PEM_Q_XCTL q, 16, 6⟩
def PEM_Q_XCTL.DA (q : Nat) : Field := ⟨R.PEM_Q_XCTL q, 0, 7⟩
def PEM_Q_SLOT_PID_HI.PID (q s : Nat) : Field := ⟨R.PEM_Q_SLOT_PID_HI q s, 0, 16⟩
def PEM_Q_SLOT_STAT.STATE (q s : Nat) : Field := ⟨R.PEM_Q_SLOT_STAT q s, 28, 4⟩
def PEM_Q_SLOT_STAT.DCR (q s : Nat) : Field := ⟨R.PEM_Q_SLOT_STAT q s, 16, 8⟩
def PEM_Q_SLOT_STAT.BCR (q s : Nat) : Field := ⟨R.PEM_Q_SLOT_STAT q s, 8, 8⟩
def PEM_Q_SLOT_STAT.DA (q s : Nat) : Field := ⟨R.PEM_Q_SLOT_STAT q s, 0, 7⟩
def PEM_Q_SLOT_CTRL.RELEASE (q s : Nat) : Field := ⟨R.PEM_Q_SLOT_CTRL q s, 0, 1⟩

/-! Fields of the cards of 16_device_time.md. -/
def TIM_CFG.JUMPMAX : Field := ⟨R.TIM_CFG, 16, 16⟩
def TIM_CFG.RELOCK : Field := ⟨R.TIM_CFG, 8, 1⟩
def TIM_CFG.PRIO : Field := ⟨R.TIM_CFG, 0, 8⟩
def TIM_CTRL.ACCEPT : Field := ⟨R.TIM_CTRL, 1, 1⟩
def TIM_CTRL.SET : Field := ⟨R.TIM_CTRL, 0, 1⟩
def TIM_STAT.STATE : Field := ⟨R.TIM_STAT, 28, 4⟩
def TIM_STAT.UPPORT : Field := ⟨R.TIM_STAT, 26, 2⟩
def TIM_STAT.HOPS : Field := ⟨R.TIM_STAT, 22, 4⟩
def TIM_STAT.STEPPEND : Field := ⟨R.TIM_STAT, 21, 1⟩
def TIM_STAT.JUMPREF : Field := ⟨R.TIM_STAT, 20, 1⟩
def TIM_STAT.REFUSALS : Field := ⟨R.TIM_STAT, 0, 16⟩
def TIM_MEAS.DELAY : Field := ⟨R.TIM_MEAS, 16, 16⟩
def TIM_MEAS.RESID : Field := ⟨R.TIM_MEAS, 0, 16⟩
def TIM_P_TXQ.OVF (p : Nat) : Field := ⟨R.TIM_P_TXQ p, 24, 8⟩
def TIM_P_TXQ.NOMATCH (p : Nat) : Field := ⟨R.TIM_P_TXQ p, 16, 8⟩
def TIM_P_TXQ.BADEX (p : Nat) : Field := ⟨R.TIM_P_TXQ p, 8, 8⟩
def TIM_P_TXQ.DEPTH (p : Nat) : Field := ⟨R.TIM_P_TXQ p, 0, 5⟩
def TIM_TTINCNT.CNT1 : Field := ⟨R.TIM_TTINCNT, 16, 16⟩
def TIM_TTINCNT.CNT0 : Field := ⟨R.TIM_TTINCNT, 0, 16⟩
def TT_CFG.EN (n : Nat) : Field := ⟨R.TT_CFG n, 31, 1⟩
def TT_CFG.MODE (n : Nat) : Field := ⟨R.TT_CFG n, 30, 1⟩
def TT_CFG.OUTEN (n : Nat) : Field := ⟨R.TT_CFG n, 29, 1⟩
def TT_CFG.POL (n : Nat) : Field := ⟨R.TT_CFG n, 28, 1⟩
def TT_CFG.WIDTH (n : Nat) : Field := ⟨R.TT_CFG n, 0, 16⟩
def TT_STAT.FIRED (n : Nat) : Field := ⟨R.TT_STAT n, 16, 16⟩
def TT_STAT.MISSED (n : Nat) : Field := ⟨R.TT_STAT n, 8, 8⟩

/-! Fields of the cards of 17_calibration.md. -/
def CAL_RUN.START : Field := ⟨R.CAL_RUN, 31, 1⟩
def CAL_RUN.ABORT : Field := ⟨R.CAL_RUN, 30, 1⟩
def CAL_RUN.BANKS : Field := ⟨R.CAL_RUN, 0, 16⟩
def CAL_RUNSTAT.STATE : Field := ⟨R.CAL_RUNSTAT, 28, 4⟩
def CAL_RUNSTAT.SLOT : Field := ⟨R.CAL_RUNSTAT, 24, 4⟩
def CAL_RUNSTAT.COMMITTED : Field := ⟨R.CAL_RUNSTAT, 0, 16⟩
def CAL_BANKRES.RES (w j : Nat) : Field := ⟨R.CAL_BANKRES w, 4 * j, 4⟩
def CAL_BANKERR.RESULT : Field := ⟨R.CAL_BANKERR, 28, 4⟩
def CAL_BANKERR.BANK : Field := ⟨R.CAL_BANKERR, 24, 4⟩
def CAL_BANKERR.CH : Field := ⟨R.CAL_BANKERR, 16, 8⟩
def CAL_BANKERR.QTY : Field := ⟨R.CAL_BANKERR, 12, 4⟩
def CAL_BANKERR.EDGE : Field := ⟨R.CAL_BANKERR, 8, 4⟩
def CAL_SET_INFO.SOURCE (k : Nat) : Field := ⟨R.CAL_SET_INFO k, 30, 2⟩
def CAL_SET_INFO.BANKS (k : Nat) : Field := ⟨R.CAL_SET_INFO k, 0, 16⟩
def CAL_SETSEL.SLOT : Field := ⟨R.CAL_SETSEL, 0, 3⟩
def CAL_SETTEMP.TEMPODD (w : Nat) : Field := ⟨R.CAL_SETTEMP w, 16, 16⟩
def CAL_SETTEMP.TEMPEVEN (w : Nat) : Field := ⟨R.CAL_SETTEMP w, 0, 16⟩
def CAL_BANKSTAT.NOCAL (b : Nat) : Field := ⟨R.CAL_BANKSTAT b, 31, 1⟩
def CAL_BANKSTAT.OUTSIDE (b : Nat) : Field := ⟨R.CAL_BANKSTAT b, 30, 1⟩
def CAL_BANKSTAT.TEMP (b : Nat) : Field := ⟨R.CAL_BANKSTAT b, 0, 16⟩
def CAL_DEVSKEW.SKEW : Field := ⟨R.CAL_DEVSKEW, 0, 16⟩
def CAL_PEEKSEL.CH : Field := ⟨R.CAL_PEEKSEL, 8, 8⟩
def CAL_PEEKSEL.QTY : Field := ⟨R.CAL_PEEKSEL, 0, 4⟩

/-! Fields of the cards of 18_faults_and_backstay.md. -/
def FLT_SRCSEL.SOURCE : Field := ⟨R.FLT_SRCSEL, 0, 10⟩
def FLT_SRCCFG.ESCCHIP : Field := ⟨R.FLT_SRCCFG, 6, 1⟩
def FLT_SRCCFG.FAULTOUT : Field := ⟨R.FLT_SRCCFG, 5, 1⟩
def FLT_SRCCFG.CHIP : Field := ⟨R.FLT_SRCCFG, 4, 1⟩
def FLT_SRCCFG.FENCE : Field := ⟨R.FLT_SRCCFG, 3, 1⟩
def FLT_SRCCFG.RESET : Field := ⟨R.FLT_SRCCFG, 2, 1⟩
def FLT_SRCCFG.NMI : Field := ⟨R.FLT_SRCCFG, 1, 1⟩
def FLT_SRCCFG.EVENT : Field := ⟨R.FLT_SRCCFG, 0, 1⟩
def FLT_SRCSTAT.STICKY : Field := ⟨R.FLT_SRCSTAT, 31, 1⟩
def FLT_SRCSTAT.WINDOW : Field := ⟨R.FLT_SRCSTAT, 30, 1⟩
def FLT_SRCSTAT.FENCED : Field := ⟨R.FLT_SRCSTAT, 29, 1⟩
def FLT_SRCSTAT.COUNT : Field := ⟨R.FLT_SRCSTAT, 0, 16⟩
def FLT_CTRL.UNFENCE : Field := ⟨R.FLT_CTRL, 2, 1⟩
def FLT_CTRL.CLRFIRST : Field := ⟨R.FLT_CTRL, 1, 1⟩
def FLT_CTRL.RELEASE : Field := ⟨R.FLT_CTRL, 0, 1⟩
def FLT_STAT.FAULTOUT : Field := ⟨R.FLT_STAT, 31, 1⟩
def FLT_STAT.JOURNAL : Field := ⟨R.FLT_STAT, 16, 8⟩
def FLT_STAT.REPLAYS : Field := ⟨R.FLT_STAT, 8, 8⟩
def FLT_STAT.FAILED : Field := ⟨R.FLT_STAT, 0, 8⟩
def FLT_INJECT.KIND : Field := ⟨R.FLT_INJECT, 10, 6⟩
def FLT_INJECT.SOURCE : Field := ⟨R.FLT_INJECT, 0, 10⟩
def BKS_CFG.PORT : Field := ⟨R.BKS_CFG, 4, 2⟩
def BKS_CFG.ROLE : Field := ⟨R.BKS_CFG, 0, 2⟩
def BKS_STAT.PSEL : Field := ⟨R.BKS_STAT, 16, 16⟩
def BKS_STAT.DISAGREE : Field := ⟨R.BKS_STAT, 8, 8⟩
def BKS_STAT.LASTSG : Field := ⟨R.BKS_STAT, 0, 6⟩
def BKS_CTRL.RESTORE : Field := ⟨R.BKS_CTRL, 0, 16⟩
def BKS_SGSTAT.PAIRED (k : Nat) : Field := ⟨R.BKS_SGSTAT k, 31, 1⟩
def BKS_SGSTAT.DISAGREE (k : Nat) : Field := ⟨R.BKS_SGSTAT k, 30, 1⟩
def BKS_SGSTAT.HANDED (k : Nat) : Field := ⟨R.BKS_SGSTAT k, 29, 1⟩
def BKS_SGSTAT.CARRIED (k : Nat) : Field := ⟨R.BKS_SGSTAT k, 28, 1⟩
def BKS_SGSTAT.SINGLE (k : Nat) : Field := ⟨R.BKS_SGSTAT k, 27, 1⟩
def BKS_SGSTAT.PLOST (k : Nat) : Field := ⟨R.BKS_SGSTAT k, 26, 1⟩
def BKS_SGSTAT.NOARM (k : Nat) : Field := ⟨R.BKS_SGSTAT k, 25, 1⟩
def BKS_SGSTAT.PBURST (k : Nat) : Field := ⟨R.BKS_SGSTAT k, 0, 16⟩

/-! Fields of the cards of 19_shroud_security.md. -/
def SHR_STAT.LIFECYCLE : Field := ⟨R.SHR_STAT, 28, 4⟩
def SHR_STAT.DEBUG : Field := ⟨R.SHR_STAT, 24, 4⟩
def SHR_STAT.IDENT : Field := ⟨R.SHR_STAT, 23, 1⟩
def SHR_STAT.ERASING : Field := ⟨R.SHR_STAT, 22, 1⟩
def SHR_STAT.FWCOPY : Field := ⟨R.SHR_STAT, 21, 1⟩
def SHR_STAT.LCPEND : Field := ⟨R.SHR_STAT, 20, 1⟩
def SHR_FWSVN.COMMIT_BUSY : Field := ⟨R.SHR_FWSVN, 31, 1⟩
def SHR_FWSVN.FUSED_MIN : Field := ⟨R.SHR_FWSVN, 16, 7⟩
def SHR_FWSVN.RUNNING : Field := ⟨R.SHR_FWSVN, 0, 16⟩
def SHR_CTRL.CONFIRM : Field := ⟨R.SHR_CTRL, 16, 16⟩
def SHR_CTRL.RETURN : Field := ⟨R.SHR_CTRL, 2, 1⟩
def SHR_CTRL.DEPLOY : Field := ⟨R.SHR_CTRL, 1, 1⟩
def SHR_CTRL.COMMIT_FWSVN : Field := ⟨R.SHR_CTRL, 0, 1⟩
def SHR_ATT_CTRL.START : Field := ⟨R.SHR_ATT_CTRL, 31, 1⟩
def SHR_ATT_CTRL.BUSY : Field := ⟨R.SHR_ATT_CTRL, 30, 1⟩
def SHR_ATT_CTRL.RESULT : Field := ⟨R.SHR_ATT_CTRL, 28, 2⟩
def SHR_DBG_CTRL.OPEN : Field := ⟨R.SHR_DBG_CTRL, 31, 1⟩
def SHR_DBG_CTRL.CLOSE : Field := ⟨R.SHR_DBG_CTRL, 30, 1⟩
def SHR_DBG_CTRL.BUSY : Field := ⟨R.SHR_DBG_CTRL, 29, 1⟩
def SHR_DBG_CTRL.RESULT : Field := ⟨R.SHR_DBG_CTRL, 24, 4⟩
def SHR_AUTHFAIL.DEBUG : Field := ⟨R.SHR_AUTHFAIL, 16, 16⟩
def SHR_AUTHFAIL.LOAD : Field := ⟨R.SHR_AUTHFAIL, 0, 16⟩

/-! Fields of the cards of 20_crows_nest.md. -/
def CNS_GCTRL.CLRALL : Field := ⟨R.CNS_GCTRL, 1, 1⟩
def CNS_GCTRL.RUN : Field := ⟨R.CNS_GCTRL, 0, 1⟩
def CNS_ACCESS.SERVICE : Field := ⟨R.CNS_ACCESS, 1, 1⟩
def CNS_ACCESS.USER : Field := ⟨R.CNS_ACCESS, 0, 1⟩
def CNS_OVF.WRAPPED : Field := ⟨R.CNS_OVF, 0, 8⟩
def CNS_CTR_CFG.EN (k : Nat) : Field := ⟨R.CNS_CTR_CFG k, 31, 1⟩
def CNS_CTR_CFG.MODE (k : Nat) : Field := ⟨R.CNS_CTR_CFG k, 30, 1⟩
def CNS_CTR_CFG.SAMPLE (k : Nat) : Field := ⟨R.CNS_CTR_CFG k, 29, 1⟩
def CNS_CTR_CFG.ENGINE (k : Nat) : Field := ⟨R.CNS_CTR_CFG k, 16, 6⟩
def CNS_CTR_CFG.EVENT (k : Nat) : Field := ⟨R.CNS_CTR_CFG k, 0, 9⟩
def CNS_CTR_HI.COUNT (k : Nat) : Field := ⟨R.CNS_CTR_HI k, 0, 16⟩
def CNS_SAMPSTAT.VALID : Field := ⟨R.CNS_SAMPSTAT, 31, 1⟩
def CNS_SAMPSTAT.CTRS : Field := ⟨R.CNS_SAMPSTAT, 16, 8⟩
def CNS_SAMPSTAT.LOST : Field := ⟨R.CNS_SAMPSTAT, 0, 16⟩
def CNS_SAMP_IA.ENGINE : Field := ⟨R.CNS_SAMP_IA, 24, 6⟩
def CNS_SAMP_IA.IA : Field := ⟨R.CNS_SAMP_IA, 0, 24⟩
def CNS_BWCFG.EN : Field := ⟨R.CNS_BWCFG, 31, 1⟩
def CNS_BWCFG.WIN : Field := ⟨R.CNS_BWCFG, 0, 16⟩

/-! Fields of the cards of 21_startup_and_register_map.md. -/
def SYS_BOOT_STATE.STATE : Field := ⟨R.SYS_BOOT_STATE, 28, 4⟩
def SYS_BOOT_STATE.REACHED : Field := ⟨R.SYS_BOOT_STATE, 24, 4⟩
def SYS_BOOT_STATE.ATTEMPTS : Field := ⟨R.SYS_BOOT_STATE, 16, 8⟩
def SYS_BOOT_STATE.DCFENCED : Field := ⟨R.SYS_BOOT_STATE, 8, 8⟩
def SYS_BOOT_STATE.BOOTMS : Field := ⟨R.SYS_BOOT_STATE, 0, 8⟩
def SYS_RESETCAUSE.CAUSE : Field := ⟨R.SYS_RESETCAUSE, 28, 4⟩
def SYS_RESETCAUSE.STATE : Field := ⟨R.SYS_RESETCAUSE, 24, 4⟩
def SYS_RESETCAUSE.SOURCE : Field := ⟨R.SYS_RESETCAUSE, 0, 10⟩
def SYS_CTRL.CONFIRM : Field := ⟨R.SYS_CTRL, 16, 16⟩
def SYS_CTRL.CLRATT : Field := ⟨R.SYS_CTRL, 3, 1⟩
def SYS_CTRL.CATRAIN : Field := ⟨R.SYS_CTRL, 2, 1⟩
def SYS_CTRL.TEST : Field := ⟨R.SYS_CTRL, 1, 1⟩
def SYS_CTRL.CHIP : Field := ⟨R.SYS_CTRL, 0, 1⟩
def SYS_PWR.STATE : Field := ⟨R.SYS_PWR, 28, 4⟩
def SYS_PWR.RESULT : Field := ⟨R.SYS_PWR, 26, 2⟩
def SYS_PWR.PENDING : Field := ⟨R.SYS_PWR, 25, 1⟩
def SYS_PWR.REQ : Field := ⟨R.SYS_PWR, 0, 2⟩
def SYS_FLASH_CTRL.GO : Field := ⟨R.SYS_FLASH_CTRL, 31, 1⟩
def SYS_FLASH_CTRL.BUSY : Field := ⟨R.SYS_FLASH_CTRL, 30, 1⟩
def SYS_FLASH_CTRL.RESULT : Field := ⟨R.SYS_FLASH_CTRL, 28, 2⟩
def SYS_FLASH_CTRL.OP : Field := ⟨R.SYS_FLASH_CTRL, 24, 2⟩
def SYS_FLASH_CTRL.LEN : Field := ⟨R.SYS_FLASH_CTRL, 0, 9⟩

end Sys2Proof.F
end

