-- ==== Sys2Proof/Machine/Sparse.lean ====
section
/-! DEFINITION. Sparse maps: lists of (key, value) with strictly rising keys. Every addressed store of the machine
(registers, stage banks, tables, memories, per-unit records) is one, with a default for keys it does not list, so that
equal contents are equal data. -/
namespace Sys2Proof.Sparse

/-- The value listed at a key, if one is. -/
def find? {V : Type} : List (Nat × V) → Nat → Option V
  | [], _ => none
  | (j, v) :: t, k => if k = j then some v else if k < j then none else find? t k

/-- Drop the leading entries up to a key: none where keys rise strictly from above it. With it the laws of reading after writing hold
of every list, canonical or not. -/
def dropTo {V : Type} (k : Nat) : List (Nat × V) → List (Nat × V)
  | [] => []
  | (j, w) :: t => if j ≤ k then dropTo k t else (j, w) :: t

/-- List a value at a key, replacing the one listed there. -/
def insert {V : Type} : List (Nat × V) → Nat → V → List (Nat × V)
  | [], k, v => [(k, v)]
  | (j, w) :: t, k, v =>
    if k = j then (k, v) :: dropTo k t else if k < j then (k, v) :: (j, w) :: t else (j, w) :: insert t k v

/-- Unlist a key. -/
def erase {V : Type} : List (Nat × V) → Nat → List (Nat × V)
  | [], _ => []
  | (j, w) :: t, k => if k = j then dropTo k t else if k < j then (j, w) :: t else (j, w) :: erase t k

/-- The value at a key: the listed one, else the default. -/
def get {V : Type} (d : Nat → V) (m : List (Nat × V)) (k : Nat) : V := (find? m k).getD (d k)

/-- Write a value at a key; writing the default unlists the key. -/
def set {V : Type} [DecidableEq V] (d : Nat → V) (m : List (Nat × V)) (k : Nat) (v : V) : List (Nat × V) :=
  if v = d k then erase m k else insert m k v

/-- Write consecutive values from a key on. -/
def setMany {V : Type} [DecidableEq V] (d : Nat → V) : List (Nat × V) → Nat → List V → List (Nat × V)
  | m, _, [] => m
  | m, k, v :: t => setMany d (set d m k v) (k + 1) t

/-- Read consecutive values from a key on. -/
def getMany {V : Type} (d : Nat → V) (m : List (Nat × V)) : Nat → Nat → List V
  | _, 0 => []
  | k, n + 1 => get d m k :: getMany d m (k + 1) n

/-- The entries whose keys rise strictly from a bound: all of them in the canonical form. -/
def rise {V : Type} : Nat → List (Nat × V) → List (Nat × V)
  | _, [] => []
  | b, (k, v) :: t => if b ≤ k then (k, v) :: rise (k + 1) t else rise b t

/-- Unlist every key of [lo, hi): it reads as the default again. -/
def eraseRange {V : Type} (m : List (Nat × V)) (lo hi : Nat) : List (Nat × V) :=
  (rise 0 m).filter fun p => !(decide (lo ≤ p.1) && decide (p.1 < hi))

/-- The entries listed in [lo, hi). -/
def entriesIn {V : Type} (m : List (Nat × V)) (lo hi : Nat) : List (Nat × V) :=
  m.filter fun p => decide (lo ≤ p.1) && decide (p.1 < hi)

/-- Keys rise strictly above a bound. -/
def risingFrom {V : Type} : Nat → List (Nat × V) → Bool
  | _, [] => true
  | b, (k, _) :: t => decide (b ≤ k) && risingFrom (k + 1) t

/-- The canonical form: keys rise strictly and no listed value is the default of its key. -/
def wf {V : Type} [DecidableEq V] (d : Nat → V) (m : List (Nat × V)) : Bool :=
  risingFrom 0 m && m.all fun p => !(decide (p.2 = d p.1))

end Sys2Proof.Sparse
end

