-- ==== Sys2Proof/Machine/State.lean ====
section
/-! DEFINITION. The state of the LRV-9256: every register, buffer, counter, mode and pin the spec names, as plain data,
the queue of waiting commands, the outcomes' reasons and the state after reset. -/
namespace Sys2Proof.Machine

/-- A store with strictly rising keys (Machine/Sparse.lean). -/
abbrev SMap (V : Type) := List (Nat × V)

/-- What the part is: fixed at manufacture, read after every reset (00_scope.md, SYS_PART_ID; R2, R90, R348). -/
structure Part where
  grade16 : Bool
  stepping : Nat
  uid : Nat
  romVersion : Nat
deriving DecidableEq, Repr

/-- A fault message on its way to the collector (R381), with the core cycle in which it arrives. -/
structure FaultMsg where
  cycle : Nat
  src : Nat
  kind : Nat
  addr : Nat
deriving DecidableEq, Repr


/-- A reservation of GDDR7 bandwidth in force (R23, R250): its owner, the controllers charged, and its rate in MB/s. -/
structure Resv where
  owner : Nat
  chmask : Nat
  mbps : Nat
deriving DecidableEq, Repr

/-- A task's state (R288). -/
inductive TaskState where
  | empty | waiting | ready | checking | running | finished
deriving DecidableEq, Repr

/-- A task slot (R288–R303): the task it holds, or its credits when empty. -/
structure Task where
  state : TaskState
  /-- dependence counter, or credits when empty (R290, R291) -/
  count : Nat
  /-- the 64 descriptor bytes as one little-endian number (R271) -/
  desc : Nat
  ring : Nat
  /-- submission order (R296) -/
  order : Nat
  /-- core cycle in which the task became READY (R295) -/
  readyAt : Nat
  /-- dispatch instant in 2^-32 ns of device time (R289) -/
  dispatch : Nat
  /-- move engine that runs it -/
  engine : Nat
  /-- Reef units held (R315) -/
  grant : Nat
  /-- the work has ended with this status, detail and result, not yet FINISHED (R290) -/
  done : Option (Nat × Nat × Nat)
  status : Nat
  detail : Nat
  result : Nat
  /-- a write of the task lost a collision (R237) -/
  collided : Bool
  /-- the task is being replayed (R303) -/
  replay : Bool
  /-- the task has been replayed once (R393) -/
  replayed : Bool
  /-- journal copy of the inputs its progress can change (R391): accumulators and AOV of a DSP job; the bank
  of a TABLE_WRITE (R306) -/
  journal : List Nat
  /-- bytes a move engine has done (R298) -/
  moved : Nat
  /-- a cancel found the task WAITING (R292) -/
  waited : Bool
deriving DecidableEq, Repr

/-- An empty slot without credits. -/
def Task.none : Task :=
  ⟨.empty, 0, 0, 0, 0, 0, 0, 0, 0, Option.none, 0, 0, 0, false, false, false, [], 0, false⟩

/-- A CANCEL whose completion waits for its target's release (R276). -/
structure CancelWait where
  target : Nat
  desc : Nat
  ring : Nat
  /-- it has acted on its target -/
  acted : Bool
  /-- core cycle in which the target was released -/
  released : Option Nat
deriving DecidableEq, Repr

/-- A cascade cancel due in the next core cycle (R293): the cycle of the finish and the slots it names. -/
structure Cascade where
  cycle : Nat
  /-- the WAITING tasks then named: slot and submission order -/
  slots : List (Nat × Nat)
deriving DecidableEq, Repr

/-- The completion write made last on a ring (R270): where, the bytes it replaced and its TAG. -/
structure CqWrite where
  addr : Nat
  old : List Byte
  tag : Nat
deriving DecidableEq, Repr

/-- A ring pair's state beside its registers (R265, R267, R278, R285). -/
structure Ring where
  sqTail : Nat
  /-- core cycle of the latest SQ_TAIL doorbell, and the tail from before that cycle's doorbells (R269) -/
  tailAt : Option Nat
  tailWas : Nat
  cqHead : Nat
  phase : Bool
  unreleased : Nat
  since : Nat
  oldest : Nat
  last : Option CqWrite
deriving DecidableEq, Repr

/-- A ring that has never been enabled. -/
def Ring.off : Ring := ⟨0, none, 0, 0, false, 0, 0, 0, none⟩

/-- A fault source's state beside FLT_STICKY (R383, R387, R388, R390). -/
structure FaultSrc where
  cfg : Nat
  count : Nat
  record : Nat
  window : Bool
  fenced : Bool
  /-- a block reset is running since this core cycle (R383) -/
  resetting : Option Nat
  /-- a self-check is running since this core cycle (R387) -/
  checking : Option Nat
  /-- the latest message registered, with its core cycle (R388) -/
  latest : Option (Nat × Nat)
deriving DecidableEq, Repr

/-- A reaction due in the core cycle after registration (R383): source, its configured bits, repeat of a sticky fault. -/
structure Reaction where
  /-- core cycle of registration -/
  cycle : Nat
  src : Nat
  cfg : Nat
  again : Bool
deriving DecidableEq, Repr

/-- A TACK task in CHECKING or RUNNING (R309, R310). -/
structure TackJob where
  slot : Nat
  bank : Nat
  passed : Bool
  checkEnd : Nat
  /-- WHEN = 1: the values of group SG have taken effect at cycle b -/
  applied : Bool
  /-- groups whose burst started at the commit instant of WHEN = 2 and took their values with cycle 0 (R25) -/
  met : List Nat
  /-- values in effect before a group took its own ahead of the commit -/
  before : SMap Word
deriving DecidableEq, Repr

/-- Committed values of a covered group that wait for their vector-cycle boundary (R96, R311). -/
structure GroupCommit where
  sg : Nat
  /-- takes effect with this vector cycle, or -/
  atCycle : Option Nat
  /-- with the first cycle beginning at the balls at or after this tick -/
  atTick : Nat
  values : SMap Word
deriving DecidableEq, Repr

/-- A request waiting in Reef's queue (R315). -/
structure ReefReq where
  slot : Nat
  cost : Nat
  joined : Nat
deriving DecidableEq, Repr

/-- A stage bank (R305). -/
structure Bank where
  locked : Bool
  vals : SMap Word
deriving DecidableEq, Repr

/-- A bulk port's bound and validity, fixed at the ADDR write (R282). -/
structure BulkPort where
  valid : Bool
  limit : Nat
deriving DecidableEq, Repr

/-- An entry of a controller's write queue (R249): the 64-byte unit, its new bytes by place, the core cycle it was queued. -/
structure QueuedWrite where
  unit : Nat
  bytes : SMap Byte
  since : Nat
deriving DecidableEq, Repr

/-- A GDDR7 controller's state beside its registers. -/
structure Dram where
  queue : List QueuedWrite
  /-- temperature of the last successful training, in quarter degrees (R253) -/
  trainedAt : Int
  /-- device time in ns from which a triggered retraining, or the one after self-refresh, is due (R253) -/
  trigger : Option Nat
  /-- the write drain before a pause began at this core cycle (R253) -/
  pauseWait : Option Nat
  /-- the 1 ms slot, counted from 1, of the latest periodic retraining -/
  lastSlot : Nat
  /-- RESET is running (R256) -/
  resetting : Bool
deriving DecidableEq, Repr

/-- A pool request that waits for its bank (R234–R237): rank, requester within its class, word, core cycle in which it was raised, rank
raised to 2.5, and for a write its byte enables and data. -/
structure PoolReq where
  owner : Requester
  rank : Nat
  who : Nat
  word : Nat
  since : Nat
  promoted : Bool
  write : Option (Nat × Nat)
deriving DecidableEq, Repr

/-- The data of a pool read: its word and 256 bits, whether it is marked poisoned, and the core cycle in which it returns (R232, R233). -/
structure PoolReply where
  word : Nat
  data : Nat
  poisoned : Bool
  at' : Nat
deriving DecidableEq, Repr

/-- The background test of the pool (R238–R240): next region, yields of it in a row, ns edge of the latest test. -/
structure Bist where
  region : Nat
  yields : Nat
  last : Nat
deriving DecidableEq, Repr

/-- A loop level (R44). -/
structure LoopLevel where
  remaining : Nat
  level : Nat
deriving DecidableEq, Repr

/-- The instruction in progress on an engine (R39). -/
structure Current where
  ia : Nat
  word : Nat
  /-- vector cycle of its first line -/
  first : Nat
  /-- lines issued so far -/
  issued : Nat
  /-- lines it issues if nothing ends it earlier -/
  total : Nat
  /-- where it continues after those lines -/
  next : Nat
  /-- timeout target of MATCH and SYNC WAIT -/
  timeout : Nat
  /-- SYNC WAIT: first cycle of the continuation after the event (R49) -/
  exitAt : Option Nat
  /-- RPT of a stream line: the line it repeats (R39) -/
  held : List Byte
deriving DecidableEq, Repr

/-- What the units of a group give one sub-cycle of a line (R28, R160, R172): the modulation offset of each attached unit and
the source bit of each lane. -/
structure SubData where
  mods : SMap Int
  bits : SMap Bool
deriving DecidableEq, Repr

/-- A fired reactive rule (R146): alternative and its address, and the tick from which it may govern: the decision sub-cycle is the
first that begins at or after it (R144). -/
structure Splice where
  alt : Nat
  target : Nat
  from' : Nat
deriving DecidableEq, Repr

/-- A line issued while an earlier one still waits for a decision (R20, R149): its vector cycle and start tick, and whether that cycle
carries the safe waveform. What it carries is settled when the earlier line is. -/
structure Ahead where
  cycle : Nat
  start : Nat
  safe : Bool
deriving DecidableEq, Repr

/-- A jump that waits for its boundary (R166): entry, lead, and boundaries still to pass before it is taken. -/
structure PendingJump where
  entry : Nat
  lead : Nat
  skip : Nat
deriving DecidableEq, Repr

/-- A source unit's player beside SRC_STAT and SRC_PLAYED (R161–R169). -/
structure SrcUnit where
  /-- sample to play next within the segment -/
  k : Nat
  jump : Option PendingJump
  /-- stream samples taken from the refill ring since the Tack that enabled the unit -/
  streamPos : Nat
  /-- ring words read ahead, oldest first; none: an under-run (R169) -/
  words : List (Option Nat)
  /-- word number of the first of them -/
  wordBase : Nat
  last : Nat
deriving DecidableEq, Repr

/-- A stopped source unit. -/
def SrcUnit.off : SrcUnit := ⟨0, none, 0, [], 0, 0⟩

/-- A line being formatted; the later sub-cycles of a REACT's line may wait for decisions that could govern them (R144, R148): its
cycle, start tick and sub-cycle length, codes, time set, address and unit data, and the sub-cycle that is formatted next. -/
structure PartLine where
  cycle : Nat
  start : Nat
  psub : Nat
  codes : List Nat
  ts : Nat
  ia : Nat
  subs : List SubData
  nextSub : Nat
  /-- the group's source units before the line: (unit, player, its registers) -/
  srcs : List (Nat × SrcUnit × List Word)
deriving DecidableEq, Repr

/-- The deep stream of a running burst (R53–R58). -/
structure Stream where
  entry : Nat
  /-- lines in the staging ring, each as its line bytes -/
  staged : List (List Byte)
  /-- lines produced so far, before and in staging -/
  produced : Nat
  /-- the last 256 lines produced, latest first (R56) -/
  history : List (List Byte)
  /-- byte position of the next block in the entry -/
  pos : Nat
  seq : Nat
  /-- the line that fails its check, if one is known (R57) -/
  failAt : Option Nat
  /-- lines consumed by the burst -/
  taken : Nat
deriving DecidableEq, Repr

/-- A line command (R74): LCMD, the instruction's LINE, the lines still to issue, SIDE, DEC, and the loop and call operations it carries
with the count and return address they push. -/
structure LineCmd where
  kind : Nat
  line : Nat
  count : Nat
  side : Nat
  dec : Nat
  loopop : Nat
  loopCount : Nat
  callop : Nat
  ret : Nat
deriving DecidableEq, Repr

/-- The microsequencer of an engine and its issue unit's queues (R69–R83). -/
structure Micro where
  /-- image in the local store: 0 nothing, 1 ROM, 2 patched, 3 diagnostic routines -/
  image : Nat
  /-- local words in which a bit is upset (R84) -/
  upsets : List Nat
  upc : Nat
  /-- micro call stack, latest first -/
  stack : List Nat
  /-- micro loop counter -/
  ulc : Nat
  uregs : List Nat
  /-- the two condition latches -/
  latches : Nat
  scratch : SMap Nat
  /-- pattern instruction being carried out and its address -/
  word : Nat
  ia : Nat
  /-- prefetched addresses, main and arms 1 to 5 -/
  ahead : List (Option Nat)
  main : List LineCmd
  arms : List (List LineCmd)
  /-- pattern loop and call stacks and general registers ahead of issue -/
  loops : List LoopLevel
  calls : List Nat
  grs : SMap Nat
  /-- lines of the command that a held microword is building -/
  lrem : Nat
  /-- fault kind of the latest microword with FEN = 1 -/
  fault : Option Nat
deriving DecidableEq, Repr

/-- Five empty arm queues. -/
def Micro.noArms : List (List LineCmd) := [[], [], [], [], []]

/-- A microsequencer with an empty store. -/
def Micro.blank : Micro :=
  ⟨0, [], 0, [], 0, [0, 0, 0, 0], 0, [], 0, 0, [none, none, none, none, none, none], [], Micro.noArms, [], [], [], 0, none⟩

/-- A micro-trap request (R77): kind and the core cycle it was raised. -/
structure TrapReq where
  kind : Nat
  since : Nat
deriving DecidableEq, Repr

/-- A loaded section (R66, R418, R419): its allocations, address and length of its resident bytes, length of its deep part, and
what Shroud retains of its image: OWNER_KEY, FLKEY, FAILKEY and the CONCEAL flag. -/
structure Section where
  pa : Nat
  da : Option Nat
  base : Nat
  len : Nat
  deepLen : Nat
  encrypted : Bool
  conceal : Bool
  ownerKey : Nat
  flKey : Nat
  failKey : Bool
deriving DecidableEq, Repr

/-- A REACT that ended without a match while samples of its lines were still to come: a match in them is late (R146). -/
structure LateReact where
  rule : Nat
  /-- vector cycle of its first line -/
  first : Nat
  /-- its sub-cycles still to be evaluated, in order -/
  left : List Nat
  /-- terms whose alternatives were not disabled -/
  terms : List Nat
  samples : SMap Nat
  /-- it is the latest REACT that named the rule -/
  latest : Bool
deriving DecidableEq, Repr

/-- An output of a channel that carries levels (R105). -/
inductive Output where
  | drv | den
deriving DecidableEq, Repr

/-- An edge of DRV or DEN as a code asks for it (R108): applied instant in ticks, the level it drives and its vector cycle. -/
structure Edge where
  ch : Nat
  out : Output
  applied : Int
  level : Bool
  cycle : Nat
deriving DecidableEq, Repr

/-- A sequence engine's state beside its registers (R39–R64). -/
structure Engine where
  sec : Option Section
  slot : Option Nat
  /-- the burst has entered RUNNING -/
  begun : Bool
  /-- start instant in ticks, when it is fixed -/
  start : Option Nat
  /-- time trigger the burst waits for (START = TRIGGER) -/
  trigger : Option Nat
  pc : Nat
  loops : List LoopLevel
  calls : List Nat
  cur : Option Current
  ts : Nat
  /-- tick at which the next vector cycle begins at the balls -/
  nextStart : Nat
  clf : Nat
  mf : Bool
  rf : Bool
  lastCond : Option Nat
  hfStart : Bool
  /-- vector cycles in which SE_HFLAG.HF read 1 -/
  hf : SMap Bool
  /-- vector cycle -> sites that failed in it (R120) -/
  fails : SMap Nat
  /-- site -> vector cycle of its AUTOMASK fail (R34) -/
  autoAt : SMap (Option Nat)
  /-- SE_SITEMASK as committed, from which vector cycle, latest first (R64) -/
  masks : List (Nat × Nat)
  /-- MATCH iteration -> (sites with a judged selected strobe, sites with a failing one) (R46) -/
  iters : SMap (Nat × Nat)
  /-- samples of the current REACT's slots: key (sub-cycle from the REACT's first) * 32 + slot, value CML + 2 CMH + 4 (R142) -/
  rsamp : SMap Nat
  /-- sub-cycles of the current REACT to be evaluated, in order, each with its reference instant plus 40,960 ticks (R144, R146) -/
  refs : List (Nat × Nat)
  fire : Option Splice
  /-- ended REACTs whose last samples are to come, oldest first -/
  watch : List LateReact
  part : Option PartLine
  /-- lines issued behind an open one, oldest first -/
  ahead : List Ahead
  /-- sync events delivered while a line is open: event and the vector cycle under way (R49) -/
  heard : List (Nat × Nat)
  /-- edges of the latest safe-waveform cycle, in program order, not placed yet (R94) -/
  safe : List Edge
  /-- the stream being filled or open, and whether it is open (R53) -/
  stream : Option Stream
  streamOpen : Bool
  nextEntry : Nat
  /-- tick of the latest STREAM CLOSE (R53) -/
  closedAt : Option Nat
  traps : List TrapReq
  trapActive : Option Nat
  /-- the END record of the burst has been offered (R136) -/
  endOffered : Bool
  /-- FAIL records of this burst offered so far (R132) -/
  offered : Nat
  /-- channel -> 1 + the vector cycle of its latest fail in this burst (R131) -/
  lastFail : SMap Nat
  /-- sites whose first-fail record this burst filled (R126) -/
  ffNow : Nat
  /-- core cycle in which the engine entered ENDING (R64) -/
  endedAt : Nat
  /-- vector cycles from which committed values act, with the values they replaced, latest first (R96) -/
  prior : List (Nat × SMap Word)
deriving DecidableEq, Repr

/-- An idle engine with nothing loaded. -/
def Engine.idle : Engine where
  sec := none
  slot := none
  begun := false
  start := none
  trigger := none
  pc := 0
  loops := []
  calls := []
  cur := none
  ts := 0
  nextStart := 0
  clf := 0
  mf := false
  rf := false
  lastCond := none
  hfStart := false
  hf := []
  fails := []
  autoAt := []
  masks := []
  iters := []
  rsamp := []
  refs := []
  fire := none
  watch := []
  part := none
  ahead := []
  heard := []
  safe := []
  stream := none
  streamOpen := false
  nextEntry := 0
  closedAt := none
  traps := []
  trapActive := none
  endOffered := false
  offered := 0
  lastFail := []
  ffNow := 0
  endedAt := 0
  prior := []

/-- A placed strobe or window (R108, R119): its mode, instant (and end for a window), cycle and place in the pattern. -/
structure Strobe where
  ch : Nat
  sg : Nat
  second : Bool
  win : Bool
  mode : Nat
  instant : Int
  upto : Int
  cycle : Nat
  sub : Nat
  ts : Nat
  ia : Nat
deriving DecidableEq, Repr

/-- A channel's outputs (R99, R109): levels and the instant of the latest placed edge of each output. -/
structure Chan where
  drv : Bool
  den : Bool
  lastDrv : Option Int
  lastDen : Option Int
  lastStb : Option Int
deriving DecidableEq, Repr

/-- After any reset: DEN deasserted, DRV low (R99). -/
def Chan.off : Chan := ⟨false, false, none, none, none⟩

/-- A check-value unit's stream bit that waits for its sample (R151, R156). -/
structure CvBit where
  strobe : Strobe
  field : Bool
  /-- CML + 2 CMH, once taken -/
  sample : Option Nat
  /-- another unit has made the strobe a fail already, and it counts once (R125) -/
  counted : Bool
deriving DecidableEq, Repr

/-- A check-value unit's frame in progress (R151–R157). -/
structure CvUnit where
  crc : Nat
  /-- data bits of the frame so far, latest first, kept up to 65,535 -/
  data : List Bool
  nData : Nat
  /-- field bits passed so far -/
  fieldPos : Nat
  isOpen : Bool
  brokenStart : Bool
  level : Bool
  crcErr : Bool
  /-- received alive bits, in order of arrival -/
  alive : List Bool
  /-- counter to emit (drive) or expected next (check) -/
  counter : Nat
  started : Bool
  frames : Nat
  expect : List CvBit
deriving DecidableEq, Repr

/-- A check-value unit at burst start has no frame open. -/
def CvUnit.off : CvUnit := ⟨0, [], 0, 0, false, false, false, false, [], 0, false, 0, []⟩

/-- A modulation unit's state during a burst (R171–R176). -/
structure ModUnit where
  running : Bool
  /-- position in 2^-32 samples -/
  p : Nat
  phi : Nat
  entry : Nat
  rep : Nat
  k : Nat
  ended : Bool
  /-- samples played so far; their values, latest first, are kept nine deep -/
  played : Nat
  recent : List Int
  jump : Option PendingJump
deriving DecidableEq, Repr

/-- A modulation unit between bursts. -/
def ModUnit.off : ModUnit := ⟨false, 0, 0, 0, 0, 0, false, 0, [], none⟩

/-- A record on its way to a log stream (R133). -/
structure LogEntry where
  stream : Nat
  record : Nat
deriving DecidableEq, Repr

/-- A quadrant's fail queue (R133): entries oldest first, and the channels accepted in its latest pattern cycle. -/
structure Quad where
  queue : List LogEntry
  pcycle : Nat
  taken : List Nat
deriving DecidableEq, Repr

/-- The records that found a stream's region full in one core cycle, each with whether it is a group's own, and the loss as it stood before
them: an RDPTR write of the same cycle comes before the judgement (R134). -/
structure Denied where
  cycle : Nat
  lost : Nat
  lostFirst : Nat
  drops : Nat
  flag : Nat
  recs : List (Nat × Bool)
deriving DecidableEq, Repr

/-- A log stream's state beside its registers (R133–R138). -/
structure LogStream where
  /-- records in the 64 KiB staging area (DEEP = 1), oldest first, and the place of the area that is written next -/
  staged : List Nat
  stageAt : Nat
  denied : Option Denied
  lost : Nat
  /-- SG, BURST and CYCLE of the first lost record since the latest LOST record, in their places of a record -/
  lostFirst : Nat
  /-- plaintext records of the chunk being built (ENCRYPT = 1), oldest first, and the ns edge of its first -/
  chunk : List Nat
  chunkSince : Nat
  seq : Nat
  session : Nat
  /-- owner of the session's image: OWNER_KEY and FLKEY (R137, R420) -/
  owner : Nat × Nat
  /-- the session key (R424) -/
  key : Nat
  /-- the stream is encrypted and its session could not begin (R424) -/
  dead : Bool
deriving DecidableEq, Repr

/-- A log stream with nothing staged. -/
def LogStream.off : LogStream := ⟨[], 0, none, 0, 0, [], 0, 0, 0, (0, 0), 0, false⟩

/-- A gap of a record (R198): kind, count and word place. -/
structure Gap where
  kind : Nat
  count : Nat
  pos : Nat
deriving DecidableEq, Repr

/-- An acquisition unit's task and record in progress (R185–R200). -/
structure AcqUnit where
  slot : Option Nat
  nrec : Nat
  /-- requests that act at the next word (R188) -/
  reqArm : Bool
  reqForce : Bool
  reqStop : Bool
  /-- such requests of TRIG lines: (vector cycle, sub-operation) -/
  trigs : List (Nat × Nat)
  /-- words stored since the record's fill began (R190) -/
  fill : Nat
  post : Nat
  rearm : Nat
  /-- conditions qualified (R191), those qualified again from a vector cycle on, (cycle, condition) (R194), and those whose LEVEL test
  held in the previous produced word -/
  qual : Nat
  requal : List (Nat × Nat)
  prevHold : Nat
  /-- the next word is the first after an arm, a REARM or an IDLE gap (R191, R196) -/
  fresh : Bool
  /-- latest samples of the lanes, bit 2j CML and bit 2j + 1 CMH of lane j (R181) -/
  lanes : Nat
  /-- samples and fails not yet packed: key (cycle * 8 + sub) * 32 + lane, value sample + 4, + 8 for a fail at either strobe, + 16 *
  programmed time of its strobe -/
  hist : SMap Nat
  /-- gaps of the record, latest first; POS counts words stored since the fill began (R198) -/
  gaps : List Gap
  overrun : Bool
  trigWord : Nat
  trigNs : Nat
  trigFrac : Nat
  trigMap : Nat
  interp : Int
  interpValid : Bool
  /-- instants of locator transitions not yet passed by a word, latest first (R195), and instant of the previous word, in ticks -/
  locs : List Int
  prevInstant : Int
  /-- ticks in which no burst ran since the latest word, once a burst follows them: not yet made a gap (R198) -/
  idle : Option Nat
  /-- where the latest vector cycle of the group ends, in ticks -/
  lineEnd : Nat
  /-- ball start of the vector cycles whose words are to come -/
  starts : SMap Nat
  /-- least key (cycle * 8 + sub-cycle) of a word to come in this burst -/
  nextKey : Nat
  /-- spill staging (R199): words waiting, oldest first, as (deep address, bytes) -/
  spill : List (Nat × List Byte)
deriving DecidableEq, Repr

/-- An acquisition unit without a task. -/
def AcqUnit.off : AcqUnit where
  slot := none
  nrec := 0
  reqArm := false
  reqForce := false
  reqStop := false
  trigs := []
  fill := 0
  post := 0
  rearm := 0
  qual := 0
  requal := []
  prevHold := 0
  fresh := true
  lanes := 0
  hist := []
  gaps := []
  overrun := false
  trigWord := 0
  trigNs := 0
  trigFrac := 0
  trigMap := 0
  interp := 0
  interpValid := false
  locs := []
  prevInstant := 0
  idle := none
  lineEnd := 0
  starts := []
  nextKey := 0
  spill := []

/-- A transition at a time-interval input: the first phase step at or after it, how far before that step it lies in 2^-32 ns by the
periods in use when it came, the level after it, and whether its converter was in fallback mode then (R203, R205, R206). -/
structure TdcEdge where
  step : Nat
  back : Nat
  rising : Bool
  fallback : Bool
deriving DecidableEq, Repr

/-- The conditioning stages of one input (R206–R208). -/
structure TdcInput where
  /-- transitions whose minimum-width decision is still to come, oldest first -/
  waiting : List TdcEdge
  /-- instant of the latest edge that passed the hold-off stage, in 2^-32 ns on the step grid -/
  lastPass : Option Int
  prescale : Nat
  /-- ns edge since which the level after stage 1 is unchanged -/
  stuckSince : Nat
  stuckSent : Bool
deriving DecidableEq, Repr

/-- An input before arming. -/
def TdcInput.off : TdcInput := ⟨[], none, 0, 0, false⟩

/-- A converted edge (R203, R206): its time in 2^-32 ns, input, direction, conversion mode, and the accepted edges up to it. -/
structure Conversion where
  time : Int
  onB : Bool
  rising : Bool
  fallback : Bool
  accepted : Nat
deriving DecidableEq, Repr

/-- A time-interval unit's set in progress and its converter (R202–R215). -/
structure TdcUnit where
  slot : Option Nat
  nres : Nat
  /-- ns edge of arming; none: waiting for TDC_TSTART -/
  armedAt : Option Nat
  inA : TdcInput
  inB : TdcInput
  /-- instant of the converter's previous converted edge, in 2^-32 ns on the step grid (R206 stage 6) -/
  lastConv : Option Int
  /-- conversions in progress, oldest first -/
  conv : List Conversion
  /-- ring periods in use, in 2^-24 ns -/
  slow : Nat
  fast : Nat
  /-- consecutive plausible updates, and the ns edge of the latest update of any kind (R205) -/
  plausible : Nat
  updated : Option Nat
  accepted : Nat
  /-- first edge of the open measurement, and in FREQ the latest converted edge of the gate -/
  start : Option Conversion
  lastEdge : Option Conversion
  /-- a conversion of the open measurement was made in fallback mode -/
  fellBack : Bool
  /-- FREQ: instant at which the gate opened, in 2^-32 ns -/
  gateStart : Nat
  /-- an edge was dropped since the latest record (R209) -/
  dropped : Bool
  /-- INTERVAL: converted B edges that closed no interval, oldest first, and the time of the latest one that closed one (R210) -/
  freeB : List Conversion
  closedB : Option Int
  /-- core cycle in which the set's timeout came while conversions were in progress (R215) -/
  lapsed : Option Nat
deriving DecidableEq, Repr

/-- A time-interval unit after reset. -/
def TdcUnit.off : TdcUnit where
  slot := none
  nres := 0
  armedAt := none
  inA := .off
  inB := .off
  lastConv := none
  conv := []
  slow := 0
  fast := 0
  plausible := 0
  updated := none
  accepted := 0
  start := none
  lastEdge := none
  fellBack := false
  gateStart := 0
  dropped := false
  freeB := []
  closedB := none
  lapsed := none

/-- A capture processor's accumulators, running job and held writes (R222–R230). -/
structure Cpx where
  acc : List Int
  slot : Option Nat
  /-- elements of the running job done, and what its operation has gathered (R226–R228) -/
  elems : Nat
  under : Nat
  above : Nat
  low : Option (Int × Nat)
  high : Option (Int × Nat)
  emax : Nat
  bsat : Bool
  esat : Bool
  /-- held writes, at 3 * buffer for BASE, + 1 for LEN, + 2 for PTR (R222) -/
  held : SMap Word
deriving DecidableEq, Repr

/-- An idle capture processor with cleared accumulators. -/
def Cpx.off : Cpx :=
  ⟨[0, 0, 0, 0, 0, 0, 0, 0, 0, 0, 0, 0, 0, 0, 0, 0], none, 0, 0, 0, none, none, 0, false, false, []⟩

/-- A link port's state beside its registers (R321–R341). -/
structure Port where
  /-- frames queued, in queue order; those of one class keep it (R327) -/
  txq : List Frame
  /-- ns edge at which ACQUIRE was entered (R329) -/
  acquireAt : Nat
  /-- consecutive valid TS per lane since ACQUIRE was entered -/
  tsRun : List Nat
  /-- lane number of the latest TS per physical lane, TS with SEEN = 1 received per lane in HANDSHAKE, TS sent after 64 of them -/
  laneNo : List Nat
  tsSeen : List Nat
  tsSent : Nat
  /-- preset being measured (TUNE), ns edge of its request, best so far: (preset, smallest lane eye) -/
  tuneStep : Nat
  tuneAt : Nat
  tuneBest : Option (Nat × Nat)
  /-- preset the partner requested, and the one in use (R328, R330) -/
  partnerReq : Nat
  inUse : Nat
  /-- preset this receiver requests, if REQ -/
  request : Option Nat
  /-- ns edge of the latest valid DISCOVER received and of the latest sent -/
  discRx : Nat
  discTx : Nat
  /-- ns edges of frames discarded, and of code errors per lane, in the last 1 ms (R331) -/
  badFrames : List Nat
  codeErrs : List (Nat × Nat)
  /-- records waiting to be packed, oldest first, and the ns edge of the first (R339) -/
  packing : List Nat
  packSince : Nat
  /-- FAIL frames sent, and the cumulative freed count the partner reported (R340) -/
  failSent : Nat
  failFreed : Nat
  /-- FAIL frames freed here, the count last returned, ns edge of the latest LINK sent, SEQ expected next -/
  rxFreed : Nat
  rxReported : Nat
  linkTx : Nat
  failSeq : Option Nat
  /-- ns edge at which the running eye scan ends (R332) -/
  scan : Option Nat
  /-- ns edges of the latest ANNOUNCE and REQUEST built (R352) -/
  announceTx : Nat
  requestTx : Nat
  /-- the latest frame and training sequence on the transmit lanes -/
  sent : Option Frame
  tsOut : Option Training
  /-- first column in which the transmitter is free, and the column of its latest alignment column (R324) -/
  txFree : Nat
  txAligned : Nat
  /-- column in which the latest alignment column was received, whether it gave column lock, and the delay in UI that deskews each lane -/
  rxAligned : Nat
  locked : Bool
  deskew : List Nat
deriving DecidableEq, Repr

/-- A port that has sent and received nothing. -/
def Port.off : Port :=
  ⟨[], 0, [0, 0, 0, 0], [0, 0, 0, 0], [0, 0, 0, 0], 0, 0, 0, none, 0, 0, none, 0, 0, [], [], [], 0, 0, 0, 0, 0, 0, none, none, 0, 0,
    none, none, 0, 0, 0, false, [0, 0, 0, 0]⟩

/-- An ANNOUNCE kept by a port (R358): its fields and the ns edge of its receipt. -/
structure Announce where
  prio : Nat
  hops : Nat
  adj : Nat
  muid : Nat
  pend : Nat
  effective : Nat
  at' : Nat
deriving DecidableEq, Repr

/-- An entry of a transmit stamp queue (R353): SEQ of the REQUEST, edge value in 2^-32 ns, phase in ticks, ns edge it was sent. -/
structure TxStamp where
  seq : Nat
  edge : Nat
  phase : Nat
  at' : Nat
deriving DecidableEq, Repr

/-- A step that is held (R357): by a gain in 2^-32 ns after which a slave is SYNCED, or to a value. -/
inductive HeldStep where
  | gain (d : Int)
  | load (value : Nat)
deriving DecidableEq, Repr

/-- A time trigger (R362, R364): the next k, one more than the last k committed, the committed instants in 2^-32 ns that are still to
fire, oldest first, and whether EN = 0 was written while one was. -/
structure Trigger where
  next : Nat
  done : Nat
  committed : List Nat
  stopping : Bool
deriving DecidableEq, Repr

/-- A trigger never enabled. -/
def Trigger.off : Trigger := ⟨0, 0, [], false⟩

/-- Device time beside its registers (R349–R361): what a slew still has to gain in 2^-32 ns, the held step, ACCEPT, consecutive
refusals, PEND_ADJ with EFFECTIVE in ns, the kept ANNOUNCEs, the transmit stamp queues and the triggers. -/
structure Clock where
  slew : Int
  held : Option HeldStep
  accept : Bool
  refused : Nat
  pend : Option (Nat × Nat)
  anns : SMap Announce
  txq : SMap (List TxStamp)
  tts : SMap Trigger
deriving DecidableEq, Repr

/-- Device time after chip reset. -/
def Clock.off : Clock := ⟨0, none, false, 0, none, [], [], []⟩

/-- An I3C controller beside its registers (R343–R347): an address assignment is due, the next address for an unknown device,
consecutive NACKs per slot, and the ns edge of the latest poll. -/
structure I3c where
  due : Bool
  next : Nat
  nacks : List Nat
  pollAt : Nat
  /-- the running private transfer: whether it reads, and its LEN -/
  xfer : Option (Bool × Nat)
deriving DecidableEq, Repr

/-- An idle controller. -/
def I3c.off : I3c := ⟨false, 0x30, [0, 0, 0, 0, 0, 0, 0, 0, 0, 0, 0, 0, 0, 0, 0], 0, none⟩

/-- What a calibration run found for a bank that passed (R370, R375): its temperature, values and readings of 16 channels by 8
quantities, new phase-step trims of its quadrant if measured with it, and per line the selection mask and the used cells' starts. -/
structure CalBank where
  bank : Nat
  temp : Int
  values : List Int
  readings : List Int
  steps : List Int
  lines : List (Nat × List Nat)
deriving DecidableEq, Repr

/-- The calibration controller (R371, R374–R377): banks still measuring, banks that passed, and the ns edge of the latest sensor
read. -/
structure Cal where
  measuring : Nat
  passed : List CalBank
  readAt : Nat
deriving DecidableEq, Repr

/-- No run and no sensor read. -/
def Cal.off : Cal := ⟨0, [], 0⟩

/-- A sync event that waits for its RELEASE (R336): port, event number, instant in 2^-32 ns, late. -/
structure SyncEvent where
  port : Nat
  event : Nat
  release : Nat
  late : Bool
deriving DecidableEq, Repr

/-- A paired burst's state of a site group beside BKS_SGSTAT (R399–R404). -/
structure PairSg where
  /-- running CRC-64 (R400) and the vector cycle up to which it has taken fails in -/
  digest : Nat
  taken : Nat
  /-- own DIGEST and END (true) frames not yet compared: (END, CYCLE field, digest, sent at ns edge) -/
  own : List (Bool × Nat × Nat × Nat)
  /-- partner's DIGEST and END frames not yet compared: (END, CYCLE field, digest) -/
  theirs : List (Bool × Nat × Nat)
  /-- partner's ARM: (start ns, CRC bits, role) -/
  arm : Option (Nat × Nat × Nat)
  matched : Bool
  disagreed : Bool
  silent : Bool
  ended : Bool
deriving DecidableEq, Repr

/-- A group between paired bursts. -/
def PairSg.off : PairSg := ⟨0, 0, [], [], none, false, false, false, false⟩


/-! ## Shroud, boot, power -/

/-- The fuses (R89, R407, R408, R410, R425, R428): lifecycle and the one that applies from the next start, fused seed, digests of
the Oluhal firmware and debug keys, minimum SVNs, and the writes in progress. -/
structure Fuses where
  lifecycle : Nat
  lcNext : Option Nat
  seed : Option Nat
  fwKey : Nat
  dbgKey : Nat
  fwMin : Nat
  ucMin : Nat
  fwWrite : Option Nat
  ucWrite : Option Nat
deriving DecidableEq, Repr

/-- What the keeping store holds in records whose bytes the spec does not lay out (R448, R453, R424): ATTEMPTS, the start count, the
latest reset cause (SYS_RESETCAUSE as a word), the device first-fault record at the latest chip reset, the next session number, and the
FIELD slots in the order of their latest writes (R377), the PUF helper data and the device certificate (R410, R412), and per controller
whether the board record holds its command and address delays (R252). -/
structure Kept where
  attempts : Nat
  starts : Nat
  cause : Word
  first : List Word
  sessions : Nat
  fieldOrder : List Nat
  helper : List Byte
  certificate : List Byte
  board : Nat
deriving DecidableEq, Repr

/-- Shroud beside its registers (R409, R410, R423, R427–R431). -/
structure Shroud where
  /-- identity seed and key-agreement scalar, when derived -/
  keys : Option (Nat × Nat)
  /-- withheld since vendor-debug was opened -/
  withheld : Bool
  fwDigest : Nat
  /-- KEY of the request that opened the owner-debug session -/
  dbgKey : Nat
  /-- level that opens (1, 2) or close (0) at the end of the running erase -/
  erase : Option Nat
  /-- numbers of the draws of the in-line key sets -/
  patternKeys : Nat
  dataKeys : Nat
deriving DecidableEq, Repr

/-- A boot-flash operation in progress (R452): operation, address and length as written with GO. -/
structure FlashOp where
  op : Nat
  addr : Nat
  len : Nat
deriving DecidableEq, Repr

/-- The start-up and power sequencer beside SYS_BOOT_STATE, SYS_RESETCAUSE and SYS_PWR (R445–R459). -/
structure Boot where
  pwrgood : Bool
  resetN : Bool
  /-- ns edge of the release of RESET_N, and of entry into the boot state -/
  releasedAt : Nat
  enteredAt : Nat
  /-- firmware copy found valid (R407) -/
  copy : Option Nat
  catrain : Bool
  /-- power state being left for P0 (R457), and ns edge of its start -/
  leaving : Option Nat
  leavingAt : Nat
  d3hot : Bool
  /-- ns edge of the latest P3 request made in D3hot (R458) -/
  retryAt : Nat
  /-- core cycles for which the core clock has stood still -/
  halted : Nat
  /-- the microcode patch in effect: words by local address, in place of the ROM's (R87) -/
  patch : SMap Nat
  flash : Option FlashOp
  /-- LINKS has done its work (R445) -/
  linksDone : Bool
  /-- low-power state to enter when the return to P0 is complete; 0: none (R458) -/
  leaveTo : Nat
  /-- words of the patch staging in the master store, while a patch is verified (R68) -/
  staging : SMap Nat
  /-- ns edge from which FLASH_RST_N is high (R480) -/
  flashHigh : Nat
deriving DecidableEq, Repr

/-- Pins that the host's registers do not show (22_balls_and_electrical.md): outside drive of THERM_N, the ns edge at
which each TTOUT pulse ends, and the boundary-scan instruction in effect. -/
structure Pins where
  thermLow : Bool
  ttoutEnd : List (Option Nat)
  scan : Nat
deriving DecidableEq, Repr


/-- The machine. Registers the host can reach have their one home in `regs`, by BAR0 offset; what the spec gives a block beside
its registers stands in the block's own field. -/
structure State where
  part : Part
  /-- time-clock edges since chip reset -/
  clk : Nat
  /-- device time in 2^-32 ns (R349) -/
  now : Nat
  regs : SMap Word
  /-- values captured by LO reads for the next read of HI (R350), by BAR0 offset -/
  captured : SMap Word
  /-- dwords returned to the latest host read -/
  readData : List Word
  bankA : Bank
  bankB : Bank
  /-- table entries in effect, key space * 2^26 + byte offset (R104, R162, R307) -/
  tables : SMap Word
  pool : List Host.Cell
  /-- 64-bit quarters of the pool that hold an uncorrectable error, by byte offset / 8 (R233) -/
  poolBad : List Nat
  /-- pool quarters with one failed bit: every read of them is corrected (R239) -/
  poolStuck : List Nat
  /-- deep memory, key controller * 2^36 + local offset (R243) -/
  deep : List Host.Cell
  /-- host memory the device reaches over PCI Express -/
  host : List Host.Cell
  /-- boot flash (R451) -/
  flash : List Host.Cell
  /-- keeping store (R379, R448, R453) -/
  keep : List Host.Cell
  /-- MSI-X vectors whose messages have been sent, oldest first (R286) -/
  messages : List Nat
  bulk : SMap BulkPort
  rings : SMap Ring
  slots : SMap Task
  fetched : Nat
  cancels : List CancelWait
  cascades : List Cascade
  /-- flow ↦ 1 + the core cycle of its latest release (R296) -/
  releasedAt : SMap Nat
  tack : Option TackJob
  groupPend : List GroupCommit
  reefQueue : List ReefReq
  resv : List Resv
  faultIn : List FaultMsg
  sources : SMap FaultSrc
  reactions : List Reaction
  /-- sources whose NMI handlers wait for the housekeeping processor (R385) -/
  nmiWait : List Nat
  /-- one more than the core cycle of the latest RELEASE of FAULT_N; 0 for none (R386) -/
  released : Nat
  journal : List Nat
  /-- fences from lost companions (R345, R346): channel, and 16 * quadrant + slot of the companion whose loss fenced it -/
  compFence : List (Nat × Nat)
  engines : SMap Engine
  /-- microsequencers, local stores and line-command queues of the engines -/
  micros : SMap Micro
  chans : SMap Chan
  /-- placed strobes whose samples have not been taken, in program order -/
  strobes : List Strobe
  quads : SMap Quad
  logs : SMap LogStream
  cvs : SMap CvUnit
  srcs : SMap SrcUnit
  mods : SMap ModUnit
  acqs : SMap AcqUnit
  tdcs : SMap TdcUnit
  cpxs : SMap Cpx
  drams : SMap Dram
  /-- ns edge of the latest DRAM temperature check -/
  dramTempAt : Nat
  /-- requests that wait, by bank, and the requester of each class that won a bank latest, by bank * 8 + rank (R234) -/
  poolWait : SMap (List PoolReq)
  poolLast : SMap Nat
  /-- latest data read from the pool, by rank * 8192 + requester within its class (R232) -/
  poolReplies : SMap PoolReply
  bist : Bist
  ports : SMap Port
  clock : Clock
  i3cs : SMap I3c
  /-- next SEQ of this origin per frame class (R325) -/
  frameSeq : SMap Nat
  /-- (ORIGIN, SEQ) of the last 64 SYNC frames accepted, latest first (R338) -/
  recentSync : List (Nat × Nat)
  syncPend : List SyncEvent
  pairs : SMap PairSg
  /-- pin banks that a takeover holds (R396) -/
  pselHeld : Nat
  /-- interpolated calibration values in effect in ticks, CAL_DEVSKEW not yet added (R371, R372): key channel * 8 + quantity, and
  4096 + quadrant * 64 + step for the phase-step trims -/
  trims : SMap Int
  cal : Cal
  /-- counters stopped by a check error (R438), the core cycle each last counted in (R434, MODE 1), window totals and start -/
  cnsStopped : List Nat
  cnsLast : List (Option Nat)
  bwNow : List Nat
  bwStart : Nat
  fuses : Fuses
  kept : Kept
  shroud : Shroud
  boot : Boot
  pins : Pins
  /-- the model's own counter of free values drawn so far -/
  free : Nat
  pending : List Instr
deriving DecidableEq, Repr

/-- Reasons to stop with a fault: none. Every command of the LRV-9256 has an effect; what goes wrong is reported to the fault
collector, which is state (R381). -/
inductive Fault
deriving DecidableEq, Repr

/-- Reasons to refuse a command. -/
inductive Refusal where
  /-- A command whose meaning is not written: safe. No command of this model is refused. -/
  | notModelled (mnemonic : String)
deriving DecidableEq, Repr

/-- The machine in power-on reset, PWRGOOD high and RESET_N low (R454, R455): registers at the reset values of their cards, every store
that survives power (fuses, keeping store, boot flash) blank, nothing waiting. Blank stores and the part's constants are the model's
choice (DESIGN CHOICE, log 2, log 3, log 5). -/
def State.reset : State where
  part := ⟨true, 1, 0, 0⟩
  clk := 0
  now := 0
  regs := []
  captured := []
  readData := []
  bankA := ⟨false, []⟩
  bankB := ⟨false, []⟩
  tables := []
  pool := []
  poolBad := []
  poolStuck := []
  deep := []
  host := []
  flash := []
  keep := []
  messages := []
  bulk := []
  rings := []
  slots := []
  fetched := 0
  cancels := []
  cascades := []
  releasedAt := []
  tack := none
  groupPend := []
  reefQueue := []
  resv := []
  faultIn := []
  sources := []
  reactions := []
  nmiWait := []
  released := 0
  journal := []
  compFence := []
  engines := []
  micros := []
  chans := []
  strobes := []
  quads := []
  logs := []
  cvs := []
  srcs := []
  mods := []
  acqs := []
  tdcs := []
  cpxs := []
  drams := []
  dramTempAt := 0
  poolWait := []
  poolLast := []
  poolReplies := []
  bist := ⟨0, 0, 0⟩
  ports := []
  clock := Clock.off
  i3cs := []
  frameSeq := []
  recentSync := []
  syncPend := []
  pairs := []
  pselHeld := 0
  trims := []
  cal := Cal.off
  cnsStopped := []
  cnsLast := [none, none, none, none, none, none, none, none]
  bwNow := [0, 0, 0, 0, 0, 0, 0, 0, 0, 0, 0, 0]
  bwStart := 0
  fuses := ⟨0, none, none, 0, 0, 0, 0, none, none⟩
  kept := ⟨0, 0, 0, [0, 0, 0, 0], 0, [], [], [], 255⟩
  shroud := ⟨none, false, 0, 0, none, 0, 0⟩
  boot := ⟨true, false, 0, 0, none, false, none, 0, false, 0, 0, [], none, false, 0, [], 0⟩
  pins := ⟨false, [none, none, none, none], 0⟩
  free := 0
  pending := []

end Sys2Proof.Machine
end

