-- ==== Sys2Proof/Machine/Ops.lean ====
section
/-! DEFINITION. The named operations over registers, counters, faults, events and stage banks that every meaning uses. -/
namespace Sys2Proof.Machine

/-! ## Registers -/

/-- The value in effect of the register at an offset. -/
def State.reg (s : State) (off : Nat) : Word := Sparse.get regReset s.regs off

/-- The value in effect as a number. -/
def State.regN (s : State) (off : Nat) : Nat := (s.reg off).toNat

/-- Give the register at an offset a value. -/
def State.setReg (s : State) (off v : Nat) : State :=
  { s with regs := Sparse.set regReset s.regs off (BitVec.ofNat 32 v) }

/-- The value of a field. -/
def State.fld (s : State) (f : Field) : Nat := bitsOf (s.regN f.off) f.lo f.width

/-- Give a field a value (modulo its width), leaving the register's other bits. -/
def State.setFld (s : State) (f : Field) (v : Nat) : State :=
  s.setReg f.off (putBits (s.regN f.off) f.lo f.width v)

/-- Whether a one-bit field reads 1. -/
def State.flag (s : State) (f : Field) : Bool := s.fld f == 1

/-- Add to a counting field, saturating at its largest value. -/
def State.addSat (s : State) (f : Field) (n : Nat) : State :=
  s.setFld f (min (s.fld f + n) (2 ^ f.width - 1))

/-- Add to a counting field that wraps. -/
def State.addMod (s : State) (f : Field) (n : Nat) : State := s.setFld f (s.fld f + n)

/-- A whole register as a field. -/
def whole (off : Nat) : Field := ⟨off, 0, 32⟩

/-- The 64-bit value of a LO and HI register pair. -/
def State.reg64 (s : State) (lo hi : Nat) : Nat := s.regN lo + 2 ^ 32 * s.regN hi

/-- Write a 64-bit value to a LO and HI register pair. -/
def State.setReg64 (s : State) (lo hi v : Nat) : State := (s.setReg lo v).setReg hi (v / 2 ^ 32)

/-- Every register of [lo, hi) takes its reset value. -/
def State.resetRegs (s : State) (lo hi : Nat) : State := { s with regs := Sparse.eraseRange s.regs lo hi }

/-! ## Time (R17, R349, R433) -/

/-- The core cycle: 1.6 GHz against the 1.0 GHz time clock. -/
def State.cycle (s : State) : Nat := s.clk * 8 / 5

/-- Device time in whole nanoseconds. -/
def State.ns (s : State) : Nat := s.now / 2 ^ 32

/-- Device time rounded to the nearest fine tick of 2^-13 ns (R27); an instant half way between two takes the later one (DESIGN CHOICE,
log 100). -/
def toTick (t : Nat) : Nat := (t + 2 ^ 18) / 2 ^ 19

/-- CNS_CYCLE: the core cycles counted; the core clock stands still in P2 and P3 (R433, R457). -/
def State.cnsCycle (s : State) : Nat := s.cycle - s.boot.halted

/-- Microseconds in core cycles. -/
def usCycles (us : Nat) : Nat := us * 1600

/-! ## Faults (R381) -/

/-- The place of a message among those on their way: by core cycle, then by source (R389). -/
def faultBefore (a b : FaultMsg) : Bool :=
  decide (a.cycle < b.cycle) || (a.cycle == b.cycle && decide (a.src ≤ b.src))

/-- Insert a message behind those before it. -/
def insertFault : List FaultMsg → FaultMsg → List FaultMsg
  | [], m => [m]
  | a :: t, m => if faultBefore a m then a :: insertFault t m else m :: a :: t

/-- A block reports a fault: its message goes to the collector (R381). -/
def State.report (s : State) (src kind addr : Nat) : State :=
  { s with faultIn := insertFault s.faultIn ⟨s.cycle, src, kind, addr⟩ }

/-- Fault kinds (R381). -/
def kDeadline : Nat := 0x01
def kUncorrectable : Nat := 0x02
def kTrainLost : Nat := 0x03
def kDramWrite : Nat := 0x04
def kRegAccess : Nat := 0x05
def kPoolTest : Nat := 0x06
def kLink : Nat := 0x07
def kCompanion : Nat := 0x08
def kCalibration : Nat := 0x09
def kCheck : Nat := 0x0A
def kThermal : Nat := 0x0C
def kPcie : Nat := 0x0D
def kAuth : Nat := 0x0E
def kDigest : Nat := 0x10
def kPartner : Nat := 0x11
def kInjected : Nat := 0x3F

/-- A register access fault at a BAR0 offset (R9, source 249). -/
def State.regFault (s : State) (off : Nat) : State := s.report 249 kRegAccess off

/-! ## Events and MSI-X (R284, R286) -/

/-- Whether the MSI-X entry of a vector is masked: bit 0 of its vector control word. -/
def State.msixMasked (s : State) (vec : Nat) : Bool := s.regN (0x1F000C + 16 * vec) % 2 == 1

/-- Send the message of a vector, or set its pending-array bit while the vector is masked (R286). -/
def State.sendMsix (s : State) (vec : Nat) : State :=
  if s.msixMasked vec then s.setReg (0x1F8000 + 4 * (vec / 32)) (setBit (s.regN (0x1F8000 + 4 * (vec / 32))) (vec % 32))
  else { s with messages := s.messages ++ [vec] }

/-- Pending bit of an event source. -/
def evPend (ev : Nat) : Field := ⟨R.HIF_EVPEND (ev / 32), ev % 32, 1⟩

/-- An event source signals: its pending bit is set, and on 0 to 1 an enabled source sends its message (R284, R286). -/
def State.signal (s : State) (ev : Nat) : State :=
  if s.flag (evPend ev) then s
  else
    let s := s.setFld (evPend ev) 1
    if s.flag (F.HIF_EVMAP.EN (ev / 4) (ev % 4)) then s.sendMsix (s.fld (F.HIF_EVMAP.VEC (ev / 4) (ev % 4))) else s

/-! ## Crow's Nest (R434–R442) -/

/-- The value of counter k. -/
def State.cns (s : State) (k : Nat) : Nat := s.regN (R.CNS_CTR_LO k) + 2 ^ 32 * s.fld (F.CNS_CTR_HI.COUNT k)

/-- A wrapped counter with SAMPLE = 1 captures the sample, joins one captured in the same core cycle, or is lost (R440). -/
def State.cnsSample (s : State) (k : Nat) : State :=
  if !s.flag F.CNS_SAMPSTAT.VALID then
    let e := s.fld (F.CNS_CTR_CFG.ENGINE k)
    let s := s.setReg64 R.CNS_SAMP_CYC_LO R.CNS_SAMP_CYC_HI s.cnsCycle
    let s := s.setReg64 R.CNS_SAMP_VC_LO R.CNS_SAMP_VC_HI (s.reg64 (R.SE_CYCLE_LO e) (R.SE_CYCLE_HI e))
    let s := s.setReg R.CNS_SAMP_IA (e * 2 ^ 24 + s.fld (F.SE_STATE.IA e))
    let s := (s.setFld F.CNS_SAMPSTAT.CTRS (2 ^ k)).setFld F.CNS_SAMPSTAT.VALID 1
    s.signal 210
  else if s.reg64 R.CNS_SAMP_CYC_LO R.CNS_SAMP_CYC_HI == s.cnsCycle then
    s.setFld F.CNS_SAMPSTAT.CTRS (setBit (s.fld F.CNS_SAMPSTAT.CTRS) k)
  else s.addSat F.CNS_SAMPSTAT.LOST 1

/-- Counter k adds n; passing 2^48 - 1 it wraps, sets its CNS_OVF bit and may sample (R435, R440). -/
def State.cnsAdd (s : State) (k n : Nat) : State :=
  let v := s.cns k + n
  let s := (s.setReg (R.CNS_CTR_LO k) v).setFld (F.CNS_CTR_HI.COUNT k) (v / 2 ^ 32)
  if v < 2 ^ 48 then s
  else
    let s := s.setFld F.CNS_OVF.WRAPPED (setBit (s.fld F.CNS_OVF.WRAPPED) k)
    if s.flag (F.CNS_CTR_CFG.SAMPLE k) then s.cnsSample k else s

/-- Whether counter k counts an event number now (R434, R438). -/
def State.cnsCounts (s : State) (k ev : Nat) : Bool :=
  s.flag F.CNS_GCTRL.RUN && s.flag (F.CNS_CTR_CFG.EN k) && s.fld (F.CNS_CTR_CFG.EVENT k) == ev &&
    !(s.cnsStopped.contains k)

/-- Counter k sees n occurrences of its event in this core cycle: MODE 0 adds them, MODE 1 adds 1 once per cycle (R434). -/
def State.cnsSee (s : State) (k ev n : Nat) : State :=
  if s.cnsCounts k ev then
    if !s.flag (F.CNS_CTR_CFG.MODE k) then s.cnsAdd k n
    else if nth s.cnsLast k none = some s.cycle then s
    else { s.cnsAdd k 1 with cnsLast := setAt s.cnsLast k (some s.cycle) }
  else s

/-- n occurrences of an event number are registered (R434, R436). -/
def State.count (s : State) (ev n : Nat) : State :=
  (List.range 8).foldl (fun s k => s.cnsSee k ev n) s

/-- Bytes pass a bandwidth port (R442). -/
def State.bwBytes (s : State) (port n : Nat) : State :=
  if s.flag F.CNS_BWCFG.EN then { s with bwNow := setAt s.bwNow port (nth s.bwNow port 0 + n) } else s

/-! ## Stage banks and tables (R305–R307, R104) -/

/-- The key of a staged value or table entry: its space and byte offset. -/
def spaceKey (space off : Nat) : Nat := space * 2 ^ 26 + off

/-- The one key of a staged place: a WT_CODE register and its WAVETABLE entry are one storage (R104). -/
def canonKey (key : Nat) : Nat :=
  if 0x1400000 ≤ key ∧ key < 0x1500000 ∧ key % 0x1000 < 0x40 then
    spaceKey 2 ((key - 0x1400000) / 0x1000 * 64 + key % 0x1000)
  else key

/-- Stage bank 0 (A) or 1 (B). -/
def State.bank (s : State) (b : Nat) : Bank := if b = 0 then s.bankA else s.bankB

/-- Replace a stage bank, and show its state in TCK_STAT (R305). -/
def State.setBank (s : State) (b : Nat) (v : Bank) : State :=
  let code := if v.locked then 2 else if v.vals.isEmpty then 0 else 1
  if b = 0 then ({ s with bankA := v }).setFld F.TCK_STAT.STATEA code
  else ({ s with bankB := v }).setFld F.TCK_STAT.STATEB code

/-- Stage one value into a bank (R306). -/
def State.stage (s : State) (b key : Nat) (v : Word) : State :=
  s.setBank b { s.bank b with vals := Sparse.insert (s.bank b).vals (canonKey key) v }

/-- The 32-bit word of a table space in effect. -/
def State.table (s : State) (space off : Nat) : Nat := (Sparse.get (fun _ => 0) s.tables (spaceKey space off)).toNat

/-- Waveform entry of a channel's code (WAVETABLE; one storage with WT_CODE, R104). -/
def State.wtCode (s : State) (ch code : Nat) : Nat := s.regN (R.WT_CODE ch code)

/-- Programmed time of edge e of a channel in a time set (TIMESET). -/
def State.tsEdge (s : State) (ch ts e : Nat) : Nat := s.table 1 ((ch * 256 + ts) * 32 + 4 * e)

/-- A 64-bit table entry (SRCSEG to MODSEQ). -/
def State.table64 (s : State) (space off : Nat) : Nat := s.table space off + 2 ^ 32 * s.table space (off + 4)

/-! ## Calibration values (R367, R368, R372) -/

/-- What a path is corrected by when its bank has no valid set: nominal input delays, no trims (R372). -/
def trimDefault (key : Nat) : Int := if key < 2048 ∧ 6 ≤ key % 8 then 8192 else 0

/-- An interpolated calibration value in effect, in ticks, by its key. -/
def State.trimAt (s : State) (key : Nat) : Int := Sparse.get trimDefault s.trims key

/-- Device skew in ticks (R368). -/
def State.skew (s : State) : Int := signed 16 (s.fld F.CAL_DEVSKEW.SKEW)

/-- Device time of a phase step of a quadrant, in ticks, as a stamp takes it: trimmed and with the device skew taken off (R367, R368). -/
def State.stepTime (s : State) (q step : Nat) : Int :=
  step * 64 + s.trimAt (4096 + q * 64 + step % 64) - s.skew

/-- The space number under which a calibration value waits for its group's boundary (R371). -/
def trimSpace : Nat := 16

/-- Put a value of a key in effect: a register of space 0, a WAVETABLE entry (its register), a calibration value or a table word. -/
def State.putInEffect (s : State) (key : Nat) (v : Word) : State :=
  let space := key / 2 ^ 26
  let off := key % 2 ^ 26
  if space = 0 then
    s.setReg off (andNot 32 (s.regN off) (accessMask .st off) ||| (v.toNat &&& accessMask .st off))
  else if space = 2 then s.setReg (R.WT_CODE (off / 64) (off % 64 / 4)) v.toNat
  else if space = trimSpace then { s with trims := Sparse.set trimDefault s.trims off (signed 32 v.toNat) }
  else { s with tables := Sparse.set (fun _ => 0) s.tables key v }

/-- The settings that would be in effect with values laid over them (R309). -/
def State.overlay (s : State) (vals : SMap Word) : State :=
  vals.foldl (fun s p => s.putInEffect p.1 p.2) s

/-! ## Free values -/

/-- Step the model's counter of free values. -/
def State.drawn (s : State) : State := { s with free := s.free + 1 }

end Sys2Proof.Machine
end

