-- ==== Sys2Proof/Machine/Memory.lean ====
section
/-! DEFINITION. The pool, deep memory and host memory: allocations (R241–R246), the mapping of deep addresses (R243), write
queues (R249) and byte accesses by space (R271). -/
namespace Sys2Proof.Machine

/-- What a pool byte that nothing has written reads as: SELFTEST zeroes the pool (R445). -/
def poolDefault (_ : Nat) : Byte := 0

/-- What a deep byte that nothing has written reads as. DESIGN CHOICE (log 5). -/
def deepDefault (_ : Nat) : Byte := 0

/-- What a host byte that nothing has placed reads as. DESIGN CHOICE (log 5). -/
def hostDefault (_ : Nat) : Byte := 0

/-- A flash or keeping-store byte never written. PRESUMED (log 5): erased. -/
def erasedDefault (_ : Nat) : Byte := 0xFF

/-- The canonical form of an addressed memory, of which d says what an unlisted byte reads as: addresses rise strictly and no listed byte
is that one. -/
abbrev Memory.wf (d : Nat → Byte) (m : List Host.Cell) : Bool := Sparse.wf d m

/-! ## Allocations -/

/-- A valid pool allocation (R241). -/
structure PoolAlloc where
  k : Nat
  base : Nat
  bytes : Nat
  prot : Bool
deriving DecidableEq, Repr

/-- The size in units that a MEM_AT UNITS field shows: 32,768 reads as 0. -/
def poolUnits (f : Nat) : Nat := if f = 0 then 32768 else f

/-- The valid pool allocations, in ascending entry number. -/
def State.poolAllocs (s : State) : List PoolAlloc :=
  (Sparse.entriesIn s.regs 0x801000 0x803000).filterMap fun p =>
    if p.1 % 8 = 4 ∧ bitOf p.2.toNat 31 then
      let k := (p.1 - 0x801004) / 8
      some ⟨k, s.regN (R.MEM_AT_BASE k), poolUnits (bitsOf p.2.toNat 0 16) * 4096, bitOf p.2.toNat 30⟩
    else none

/-- The pool allocation in which a whole range lies (R241). -/
def State.poolHolding (s : State) (a n : Nat) : Option PoolAlloc :=
  s.poolAllocs.find? fun p => decide (p.base ≤ a) && decide (a + n ≤ p.base + p.bytes)

/-- Pool allocation entry k, if valid. -/
def State.poolAlloc (s : State) (k : Nat) : Option PoolAlloc := s.poolAllocs.find? fun p => p.k == k

/-- A valid deep allocation (R242, R246). -/
structure DeepAlloc where
  k : Nat
  base : Nat
  bytes : Nat
  chmask : Nat
  lbase : Nat
  prot : Bool
  lost : Bool
deriving DecidableEq, Repr

/-- The valid deep allocations, in ascending entry number. -/
def State.deepAllocs (s : State) : List DeepAlloc :=
  (Sparse.entriesIn s.regs 0x910000 0x914000).filterMap fun p =>
    let w := p.2.toNat
    if p.1 % 16 = 4 ∧ bitOf w 31 then
      let k := (p.1 - 0x910004) / 16
      let w3 := s.regN (R.DRM_AT k 3)
      some ⟨k, s.regN (R.DRM_AT k 0) + 2 ^ 32 * bitsOf w 0 8, s.regN (R.DRM_AT k 2) * 4096, bitsOf w3 24 8,
        bitsOf w3 0 24 * 4096, bitOf w 30, bitOf w 28⟩
    else none

/-- The deep allocation in which a whole range lies. -/
def State.deepHolding (s : State) (a n : Nat) : Option DeepAlloc :=
  s.deepAllocs.find? fun d => decide (d.base ≤ a) && decide (a + n ≤ d.base + d.bytes)

/-- Deep allocation entry k, if valid. -/
def State.deepAlloc (s : State) (k : Nat) : Option DeepAlloc := s.deepAllocs.find? fun d => d.k == k

/-- The controllers of a set, ascending. -/
def controllers (chmask : Nat) : List Nat := bitsSet 8 chmask

/-- Controller and local offset of byte x of a deep allocation (R243). -/
def DeepAlloc.locate (d : DeepAlloc) (x : Nat) : Nat × Nat :=
  let cs := controllers d.chmask
  let k := cs.length
  let g := x / 4096
  (nth cs (g % k) 0, d.lbase + g / k * 4096 + x % 4096)

/-- Bytes of the controller-local span of an allocation. -/
def DeepAlloc.span (d : DeepAlloc) : Nat := d.bytes / (controllers d.chmask).length

/-! ## GDDR7 controllers -/

/-- A controller before any traffic. -/
def Dram.idle : Dram := ⟨[], 0, none, none, 0, false⟩

/-- Controller n. -/
def State.dram (s : State) (n : Nat) : Dram := Sparse.get (fun _ => Dram.idle) s.drams n

/-- Replace controller n, and show its queue depth. -/
def State.setDram (s : State) (n : Nat) (d : Dram) : State :=
  ({ s with drams := Sparse.set (fun _ => Dram.idle) s.drams n d }).setFld (F.DRM_DC_WQ.DEPTH n) d.queue.length

/-- Whether controller n is fenced (R255). -/
def State.dramFenced (s : State) (n : Nat) : Bool := s.fld (F.DRM_DC_STAT.STATE n) == 3

/-- The key of a controller-local byte. -/
def deepKey (n loc : Nat) : Nat := n * 2 ^ 36 + loc

/-- Write one queued unit to the device (R249). -/
def State.serveWrite (s : State) (n : Nat) (w : QueuedWrite) : State :=
  { s with deep := w.bytes.foldl (fun m p => Sparse.set deepDefault m (deepKey n (w.unit * 64 + p.1)) p.2) s.deep }

/-- The bytes of a controller's local range are gone. -/
def State.deepForget (s : State) (n lo hi : Nat) : State :=
  { s with deep := Sparse.eraseRange s.deep (deepKey n lo) (deepKey n hi) }

/-- A write that covers part of its unit reads the rest of it first (R258). -/
def State.countPart (s : State) (n : Nat) (w : QueuedWrite) : State :=
  if w.bytes.length < 64 then (s.count (264 + n) 1).bwBytes n 64 else s

/-- Serve the oldest write of a controller. -/
def State.serveOldest (s : State) (n : Nat) : State :=
  match (s.dram n).queue with
  | [] => s
  | w :: t => (((s.serveWrite n w).setDram n { s.dram n with queue := t }).countPart n w).count (272 + n) 1 |>.bwBytes n 64

/-- Serve the oldest write of a controller, whose data meet a CRC mismatch that two retries do not mend: it is reported, and what the device
then holds is open, free values (R247). -/
def State.failOldest (s : State) (n : Nat) : State :=
  match (s.dram n).queue with
  | [] => s
  | w :: t =>
    let f := Config.freeValue s.free
    let w' := { w with bytes := w.bytes.map fun p => (p.1, BitVec.ofNat 8 (f / 2 ^ (8 * p.1))) }
    let s := ((s.drawn.serveWrite n w').setDram n { s.dram n with queue := t }).report (232 + n) kDramWrite (w.unit * 64)
    ((s.countPart n w).count (272 + n) 1).bwBytes n 64

/-- Whether a controller trains before its first access after self-refresh (R253). -/
def State.training (s : State) (n : Nat) : Bool := s.fld (F.DRM_DC_STAT.STATE n) == 1

/-- Whether accesses of a deep allocation wait for a training. -/
def State.deepWaits (s : State) (d : DeepAlloc) : Bool := (controllers d.chmask).any s.training

/-- The 1 ms slot of a controller that device time has reached, counted from 1; 0 before the first (R253). -/
def State.dramSlot (s : State) (n : Nat) : Nat := if s.ns < n * 125000 then 0 else (s.ns - n * 125000) / 1000000 + 1

/-- After a step of device time the controllers' slots and triggers follow the new time (DESIGN CHOICE, log 115). -/
def State.retimeDrams (s : State) : State :=
  (List.range 8).foldl (fun (s : State) n =>
    let d := s.dram n
    s.setDram n { d with
      lastSlot := min d.lastSlot (s.dramSlot n), trigger := d.trigger.map fun _ => ceilDiv s.ns 125000 * 125000 }) s

/-- A read of byte x of a deep allocation meets a CRC mismatch that two retries do not mend (R247): reported by its controller. -/
def State.readFails (s : State) (d : DeepAlloc) (x : Nat) : State :=
  s.report (232 + (d.locate x).1) kUncorrectable (d.locate x).2

/-- Put a byte into the entry of its unit (a queued unit's data are replaced, R249), or none if the unit is not queued. -/
def mergeQueued (unit place : Nat) (b : Byte) : List QueuedWrite → Option (List QueuedWrite)
  | [] => none
  | w :: t =>
    if w.unit = unit then some ({ w with bytes := Sparse.insert w.bytes place b } :: t)
    else (mergeQueued unit place b t).map (w :: ·)

/-- Write one byte to a controller: into its write queue; a full queue first serves its oldest entry, as its writer waits
(R18, R249); a fenced controller discards it (R255). -/
def State.deepPut (s : State) (n loc : Nat) (b : Byte) : State :=
  if s.dramFenced n then s
  else
    match mergeQueued (loc / 64) (loc % 64) b (s.dram n).queue with
    | some q => s.setDram n { s.dram n with queue := q }
    | none =>
      let s := if (s.dram n).queue.length < 64 then s else s.serveOldest n
      s.setDram n { s.dram n with queue := (s.dram n).queue ++ [⟨loc / 64, [(loc % 64, b)], s.cycle⟩] }

/-- Read one byte of a controller: a queued write answers (R249). -/
def State.deepGet (s : State) (n loc : Nat) : Byte :=
  match (s.dram n).queue.find? fun w => w.unit == loc / 64 with
  | some w => (Sparse.find? w.bytes (loc % 64)).getD (Sparse.get deepDefault s.deep (deepKey n loc))
  | none => Sparse.get deepDefault s.deep (deepKey n loc)

/-! ## Byte accesses -/

/-- Read pool bytes. -/
def State.poolRead (s : State) (a n : Nat) : List Byte := Sparse.getMany poolDefault s.pool a n

/-- The pool words of a range that hold an uncorrectable quarter (R233). -/
def State.badWords (s : State) (a n : Nat) : List Nat :=
  s.poolBad.foldl (fun l q =>
    let w := q / 4
    if a / 32 ≤ w ∧ w * 32 < a + n ∧ !l.contains w then l ++ [w] else l) []

/-- Whether a pool range touches a word that cannot be corrected: the word reaches its requester poisoned (R233). -/
def State.poisoned (s : State) (a n : Nat) : Bool := !(s.badWords a n).isEmpty

/-- A read meets words that cannot be corrected: each is counted, and reported by the pool with its offset (R233). -/
def State.reportPoison (s : State) (a n : Nat) : State :=
  (s.badWords a n).foldl (fun (s : State) w =>
    ((s.addSat F.MEM_ECC.POISONED 1).setReg R.MEM_ECCADDR (w * 32)).report 241 kUncorrectable (w * 32)) s

/-- Write pool bytes; a quarter written whole gets fresh check bits (R233). -/
def State.poolWrite (s : State) (a : Nat) (bs : List Byte) : State :=
  { s with
    pool := Sparse.setMany poolDefault s.pool a bs
    poolBad := s.poolBad.filter fun q => !(decide (a ≤ q * 8) && decide (q * 8 + 8 ≤ a + bs.length)) }

/-- A little-endian number in the pool. -/
def State.poolNum (s : State) (a n : Nat) : Nat := ofBytes (s.poolRead a n)

/-- Read host memory. -/
def State.hostRead (s : State) (a n : Nat) : List Byte := Sparse.getMany hostDefault s.host a n

/-- Write host memory. -/
def State.hostWrite (s : State) (a : Nat) (bs : List Byte) : State :=
  { s with host := Sparse.setMany hostDefault s.host a bs }

/-- Read bytes of a deep allocation from its byte x on. -/
def State.deepReadAt (s : State) (d : DeepAlloc) (x : Nat) : Nat → List Byte
  | 0 => []
  | n + 1 => s.deepGet (d.locate x).1 (d.locate x).2 :: s.deepReadAt d (x + 1) n

/-- Write bytes to a deep allocation from its byte x on. -/
def State.deepWriteAt (s : State) (d : DeepAlloc) (x : Nat) : List Byte → State
  | [] => s
  | b :: t => (s.deepPut (d.locate x).1 (d.locate x).2 b).deepWriteAt d (x + 1) t

/-- The 64-byte units that a read of a deep range takes from their controllers are counted (R436, R442). -/
def State.countUnits (s : State) (d : DeepAlloc) (x : Nat) : Nat → State
  | 0 => s
  | n + 1 =>
    let c := (d.locate x).1
    ((s.count (264 + c) 1).bwBytes c 64).countUnits d (x + 64) n

/-- A read of n bytes at byte x of a deep allocation, counted. -/
def State.countRead (s : State) (d : DeepAlloc) (x n : Nat) : State :=
  if n = 0 then s else s.countUnits d (x / 64 * 64) ((x + n - 1) / 64 - x / 64 + 1)

/-- Read bytes of a space: 0 HOST, 1 POOL, 2 DEEP (R271). -/
def State.spaceRead (s : State) (space a n : Nat) : List Byte :=
  if space = 0 then s.hostRead a n
  else if space = 1 then s.poolRead a n
  else match s.deepHolding a n with
    | some d => s.deepReadAt d (a - d.base) n
    | none => []

/-- Write bytes of a space. -/
def State.spaceWrite (s : State) (space a : Nat) (bs : List Byte) : State :=
  if space = 0 then s.hostWrite a bs
  else if space = 1 then s.poolWrite a bs
  else match s.deepHolding a bs.length with
    | some d => s.deepWriteAt d (a - d.base) bs
    | none => s

/-- Erase a range of the pool (its bytes read 0 again). -/
def State.poolErase (s : State) (a n : Nat) : State :=
  { s with pool := Sparse.eraseRange s.pool a (a + n)
           poolBad := s.poolBad.filter fun q => !(decide (a ≤ q * 8) && decide (q * 8 + 8 ≤ a + n)) }

/-- The whole pool is zeroed, with good check bits. -/
def State.poolZero (s : State) : State := { s with pool := [], poolBad := [] }

/-- All of deep memory reads as never written. -/
def State.deepZero (s : State) : State := { s with deep := [] }

/-! ## Capacity and lost allocations (R246, R255) -/

/-- Bytes of one controller's device: 16, 24 or 32 Gbit (R247). -/
def State.capacity (s : State) : Nat :=
  match s.fld F.DRM_CFG.DENSITY with
  | 0 => 2 * 2 ^ 30
  | 1 => 3 * 2 ^ 30
  | _ => 4 * 2 ^ 30

/-- Effective rate of one controller in MB/s: 122.5 GB/s at 36 Gbps, in proportion (R247). -/
def State.effective (s : State) : Nat := 122500 * s.fld F.DRM_CFG.RATE / 36

/-- Mark a deep allocation LOST. -/
def State.markLost (s : State) (d : DeepAlloc) : State :=
  s.setReg (R.DRM_AT d.k 1) (setBit (s.regN (R.DRM_AT d.k 1)) 28)

end Sys2Proof.Machine
end

