-- ==== Sys2Proof/Machine/Sched.lean ====
section
/-! DEFINITION. Descriptors, task slots, completions, flows and Reef's grants: the shared operations of the host interface and
the flow scheduler (R263–R304) and of Reef (R313–R317). -/
namespace Sys2Proof.Machine

/-! ## Descriptors (R271) -/

/-- A field of a descriptor: size bytes at a byte offset. -/
def dget (d off size : Nat) : Nat := bitsOf d (8 * off) (8 * size)

def dOpcode (d : Nat) : Nat := dget d 0x00 1
def dFlags (d : Nat) : Nat := dget d 0x01 1
def dFlow (d : Nat) : Nat := dget d 0x02 1
def dTag (d : Nat) : Nat := dget d 0x04 4
def dSlot (d : Nat) : Nat := dget d 0x08 2
def dWaits (d : Nat) : Nat := dget d 0x0A 2
def dNotify0 (d : Nat) : Nat := dget d 0x0C 2
def dNotify1 (d : Nat) : Nat := dget d 0x0E 2
def dDeadline (d : Nat) : Nat := dget d 0x10 8

/-- The slots named by valid NOTIFY fields, in order (R271). -/
def dNotify (d : Nat) : List Nat :=
  (if bitOf (dNotify0 d) 15 then [dNotify0 d % 4096] else []) ++
  (if bitOf (dNotify1 d) 15 then [dNotify1 d % 4096] else [])

/-- Status codes (R280). -/
def stOk : Nat := 0x00
def stOverflow : Nat := 0x01
def stReplayed : Nat := 0x02
def stCancelled : Nat := 0x03
def stFull : Nat := 0x04
def stTooLarge : Nat := 0x05
def stInconsistent : Nat := 0x06
def stNoGrant : Nat := 0x07
def stDeadline : Nat := 0x08
def stAuthFail : Nat := 0x09
def stFenced : Nat := 0x0A
def stNotPresent : Nat := 0x0B
def stCollided : Nat := 0x0C
def stTesterFault : Nat := 0x0D
def stDisagree : Nat := 0x0E

/-- The statuses that decrement dependants (R290). -/
def succeeded (st : Nat) : Bool := st == stOk || st == stOverflow || st == stReplayed

/-! ## Rings and completions -/

/-- Ring k beside its registers. -/
def State.ring (s : State) (k : Nat) : Ring := Sparse.get (fun _ => Ring.off) s.rings k

/-- Replace ring k. -/
def State.setRing (s : State) (k : Nat) (r : Ring) : State :=
  { s with rings := Sparse.set (fun _ => Ring.off) s.rings k r }

/-- Entries of the SQ and CQ of a ring (R263). -/
def State.sqSize (s : State) (k : Nat) : Nat := 2 ^ s.fld (F.HIF_RING_CFG.SQLOG2 k)
def State.cqSize (s : State) (k : Nat) : Nat := 2 ^ s.fld (F.HIF_RING_CFG.CQLOG2 k)

/-- Bus address of SQ entry i and of CQ entry i (R263). -/
def State.sqEntry (s : State) (k i : Nat) : Nat := s.reg64 (R.HIF_RING_SQBASE_LO k) (R.HIF_RING_SQBASE_HI k) + 64 * i
def State.cqEntry (s : State) (k i : Nat) : Nat := s.reg64 (R.HIF_RING_CQBASE_LO k) (R.HIF_RING_CQBASE_HI k) + 32 * i

/-- The completion source of a ring signals: its counts start again (R285). -/
def State.signalRing (s : State) (k : Nat) : State :=
  (s.setRing k { s.ring k with since := 0 }).signal k

/-- The 32 bytes of a completion (R277). -/
def completionBytes (desc status flags detail sqhead result time : Nat) : List Byte :=
  toBytes 4 (dTag desc) ++ toBytes 1 status ++ toBytes 1 (dOpcode desc) ++ toBytes 1 flags ++ toBytes 1 (dFlow desc) ++
  toBytes 2 (dSlot desc) ++ toBytes 2 detail ++ toBytes 2 sqhead ++ toBytes 2 0 ++ toBytes 8 result ++ toBytes 8 time

/-- DRAINING becomes DISABLED when nothing is outstanding (R265). -/
def State.drainEnd (s : State) (k : Nat) : State :=
  if s.fld (F.HIF_RING_STAT.STATE k) = 2 ∧ s.fld (F.HIF_RING_STAT.OUTSTANDING k) = 0 then
    s.setFld (F.HIF_RING_STAT.STATE k) 0
  else s

/-- Post a completion on a ring: write the CQ entry with the phase of the pass, advance, count, and signal as R285 says. -/
def State.post (s : State) (k desc status detail result : Nat) (fetchRef : Bool) : State :=
  let r := s.ring k
  let tail := s.fld (F.HIF_RING_POS.CQTAIL k)
  let flags := b2n r.phase + 2 * b2n fetchRef
  let addr := s.cqEntry k tail
  let old := s.hostRead addr 32
  let s := s.hostWrite addr (completionBytes desc status flags detail (s.fld (F.HIF_RING_POS.SQHEAD k)) result s.ns)
  let tail' := if tail + 1 = s.cqSize k then 0 else tail + 1
  let s := s.setFld (F.HIF_RING_POS.CQTAIL k) tail'
  let s := s.setFld (F.HIF_RING_STAT.OUTSTANDING k) (s.fld (F.HIF_RING_STAT.OUTSTANDING k) - 1)
  let since := r.since + 1
  let s := s.setRing k { r with
    phase := if tail' = 0 then !r.phase else r.phase
    unreleased := r.unreleased + 1
    since := since
    oldest := if r.since = 0 then s.clk else r.oldest
    last := some ⟨addr, old, dTag desc⟩ }
  let s := s.bwBytes 9 32
  let s := s.drainEnd k
  let limit := s.fld (F.HIF_RING_IRQ.COUNT k)
  if bitOf (dFlags desc) 0 || !(succeeded status) || (limit != 0 && decide (limit ≤ since)) then s.signalRing k else s

/-! ## Slots -/

/-- Task slot k. -/
def State.slot (s : State) (k : Nat) : Task := Sparse.get (fun _ => Task.none) s.slots k

/-- Show the empty slots and READY tasks in SCH_STAT. -/
def State.showSched (s : State) : State :=
  let held := (s.slots.filter fun p => p.2.state != .empty).length
  let ready := (s.slots.filter fun p => p.2.state == .ready).length
  (s.setFld F.SCH_STAT.FREE (4096 - held)).setFld F.SCH_STAT.READY ready

/-- Replace slot k. -/
def State.setSlot (s : State) (k : Nat) (t : Task) : State :=
  { s with slots := Sparse.set (fun _ => Task.none) s.slots k t }.showSched

/-- A task becomes READY and joins its resource's ready list (R294). -/
def State.makeReady (s : State) (k : Nat) : State :=
  s.setSlot k { s.slot k with state := .ready, count := 0, readyAt := s.cycle }

/-- A decrement aimed at a slot (R290–R292, R299). -/
def State.decrement (s : State) (k : Nat) : State :=
  let t := s.slot k
  match t.state with
  | .empty => s.setSlot k { t with count := min (t.count + 1) 65535 }
  | .waiting =>
    if t.count = 0 then s.addSat (whole R.SCH_UNDER) 1
    else if t.count = 1 then s.makeReady k
    else s.setSlot k { t with count := t.count - 1 }
  | .finished =>
    if t.waited ∧ t.readyAt = s.cycle then s else s.addSat (whole R.SCH_UNDER) 1
  | _ => s.addSat (whole R.SCH_UNDER) 1

/-- The WAITING tasks that NOTIFY names for a task or descriptor that did not succeed are handled by its flow's policy, in the next core
cycle (R293, R274). -/
def State.cascadeFrom (s : State) (desc : Nat) : State :=
  let named := (dNotify desc).filter fun k => (s.slot k).state == .waiting
  if dFlow desc < 32 ∧ s.flag (F.SCH_FLOW_CFG.CASCADE (dFlow desc)) ∧ named ≠ [] then
    { s with cascades := s.cascades ++ [⟨s.cycle, named.map fun k => (k, (s.slot k).order)⟩] }
  else s

/-! ## Reef -/

/-- The grantable budget in effect (R313, R318). -/
def State.grantable (s : State) : Nat :=
  (if s.flag F.REEF_ALARM.ACTIVE then min (s.fld F.REEF_BUDGET.UNITS) (s.fld F.REEF_ALARM.BUDGET)
   else s.fld F.REEF_BUDGET.UNITS) - 390

/-- Share of a reservation on each controller of its set, in 1/840 MB/s (840 is divisible by every set size; R250). -/
def Resv.share (r : Resv) : Nat := r.mbps * 840 / (controllers r.chmask).length

/-- The charged sum of controller n in 1/840 MB/s. -/
def State.charged (s : State) (n : Nat) : Nat :=
  sumNat (s.resv.map fun r => if bitOf r.chmask n then r.share else 0)

/-- All reservations in force, MB/s. -/
def State.reserved (s : State) : Nat := sumNat (s.resv.map fun r => r.mbps)

/-- Show the reservations in REEF_RESV and each DRM_DCn_STAT. -/
def State.showResv (s : State) : State :=
  let s := s.setFld F.REEF_RESV.GBS (ceilDiv s.reserved 1000)
  (List.range 8).foldl (fun s n => s.setFld (F.DRM_DC_STAT.RESVGBS n) (ceilDiv (s.charged n) 840000)) s

/-- The stream charge of a reservation in units (R314). -/
def streamCharge (mbps : Nat) : Nat := ceilDiv mbps 5000

/-- Owner number of a log stream's reservation; a task's is its slot. -/
def logOwner (stream : Nat) : Nat := 4096 + stream

/-- The units that fail-log drains hold with their reservations (R314). -/
def State.drainUnits (s : State) : Nat := sumNat (s.resv.map fun r => if 4096 ≤ r.owner then streamCharge r.mbps else 0)

/-- Change the reservations in force, and with them the units that drains hold. -/
def State.setResv (s : State) (l : List Resv) : State :=
  let old := s.drainUnits
  let s := { s with resv := l }.showResv
  s.setFld F.REEF_GRANTED.UNITS (s.fld F.REEF_GRANTED.UNITS + s.drainUnits - old)

/-- The controllers in service. -/
def State.inService (s : State) : List Nat := (List.range 8).filter fun n => !s.dramFenced n

/-- Whether a reservation fits the device-wide rate of R23 and every controller's rate of R250. -/
def State.fits (s : State) (r : Resv) : Bool :=
  let rate := 122500 * s.fld F.DRM_CFG.RATE
  decide ((s.reserved + r.mbps) * 36 ≤ s.inService.length * rate) &&
  (controllers r.chmask).all fun n =>
    !s.dramFenced n && decide ((s.charged n + r.share) * 36 ≤ rate * 840)

/-- Try to reserve; a refusal is counted (R316). -/
def State.reserve (s : State) (r : Resv) : Bool × State :=
  if s.fits r then (true, s.setResv (s.resv ++ [r]))
  else (false, s.addSat F.REEF_REFUSED.BW 1)

/-- Return every reservation of an owner. -/
def State.unreserve (s : State) (owner : Nat) : State :=
  s.setResv (s.resv.filter fun r => r.owner != owner)

/-- Show the queue length in REEF_GRANTED. -/
def State.setReefQueue (s : State) (q : List ReefReq) : State :=
  { s with reefQueue := q }.setFld F.REEF_GRANTED.QUEUED q.length

/-- Return the grant of a task (R315). -/
def State.returnGrant (s : State) (k : Nat) : State :=
  let t := s.slot k
  if t.grant = 0 then s
  else
    let s := s.setSlot k { t with grant := 0 }
    s.setFld F.REEF_GRANTED.UNITS (s.fld F.REEF_GRANTED.UNITS - t.grant)

/-- A task leaves Reef's queue. -/
def State.leaveReef (s : State) (k : Nat) : State :=
  s.setReefQueue (s.reefQueue.filter fun q => q.slot != k)

/-- The place of a request among those queued: by the core cycle it joined, then by slot (R317). -/
def insertReef : List ReefReq → ReefReq → List ReefReq
  | [], r => [r]
  | a :: t, r => if a.joined = r.joined ∧ r.slot < a.slot then r :: a :: t else a :: insertReef t r

/-! ## Finishing and releasing -/

/-- The status of a finished task after R237 (a lost write) and R303 (a replay that ran to its end). -/
def finalStatus (t : Task) (status : Nat) : Nat :=
  if t.collided && (succeeded status) then stCollided
  else if t.replay && (succeeded status) then stReplayed
  else status

/-- A task reaches FINISHED (R290–R293, R301, R315): its status is fixed, its grant and reservations are returned, and its
NOTIFY slots are decremented or left to its flow's policy. -/
def State.finish (s : State) (k status detail result : Nat) : State :=
  let t := s.slot k
  let st := finalStatus t status
  let s := s.leaveReef k
  let s := (s.returnGrant k).unreserve k
  let s := if t.replay then
      if st = stReplayed then s.addSat F.FLT_STAT.REPLAYS 1
      else if st = stTesterFault then s.addSat F.FLT_STAT.FAILED 1 else s
    else s
  let s := { s with journal := s.journal.filter (· != k) }
  let s := s.setFld F.FLT_STAT.JOURNAL s.journal.length
  let s := s.setSlot k { s.slot k with
    state := .finished, status := st, detail := detail, result := result, done := none, replay := false,
    readyAt := s.cycle }
  let s := if st = stDeadline then s.addSat (F.SCH_FLOW_STAT.DLMISS (dFlow t.desc)) 1 else s
  if succeeded st then (dNotify t.desc).foldl State.decrement s else s.cascadeFrom t.desc

/-- The work of a RUNNING task has ended; TASK_FINISH makes it FINISHED (R290). -/
def State.workDone (s : State) (k status detail result : Nat) : State :=
  if (s.slot k).state = .running then s.setSlot k { s.slot k with done := some (status, detail, result) } else s

/-- The work of a RUNNING task is interrupted by a block reset or a poisoned read (R392, R393): it is replayed from its start, a REFILL
from the word WRPTR does not yet cover; a second interruption ends it. -/
def State.interrupt (s : State) (k result : Nat) : State :=
  let t := s.slot k
  if t.state ≠ .running then s
  else if t.replayed then s.workDone k stTesterFault 0 result
  else s.setSlot k { t with replay := true, replayed := true, done := none, moved := if dOpcode t.desc = 0x09 then t.moved else 0 }

/-- The oldest held task of a flow (R296). -/
def State.oldestOf (s : State) (flow : Nat) : Option Nat :=
  (s.slots.foldl (fun (b : Option (Nat × Nat)) p =>
    if p.2.state = .empty ∨ dFlow p.2.desc ≠ flow then b
    else match b with
      | none => some (p.2.order, p.1)
      | some (o, k) => if p.2.order < o then some (p.2.order, p.1) else some (o, k)) none).map (·.2)

/-- Whether a CANCEL's completion is due: its target was released in an earlier core cycle (R276). -/
def CancelWait.due (c : CancelWait) (cycle : Nat) : Bool := c.released.any fun r => decide (r < cycle)

/-- Post the completions of CANCELs whose targets were released in an earlier core cycle (R276). -/
def State.postCancels (s : State) : State :=
  let due := s.cancels.filter fun c => c.due s.cycle
  let s := { s with cancels := s.cancels.filter fun c => !c.due s.cycle }
  due.foldl (fun s c => s.post c.ring c.desc stOk 0 0 false) s

/-- The CANCELs of a slot's task follow its release. -/
def State.targetReleased (s : State) (k : Nat) : State :=
  { s with cancels := s.cancels.map fun (c : CancelWait) =>
      if c.target = k ∧ c.released.isNone then { c with released := some s.cycle } else c }

/-- Release the task of a slot: its completion posts on its ring, the slot is empty again, and waiting CANCELs follow in the next core cycle
(R276, R279, R296). -/
def State.release (s : State) (k : Nat) : State :=
  let t := s.slot k
  let s := s.setSlot k Task.none
  let s := s.setFld (F.SCH_FLOW_STAT.HELD (dFlow t.desc)) (s.fld (F.SCH_FLOW_STAT.HELD (dFlow t.desc)) - 1)
  (s.post t.ring t.desc t.status t.detail t.result false).targetReleased k

/-! ## Resources (R294) and fences (R7, R383) -/

/-- The default reactions of a source (R382). -/
def defaultCfg (src : Nat) : Nat :=
  if src < 64 then 0b000001
  else if src < 80 then 0b000011
  else if src < 224 then 0b000001
  else if src < 232 then 0b000101
  else if src < 243 then 0b000001
  else if src < 247 then 0b000101
  else if src = 247 then 0b100011
  else if src < 262 then 0b000001
  else if src < 264 then 0b000011
  else if src = 264 then 0b100011
  else if src = 265 then 0b100101
  else if src < 269 then 0b100001
  else if src < 271 then 0b000001
  else if src = 271 then 0b100000
  else 0

/-- A fault source with its default reactions and nothing recorded. -/
def FaultSrc.fresh (src : Nat) : FaultSrc := ⟨defaultCfg src, 0, 0, false, false, none, none, none⟩

/-- Fault source n. -/
def State.source (s : State) (n : Nat) : FaultSrc := Sparse.get FaultSrc.fresh s.sources n

/-- Replace fault source n. -/
def State.setSource (s : State) (n : Nat) (f : FaultSrc) : State :=
  { s with sources := Sparse.set FaultSrc.fresh s.sources n f }

/-- Whether a channel is out of service: its bank's path is fenced, or its companion is lost (R7, R346, R383). -/
def State.channelFenced (s : State) (ch : Nat) : Bool := (s.source (64 + ch / 16)).fenced || s.compFence.any fun f => f.1 == ch

/-- The resource of a task (R294). -/
def taskResource (desc : Nat) : Resource :=
  match dOpcode desc with
  | 0x05 => .engine (Fin.ofNat 64 (dget desc 0x18 1))
  | 0x06 => .acq (Fin.ofNat 16 (dget desc 0x18 1))
  | 0x07 => .tdc (Fin.ofNat 64 (dget desc 0x18 1))
  | 0x08 => .cpx (Fin.ofNat 8 (dget desc 0x18 1))
  | 0x03 => .loader
  | 0x04 => .loader
  | 0x0B => .tack
  | 0x0D => .none
  | _ => .moveEngine

/-- Whether a task of a resource is in CHECKING or RUNNING. -/
def State.holds (s : State) (r : Resource) : Bool :=
  s.slots.any fun p => (p.2.state == .checking || p.2.state == .running) && taskResource p.2.desc == r

/-- The move engines that are idle and neither in a reset nor fenced (R294, R383). -/
def State.idleEngines (s : State) : List Nat :=
  (List.range 4).filter fun e =>
    !(s.slots.any fun p => (p.2.state == .checking || p.2.state == .running) &&
        taskResource p.2.desc == .moveEngine && p.2.engine == e) &&
    (s.source (243 + e)).resetting.isNone && !(s.source (243 + e)).fenced

/-- Whether all four move engines are fenced. -/
def State.allMoveFenced (s : State) : Bool := (List.range 4).all fun e => (s.source (243 + e)).fenced

/-- Whether TASK a comes before b in a ready list (R295). -/
def readyBefore (a b : Task) : Bool :=
  decide (a.readyAt < b.readyAt) ||
  (a.readyAt == b.readyAt && (decide (dFlow a.desc < dFlow b.desc) ||
    (dFlow a.desc == dFlow b.desc && decide (a.order < b.order))))

/-- A WAITING task is cancelled: a decrement of the same core cycle still reaches it (R292, R298, R299). -/
def State.cancelWaiting (s : State) (k : Nat) : State :=
  (s.setSlot k { s.slot k with waited := true }).finish k stCancelled 0 0

/-- The head of the ready list of a resource (R295). -/
def State.readyHead (s : State) (r : Resource) : Option Nat :=
  (s.slots.foldl (fun (b : Option (Nat × Task)) p =>
    if p.2.state = .ready ∧ taskResource p.2.desc = r then
      match b with
      | none => some p
      | some q => if readyBefore p.2 q.2 then some p else some q
    else b) none).map (·.1)

end Sys2Proof.Machine
end

