-- ==== Sys2Proof/Machine/Engine.lean ====
section
/-! DEFINITION. Site groups and sequence engines: membership, sections and their instructions, lines, conditions, link frames
and Backstay takeover, aborts (R30–R64, R325, R402). -/
namespace Sys2Proof.Machine

/-! ## Engines and groups -/

/-- Engine of a site group. -/
def State.engine (s : State) (sg : Nat) : Engine := Sparse.get (fun _ => Engine.idle) s.engines sg

/-- Replace an engine. -/
def State.setEngine (s : State) (sg : Nat) (e : Engine) : State :=
  { s with engines := Sparse.set (fun _ => Engine.idle) s.engines sg e }

/-- Microsequencer of an engine (R69–R83). -/
def State.micro (s : State) (sg : Nat) : Micro := Sparse.get (fun _ => Micro.blank) s.micros sg

/-- Replace a microsequencer. -/
def State.setMicro (s : State) (sg : Nat) (m : Micro) : State :=
  { s with micros := Sparse.set (fun _ => Micro.blank) s.micros sg m }

/-- The line commands that an engine's issue unit holds are discarded: it issues nothing further. -/
def State.dropCommands (s : State) (sg : Nat) : State :=
  s.setMicro sg { s.micro sg with main := [], arms := Micro.noArms, lrem := 0 }

/-- SE_STATE.STATE (R59): 0 IDLE, 1 ARMED, 2 RUNNING, 3 ENDING, 4 FENCED. -/
def State.eState (s : State) (sg : Nat) : Nat := s.fld (F.SE_STATE.STATE sg)

/-- Whether a group's engine is ARMED or RUNNING. -/
def State.busySg (s : State) (sg : Nat) : Bool := s.eState sg == 1 || s.eState sg == 2

/-- The vector cycles issued by the current or latest burst. -/
def State.seCycle (s : State) (sg : Nat) : Nat := s.reg64 (R.SE_CYCLE_LO sg) (R.SE_CYCLE_HI sg)

/-- The set bits of eight 32-bit registers, as numbers 0 to 255. -/
def State.bits256 (s : State) (reg : Nat → Nat) : List Nat :=
  (List.range 8).flatMap fun w =>
    let v := s.regN (reg w)
    if v = 0 then [] else (bitsSet 32 v).map (32 * w + ·)

/-- The member channels of a group, ascending (R30). -/
def State.members (s : State) (sg : Nat) : List Nat := s.bits256 (R.SE_CHMAP sg)

/-- Whether a channel is a member of a group. -/
def State.isMember (s : State) (sg ch : Nat) : Bool := bitOf (s.regN (R.SE_CHMAP sg (ch / 32))) (ch % 32)

/-- The site group that owns a channel, if any (R6, R30). -/
def State.groupOf (s : State) (ch : Nat) : Option Nat := (List.range 64).find? fun g => s.isMember g ch

def State.gang (s : State) (sg : Nat) : Bool := s.flag (F.SE_CFG.GANG sg)

/-- Sites of a group: NSITES + 1 when ganged, else one (R31, R32). -/
def State.nSites (s : State) (sg : Nat) : Nat := if s.gang sg then s.fld (F.SE_CFG.NSITES sg) + 1 else 1

/-- Site of a member channel (R31, R32). -/
def State.siteOf (s : State) (sg ch : Nat) : Nat :=
  if s.gang sg then s.fld (F.SE_CHSITE.SITE sg (ch / 8) (ch % 8)) else 0

/-- The members of one site, ascending. -/
def State.siteMembers (s : State) (sg site : Nat) : List Nat := (s.members sg).filter fun c => s.siteOf sg c == site

/-- Position of a channel on the group's lines: its rank in its site (R31, R32). -/
def State.position (s : State) (sg ch : Nat) : Nat :=
  ((s.siteMembers sg (s.siteOf sg ch)).filter fun c => decide (c < ch)).length

/-- Positions a line carries. -/
def State.nPositions (s : State) (sg : Nat) : Nat := (s.siteMembers sg 0).length

/-- Data-rate multiplier M (R92). -/
def State.mult (s : State) (sg : Nat) : Nat := 2 ^ s.fld (F.PG_CFG.MULT sg)

/-- Committed vector cycle in ticks (R91). -/
def State.period (s : State) (sg : Nat) : Nat := s.regN (R.PG_PERIOD_LO sg) + 2 ^ 32 * s.fld (F.PG_PERIOD_HI.TICKS_HI sg)

/-- Sub-cycle length (R92). -/
def State.psub (s : State) (sg : Nat) : Nat := s.period sg / s.mult sg

def State.flat (s : State) (sg : Nat) : Nat := s.fld (F.SE_CFG.FLAT sg)

/-- Least spacing of edges and shortest sub-cycle of the grade, in ticks (R2, R105). -/
def State.tmin (s : State) : Nat := if s.part.grade16 then 320 else 427
def State.subMin (s : State) : Nat := if s.part.grade16 then 512 else 683

/-! ## Sections (R66) -/

/-- A header field of the loaded section; 0 with no section. -/
def State.sec (s : State) (sg off size : Nat) : Nat :=
  match (s.engine sg).sec with
  | none => 0
  | some c => s.poolNum (c.base + off) size

def State.instrCount (s : State) (sg : Nat) : Nat := s.sec sg 0x18 4
def State.streamCount (s : State) (sg : Nat) : Nat := s.sec sg 0x29 1
def State.entryCount (s : State) (sg : Nat) : Nat := s.sec sg 0x28 1
def State.entryAddr (s : State) (sg e : Nat) : Nat := s.sec sg (0x70 + 4 * e) 4

/-- Instruction word at an address of the loaded section (R38). -/
def State.instrWord (s : State) (sg ia : Nat) : Nat := s.sec sg (s.sec sg 0x20 4 + 8 * ia) 8

/-- Line bytes L / 8 of the loaded section (R36). -/
def State.lineBytes (s : State) (sg : Nat) : Nat := 2 ^ s.sec sg 0x0E 2 / 8

/-- A field of stream entry i. -/
def State.streamEntry (s : State) (sg i off size : Nat) : Nat := s.sec sg (0xB0 + 32 * i + off) size

/-- The codes of a line: nibble i of byte floor(i / 2) (R36). -/
def nibbles : List Byte → List Nat
  | [] => []
  | b :: t => b.toNat % 16 :: b.toNat / 16 :: nibbles t

/-- Bytes of resident line k (R37). -/
def State.residentLine (s : State) (sg k : Nat) : List Byte :=
  match (s.engine sg).sec with
  | none => []
  | some c => s.poolRead (c.base + s.sec sg 0x24 4 + k * s.lineBytes sg) (s.lineBytes sg)

/-- Fields of an instruction word (R38). -/
def iOp (w : Nat) : Nat := bitsOf w 56 8
def iX (w : Nat) : Nat := bitsOf w 52 4
def iA (w : Nat) : Nat := bitsOf w 28 24
def iS (w : Nat) : Bool := bitOf w 27
def iLine (w : Nat) : Nat := bitsOf w 0 27

/-- Whether the section's stream, if any, is in use: any stream entry makes the burst stream (R26). -/
def State.streams (s : State) (sg : Nat) : Bool := decide (0 < s.streamCount sg)

/-- The instruction words of the loaded section, in address order. -/
def State.instrWords (s : State) (sg : Nat) : List Nat := (List.range (s.instrCount sg)).map (s.instrWord sg)

/-! ## Sites and conditions (R33–R35, R40–R42) -/

/-- SE_SITEMASK as it bears on a decision about vector cycle m (R64): the committed mask of that cycle. -/
def maskAt (m : Nat) : List (Nat × Nat) → Nat → Nat
  | [], dflt => dflt
  | (c, v) :: t, dflt => if c ≤ m then v else maskAt m t dflt

/-- Whether site k is active in a decision for decision cycle d (R33, R34, R64). -/
def State.activeSite (s : State) (sg d k : Nat) : Bool :=
  let e := s.engine sg
  !(bitOf (maskAt (d - s.flat sg) e.masks (s.fld (F.SE_SITEMASK.MASK sg))) k) &&
  (match Sparse.get (fun _ => none) e.autoAt k with
   | none => true
   | some m => decide (d < m + s.flat sg))

/-- The active sites of a decision. -/
def State.activeSites (s : State) (sg d : Nat) : List Nat :=
  (List.range (s.nSites sg)).filter (s.activeSite sg d)

/-- The sites that failed in cycles c to d - FLAT (R40). -/
def State.failedSince (s : State) (sg d : Nat) : Nat :=
  let e := s.engine sg
  if d < s.flat sg then 0
  else (e.fails.filter fun p => decide (e.clf ≤ p.1) && decide (p.1 ≤ d - s.flat sg)).foldl (fun a p => a ||| p.2) 0

/-- The value of condition X for decision cycle d (R35, R42). -/
def State.condition (s : State) (sg d x : Nat) : Bool :=
  let e := s.engine sg
  let act := s.activeSites sg d
  let v := match x % 8 with
    | 0 => act.any fun k => bitOf (s.failedSince sg d) k
    | 1 => !act.isEmpty && act.all fun k => bitOf (s.failedSince sg d) k
    | 2 => decide (s.flat sg ≤ d) && act.any fun k => bitOf (Sparse.get (fun _ => 0) e.fails (d - s.flat sg)) k
    | 3 => e.mf
    | 4 => e.rf
    | 5 => if d < s.flat sg then e.hfStart else Sparse.get (fun _ => false) e.hf (d - s.flat sg)
    | _ => false
  if bitOf x 3 then !v else v

/-! ## Link frames (R325, R334) -/

/-- Port p beside its registers. -/
def State.port (s : State) (p : Nat) : Port := Sparse.get (fun _ => Port.off) s.ports p

/-- Replace port p. -/
def State.setPort (s : State) (p : Nat) (v : Port) : State :=
  { s with ports := Sparse.set (fun _ => Port.off) s.ports p v }

/-- Whether a port carries SYNC, TIME, FAIL and DIGEST frames (R334). -/
def State.carries (s : State) (p : Nat) : Bool :=
  let own := s.fld F.LNK_ID.ID
  let their := s.fld (F.LNK_P_PART_ID.ID p)
  s.flag (F.LNK_P_STAT.ATTACHED p) && own != 0 && their != 0 && their != own

/-- The next SEQ of a class, and its counter stepped (R325). -/
def State.nextSeq (s : State) (cls : Nat) : Nat × State :=
  let n := Sparse.get (fun _ => 0) s.frameSeq cls
  (n, { s with frameSeq := Sparse.set (fun _ => 0) s.frameSeq cls ((n + 1) % 65536) })

/-- The records of a FAIL frame's payload that are not PAD (R129, R339). -/
def payloadRecords (payload : Nat) : List Nat :=
  ((List.range 4).map fun i => bitsOf payload (128 * i) 128).filter fun r => r / 2 ^ 124 != 15

/-- Offer a frame to a port: queued, or, where the port does not carry its class, discarded and counted (R334). -/
def State.offerFrame (s : State) (p : Nat) (f : Frame) : State :=
  if f.cls = 1 ∨ f.cls = 2 ∨ s.carries p then s.setPort p { s.port p with txq := (s.port p).txq ++ [f] }
  else if f.cls = 3 then s.addSat (F.LNK_P_SYNC.TXDROP p) 1
  else if f.cls = 5 then s.addSat (F.LNK_P_FAIL.TXDROP p) (payloadRecords f.payload).length
  else s

/-! ## Backstay (R396, R402) -/

/-- Pair state of a group. -/
def State.pair (s : State) (sg : Nat) : PairSg := Sparse.get (fun _ => PairSg.off) s.pairs sg
def State.setPair (s : State) (sg : Nat) (v : PairSg) : State :=
  { s with pairs := Sparse.set (fun _ => PairSg.off) s.pairs sg v }

/-- Whether a group is set in BKS_SGMASK while a role is given (R399). -/
def State.paired (s : State) (sg : Nat) : Bool :=
  s.fld F.BKS_CFG.ROLE != 0 && bitOf (s.regN (if sg < 32 then R.BKS_SGMASK_LO else R.BKS_SGMASK_HI)) (sg % 32)

/-- Send a pair frame of a TYPE for a group on BKS_CFG.PORT (R398). -/
def State.sendPair (s : State) (type sg cycle digest : Nat) : State :=
  let q := s.nextSeq 6
  let payload := ofBytes (toBytes 1 (type * 64 + sg) ++ toBytes 1 0 ++ toBytes 2 (s.fld (F.CMP_SGBURST.NUMBER sg)) ++
    toBytes 8 cycle ++ toBytes 8 digest)
  q.2.offerFrame (s.fld F.BKS_CFG.PORT) ⟨6, 1, s.fld F.LNK_ID.ID, q.1, payload⟩

/-- The pin banks that hold members of a group. -/
def State.banksOf (s : State) (sg : Nat) : List Nat :=
  (List.range 16).filter fun b => (s.members sg).any fun c => c / 16 == b

/-- Mark one group HANDED and send its TAKEOVER, naming the first of its cycles that begins at the balls after PSEL falls. -/
def State.handOver (s : State) (sg : Nat) : State :=
  if s.flag (F.BKS_SGSTAT.HANDED sg) then s
  else
    let ahead := (s.engine sg).nextStart - toTick s.now
    let back := if ahead = 0 then 0 else ceilDiv ahead (s.period sg) - 1
    (s.setFld (F.BKS_SGSTAT.HANDED sg) 1).sendPair 2 sg (s.seCycle sg - back) 0

/-- The matched paired groups with a member in one of some banks. -/
def State.pairedIn (s : State) (banks : List Nat) : List Nat :=
  (List.range 64).filter fun g => s.paired g && s.flag (F.BKS_SGSTAT.PAIRED g) && (s.banksOf g).any banks.contains

/-- The banks that a takeover of some banks takes: with every matched group there, all of its banks. -/
def State.takenBanks (s : State) : Nat → List Nat → List Nat
  | 0, banks => banks
  | n + 1, banks =>
    let more := (s.pairedIn banks).flatMap s.banksOf
    s.takenBanks n ((List.range 16).filter fun b => banks.contains b || more.contains b)

/-- The primary takes over a RUNNING paired group (R402): PSEL of its banks falls, and the takeover extends to every other
matched group with a member there. -/
def State.takeover (s : State) (sg : Nat) : State :=
  if s.fld F.BKS_CFG.ROLE = 1 ∧ s.paired sg ∧ s.flag (F.BKS_SGSTAT.PAIRED sg) then
    let banks := s.takenBanks 16 (s.banksOf sg)
    let groups := s.pairedIn banks
    groups.foldl State.handOver { s with pselHeld := banks.foldl setBit s.pselHeld }
  else s

/-! ## Ending a burst (R60–R64) -/

/-- Burst end causes (R63). -/
def cHalted : Nat := 0x00
def cHostAbort : Nat := 0x01
def cUnderrun : Nat := 0x02
def cStreamCheck : Nat := 0x03
def cTrap : Nat := 0x04
def cFenced : Nat := 0x05
def cStack : Nat := 0x06
def cLoopDepth : Nat := 0x07
def cZeroCount : Nat := 0x08
def cSpacing : Nat := 0x09
def cStreamOrder : Nat := 0x0A
def cStreamEnd : Nat := 0x0B
def cUnbound : Nat := 0x0C
def cBadTarget : Nat := 0x0D

/-- Whether a cause is a tester cause: UNDERRUN to FENCED. -/
def testerCause (c : Nat) : Bool := decide (2 ≤ c) && decide (c ≤ 5)

/-- Status of a burst that ended with a cause (R63). -/
def causeStatus (c : Nat) : Nat :=
  if c = cHalted then stOk else if c = cHostAbort then stCancelled else if c ≤ 5 then stTesterFault else stInconsistent

/-- Commits that name a cycle which the ending burst of a group does not reach are dropped (R310). -/
def State.dropCommits (s : State) (sg : Nat) : State :=
  { s with groupPend := s.groupPend.filter fun c => !(c.sg == sg && match c.atCycle with
      | some b => s.eState sg == 1 || decide (s.seCycle sg < b)
      | none => false) }

/-- The engine issues nothing further: it enters ENDING with a cause (R60, R62). The instruction of a line that still waits for a
decision stays until that line has played out (R149). -/
def State.enterEnding (s : State) (sg cause : Nat) : State :=
  let s := (s.dropCommits sg).dropCommands sg
  let s := (s.setFld (F.SE_STATE.STATE sg) 3).setFld (F.SE_CAUSE.CAUSE sg) cause
  let s := s.setFld (F.BKS_SGSTAT.PAIRED sg) 0
  let e := s.engine sg
  s.setEngine sg { e with cur := if e.part.isSome then e.cur else none, endedAt := s.cycle }

/-- A tester or image cause ends a burst (R62–R64): an ARMED or RUNNING engine enters ENDING, a RUNNING paired group of the
primary is taken over for a tester cause, and a cause that meets another in one cycle leaves the lower. -/
def State.abortCause (s : State) (sg cause : Nat) : State :=
  if s.eState sg = 2 then
    let s := if testerCause cause then s.takeover sg else s
    s.enterEnding sg cause
  else if s.eState sg = 1 then s.enterEnding sg cause
  else if s.eState sg = 3 ∧ (s.engine sg).endedAt = s.cycle ∧ s.fld (F.SE_CAUSE.CAUSE sg) ≠ cHalted then
    if s.fld (F.SE_CAUSE.CAUSE sg) = cHostAbort then
      (s.setFld (F.SE_CAUSE.CAUSE sg) cause).setFld (F.SE_CAUSE.ABORT_SEEN sg) 1
    else s.setFld (F.SE_CAUSE.CAUSE sg) (min cause (s.fld (F.SE_CAUSE.CAUSE sg)))
  else s

/-- A host abort (R62, R64): while ENDING it only sets ABORT_SEEN; in IDLE and FENCED it has no effect. -/
def State.hostAbort (s : State) (sg : Nat) : State :=
  if s.busySg sg then s.enterEnding sg cHostAbort
  else if s.eState sg = 3 then s.setFld (F.SE_CAUSE.ABORT_SEEN sg) 1
  else s

/-- Fence an engine (R7, R82, R84): a burst in progress is aborted with cause FENCED and the engine is out of service. -/
def State.fenceEngine (s : State) (sg : Nat) : State :=
  (s.abortCause sg cFenced).setFld (F.SE_STATE.STATE sg) 4

/-- Every ARMED or RUNNING burst that uses a channel is aborted with cause FENCED (R7, R62). -/
def State.fenceChannels (s : State) (chs : List Nat) : State :=
  (List.range 64).foldl (fun s g =>
    if s.busySg g && chs.any (s.isMember g) then s.abortCause g cFenced else s) s

end Sys2Proof.Machine
end

