-- ==== Sys2Proof/Machine/Units.lean ====
section
/-! DEFINITION. Source units, modulation units and check-value units: what each gives or takes in one sub-cycle (R151–R176). -/
namespace Sys2Proof.Machine

/-! ## Sequences (R162) -/

/-- A segment entry. -/
structure Segment where
  stream : Bool
  length : Nat
  offset : Nat
deriving DecidableEq, Repr

/-- A sequence entry. -/
structure SeqEntry where
  ends : Bool
  next : Nat
  reps : Nat
  seg : Nat
deriving DecidableEq, Repr

/-- Segment k of unit u: SRCSEG (space 3) or MODSEG (space 5). -/
def State.segment (s : State) (space u k : Nat) : Segment :=
  let e := s.table64 space ((u * 256 + k) * 8)
  ⟨bitOf e 63, bitsOf e 24 24, bitsOf e 0 24⟩

/-- Sequence entry e of unit u: SRCSEQ (space 4) or MODSEQ (space 6). -/
def State.seqEntry (s : State) (space u e : Nat) : SeqEntry :=
  let w := s.table64 space ((u * 1024 + e) * 8)
  ⟨bitOf w 63, bitsOf w 32 10, bitsOf w 16 16 + 1, bitsOf w 0 8⟩

/-- What the boundary between two repeats brings (R163, R166): the next repeat, an entry, a taken jump, or the end. -/
inductive Boundary where
  | again
  | entry (e : Nat)
  | jump (j : PendingJump)
  | stop
deriving DecidableEq, Repr

/-- The boundary after `done` completed repeats of an entry, with the jump still pending behind it (R163, R166). -/
def boundaryOf (q : SeqEntry) (done : Nat) (jump : Option PendingJump) : Boundary × Option PendingJump :=
  match jump with
  | some j =>
    if j.skip = 0 then (.jump j, none)
    else if done < q.reps then (.again, some { j with skip := j.skip - 1 })
    else if q.ends then (.stop, none)
    else (.entry q.next, some { j with skip := j.skip - 1 })
  | none => if done < q.reps then (.again, none) else if q.ends then (.stop, none) else (.entry q.next, none)

/-- A jump request with a lead (R166): the next boundary for a lead of 12 or more, else the following one. -/
def jumpWith (entry lead : Nat) : PendingJump := ⟨entry, lead, if 12 ≤ lead then 0 else 1⟩

/-! ## Source units -/

def State.src (s : State) (u : Nat) : SrcUnit := Sparse.get (fun _ => SrcUnit.off) s.srcs u
def State.setSrc (s : State) (u : Nat) (v : SrcUnit) : State :=
  { s with srcs := Sparse.set (fun _ => SrcUnit.off) s.srcs u v }

/-- SRC_STAT.STATE: 0 STOPPED, 1 PLAYING, 2 UNDERRUN (R161). -/
def State.srcState (s : State) (u : Nat) : Nat := s.fld (F.SRC_STAT.STATE u)

/-- Bits of a sample (R159). -/
def State.srcWidth (s : State) (u : Nat) : Nat := 2 ^ s.fld (F.SRC_CFG.WIDTH u)

/-- Whether a source unit is enabled and serves a group. -/
def State.srcServes (s : State) (u sg : Nat) : Bool := s.flag (F.SRC_CFG.EN u) && s.fld (F.SRC_CFG.SG u) == sg

/-- The lane of a channel on its bank's unit, if it is one (R159). -/
def State.srcLane (s : State) (u ch : Nat) : Option Nat :=
  let first := s.fld (F.SRC_CFG.FIRSTCH u)
  if first ≤ ch ∧ ch < first + s.srcWidth u then some (ch - first) else none

/-- Bytes of the refill ring, and those filled. -/
def State.ringSize (s : State) (u : Nat) : Nat := s.regN (R.SRC_RING_SIZE u) * 4096
def State.ringFilled (s : State) (u : Nat) : Nat :=
  (s.regN (R.SRC_RING_WRPTR u) + s.ringSize u - s.regN (R.SRC_RING_RDPTR u)) % s.ringSize u

/-- Discard a pending jump of a source unit (R165, R166, R169). -/
def State.srcDropJump (s : State) (u : Nat) : State :=
  if (s.src u).jump.isSome then (s.setSrc u { s.src u with jump := none }).setFld (F.SRC_JSTAT.DISCARDED u) 1 else s

/-- Stop a source unit (R161, R165). -/
def State.srcStop (s : State) (u : Nat) : State :=
  let s := (s.srcDropJump u).setFld (F.SRC_STAT.STATE u) 0
  s.setSrc u { s.src u with k := 0, words := (s.src u).words.filter Option.isSome }

/-- The filled bytes, so many before, may have fallen below the low-water mark: once per fall (R168). -/
def State.ringLow (s : State) (u before : Nat) : State :=
  let low := s.regN (R.SRC_RING_LOW u)
  if low ≤ before ∧ s.ringFilled u < low then (s.setFld (F.SRC_FLAGS.LOW u) 1).signal (96 + u) else s

/-- Read the next ring word (R167, R169): its data, or an under-run when WRPTR does not cover it. -/
def State.srcReadWord (s : State) (u : Nat) : State :=
  let v := s.src u
  let rd := s.regN (R.SRC_RING_RDPTR u)
  if s.ringSize u = 0 ∨ s.ringFilled u = 0 then s.setSrc u { v with words := v.words ++ [none] }
  else
    let a := s.regN (R.SRC_RING_BASE u) + rd
    let w := s.poolNum a 32
    let before := s.ringFilled u
    let s := (s.reportPoison a 32).setReg (R.SRC_RING_RDPTR u) ((rd + 32) % s.ringSize u)
    (s.setSrc u { v with words := v.words ++ [some w] }).ringLow u before

/-- What happens at the boundary after a completed repeat (R163, R166). -/
def State.srcBoundary (s : State) (u : Nat) : State :=
  let e := s.fld (F.SRC_STAT.ENTRY u)
  let done := s.fld (F.SRC_STAT.REPDONE u) + 1
  let b := boundaryOf (s.seqEntry 4 u e) done (s.src u).jump
  match b.1 with
  | .again => (s.setFld (F.SRC_STAT.REPDONE u) done).setSrc u { s.src u with k := 0, jump := b.2 }
  | .entry e' =>
    ((s.setFld (F.SRC_STAT.ENTRY u) e').setFld (F.SRC_STAT.REPDONE u) 0).setSrc u { s.src u with k := 0, jump := b.2 }
  | .jump j =>
    let s := (s.setFld (F.SRC_STAT.ENTRY u) j.entry).setFld (F.SRC_STAT.REPDONE u) 0
    let s := (s.setFld (F.SRC_JSTAT.VALID u) 1).setFld (F.SRC_JSTAT.FOLLOWING u) (b2n (decide (j.lead < 12)))
    let s := (s.setFld (F.SRC_JSTAT.ENTRY u) j.entry).setFld (F.SRC_JSTAT.LEAD u) (min j.lead 65535)
    s.setSrc u { s.src u with k := 0, jump := none }
  | .stop => (s.setFld (F.SRC_STAT.REPDONE u) done).srcStop u

/-- Whether a PLAYING unit stands at a boundary. -/
def State.srcAtBoundary (s : State) (u : Nat) : Bool :=
  s.srcState u == 1 &&
  decide ((s.segment 3 u (s.seqEntry 4 u (s.fld (F.SRC_STAT.ENTRY u))).seg).length ≤ (s.src u).k)

/-- Pass a boundary at which the unit stands. -/
def State.srcPass (s : State) (u : Nat) : State := if s.srcAtBoundary u then s.srcBoundary u else s

/-- Bits of sample k of a segment in source memory (R163). -/
def State.srcSample (s : State) (u : Nat) (g : Segment) (k : Nat) : Nat :=
  let bit := k * s.srcWidth u
  let a := s.regN (R.SRC_MEM_BASE u) + g.offset * 32 + bit / 8
  bitsOf (s.poolNum a 2) (bit % 8) (s.srcWidth u)

/-- START of an entry (R165). -/
def State.srcStart (s : State) (u e : Nat) : State :=
  let s := s.srcStop u
  let s := ((s.setFld (F.SRC_STAT.STATE u) 1).setFld (F.SRC_STAT.ENTRY u) e).setFld (F.SRC_STAT.REPDONE u) 0
  s.setReg64 (R.SRC_PLAYED_LO u) (R.SRC_PLAYED_HI u) 0

/-- JUMP to an entry, latched at the sample played next (R165, R166). -/
def State.srcJump (s : State) (u e : Nat) : State :=
  let s := s.srcPass u
  if s.srcState u = 1 then
    let g := s.segment 3 u (s.seqEntry 4 u (s.fld (F.SRC_STAT.ENTRY u))).seg
    let s := s.srcDropJump u
    s.setSrc u { s.src u with jump := some (jumpWith e (g.length - (s.src u).k)) }
  else s.setFld (F.SRC_JSTAT.DISCARDED u) 1

/-- An under-run takes effect at the sample that would play now (R169). -/
def State.srcUnderrun (s : State) (u : Nat) : State :=
  let s := (s.setFld (F.SRC_FLAGS.UNDERRUN u) 1).setReg (R.SRC_URSAMPLE u) (s.regN (R.SRC_PLAYED_LO u))
  let s := s.report (112 + u) kDeadline (s.regN (R.SRC_URSAMPLE u))
  let s := (s.srcDropJump u).setFld (F.SRC_STAT.STATE u) 2
  s.setSrc u { s.src u with k := 0 }

/-- A sample has played (R163). -/
def State.srcPlayed (s : State) (u sample : Nat) : State :=
  let n := s.reg64 (R.SRC_PLAYED_LO u) (R.SRC_PLAYED_HI u) + 1
  (s.setReg64 (R.SRC_PLAYED_LO u) (R.SRC_PLAYED_HI u) n).setSrc u { s.src u with k := (s.src u).k + 1, last := sample }

/-- The lanes in UNDERRUN (Table — Under-run policies): the last sample, or the idle segment. -/
def State.srcIdle (s : State) (u : Nat) : Nat × State :=
  if s.fld (F.SRC_CFG.URPOL u) = 1 then
    let g := s.segment 3 u (s.fld (F.SRC_CFG.IDLESEG u))
    let k := if g.length ≤ (s.src u).k then 0 else (s.src u).k
    (s.srcSample u g k, s.setSrc u { s.src u with k := k + 1 })
  else ((s.src u).last, s)

/-- Sub-cycles until a unit plays the stream sample that n others precede: it plays sample k of an entry next, after done repeats, with a
jump pending; the fuel counts boundaries. -/
def State.streamAhead (s : State) (u : Nat) : Nat → Nat → Nat → Nat → Option PendingJump → Nat → Option Nat
  | 0, _, _, _, _, _ => none
  | fuel + 1, e, done, k, jump, n =>
    let g := s.segment 3 u (s.seqEntry 4 u e).seg
    let left := g.length - k
    if g.stream && decide (n < left) then some n
    else
      let rest := if g.stream then n - left else n
      let b := boundaryOf (s.seqEntry 4 u e) (done + 1) jump
      (match b.1 with
       | .again => s.streamAhead u fuel e (done + 1) 0 b.2 rest
       | .entry e' => s.streamAhead u fuel e' 0 0 b.2 rest
       | .jump j => s.streamAhead u fuel j.entry 0 0 none rest
       | .stop => none).map (· + left)

/-- Ticks until the first sample of the next ring word that a PLAYING unit has not read plays at the balls (R169); none where it does not
come within 256 boundaries, which is more than 205 ns. -/
def State.wordDistance (s : State) (u : Nat) : Option Nat :=
  let v := s.src u
  let sg := s.fld (F.SRC_CFG.SG u)
  let e := s.engine sg
  let next := match e.ahead with | a :: _ => a.start | [] => e.nextStart
  let first := ceilDiv ((v.wordBase + v.words.length) * 256) (s.srcWidth u)
  (s.streamAhead u 256 (s.fld (F.SRC_STAT.ENTRY u)) (s.fld (F.SRC_STAT.REPDONE u)) v.k v.jump (first - v.streamPos)).map
    fun n => (next - toTick s.now) + n * s.psub sg

/-- Whether a unit may read its next ring word: PLAYING, no under-run in the words read ahead, and within so many ns of its first
sample. -/
def State.mayReadWord (s : State) (u ns : Nat) : Bool :=
  s.srcState u == 1 && (s.src u).words.getLast? != some none &&
  match s.wordDistance u with
  | some d => decide (d ≤ ns * 8192)
  | none => false

/-- A PLAYING unit has read every ring word whose first sample plays within 196 ns, and so no later than 195 ns before it (R169). Words that
a START brings nearer than that are read at the time-clock edge after it (DESIGN CHOICE, log 104). -/
def State.ringCatchUp (s : State) (u : Nat) : Nat → State
  | 0 => s
  | n + 1 => if s.mayReadWord u 196 then (s.srcReadWord u).ringCatchUp u n else s

/-- Every unit's reading by the clock. -/
def State.ringsCatchUp (s : State) : State :=
  (List.range 16).foldl (fun (s : State) u => if s.srcState u = 1 then s.ringCatchUp u 256 else s) s

/-- Take the next stream sample from the ring words read ahead, reading the word now if it has not been read. None: under-run. -/
def State.srcStreamSample (s : State) (u : Nat) : Option Nat × State :=
  let pos := (s.src u).streamPos * s.srcWidth u
  let i := pos / 256 - (s.src u).wordBase
  let s := if i < (s.src u).words.length then s else s.srcReadWord u
  match nth (s.src u).words i none with
  | none => (none, s)
  | some w =>
    let next := (pos + s.srcWidth u) / 256
    let v := s.src u
    (some (bitsOf w (pos % 256) (s.srcWidth u)), s.setSrc u { v with
      streamPos := v.streamPos + 1
      words := if pos / 256 < next then v.words.drop (i + 1) else v.words
      wordBase := if pos / 256 < next then next else v.wordBase })

/-- One sub-cycle of a source unit: the sample its lanes carry, or none while STOPPED, and whether the burst must abort
(R159–R169). -/
def State.srcPlay (s : State) (u : Nat) : Option Nat × Bool × State :=
  let s := s.srcPass u
  match s.srcState u with
  | 1 =>
    let g := s.segment 3 u (s.seqEntry 4 u (s.fld (F.SRC_STAT.ENTRY u))).seg
    if g.stream then
      let r := s.srcStreamSample u
      match r.1 with
      | some v => (some v, false, r.2.srcPlayed u v)
      | none =>
        let q := (r.2.srcUnderrun u).srcIdle u
        (some q.1, r.2.fld (F.SRC_CFG.URPOL u) == 2, q.2)
    else
      let v := s.srcSample u g (s.src u).k
      (some v, false, s.srcPlayed u v)
  | 2 =>
    let r := s.srcIdle u
    (some r.1, false, r.2)
  | _ => (none, false, s)

/-! ## Modulation units -/

def State.modu (s : State) (u : Nat) : ModUnit := Sparse.get (fun _ => ModUnit.off) s.mods u
def State.setModu (s : State) (u : Nat) (v : ModUnit) : State :=
  { s with mods := Sparse.set (fun _ => ModUnit.off) s.mods u v }

/-- Whether a modulation unit is enabled and serves a group. -/
def State.modServes (s : State) (u sg : Nat) : Bool := s.flag (F.MOD_CFG.EN u) && s.fld (F.MOD_CFG.SG u) == sg

/-- State of a modulation unit at vector cycle 0 (R171). -/
def State.modStart (s : State) (u : Nat) : State :=
  (s.setModu u { ModUnit.off with
    running := true, phi := s.regN (R.MOD_PHASE0 u) * 2 ^ 16, entry := s.fld (F.MOD_CFG.STARTENT u) }).setFld
      (F.MOD_JSTAT.VALID u) 0

/-- Sample k of a modulation segment: a signed tick count (R173). -/
def State.modSample (s : State) (u : Nat) (g : Segment) (k : Nat) : Int :=
  signed 24 (s.poolNum (s.regN (R.MOD_MEM_BASE u) + g.offset * 32 + 4 * k) 4)

/-- The boundary of a modulation sequence (R163, R166, R173). -/
def State.modBoundary (s : State) (u : Nat) : State :=
  let v := s.modu u
  let b := boundaryOf (s.seqEntry 6 u v.entry) (v.rep + 1) v.jump
  match b.1 with
  | .again => s.setModu u { v with rep := v.rep + 1, k := 0, jump := b.2 }
  | .entry e => s.setModu u { v with entry := e, rep := 0, k := 0, jump := b.2 }
  | .jump j =>
    let s := (s.setFld (F.MOD_JSTAT.VALID u) 1).setFld (F.MOD_JSTAT.FOLLOWING u) (b2n (decide (j.lead < 12)))
    let s := (s.setFld (F.MOD_JSTAT.ENTRY u) j.entry).setFld (F.MOD_JSTAT.LEAD u) (min j.lead 65535)
    s.setModu u { v with entry := j.entry, rep := 0, k := 0, jump := none }
  | .stop =>
    let s := if v.jump.isSome then s.setFld (F.MOD_JSTAT.DISCARDED u) 1 else s
    s.setModu u { v with rep := v.rep + 1, ended := true, jump := none }

/-- Length of the segment a modulation unit plays. -/
def State.modLength (s : State) (u : Nat) : Nat := (s.segment 5 u (s.seqEntry 6 u (s.modu u).entry).seg).length

/-- Play one waveform sample: a sequence that has ended repeats its last value (R173). -/
def State.modPull (s : State) (u : Nat) : State :=
  let s := if !(s.modu u).ended && decide (s.modLength u ≤ (s.modu u).k) then s.modBoundary u else s
  let v := s.modu u
  let x := if v.ended then v.recent.headD 0 else s.modSample u (s.segment 5 u (s.seqEntry 6 u v.entry).seg) v.k
  s.setModu u { v with k := v.k + 1, played := v.played + 1, recent := (x :: v.recent).take 8 }

/-- Play samples up to the one of index floor(p); a ratio below 1 makes at most one fall due in a sub-cycle. -/
def State.modReach (s : State) (u : Nat) : State :=
  if (s.modu u).played ≤ (s.modu u).p / 2 ^ 32 then s.modPull u else s

/-- A jump requested by Tack, latched at the sample of index floor(p) (R175). -/
def State.modJump (s : State) (u e : Nat) : State :=
  let s := s.modReach u
  if !(s.modu u).running || (s.modu u).ended then s.setFld (F.MOD_JSTAT.DISCARDED u) 1
  else
    let s := if (s.modu u).jump.isSome then s.setFld (F.MOD_JSTAT.DISCARDED u) 1 else s
    s.setModu u { s.modu u with jump := some (jumpWith e (s.modLength u + 1 - (s.modu u).k)) }

/-- Whether the taps of a phase are as Table — Interpolator characteristics bounds them: 18-bit signed, and no step, which the sums of the
first taps are, overshoots by more than 9 %. -/
def tapsLegal (taps : List Int) : Bool :=
  (taps.all fun c => decide (-(2 ^ 17) ≤ c) && decide (c < 2 ^ 17)) &&
  (List.range 9).all fun n =>
    let step := (taps.take n).foldl (· + ·) 0
    decide (-(9 * 2 ^ 17) ≤ 100 * step) && decide (100 * step ≤ 109 * 2 ^ 17)

/-- The free coefficients of a phase from 1 to 32, completed so that they sum to 2^17 and phase 32 is its own mirror image; where they are
not legal, those of straight lines between samples. -/
def phaseTaps (phase : Nat) : List Int :=
  let c := Config.coefficient phase
  let taps := if phase < 32 then (List.range 7).map c ++ [2 ^ 17 - ((List.range 7).map c).foldl (· + ·) 0]
    else [c 0, c 1, c 2, 2 ^ 16 - c 0 - c 1 - c 2, 2 ^ 16 - c 0 - c 1 - c 2, c 2, c 1, c 0]
  if tapsLegal taps then taps else [0, 0, 0, 2 ^ 17 - 2 ^ 11 * (phase : Int), 2 ^ 11 * (phase : Int), 0, 0, 0]

/-- Coefficient of a phase and tap (R174): phase 0 is a unit impulse on sample floor(x); every phase sums to 2^17; phase 64 - p mirrors
phase p, which makes the group delay 4 samples at all frequencies. The frequency response is left free (log 103). -/
def interpolatorTap (phase tap : Nat) : Int :=
  if phase = 0 then (if tap = 3 then 2 ^ 17 else 0)
  else if phase ≤ 32 then nth (phaseTaps phase) tap 0
  else nth (phaseTaps (64 - phase)) (7 - tap) 0

/-- The segment term at position p - 4 (R174): the taps cover samples floor(x) - 3 to floor(x) + 4, that is floor(p) - 7 to
floor(p); samples before 0 take the value of sample 0. -/
def segmentTerm (recent : List Int) (p : Nat) : Int :=
  let phase := p % 2 ^ 32 / 2 ^ 26
  let oldest := recent.getLastD 0
  roundDiv ((List.range 8).foldl (fun a t => a + interpolatorTap phase t * nth recent (7 - t) oldest) 0) (2 ^ 17)

/-- sin(2 pi phi / 2^48) in units of 2^-60, by its power series on the first quadrant. -/
def sineOf (phi : Nat) : Int :=
  let q := phi % 2 ^ 48 / 2 ^ 46
  let r := phi % 2 ^ 46
  let a : Nat := if q % 2 = 0 then r else 2 ^ 46 - r
  let one : Int := 2 ^ 60
  -- pi / 2 in units of 2^-60
  let x : Int := (a : Int) * 1811004864519280711 / 2 ^ 46
  let x2 := x * x / one
  let term := (List.range 13).foldl (fun (t : Int × Int) (k : Nat) =>
    (t.1 + t.2, -(t.2 * x2 / one) / ((2 * (k : Int) + 2) * (2 * (k : Int) + 3)))) (0, x)
  if q < 2 then term.1 else -term.1

/-- The sine term (R176): the rounded value, with an error of at most one tick. -/
def sineTerm (amp phi : Nat) : Int :=
  roundDiv ((amp : Int) * sineOf phi) (2 ^ 60) + max (-1) (min 1 (Config.sineError amp phi))

/-- One sub-cycle of a modulation unit: its offset (R171–R176). -/
def State.modPlay (s : State) (u : Nat) : Int × State :=
  if !(s.modu u).running then (0, s)
  else
    let s := s.modReach u
    let v := s.modu u
    let mode := s.fld (F.MOD_CFG.MODE u)
    let freq := s.regN (R.MOD_FREQ_LO u) + 2 ^ 32 * s.fld (F.MOD_FREQ_HI.FREQ u)
    let sum := (if mode % 2 = 1 then segmentTerm v.recent v.p else 0) +
      (if 2 ≤ mode then sineTerm (s.fld (F.MOD_AMP.AMP u)) v.phi else 0)
    let off := max (-16384) (min 16383 sum)
    let s := if off = sum then s else (s.setFld (F.MOD_FLAGS.SAT u) 1).addSat (whole (R.MOD_SATCNT u)) 1
    (off, s.setModu u { v with p := v.p + s.regN (R.MOD_RATIO u), phi := (v.phi + freq) % 2 ^ 48 })

/-! ## All units of a group in one sub-cycle -/

/-- The units of the 16 banks that serve a group, by one of the two tests. -/
def unitsServing (serves : Nat → Bool) : List Nat := (List.range 16).filter serves

/-- One sub-cycle of every source and modulation unit of a group, and whether an under-run policy aborts the burst. -/
def State.playUnits (s : State) (sg : Nat) : SubData × Bool × State :=
  let srcs := (unitsServing fun u => s.srcServes u sg).foldl (fun (a : SMap Bool × Bool × State) u =>
    let r := a.2.2.srcPlay u
    let bits := match r.1 with
      | none => a.1
      | some v => (List.range (a.2.2.srcWidth u)).foldl (fun b j =>
          Sparse.set (fun _ => false) b (a.2.2.fld (F.SRC_CFG.FIRSTCH u) + j) (bitOf v j)) a.1
    (bits, a.2.1 || r.2.1, r.2.2)) ([], false, s)
  let mods := (unitsServing fun u => s.modServes u sg).foldl (fun (a : SMap Int × State) u =>
    let r := a.2.modPlay u
    (Sparse.set (fun _ => 0) a.1 u r.1, r.2)) ([], srcs.2.2)
  (⟨mods.1, srcs.1⟩, srcs.2.1, mods.2)

/-- The M sub-cycles of a line. -/
def State.playLine (s : State) (sg : Nat) : Nat → List SubData × Bool × State
  | 0 => ([], false, s)
  | n + 1 =>
    let r := s.playUnits sg
    let t := r.2.2.playLine sg n
    (r.1 :: t.1, r.2.1 || t.2.1, t.2.2)

/-! ## Check-value units -/

def State.cv (s : State) (u : Nat) : CvUnit := Sparse.get (fun _ => CvUnit.off) s.cvs u
def State.setCv (s : State) (u : Nat) (v : CvUnit) : State :=
  { s with cvs := Sparse.set (fun _ => CvUnit.off) s.cvs u v }

/-- Whether a check-value unit is enabled and serves a group. -/
def State.cvServes (s : State) (u sg : Nat) : Bool := s.flag (F.CV_CFG.EN u) && s.fld (F.CV_CFG.SG u) == sg

/-- Whether a channel is a lane of a check-value unit (R151). -/
def State.cvLane (s : State) (u ch : Nat) : Bool :=
  decide (s.fld (F.CV_LANES.FIRSTCH u) ≤ ch) && decide (ch < s.fld (F.CV_LANES.FIRSTCH u) + s.fld (F.CV_LANES.NLANES u))

/-- Width and polynomial (Table — CRC presets). -/
def crcWidth (poly : Nat) : Nat := match poly with | 0 => 8 | 1 => 16 | 2 => 32 | 3 => 32 | _ => 64
def crcPoly (poly : Nat) : Nat :=
  match poly with
  | 0 => 0x07 | 1 => 0x1021 | 2 => 0x04C11DB7 | 3 => 0x1EDC6F41 | _ => 0x42F0E1EBA9EA3693

/-- A w-bit number with its bits in reverse order. -/
def reverseBits (w n : Nat) : Nat := (List.range w).foldl (fun a i => 2 * a + b2n (bitOf n i)) 0

/-- One stream bit into the register (R154). -/
def crcStep (w poly : Nat) (reflect : Bool) (reg : Nat) (bit : Bool) : Nat :=
  if reflect then
    let out := bitOf reg 0 != bit
    (if out then reg / 2 ^^^ reverseBits w poly else reg / 2)
  else
    let out := bitOf reg (w - 1) != bit
    (if out then (2 * reg % 2 ^ w) ^^^ poly else 2 * reg % 2 ^ w)

/-- The bits of bytes, least significant first. -/
def byteBits (bs : List Byte) : List Bool := bs.flatMap fun b => (List.range 8).map (bitOf b.toNat)

/-- CRC-32C of bytes (preset 3). -/
def crc32c (bs : List Byte) : Nat :=
  (byteBits bs).foldl (crcStep 32 (crcPoly 3) true) 0xFFFFFFFF ^^^ 0xFFFFFFFF

def State.cvWidth (s : State) (u : Nat) : Nat := crcWidth (s.fld (F.CV_CFG.POLY u))

/-- INIT, limited to w bits. -/
def State.cvInit (s : State) (u : Nat) : Nat := s.reg64 (R.CV_INIT_LO u) (R.CV_INIT_HI u) % 2 ^ s.cvWidth u

/-- A unit as each burst start leaves it (R151, R155). -/
def State.cvStart (s : State) (u : Nat) : State :=
  s.setCv u { CvUnit.off with crc := s.cvInit u, counter := s.fld (F.CV_ALIVE.INIT u) % 2 ^ s.fld (F.CV_CFG.ALEN u) }

/-- The register after one bit. -/
def State.cvCrc (s : State) (u : Nat) (v : CvUnit) (bit : Bool) : CvUnit :=
  { v with crc := crcStep (s.cvWidth u) (crcPoly (s.fld (F.CV_CFG.POLY u))) (s.flag (F.CV_CFG.REFLECT u)) v.crc bit }

/-- A frame has ended or been broken: the next begins. -/
def State.cvNewFrame (s : State) (u : Nat) (v : CvUnit) (broken : Bool) : CvUnit :=
  { v with crc := s.cvInit u, data := [], nData := 0, fieldPos := 0, isOpen := false, brokenStart := broken,
           level := false, crcErr := false, alive := [] }

/-- A data bit of the stream (R152); lvl: a check-mode bit from a mid-band or crossed sample. -/
def State.cvData (s : State) (u : Nat) (bit lvl : Bool) : State :=
  let v := s.cv u
  let broken := decide (0 < v.fieldPos)
  let s := if broken then s.setFld (F.CV_STAT.BROKEN u) 1 else s
  let v := if broken then s.cvNewFrame u v true else v
  let v := s.cvCrc u v bit
  s.setCv u { v with data := if v.nData < 65535 then bit :: v.data else v.data, nData := v.nData + 1, isOpen := true,
                     level := v.level || lvl }

/-- Bit i in order of emission of a w-bit value (R154, R155). -/
def State.cvOrder (s : State) (u w value i : Nat) : Bool :=
  if s.flag (F.CV_CFG.FORDER u) then bitOf value i else bitOf value (w - 1 - i)

/-- The field bit at the current place: the alive counter's, then the CRC's. -/
def State.cvFieldBit (s : State) (u : Nat) : Bool :=
  let v := s.cv u
  let alen := s.fld (F.CV_CFG.ALEN u)
  let w := s.cvWidth u
  if v.fieldPos < alen then s.cvOrder u alen v.counter v.fieldPos
  else s.cvOrder u w (v.crc ^^^ (s.reg64 (R.CV_XOR_LO u) (R.CV_XOR_HI u) % 2 ^ w)) (v.fieldPos - alen)

/-- A received list of bits as a value, in order of emission. -/
def State.cvValue (s : State) (u : Nat) (bits : List Bool) : Nat :=
  if s.flag (F.CV_CFG.FORDER u) then bits.foldr (fun b a => 2 * a + b2n b) 0 else bits.foldl (fun a b => 2 * a + b2n b) 0

/-- 64 stream bits to a word of 8 bytes (R157). -/
def packBits : List Bool → Nat
  | [] => 0
  | b :: t => b2n b + 2 * packBits t

/-- Write bytes into a ring of the pool at its write pointer, wrapping. -/
def State.ringWrite (s : State) (base size : Nat) : Nat → List Byte → State
  | _, [] => s
  | p, b :: t => (s.poolWrite (base + p) [b]).ringWrite base size ((p + 1) % size) t

/-- Store a frame record, or lose it when it does not fit whole (R157). -/
def State.cvRecord (s : State) (u : Nat) (bytes : List Byte) : State :=
  let size := s.regN (R.CV_BUF_SIZE u) * 4096
  let wr := s.regN (R.CV_BUF_WRPTR u)
  let used := (wr + size - s.regN (R.CV_BUF_RDPTR u)) % size
  if size = 0 ∨ size ≤ used + bytes.length then s.addSat (whole (R.CV_BUF_DROP u)) 1
  else (s.ringWrite (s.regN (R.CV_BUF_BASE u)) size wr bytes).setReg (R.CV_BUF_WRPTR u) ((wr + bytes.length) % size)

/-- Count a completed frame. -/
def State.cvCount (s : State) (u : Nat) : State := s.addSat (whole (R.CV_FRAMES u)) 1

/-- A check-mode frame ends (R155–R157): its errors, its record, and the next expectation. -/
def State.cvFrameEnd (s : State) (u : Nat) : State :=
  let v := s.cv u
  let sg := s.fld (F.CV_CFG.SG u)
  let alen := s.fld (F.CV_CFG.ALEN u)
  let alive := s.cvValue u v.alive
  let aliveErr := decide (0 < alen) && v.started && alive != v.counter
  let bits := min v.nData 65535
  let header := 1 + 2 * b2n v.crcErr + 4 * b2n aliveErr + 16 * b2n v.level + 32 * b2n v.brokenStart +
    64 * b2n (decide (65535 < v.nData)) + 256 * (s.fld (F.CMP_SGBURST.NUMBER sg) % 256) + 2 ^ 16 * alive +
    2 ^ 32 * bits + 2 ^ 48 * (v.frames % 2 ^ 16)
  let payload := if s.flag (F.CV_CFG.STRIP u) then toBytes (8 * ceilDiv bits 64) (packBits v.data.reverse) else []
  let s := (s.cvCount u).cvRecord u (toBytes 8 header ++ payload)
  let s := if v.crcErr then (s.setFld (F.CV_STAT.CRC_ERR u) 1).addSat (F.CV_ERRS.CRC u) 1 else s
  let s := if aliveErr then (s.setFld (F.CV_STAT.ALIVE_ERR u) 1).addSat (F.CV_ERRS.ALIVE u) 1 else s
  let s := if v.level then s.setFld (F.CV_STAT.LEVEL u) 1 else s
  s.setCv u { s.cvNewFrame u v false with
    counter := (alive + s.fld (F.CV_CFG.STEP u)) % 2 ^ alen, started := true, frames := v.frames + 1 }

/-- A field bit in drive mode: the bit the lane carries (R153, R155). -/
def State.cvDriveField (s : State) (u : Nat) : Bool × State :=
  let v := s.cv u
  let alen := s.fld (F.CV_CFG.ALEN u)
  let bit := s.cvFieldBit u
  let v := { (if v.fieldPos < alen then s.cvCrc u v bit else v) with fieldPos := v.fieldPos + 1, isOpen := true }
  if v.fieldPos = alen + s.cvWidth u then
    (bit, (s.cvCount u).setCv u { s.cvNewFrame u v false with
      counter := (v.counter + s.fld (F.CV_CFG.STEP u)) % 2 ^ alen, frames := v.frames + 1 })
  else (bit, s.setCv u v)

/-- A received field bit in check mode (R155, R156); the first component says whether it differs from expectation (the first
frame of a burst sets the counter, so its alive bits have none). -/
def State.cvCheckField (s : State) (u : Nat) (bit lvl : Bool) : Bool × State :=
  let v := s.cv u
  let alen := s.fld (F.CV_CFG.ALEN u)
  let inAlive := decide (v.fieldPos < alen)
  let differs := bit != s.cvFieldBit u && (!inAlive || v.started)
  let v := if inAlive then { s.cvCrc u v bit with alive := v.alive ++ [bit] } else { v with crcErr := v.crcErr || differs }
  let v := { v with fieldPos := v.fieldPos + 1, isOpen := true, level := v.level || lvl }
  let s := s.setCv u v
  (differs, if v.fieldPos = alen + s.cvWidth u then s.cvFrameEnd u else s)

/-- A frame still open at the end of a burst is discarded (R152). -/
def State.cvEnd (s : State) (u : Nat) : State :=
  let s := if (s.cv u).isOpen then s.setFld (F.CV_STAT.PARTIAL u) 1 else s
  s.setCv u CvUnit.off

end Sys2Proof.Machine
end

