-- ==== Sys2Proof/Machine/Cal.lean ====
section
/-! DEFINITION. Calibration sets in the keeping store, interpolation, and calibration runs (R367–R379). -/
namespace Sys2Proof.Machine

/-! ## Records of the keeping store (R379) -/

/-- Bytes of the keeping store, and a little-endian number in it. -/
def State.keepRead (s : State) (a n : Nat) : List Byte := Sparse.getMany erasedDefault s.keep a n
def State.keepNum (s : State) (a n : Nat) : Nat := ofBytes (s.keepRead a n)
def State.keepWrite (s : State) (a : Nat) (bs : List Byte) : State :=
  { s with keep := Sparse.setMany erasedDefault s.keep a bs }

/-- Whether the record at an offset has its KIND and, behind its length, the CRC of its bytes. -/
def State.recordGood (s : State) (base kind len : Nat) : Bool :=
  s.keepNum base 4 == kind && s.keepNum (base + len) 4 == crc32c (s.keepRead base len)

/-- The copy of a record in effect: of those that are good the one whose SEQ is higher. -/
def State.copyInEffect (s : State) (a b kind len : Nat) : Option Nat :=
  match s.recordGood a kind len, s.recordGood b kind len with
  | true, true => some (if s.keepNum (a + 8) 8 < s.keepNum (b + 8) 8 then b else a)
  | true, false => some a
  | false, true => some b
  | false, false => none

/-- Where the next write of a record goes, and its SEQ: over a bad copy, else over the one with the lower SEQ. -/
def State.copyToWrite (s : State) (a b kind len : Nat) : Nat × Nat :=
  match s.copyInEffect a b kind len with
  | none => (a, 1)
  | some c => (if c = a then b else a, (s.keepNum (c + 8) 8 + 1) % 2 ^ 64)

/-- Close a record: SEQ, and the CRC of its bytes behind its length. -/
def State.closeRecord (s : State) (base len seq : Nat) : State :=
  let s := s.keepWrite (base + 8) (toBytes 8 seq)
  s.keepWrite (base + len) (toBytes 4 (crc32c (s.keepRead base len)))

/-- A set slot's copies and the length its CRC covers. -/
def slotAt (k c : Nat) : Nat := 0x40000 + k * 0x8000 + c * 0x4000
def slotLen : Nat := 0x2240
def State.slotCopy (s : State) (k : Nat) : Option Nat := s.copyInEffect (slotAt k 0) (slotAt k 1) 0x50 slotLen

/-- Fields of a set slot's copy: temperature of a bank, value and reading of a channel's quantity, phase-step trim of a quadrant. -/
def State.setTemp (s : State) (base b : Nat) : Int := signed 16 (s.keepNum (base + 0x10 + 2 * b) 2)
def State.setValue (s : State) (base ch q : Nat) : Int := signed 16 (s.keepNum (base + 0x40 + 32 * ch + 2 * q) 2)
def State.setReading (s : State) (base ch q : Nat) : Int := signed 16 (s.keepNum (base + 0x40 + 32 * ch + 16 + 2 * q) 2)
def State.setStep (s : State) (base q step : Nat) : Int := signed 16 (s.keepNum (base + 0x2040 + 128 * q + 2 * step) 2)

/-- The valid sets, as boot firmware and later writes leave them: slot, copy in effect, banks, and whether it is a FACTORY set. -/
def State.calSets (s : State) : List (Nat × Nat × Nat × Bool) :=
  (List.range 8).filterMap fun k =>
    if s.fld (F.CAL_SET_INFO.SOURCE k) = 0 then none
    else (s.slotCopy k).map fun base => (k, base, s.fld (F.CAL_SET_INFO.BANKS k), s.fld (F.CAL_SET_INFO.SOURCE k) == 1)

/-! ## Interpolation (R372) -/

/-- The value at temperature t from points (temperature, value): linear between the nearest below and above, the nearest beyond them;
of points at one temperature the last. -/
def interpolate (pts : List (Int × Int)) (t : Int) : Option Int :=
  let lo := pts.foldl (fun (b : Option (Int × Int)) p =>
    if t < p.1 then b else match b with | none => some p | some q => if q.1 ≤ p.1 then some p else b) none
  let hi := pts.foldl (fun (b : Option (Int × Int)) p =>
    if p.1 < t then b else match b with | none => some p | some q => if p.1 ≤ q.1 then some p else b) none
  match lo, hi with
  | some a, some b => some (if a.1 = b.1 then a.2 else roundDiv (a.2 * (b.1 - a.1) + (t - a.1) * (b.2 - a.2)) (b.1 - a.1).toNat)
  | some a, none => some a.2
  | none, some b => some b.2
  | none, none => none

/-- The copies valid for a bank, of FACTORY sets only if asked for. -/
def setsOf (sets : List (Nat × Nat × Nat × Bool)) (b : Nat) (factory : Bool) : List Nat :=
  (sets.filter fun x => bitOf x.2.2.1 b && (!factory || x.2.2.2)).map fun x => x.2.1

/-! ## Cells (R370) -/

/-- How far a cell's length is from 128 ticks. -/
def cellError (len : Nat) : Nat := if len < 128 then 128 - len else len - 128

/-- Exclude the cell whose length differs most from 128 ticks, the higher index on a tie. -/
def dropWorst (cells : List (Nat × Nat)) : List (Nat × Nat) :=
  match cells.foldl (fun (b : Option (Nat × Nat)) c =>
      match b with
      | none => some c
      | some w => if cellError w.2 ≤ cellError c.2 then some c else b) none with
  | none => cells
  | some w => cells.erase w

/-- The cells, as (index, length), that a line uses; fewer than 32 when the line fails. -/
def selectCells (lens : List Nat) : List (Nat × Nat) :=
  let ok := ((List.range lens.length).zip lens).filter fun c => decide (96 ≤ c.2) && decide (c.2 ≤ 160)
  iter (ok.length - 32) dropWorst ok

/-- Start positions of used cells in ticks. -/
def cellStarts : Nat → List (Nat × Nat) → List Nat
  | _, [] => []
  | at', c :: t => at' :: cellStarts (at' + c.2) t

/-- Selection mask and cell table of a line. -/
def lineOf (lens : List Nat) : Nat × List Nat :=
  let cells := selectCells lens
  (cells.foldl (fun m c => setBit m c.1) 0, cellStarts 0 cells)

/-! ## The checks of a bank (R375, R376) -/

/-- Mean of 16 readings, rounded to the nearest tick, and whether their rms spread is at most 24 ticks. -/
def meanOf (l : List Int) : Int := roundDiv (l.foldl (· + ·) 0) 16
def spreadOk (l : List Int) : Bool :=
  let sum := l.foldl (· + ·) 0
  decide ((l.foldl (fun a x => a + (16 * x - sum) * (16 * x - sum)) 0) ≤ 24 * 24 * 16 ^ 3)

/-- A failure as CAL_BANKERR shows it: result, CH, QTY, EDGE. -/
abbrev CalFail := Nat × Nat × Nat × Nat

/-- Judge one value of a bank: its readings' spread, its drift from the factory value, its range (Table — Plausibility limits). -/
def judgeValue (readings : List Int) (v f lo hi : Int) (ch q : Nat) : Option CalFail :=
  if !spreadOk readings then some (7, ch, q, 0)
  else if v - f < -200 ∨ 200 < v - f ∨ v < lo ∨ hi < v then some (6, ch, q, 0)
  else none

/-- What a bank's readings give: its first failure, or its new values. The factory values come from the FACTORY sets at the bank's
temperature. -/
def State.judgeBank (s : State) (b : Nat) (r : BankReadings) : Except (Option CalFail) CalBank :=
  let sets := s.calSets
  let fac := setsOf sets b true
  let temp (base : Nat) : Int := s.setTemp base b
  let at' (f : Nat → Int) : Int := (interpolate (fac.map fun base => (temp base, f base)) r.temp).getD 0
  let values : List (Int × Int × Option CalFail) := (List.range 128).map fun i =>
    let ch := 16 * b + i / 8
    let q := i % 8
    let rd := nth r.readings i []
    let m := meanOf rd
    let f := at' fun base => s.setValue base ch q
    let v := f + (m - at' fun base => s.setReading base ch q)
    (v, m, if q < 6 then judgeValue rd v f (-6000) 6000 ch q else judgeValue rd v f 0 32767 ch q)
  let lines := r.cells.map lineOf
  let short := (List.range lines.length).find? fun i => (nth lines i (0, [])).2.length != 32
  let quad := b / 4
  let steps : List (Int × Option CalFail) := (List.range r.steps.length).map fun i =>
    let rd := nth r.steps i []
    let v := meanOf rd
    (v, judgeValue rd v (at' fun base => s.setStep base quad i) (-64) 64 i 9)
  if fac.isEmpty then .error none
  else if 4 < r.change then .error (some (4, 0, 0, 0))
  else match short with
    | some i => .error (some (5, 16 * b + i / 6, 8, i % 6))
    | none =>
      match (values.findSome? fun x => x.2.2).orElse fun _ => steps.findSome? fun x => x.2 with
      | some f => .error (some f)
      | none => .ok ⟨b, r.temp, values.map (·.1), values.map (·.2.1), steps.map (·.1), lines⟩

/-! ## Runs (R374, R377) -/

/-- Result of a bank in the latest run. -/
def calResult (b : Nat) : Field := F.CAL_BANKRES.RES (b / 8) (b % 8)

/-- Whether a run refuses a bank: a group with a channel in it, or one of its measuring units, is not IDLE. -/
def State.calBusy (s : State) (b : Nat) : Bool :=
  ((List.range 64).any fun g => s.eState g != 0 && (s.members g).any fun c => c / 16 == b) ||
  s.fld (F.AQ_STAT.STATE b) != 0 || (List.range 4).any fun i => s.fld (F.TDC_STAT.STATE (4 * b + i)) != 0

/-- The FIELD slot that banks are committed into, and whether they are merged with what it holds (R377). -/
def State.fieldSlot (s : State) (banks : List CalBank) : Nat × Bool :=
  let near (k : Nat) : Bool :=
    s.fld (F.CAL_SET_INFO.SOURCE k) == 2 &&
    match s.slotCopy k with
    | none => false
    | some base => banks.all fun c => bitOf (s.fld (F.CAL_SET_INFO.BANKS k)) c.bank &&
        decide (s.setTemp base c.bank - c.temp ≤ 8) && decide (c.temp - s.setTemp base c.bank ≤ 8)
  let slots := [3, 4, 5, 6, 7]
  match slots.find? near with
  | some k => (k, true)
  | none =>
    match slots.find? fun k => s.fld (F.CAL_SET_INFO.SOURCE k) == 0 with
    | some k => (k, false)
    | none => (s.kept.fieldOrder.headD 3, false)

/-- Signed values as two bytes each. -/
def pairBytes (l : List Int) : List Byte := l.flatMap fun v => toBytes 2 (unsigned 16 v)

/-- Write one bank's channels and temperature into a slot copy. -/
def State.putBank (s : State) (base : Nat) (c : CalBank) : State :=
  let s := s.keepWrite (base + 0x10 + 2 * c.bank) (pairBytes [c.temp])
  (List.range 16).foldl (fun (s : State) i =>
    let s := s.keepWrite (base + 0x40 + 32 * (16 * c.bank + i)) (pairBytes ((c.values.drop (8 * i)).take 8))
    s.keepWrite (base + 0x40 + 32 * (16 * c.bank + i) + 16) (pairBytes ((c.readings.drop (8 * i)).take 8))) s

/-- The new phase-step trims of a quadrant: only when all four of its banks commit in this run (R375). -/
def newSteps (banks : List CalBank) (q : Nat) : Option (List Int) :=
  if (List.range 4).all fun i => banks.any fun c => c.bank == 4 * q + i then
    (banks.find? fun c => c.bank / 4 == q && !c.steps.isEmpty).map (·.steps)
  else none

/-- Write banks into a slot: the copy to write starts from what the slot holds, or, when it replaces the slot, from an empty one whose
phase-step trims are those in effect (DESIGN CHOICE, log 30). -/
def State.writeSlot (s : State) (k : Nat) (merge : Bool) (banks : List CalBank) : State :=
  let to' := s.copyToWrite (slotAt k 0) (slotAt k 1) 0x50 slotLen
  let base := to'.1
  let inEffect (q : Nat) : List Byte := pairBytes ((List.range 64).map fun i => s.trimAt (4096 + q * 64 + i))
  let old : List Byte := match merge, s.slotCopy k with
    | true, some c => s.keepRead c slotLen
    | _, _ => toBytes 4 0x50 ++ toBytes 1 2 ++ toBytes 1 k ++ toBytes 0x203A 0 ++ (List.range 4).flatMap inEffect
  let had := if merge then s.fld (F.CAL_SET_INFO.BANKS k) else 0
  let mask := banks.foldl (fun m c => setBit m c.bank) had
  let s := (s.keepWrite base old).keepWrite (base + 6) (toBytes 2 mask)
  let s := banks.foldl (fun (s : State) c => s.putBank base c) s
  let s := (List.range 4).foldl (fun (s : State) q =>
    match newSteps banks q with
    | some l => s.keepWrite (base + 0x2040 + 128 * q) (pairBytes l)
    | none => s) s
  let s := s.closeRecord base slotLen to'.2
  let s := (s.setFld (F.CAL_SET_INFO.SOURCE k) 2).setFld (F.CAL_SET_INFO.BANKS k) mask
  { s with kept := { s.kept with fieldOrder := s.kept.fieldOrder.erase k ++ [k] } }

/-- Write the masks and cell tables of committed banks into the line records. -/
def State.writeLines (s : State) (banks : List CalBank) : State :=
  let len := 0x1B040
  let to' := s.copyToWrite 0x1000 0x1D000 0x51 len
  let old := match s.copyInEffect 0x1000 0x1D000 0x51 len with
    | some c => s.keepRead c len
    | none => toBytes len 0x51
  let s := s.keepWrite to'.1 old
  let s := banks.foldl (fun (s : State) c =>
    (List.range 96).foldl (fun (s : State) i =>
      let line := nth c.lines i (0, [])
      s.keepWrite (to'.1 + 0x40 + 72 * (96 * c.bank + i)) (toBytes 8 line.1 ++ line.2.flatMap (toBytes 2))) s) s
  s.closeRecord to'.1 len to'.2

/-- A run in which no bank measures any more ends: the banks that passed are committed together, unless the store fails (R377). -/
def State.endRun (s : State) (stored : Bool) : State :=
  if s.fld F.CAL_RUNSTAT.STATE = 0 ∨ s.cal.measuring ≠ 0 then s
  else
    let banks := s.cal.passed
    let s := { s with cal := { s.cal with passed := [] } }.setFld F.CAL_RUNSTAT.STATE 0
    if banks.isEmpty then s
    else if !stored then banks.foldl (fun (s : State) c => s.setFld (calResult c.bank) 9) s
    else
      let slot := s.fieldSlot banks
      let s := (s.writeSlot slot.1 slot.2 banks).writeLines banks
      let s := banks.foldl (fun (s : State) c => s.setFld (calResult c.bank) 1) s
      (s.setFld F.CAL_RUNSTAT.SLOT slot.1).setFld F.CAL_RUNSTAT.COMMITTED (banks.foldl (fun m c => setBit m c.bank) 0)

/-- Banks of a mask that still measure are abandoned (R374). -/
def State.abandonBanks (s : State) (mask : Nat) : State :=
  let left := (bitsSet 16 mask).filter fun b => bitOf s.cal.measuring b
  let s := left.foldl (fun (s : State) b =>
    { s with cal := { s.cal with measuring := clearBit s.cal.measuring b } }.setFld (calResult b) 3) s
  if left.isEmpty then s else s.endRun true

/-- A write of CAL_RUN (R374): START is discarded with a fault while a run is active. -/
def State.calRunWrite (s : State) (v : Nat) : State :=
  if bitOf v 31 ∧ s.fld F.CAL_RUNSTAT.STATE = 1 then s.regFault R.CAL_RUN
  else
    let s := s.setReg R.CAL_RUN (v % 2 ^ 16)
    let s := if !bitOf v 31 then s
      else
        let s := ((s.setReg (R.CAL_BANKRES 0) 0).setReg (R.CAL_BANKRES 1) 0).setReg R.CAL_BANKERR 0
        let s := (s.setFld F.CAL_RUNSTAT.COMMITTED 0).setFld F.CAL_RUNSTAT.STATE 1
        let s : State := { s with cal := { s.cal with measuring := 0, passed := [] } }
        let s := (bitsSet 16 v).foldl (fun (s : State) b =>
          if s.calBusy b then s.setFld (calResult b) 2
          else { s with cal := { s.cal with measuring := setBit s.cal.measuring b } }) s
        s.endRun true
    if bitOf v 30 then s.abandonBanks 0xFFFF else s

/-- A bank's measurement is complete (R376): it passes, or its result shows why not. -/
def State.calBankDone (s : State) (b : Nat) (r : BankReadings) (stored : Bool) : State :=
  if !bitOf s.cal.measuring b then s
  else
    let judged := s.judgeBank b r
    let s := { s with cal := { s.cal with measuring := clearBit s.cal.measuring b } }
    let s := match judged with
      | .ok c => { s with cal := { s.cal with passed := s.cal.passed ++ [c] } }
      | .error none => s.setFld (calResult b) 8
      | .error (some (result, ch, q, edge)) =>
        let s := (s.setFld (calResult b) result).report 261 kCalibration b
        if s.fld F.CAL_BANKERR.RESULT = 0 then
          s.setReg R.CAL_BANKERR (result * 2 ^ 28 + b * 2 ^ 24 + ch * 2 ^ 16 + q * 2 ^ 12 + edge * 2 ^ 8)
        else s
    s.endRun stored

/-! ## What registers show -/

/-- CAL_SETTEMPw of the slot that CAL_SETSEL selects. -/
def State.setTempView (s : State) (w : Nat) : Nat :=
  let k := s.fld F.CAL_SETSEL.SLOT
  match s.fld (F.CAL_SET_INFO.SOURCE k), s.slotCopy k with
  | 0, _ => 0
  | _, none => 0
  | _, some base => s.keepNum (base + 0x10 + 4 * w) 4

/-- CAL_PEEKVAL: the value applied to the selected quantity. -/
def State.peekValue (s : State) : Nat :=
  let ch := s.fld F.CAL_PEEKSEL.CH
  let q := s.fld F.CAL_PEEKSEL.QTY
  if 8 ≤ q then 0
  else unsigned 32 (s.trimAt (ch * 8 + q) + if q < 6 then s.skew else 0)

end Sys2Proof.Machine
end

