-- ==== Sys2Proof/Machine/Format.lean ====
section
/-! DEFINITION. The formatters: placing the edges and strobes of one code in one sub-cycle, with trims, modulation offsets, the
spacing rule and clamps (R99, R108, R109), drive-mode check values (R153), parked sites (R34) and safe-waveform cycles (R61, R94);
and the values a group's pending Tack brings into effect at a vector-cycle boundary (R96). -/
namespace Sys2Proof.Machine

/-! ## Channels -/

def State.chan (s : State) (ch : Nat) : Chan := Sparse.get (fun _ => Chan.off) s.chans ch
def State.setChan (s : State) (ch : Nat) (c : Chan) : State :=
  { s with chans := Sparse.set (fun _ => Chan.off) s.chans ch c }

/-- While a group's period generator does not run, its channels hold DEN deasserted and DRV low (R93). -/
def State.holdGroup (s : State) (sg : Nat) : State :=
  if s.flag (F.PG_CFG.EN sg) then s
  else (s.members sg).foldl (fun (s : State) ch => s.setChan ch { s.chan ch with drv := false, den := false }) s

/-- Applied trim of a channel's edge, in ticks (R108, R368). -/
def State.trim (s : State) (ch e : Nat) : Int := s.trimAt (ch * 8 + e) + s.skew

/-- Modulation term of an edge of a channel (R170). -/
def State.modTerm (s : State) (d : SubData) (ch e : Nat) : Int :=
  let u := ch / 16
  if bitOf (s.fld (F.MOD_CFG.EDGES u)) e && bitOf (s.fld (F.MOD_CHMASK.CH u)) (ch % 16) then
    Sparse.get (fun _ => 0) d.mods u
  else 0

/-- Applied instant of edge e of a channel: programmed time, trim and modulation (R108). -/
def State.applied (s : State) (ch ts e : Nat) (d : SubData) (start : Int) : Int :=
  start + s.tsEdge ch ts e + s.trim ch e + s.modTerm d ch e

/-- A clamp on an output of a channel in a vector cycle (R109): bit 0 DRV, 1 DEN, 2 strobe. -/
def State.clamp (s : State) (ch bit cycle : Nat) : State :=
  let s := if bitsOf (s.regN (R.CH_TSTAT ch)) 0 3 = 0 then s.setReg (R.CH_CLAMPFIRST ch) cycle else s
  let s := s.setReg (R.CH_TSTAT ch) (setBit (s.regN (R.CH_TSTAT ch)) bit)
  ((s.addSat (F.CH_CLAMPCNT.COUNT ch) 1).signal (64 + ch / 16)).count (192 + ch / 16) 1

/-- Where an edge is placed after the previous one of its output: its instant, and whether it was clamped (R109). -/
def placeAfter (tmin : Nat) (last : Option Int) (t : Int) : Int × Bool :=
  match last with
  | none => (t, false)
  | some l => if t < l + tmin then (l + tmin, true) else (t, false)

/-- Place an edge on DRV or DEN; one that leaves the level unchanged is not placed (R99, R109). -/
def State.placeLevel (s : State) (e : Edge) : State :=
  let c := s.chan e.ch
  match e.out with
  | .drv =>
    if c.drv = e.level then s
    else
      let p := placeAfter s.tmin c.lastDrv e.applied
      (if p.2 then s.clamp e.ch 0 e.cycle else s).setChan e.ch { c with drv := e.level, lastDrv := some p.1 }
  | .den =>
    if c.den = e.level then s
    else
      let p := placeAfter s.tmin c.lastDen e.applied
      (if p.2 then s.clamp e.ch 1 e.cycle else s).setChan e.ch { c with den := e.level, lastDen := some p.1 }

/-- Place edges in program order. -/
def State.placeLevels (s : State) (es : List Edge) : State := es.foldl (fun (s : State) e => s.placeLevel e) s

/-- Place a strobe instant on the sampler of a channel (R105, R109). -/
def State.placeStrobe (s : State) (ch : Nat) (t : Int) (cycle : Nat) : Int × State :=
  let c := s.chan ch
  let p := placeAfter s.tmin c.lastStb t
  let s := if p.2 then s.clamp ch 2 cycle else s
  (p.1, s.setChan ch { c with lastStb := some p.1 })

/-- The level a data edge drives: Low, High, or the source bit of the channel (Table — Data-edge levels, R160). -/
def dataLevel (lvl : Nat) (srcBit : Bool) : Bool := if lvl = 3 then srcBit else lvl == 2

/-- A code in one sub-cycle as the formatter meets it: its channel, group, vector cycle, sub-cycle, start, time set, address and
the units' data. -/
structure Spot where
  sg : Nat
  ch : Nat
  cycle : Nat
  sub : Nat
  start : Int
  ts : Nat
  ia : Nat
  data : SubData
deriving DecidableEq, Repr

/-- Applied instant of edge e of a code in its sub-cycle. -/
def State.spotInstant (s : State) (p : Spot) (e : Nat) : Int := s.applied p.ch p.ts e p.data p.start

/-- The edges a code asks for in one sub-cycle, in program order: DEN by E0 then E3, DRV by E1 then E2 (R99, R109). -/
def State.edgesOf (s : State) (p : Spot) (code : Nat) : List Edge :=
  let w := s.wtCode p.ch code
  let bit := Sparse.get (fun _ => false) p.data.bits p.ch
  let edge (asked : Bool) (out : Output) (e : Nat) (level : Bool) : List Edge :=
    if asked then [⟨p.ch, out, s.spotInstant p e, level, p.cycle⟩] else []
  edge (bitOf w 0) .den 0 true ++ edge (bitOf w 6) .den 3 false ++
    edge (bitsOf w 2 2 != 0) .drv 1 (dataLevel (bitsOf w 2 2) bit) ++
    edge (bitsOf w 4 2 != 0) .drv 2 (dataLevel (bitsOf w 4 2) bit)

/-- Format one code in one sub-cycle: its edges, then the strobe sampler by S0 then S1 (R109). -/
def State.formatCode (s : State) (p : Spot) (code : Nat) : State :=
  let w := s.wtCode p.ch code
  let s := s.placeLevels (s.edgesOf p code)
  let m0 := bitsOf w 8 3
  let m1 := bitsOf w 12 3
  if bitOf w 15 then
    let a := s.placeStrobe p.ch (s.spotInstant p 4) p.cycle
    let b := a.2.placeStrobe p.ch (a.2.spotInstant p 5) p.cycle
    { b.2 with strobes := b.2.strobes ++ [⟨p.ch, p.sg, false, true, m0, a.1, b.1, p.cycle, p.sub, p.ts, p.ia⟩] }
  else
    let s := if m0 = 0 then s else
      let a := s.placeStrobe p.ch (s.spotInstant p 4) p.cycle
      { a.2 with strobes := a.2.strobes ++ [⟨p.ch, p.sg, false, false, m0, a.1, a.1, p.cycle, p.sub, p.ts, p.ia⟩] }
    if m1 = 0 then s else
      let a := s.placeStrobe p.ch (s.spotInstant p 5) p.cycle
      { a.2 with strobes := a.2.strobes ++ [⟨p.ch, p.sg, true, false, m1, a.1, a.1, p.cycle, p.sub, p.ts, p.ia⟩] }

/-! ## One sub-cycle of a line -/

/-- Whether a channel's site is parked in a vector cycle: AUTOMASK masked it at least FLAT cycles before (R34). -/
def State.parked (s : State) (sg cycle ch : Nat) : Bool :=
  s.flag (F.SE_CFG.PARK sg) && s.flag (F.SE_CFG.AUTOMASK sg) &&
  match Sparse.get (fun _ => none) (s.engine sg).autoAt (s.siteOf sg ch) with
  | none => false
  | some m => decide (m + s.flat sg ≤ cycle)

/-- The code and time set of a channel in sub-cycle q of a line: position p takes code q * n + p (R36); a parked channel takes
the safe waveform. -/
def State.codeOf (s : State) (sg cycle ch q ts : Nat) (codes : List Nat) : Nat × Nat :=
  if s.parked sg cycle ch then (s.fld (F.SE_SAFE.SAFE_CODE sg), s.fld (F.SE_SAFE.SAFE_TS sg))
  else (nth codes (q * s.nPositions sg + s.position sg ch) 0, ts)

/-- A drive-mode unit takes a lane's code (R151, R153): the code to format. -/
def State.cvDrive (s : State) (u code : Nat) : Nat × State :=
  if code = s.fld (F.CV_CODES.C0 u) then (code, s.cvData u false false)
  else if code = s.fld (F.CV_CODES.C1 u) then (code, s.cvData u true false)
  else if code = s.fld (F.CV_CODES.CF u) then
    let r := s.cvDriveField u
    (if r.1 then r.2.fld (F.CV_CODES.C1 u) else r.2.fld (F.CV_CODES.C0 u), r.2)
  else (code, s)

/-- The codes of the group's channels after its drive-mode units, unit by unit and lane by lane. -/
def State.driveCodes (s : State) (sg : Nat) (cs : SMap (Nat × Nat)) : SMap (Nat × Nat) × State :=
  ((List.range 32).filter fun u => s.cvServes u sg && !s.flag (F.CV_CFG.MODE u)).foldl (fun a u =>
    a.1.foldl (fun (b : SMap (Nat × Nat) × State) p =>
      if b.2.cvLane u p.1 then
        let r := b.2.cvDrive u p.2.1
        (b.1 ++ [(p.1, (r.1, p.2.2))], r.2)
      else (b.1 ++ [p], b.2)) ([], a.2)) (cs, s)

/-- A check-mode unit queues the S0 strobes of its lanes' C0, C1 and CF codes as stream bits (R151, R156). -/
def State.expectBits (s : State) (sg cycle q : Nat) (cs : SMap (Nat × Nat)) : State :=
  ((List.range 32).filter fun u => s.cvServes u sg && s.flag (F.CV_CFG.MODE u)).foldl (fun s u =>
    cs.foldl (fun s p =>
      let isField := p.2.1 == s.fld (F.CV_CODES.CF u)
      if s.cvLane u p.1 &&
          (isField || p.2.1 == s.fld (F.CV_CODES.C0 u) || p.2.1 == s.fld (F.CV_CODES.C1 u)) then
        match s.strobes.find? fun t => t.sg == sg && t.ch == p.1 && t.cycle == cycle && t.sub == q && !t.second with
        | none => s
        | some t => s.setCv u { s.cv u with expect := (s.cv u).expect ++ [⟨t, isField, none, false⟩] }
      else s) s) s

/-- Format sub-cycle q of a line on every channel of the group. A check-mode unit that shares a lane with a drive-mode unit sees the line's
own code there, CF included, as the drive-mode unit does (DESIGN CHOICE, log 93). -/
def State.formatSub (s : State) (sg cycle q : Nat) (start : Nat) (codes : List Nat) (ts ia : Nat) (d : SubData) : State :=
  let cs := (s.members sg).map fun ch => (ch, s.codeOf sg cycle ch q ts codes)
  let r := s.driveCodes sg cs
  let t : Int := start + q * s.psub sg
  let s := r.1.foldl (fun (s : State) p => s.formatCode ⟨sg, p.1, cycle, q, t, p.2.2, ia, d⟩ p.2.1) r.2
  s.expectBits sg cycle q cs

/-! ## Safe-waveform cycles (R61, R93, R94) -/

/-- A sub-cycle without unit data. -/
def SubData.none : SubData := ⟨[], []⟩

/-- Place the edges of a group's latest safe-waveform cycle that satisfy a condition, and drop the rest. A channel that has left the
group meanwhile takes none (R6). -/
def State.placeSafe (s : State) (sg : Nat) (keep : Edge → Bool) : State :=
  let e := s.engine sg
  if e.safe.isEmpty then s
  else (s.placeLevels (e.safe.filter fun x => s.isMember sg x.ch && keep x)).setEngine sg { e with safe := [] }

/-- The edges of one safe-waveform cycle of a group: the safe code in every sub-cycle, under the safe time set. -/
def State.safeEdges (s : State) (sg start : Nat) : List Edge :=
  (s.members sg).flatMap fun ch => (List.range (s.mult sg)).flatMap fun q =>
    s.edgesOf ⟨sg, ch, s.seCycle sg, q, (start : Int) + q * s.psub sg, s.fld (F.SE_SAFE.SAFE_TS sg), 0, .none⟩
      (s.fld (F.SE_SAFE.SAFE_CODE sg))

/-- One safe-waveform cycle of a group issues: the one before it plays out. Its own edges are placed when the cycle after it issues, since
a burst's start may still cut it short (R94; DESIGN CHOICE, log 88). -/
def State.safeCycle (s : State) (sg start : Nat) : State :=
  let s := s.placeSafe sg fun _ => true
  s.setEngine sg { s.engine sg with safe := s.safeEdges sg start }

/-- The safe-waveform cycle in progress at a start instant ends there: its edges at or after the instant are not placed (R94). -/
def State.cutSafe (s : State) (sg start : Nat) : State := s.placeSafe sg fun e => decide (e.applied < (start : Int))

/-- The start of a group's next safe-waveform cycle: where the cycle before it ends, or, when that has passed, the first boundary of the
same grid from now on (DESIGN CHOICE, log 88). -/
def State.safeStart (s : State) (sg : Nat) : Nat :=
  let n := (s.engine sg).nextStart
  n + ceilDiv (toTick s.now - n) (s.period sg) * s.period sg

/-! ## Values that a Tack brings into effect (R96, R311) -/

/-- A channel that joins a group leaves any other with it, should that one's own boundary come later (R6; DESIGN CHOICE, log 89). The
cycles the other group has issued keep the channel. -/
def State.leaveOthers (s : State) (sg ch : Nat) : State :=
  ((List.range 64).filter fun g => g != sg && s.isMember g ch).foldl (fun (s : State) g =>
    let off := R.SE_CHMAP g (ch / 32)
    let e := s.engine g
    (s.setEngine g { e with prior := (s.seCycle g, [(off, s.reg off)]) :: e.prior }).setReg off
      (clearBit (s.regN off) (ch % 32))) s

/-- New contents of a SE_CHMAP register: a channel that joins leaves other groups, and one that is then in no site group holds DEN
inactive (R6). -/
def State.putMembers (s : State) (key : Nat) (v : Word) : State :=
  let old := s.regN key
  let first := 8 * (key % 0x4000 - 0x40)
  let s := (s.putInEffect key v)
  let s := (bitsSet 32 (andNot 32 v.toNat old)).foldl (fun (s : State) j => s.leaveOthers (key / 0x4000 % 64) (first + j)) s
  ((bitsSet 32 (andNot 32 old v.toNat)).filter fun j => (s.groupOf (first + j)).isNone).foldl (fun (s : State) j =>
    s.setChan (first + j) { s.chan (first + j) with den := false }) s

/-- Put one committed value in effect at vector cycle m of its group, with what its chapter adds: a channel may leave its group, SE_SITEMASK governs decisions
from m on (R64), a source unit that becomes enabled starts with an empty ring (R167), and a changed trigger condition is
qualified from the first word of cycle m on (R194). -/
def State.applyValue (s : State) (m key : Nat) (v : Word) : State :=
  let off := key
  if 0x1000000 ≤ off ∧ off < 0x1100000 ∧ 0x40 ≤ off % 0x4000 ∧ off % 0x4000 < 0x60 then s.putMembers key v
  else if 0x1000000 ≤ off ∧ off < 0x1100000 ∧ off % 0x4000 = 8 then
    let sg := (off - 0x1000000) / 0x4000
    let s := s.putInEffect key v
    s.setEngine sg { s.engine sg with masks := (m, s.fld (F.SE_SITEMASK.MASK sg)) :: (s.engine sg).masks }
  else if 0x2000000 ≤ off ∧ off < 0x2010000 ∧ off % 0x1000 = 0 then
    let u := (off - 0x2000000) / 0x1000
    let was := s.flag (F.SRC_CFG.EN u)
    let s := s.putInEffect key v
    if !was && s.flag (F.SRC_CFG.EN u) then
      ((s.setReg (R.SRC_RING_WRPTR u) 0).setReg (R.SRC_RING_RDPTR u) 0).setSrc u SrcUnit.off
    else s
  else if 0x2400000 ≤ off ∧ off < 0x2410000 ∧ 0x80 ≤ off % 0x1000 ∧ off % 0x1000 < 0x100 then
    let u := (off - 0x2400000) / 0x1000
    let a := Sparse.get (fun _ => AcqUnit.off) s.acqs u
    let k := (off % 0x1000 - 0x80) / 32
    if s.reg off = v ∨ a.slot.isNone then s.putInEffect key v
    else ({ s with acqs := Sparse.set (fun _ => AcqUnit.off) s.acqs u { a with requal := a.requal ++ [(m, k)] } } : State).putInEffect
      key v
  else s.putInEffect key v

/-- Apply committed values in ascending key order. -/
def State.applyValues (s : State) (m : Nat) (vals : SMap Word) : State :=
  vals.foldl (fun (s : State) p => s.applyValue m p.1 p.2) s

/-- Whether a group's waiting commit is due for a cycle that begins at a tick; one that names a cycle waits for it in its burst. -/
def GroupCommit.due (c : GroupCommit) (begun : Bool) (sg cycle start : Nat) : Bool :=
  c.sg == sg && match c.atCycle with
    | some b => begun && decide (b ≤ cycle)
    | none => decide (c.atTick ≤ start)

/-- The value in effect at the key of a staged place. -/
def State.inEffect (s : State) (key : Nat) : Word :=
  let space := key / 2 ^ 26
  let off := key % 2 ^ 26
  if space = 0 then s.reg off
  else if space = 2 then s.reg (R.WT_CODE (off / 64) (off % 64 / 4))
  else if space = trimSpace then BitVec.ofNat 32 (unsigned 32 (s.trimAt off))
  else Sparse.get (fun _ => 0) s.tables key

/-- Modulation jumps that have come into effect are latched, and MOD_JUMP then reads 0 (R175). -/
def State.latchJumps (s : State) : State :=
  ((List.range 16).filter fun u => s.flag (F.MOD_JUMP.REQ u)).foldl (fun (s : State) u =>
    (s.modJump u (s.fld (F.MOD_JUMP.ENTRY u))).setReg (R.MOD_JUMP u) 0) s

/-- One commit of a group takes effect at vector cycle m, which begins at a tick; the values it replaces stay known for the cycles before. A
period generator that it enables begins its first cycle there (DESIGN CHOICE, log 22). -/
def State.takeCommit (s : State) (sg m start : Nat) (c : GroupCommit) : State :=
  let e := s.engine sg
  let old := c.values.map fun p => (p.1, s.inEffect p.1)
  let ran := s.flag (F.PG_CFG.EN sg)
  let s := (s.setEngine sg { e with prior := (m, old) :: e.prior }).applyValues m c.values
  if !ran && s.flag (F.PG_CFG.EN sg) then s.setEngine sg { s.engine sg with nextStart := start } else s

/-- Bring the values of a group's due commits into effect, before the cycle that begins at a tick (R96). -/
def State.groupValues (s : State) (sg cycle start : Nat) : State :=
  let begun := decide (2 ≤ s.eState sg)
  let due := s.groupPend.filter fun c => c.due begun sg cycle start
  if due.isEmpty then s
  else
    let s' : State := { s with
      groupPend := s.groupPend.filter fun c => !c.due begun sg cycle start
      tack := if due.any fun c => c.atCycle.isSome then s.tack.map fun t => { t with applied := true } else s.tack }
    (due.foldl (fun (s : State) c => s.takeCommit sg cycle start c) (s'.placeSafe sg fun _ => true)).holdGroup sg

/-- The boundary before a vector cycle of a group that begins at a tick: due values take effect, and the jumps among them are latched. -/
def State.groupBoundary (s : State) (sg cycle start : Nat) : State :=
  if s.groupPend.any fun c => c.due (decide (2 ≤ s.eState sg)) sg cycle start then (s.groupValues sg cycle start).latchJumps
  else s

/-- Do what belongs to vector cycle m of a group under the values that act in that cycle (R96). -/
def State.atCycle (s : State) (sg m : Nat) (f : State → State) : State :=
  let later := (s.engine sg).prior.filter fun p => decide (m < p.1)
  if later = [] then f s
  else
    let now := later.flatMap fun p => p.2.map fun q => (q.1, s.inEffect q.1)
    (f (later.foldl (fun (s : State) p => s.overlay p.2) s)).overlay now

end Sys2Proof.Machine
end

