-- ==== Sys2Proof/Machine/Micro.lean ====
section
/-! DEFINITION. The control store and the microsequencers: the master and local stores, the microword's fields, how a microword runs and
pushes line commands, and the issue unit's queues (R68–R76, R436). What a pattern instruction does is fixed by the chapters of the engines
and does not depend on the microcode (R88). -/
namespace Sys2Proof.Machine

/-! ## Stores (R68–R70) -/

/-- Word of the master control store: ROM, the patched image, which starts as a copy of the ROM local image, and the patch staging. -/
def State.masterWord (s : State) (a : Nat) : Nat :=
  if a < 0x2000 then Config.romWord a
  else if a < 0x2800 then (Sparse.find? s.boot.patch (a - 0x2000)).getD (Config.romWord (a - 0x2000))
  else Sparse.get (fun _ => 0) s.boot.staging a

/-- The images that a local store may hold. -/
def romImage : Nat := 1
def patchedImage : Nat := 2
def diagnosticImage : Nat := 3

/-- First master word of an image. -/
def imageBase (image : Nat) : Nat :=
  if image = patchedImage then 0x2000 else if image = diagnosticImage then 0x0800 else 0

/-- Word of an engine's local store; a store that nothing was loaded into reads 0 (DESIGN CHOICE, log 118). -/
def State.localWord (s : State) (sg a : Nat) : Nat :=
  let m := s.micro sg
  if m.image = 0 then 0 else s.masterWord (imageBase m.image + a)

/-- The image that SEQ_UCODE_STATUS.SOURCE selects. -/
def State.sourceImage (s : State) : Nat := if s.flag F.SEQ_UCODE_STATUS.SOURCE then patchedImage else romImage

/-- The entry of the routine for an opcode, and of the trap routine for a cause (R70). -/
def dispatchEntry (op : Nat) : Nat := op % 0x20
def trapRoutine (cause : Nat) : Nat := 0x020 + cause

/-- Where a loaded store starts to run: the first word of the routines (DESIGN CHOICE, log 118). -/
def idleRoutine : Nat := 0x024

/-- Load an engine's local store with an image; the microsequencer starts anew. It is done at start-up, at the reset that clears an engine's
fence and in TEST alone, where no engine runs (R69). -/
def State.loadStore (s : State) (sg image : Nat) : State := s.setMicro sg { Micro.blank with image := image, upc := idleRoutine }

/-- Load the local stores of the engines that are not fenced. -/
def State.loadStores (s : State) (image : Nat) : State :=
  (List.range 64).foldl (fun (s : State) g => if s.eState g = 4 then s else s.loadStore g image) s

/-! ## Fields of a microword (Table — Microword fields) -/

def mSeq (w : Nat) : Nat := bitsOf w 244 3
def mNaddr (w : Nat) : Nat := bitsOf w 233 11
def mUcond (w : Nat) : Nat := bitsOf w 227 6
def mUpol (w : Nat) : Bool := bitOf w 226
def mLcmd (w : Nat) : Nat := bitsOf w 223 3
def mLarm (w : Nat) : Nat := bitsOf w 220 3
def mLcnt (w : Nat) : Nat := bitsOf w 218 2
def mSide (w : Nat) : Nat := bitsOf w 214 4
def mDec (w : Nat) : Nat := bitsOf w 210 4
def mLoopop (w : Nat) : Nat := bitsOf w 207 3
def mCallop (w : Nat) : Nat := bitsOf w 205 2
def mIfetch (w : Nat) : Nat := bitsOf w 203 2
def mGrsel (w : Nat) : Nat := bitsOf w 199 4
def mGrsrc (w : Nat) : Bool := bitOf w 198
def mGrwe (w : Nat) : Bool := bitOf w 197
def mAluop (w : Nat) : Nat := bitsOf w 192 5
def mAlua (w : Nat) : Nat := bitsOf w 189 3
def mAlub (w : Nat) : Nat := bitsOf w 186 3
def mAludst (w : Nat) : Nat := bitsOf w 183 3
def mImm (w : Nat) : Nat := bitsOf w 151 32
def mUlcload (w : Nat) : Nat := bitsOf w 127 24
def mUlcen (w : Nat) : Bool := bitOf w 126
def mTrapret (w : Nat) : Bool := bitOf w 124
def mFkind (w : Nat) : Nat := bitsOf w 118 6
def mFen (w : Nat) : Bool := bitOf w 117
def mCnsev (w : Nat) : Nat := bitsOf w 108 9
def mCnsen (w : Nat) : Bool := bitOf w 107
def mPref (w : Nat) : Nat := bitsOf w 104 3
def mPrefsrc (w : Nat) : Nat := bitsOf w 102 2
def mUwe (w : Nat) : Nat := bitsOf w 98 4
def mMemop (w : Nat) : Nat := bitsOf w 96 2
def mMemaddr (w : Nat) : Nat := bitsOf w 90 6

/-! ## Operands and the ALU -/

/-- The general register a microword selects: GRSEL, or an instruction field that the routine names, which only the microcode fixes. -/
def Micro.grIndex (m : Micro) (w : Nat) : Nat := if mGrsrc w then Config.microGr m.word % 16 else mGrsel w

/-- A general register as the microsequencer sees it, ahead of issue. -/
def State.microGr (s : State) (sg : Nat) (m : Micro) (k : Nat) : Nat :=
  (Sparse.find? m.grs k).getD (s.regN (R.SE_GR sg k))

/-- An ALU operand. -/
def State.microOperand (s : State) (sg : Nat) (m : Micro) (w sel : Nat) : Nat :=
  if sel < 4 then nth m.uregs sel 0
  else if sel = 4 then s.microGr sg m (m.grIndex w)
  else if sel = 5 then iA m.word
  else if sel = 6 then iX m.word
  else m.ulc

/-- The ALU result; the coding of ALUOP is the microcode's own (log 118). -/
def State.microResult (s : State) (sg : Nat) (m : Micro) (w : Nat) : Nat :=
  Config.microAlu (mAluop w) (s.microOperand sg m w (mAlua w)) (s.microOperand sg m w (mAlub w)) (mImm w) % 2 ^ 32

/-! ## Line commands (R74–R76) -/

/-- The count of the line command a microword pushes. -/
def Micro.lines (m : Micro) (w result : Nat) : Nat :=
  match mLcnt w with
  | 0 => iA m.word
  | 1 => m.ulc
  | 2 => result
  | _ => 1

/-- The line command of a microword, with the loop and call operations it carries. -/
def State.lineCmd (s : State) (sg : Nat) (m : Micro) (w result : Nat) : LineCmd :=
  ⟨mLcmd w, iLine m.word, m.lines w result, mSide w, mDec w, mLoopop w,
    if mLoopop w = 1 then iA m.word else s.microGr sg m (m.grIndex w), mCallop w, m.ia + 1⟩

/-- The pattern loop stack after an operation (LOOPOP). -/
def loopAfter (op count depth : Nat) (l : List LoopLevel) : List LoopLevel :=
  match op, l with
  | 1, _ => ⟨count, depth⟩ :: l
  | 2, _ => ⟨count, depth⟩ :: l
  | 3, h :: t => { h with remaining := h.remaining - 1 } :: t
  | 4, _ :: t => t
  | _, _ => l

/-- The pattern call stack after an operation (CALLOP). -/
def callAfter (op ret : Nat) (l : List Nat) : List Nat :=
  match op with
  | 1 => ret :: l
  | 2 => l.tail
  | _ => l

/-- Apply the loop and call operations of a command to the stacks. -/
def Micro.apply (m : Micro) (c : LineCmd) : Micro :=
  { m with loops := loopAfter c.loopop c.loopCount m.calls.length m.loops, calls := callAfter c.callop c.ret m.calls }

/-- The queue that LARM names: 0 the main queue, 1 to 5 an arm's. -/
def Micro.queue (m : Micro) (arm : Nat) : List LineCmd := if arm = 0 then m.main else nth m.arms (arm - 1) []

/-- Whether a microword pushes anything: a line command, or an operation that is held with an arm. -/
def pushes (w : Nat) : Bool := mLcmd w != 0 || (mLarm w != 0 && (mLoopop w != 0 || mCallop w != 0))

/-- Whether a microword is held: the queue it pushes to holds 48 commands (R74). -/
def Micro.holds (m : Micro) (w : Nat) : Bool := pushes w && decide (48 ≤ (m.queue (mLarm w)).length)

/-- Push the command of a microword; operations for the main queue apply to the stacks, those of an arm are held with it (R83). -/
def Micro.push (m : Micro) (w : Nat) (c : LineCmd) : Micro :=
  if mLarm w = 0 then
    let m := if mLcmd w = 0 then m else { m with main := m.main ++ [c] }
    m.apply c
  else if pushes w then { m with arms := setAt m.arms (mLarm w - 1) (m.queue (mLarm w) ++ [c]) }
  else m

/-! ## One microword (R71, R73) -/

/-- Address of the pattern instruction after a fetch (IFETCH). -/
def Micro.fetchAddr (m : Micro) (w : Nat) : Nat :=
  match mIfetch w with
  | 0 => m.ia
  | 1 => m.ia + 1
  | 2 => iA m.word
  | _ => m.calls.headD 0

/-- The micro-condition of a microword, after UPOL. -/
def Micro.branches (m : Micro) (w result : Nat) : Bool := Config.microCond (mUcond w) result m.ulc m.latches != mUpol w

/-- Next address and micro stack, counter in hand (Table — SEQ encodings). A fifth return address drops the first (DESIGN CHOICE, log
118). -/
def Micro.sequence (m : Micro) (w result word : Nat) : Micro :=
  let on := { m with upc := (m.upc + 1) % 2048 }
  match mSeq w with
  | 1 => { m with upc := mNaddr w }
  | 2 => if m.branches w result then { m with upc := mNaddr w } else on
  | 3 => { m with upc := dispatchEntry (iOp word) }
  | 4 => { m with upc := mNaddr w, stack := ((m.upc + 1) % 2048 :: m.stack).take 4 }
  | 5 => { m with upc := m.stack.headD 0, stack := m.stack.tail }
  | 6 => if m.ulc = 0 then on else { m with ulc := m.ulc - 1 }
  | 7 => m
  | _ => on

/-- The prefetched address of a microword, if any (PREF, PREFSRC). -/
def State.prefetch (s : State) (sg : Nat) (m : Micro) (w : Nat) : List (Option Nat) :=
  match mPrefsrc w with
  | 1 => setAt m.ahead (mPref w) (some (iA m.word))
  | 2 => setAt m.ahead (mPref w) (some (s.microGr sg m (m.grIndex w)))
  | 3 => setAt m.ahead (mPref w) m.calls.head?
  | _ => m.ahead

/-- UREG k after a microword: its write enable takes the ALU result where ALUDST names it, and the word of a scratch read where it does not
(DESIGN CHOICE, log 118). -/
def Micro.uregAfter (m : Micro) (w result k : Nat) : Nat :=
  if !bitOf (mUwe w) k then nth m.uregs k 0
  else if mAludst w = k then result
  else if mMemop w = 1 then Sparse.get (fun _ => 0) m.scratch (mMemaddr w)
  else nth m.uregs k 0

/-- The results of a microword: registers, counter, scratch RAM, general registers ahead of issue, latches, fault kind and prefetches. -/
def State.microWrites (s : State) (sg : Nat) (m : Micro) (w result : Nat) : Micro :=
  { m with
    uregs := (List.range 4).map (m.uregAfter w result)
    ulc := if mUlcen w then mUlcload w else if mAludst w = 4 then result % 2 ^ 24 else m.ulc
    scratch := if mMemop w = 2 then Sparse.set (fun _ => 0) m.scratch (mMemaddr w) result else m.scratch
    grs := if mGrwe w then Sparse.insert m.grs (m.grIndex w) result else m.grs
    latches := Config.microLatches (mUcond w) result m.latches % 4
    fault := if mFen w then some (mFkind w) else m.fault
    ahead := s.prefetch sg m w
    lrem := 0 }

/-- An engine's microsequencer after one microword w; a word that finds its queue full is held (R71–R74). -/
def State.microRun (s : State) (sg : Nat) (m : Micro) (w : Nat) : Micro :=
  let result := s.microResult sg m w
  if m.holds w then { m with lrem := m.lines w result }
  else
    let ia := m.fetchAddr w
    let word := if mIfetch w = 0 then m.word else s.instrWord sg ia
    let next := ((s.microWrites sg m w result).push w (s.lineCmd sg m w result)).sequence w result word
    { next with ia := ia, word := word }

/-- One microword. -/
def State.microNext (s : State) (sg : Nat) (m : Micro) : Micro := s.microRun sg m (s.localWord sg m.upc)

/-! ## The pattern clock (R74) -/

/-- Whether an engine's microsequencer runs: its store is loaded, the engine is not fenced and no trap holds it. -/
def State.microRuns (s : State) (sg : Nat) : Bool :=
  (s.micro sg).image != 0 && s.eState sg != 4 && (s.engine sg).trapActive.isNone

/-- The engines' microsequencers after the two pattern cycles of a time-clock edge. -/
def State.microsNext (s : State) : SMap Micro :=
  s.micros.map fun p => (p.1, if s.microRuns p.1 then s.microNext p.1 (s.microNext p.1 p.2) else p.2)

/-- Whether a counter watches an event that microwords signal (R436). -/
def State.watchesMicro (s : State) : Bool := (List.range 8).any fun k => decide (448 ≤ s.fld (F.CNS_CTR_CFG.EVENT k))

/-- A microword signals its event, if it is one of 448 or above (R436). -/
def State.microSignal (s : State) (w : Nat) : State :=
  if mCnsen w ∧ 448 ≤ mCnsev w then s.count (mCnsev w) 1 else s

/-- The events that the microwords of the next two pattern cycles signal. -/
def State.microSignals (s : State) : State :=
  if s.watchesMicro then
    s.micros.foldl (fun (t : State) p =>
      if s.microRuns p.1 then
        (t.microSignal (s.localWord p.1 p.2.upc)).microSignal (s.localWord p.1 (s.microNext p.1 p.2).upc)
      else t) s
  else s

/-- Two pattern cycles of every microsequencer; the pattern clock stands still from P1 down (R457). -/
def State.microClock (s : State) : State :=
  if s.fld F.SYS_PWR.STATE ≠ 0 then s else { s.microSignals with micros := s.microsNext }

/-! ## The issue unit's queues (R74, R76) -/

/-- A line has issued from a queue: its command has one line fewer. -/
def lineTaken : List LineCmd → List LineCmd
  | [] => []
  | c :: t => if c.kind = 0 then lineTaken t else if c.count ≤ 1 then t else { c with count := c.count - 1 } :: t

/-- A line of a group issues (R74). -/
def State.takeCommand (s : State) (sg : Nat) : State :=
  let m := s.micro sg
  if m.main.isEmpty then s else s.setMicro sg { m with main := lineTaken m.main }

/-- A decision selects an arm, 0 to 4: it becomes the main queue, its operations apply to the stacks, and the other arms are discarded
(R76, R83). -/
def State.selectArm (s : State) (sg k : Nat) : State :=
  let m := s.micro sg
  let arm := nth m.arms k []
  let m := arm.foldl Micro.apply { m with main := arm, arms := Micro.noArms, ia := (nth m.ahead (k + 1) none).getD m.ia }
  s.setMicro sg { m with ahead := [none, none, none, none, none, none] }

/-- The arm of a conditional instruction that a decision takes: a REACT's alternative t is arm t + 1 (R147) and its window's end arm 5; of
the others arm 1 is the taken target or the exit, arm 2 the other path (DESIGN CHOICE, log 118). Arms count from 0 here. -/
def takenArm : Nat := 0
def otherArm : Nat := 1
def windowArm : Nat := 4

/-- An engine is ARMED: its microsequencer begins at the entry address with empty queues and stacks. -/
def State.microArm (s : State) (sg pc : Nat) : State :=
  s.setMicro sg { s.micro sg with
    ia := pc, word := s.instrWord sg pc, main := [], arms := Micro.noArms, ahead := [none, none, none, none, none, none]
    loops := [], calls := [], grs := [], lrem := 0 }

/-! ## The save area and trap routines (R80, R82) -/

/-- What the save area holds of the microsequencer. Of the return addresses the first pushed lies lowest (DESIGN CHOICE, log 118). -/
def Micro.saved (m : Micro) : Nat :=
  let stack := m.stack.reverse
  m.upc % 2 ^ 11 * 2 ^ 413 + m.latches % 4 * 2 ^ 411 + m.stack.length % 8 * 2 ^ 405 +
  ((List.range 4).foldl (fun a k => a + nth stack k 0 % 2 ^ 11 * 2 ^ (11 * k)) 0) * 2 ^ 361 + m.ulc % 2 ^ 24 * 2 ^ 337 +
  ((List.range 4).foldl (fun a k => a + nth m.uregs k 0 % 2 ^ 32 * 2 ^ (32 * k)) 0) * 2 ^ 209 + m.lrem % 2 ^ 24 * 2 ^ 185

/-- The microsequencer takes its state back from a save area. -/
def Micro.restored (m : Micro) (a : Nat) : Micro :=
  { m with
    upc := bitsOf a 413 11, latches := bitsOf a 411 2, ulc := bitsOf a 337 24, lrem := bitsOf a 185 24
    stack := ((List.range (min 4 (bitsOf a 405 4))).map fun k => bitsOf a (361 + 11 * k) 11).reverse
    uregs := (List.range 4).map fun k => bitsOf a (209 + 32 * k) 32 }

/-- Run up to n microwords of a trap routine; its last one has TRAPRET = 1. -/
def State.runRoutine (s : State) (sg : Nat) : Nat → Micro → Micro
  | 0, m => m
  | n + 1, m =>
    let next := s.microNext sg m
    if mTrapret (s.localWord sg m.upc) then next else s.runRoutine sg n next

/-- The events that a trap routine signals. -/
def State.routineSignals (s : State) (sg : Nat) : Nat → Micro → State
  | 0, _ => s
  | n + 1, m =>
    let w := s.localWord sg m.upc
    if mTrapret w then s.microSignal w else (s.microSignal w).routineSignals sg n (s.microNext sg m)

/-- The trap routine of a cause runs from its entry, up to 12 microwords of it. -/
def State.trapRuns (s : State) (sg cause : Nat) : State :=
  let m := { s.micro sg with upc := trapRoutine cause }
  let next := s.runRoutine sg 12 m
  (if s.watchesMicro then s.routineSignals sg 12 m else s).setMicro sg next

/-- The SCRUB routine rewrites the corrected word (R84). -/
def State.scrub (s : State) (sg : Nat) : State :=
  let m := s.micro sg
  s.setMicro sg { m with upsets := m.upsets.filter fun a => a != s.fld (F.SE_UCERR.LASTADDR sg) }

end Sys2Proof.Machine
end

