-- ==== Sys2Proof/Machine/Issue.lean ====
section
/-! DEFINITION. A sequence engine: instructions, lines, conditional instructions and reactive rules (R39–R54, R141–R149), burst
start and safe-waveform cycles (R60, R61, R94). -/
namespace Sys2Proof.Machine

/-! ## Acquisition and link requests a line makes -/

def State.acq (s : State) (u : Nat) : AcqUnit := Sparse.get (fun _ => AcqUnit.off) s.acqs u
def State.setAcq (s : State) (u : Nat) (v : AcqUnit) : State :=
  { s with acqs := Sparse.set (fun _ => AcqUnit.off) s.acqs u v }

/-- Whether an acquisition unit is enabled and bound to a group. -/
def State.acqServes (s : State) (u sg : Nat) : Bool := s.flag (F.AQ_CFG.EN u) && s.fld (F.AQ_CFG.SG u) == sg

/-- SYNC SEND (R48, R335): one frame, stamped with the line's ball start, on every port of the mask; none for an empty mask. -/
def State.syncSend (s : State) (event mask start : Nat) : State :=
  if mask % 16 = 0 then s
  else
    let q := s.nextSeq 3
    let t := start * 2 ^ 19
    let payload := ofBytes (toBytes 2 event ++ toBytes 2 0 ++ toBytes 8 (t / 2 ^ 32) ++ toBytes 4 t)
    (bitsSet 4 mask).foldl (fun (s : State) p => s.offerFrame p ⟨3, 1, s.fld F.LNK_ID.ID, q.1, payload⟩) q.2

/-! ## Lines -/

/-- The next line of the open stream, or the cause that ends the burst (R53, R57, R58). -/
def State.takeStream (s : State) (sg : Nat) : Except Nat (List Byte) × State :=
  let e := s.engine sg
  match e.stream with
  | none => (.error cStreamEnd, s)
  | some t =>
    if !e.streamOpen || decide (s.streamEntry sg t.entry 0x10 8 ≤ t.taken) then (.error cStreamEnd, s)
    else if (match t.failAt with | some n => decide (n ≤ t.taken) | none => false) then (.error cStreamCheck, s)
    else match t.staged with
      | [] => (.error cUnderrun, s.report 240 kDeadline sg)
      | l :: rest => (.ok l, s.setEngine sg { e with stream := some { t with staged := rest, taken := t.taken + 1 } })

/-- The pool offset of a byte of the loaded section; 0 with no section. -/
def State.secAddr (s : State) (sg off : Nat) : Nat :=
  match (s.engine sg).sec with
  | none => 0
  | some c => c.base + off

/-- Resident line k as the vector fetch gets it: one out of a word that cannot be corrected is not produced (R233). -/
def State.takeResident (s : State) (sg k : Nat) : Except Nat (List Byte) × State :=
  let n := s.lineBytes sg
  let a := s.secAddr sg (s.sec sg 0x24 4 + k * n)
  if s.poisoned a n then (.error cStreamCheck, s.reportPoison a n) else (.ok (s.residentLine sg k), s)

/-- The bytes of the line that the current instruction issues next (R39). -/
def State.takeLine (s : State) (sg : Nat) (c : Current) : Except Nat (List Byte) × State :=
  let line := iLine c.word
  match iOp c.word with
  | 0x01 => if iS c.word then s.takeStream sg else s.takeResident sg (line + c.issued)
  | 0x02 =>
    if !iS c.word then s.takeResident sg line
    else if c.issued = 0 then
      match s.takeStream sg with
      | (.ok l, s) => (.ok l, s.setEngine sg { s.engine sg with cur := some { c with held := l } })
      | (.error x, s) => (.error x, s)
    else (.ok c.held, s)
  | 0x09 => s.takeResident sg (line + c.issued % bitsOf (iA c.word) 0 8)
  | 0x0A => s.takeResident sg (line + c.issued)
  | _ => s.takeResident sg line

/-! ## Beginning an instruction (R43–R54) -/

/-- General register k of an engine. -/
def State.gr (s : State) (sg k : Nat) : Nat := s.regN (R.SE_GR sg k)

/-- Whether a conditional instruction beginning in cycle m is too close to the one before it (R43). -/
def State.tooClose (s : State) (sg m : Nat) : Bool :=
  match (s.engine sg).lastCond with
  | none => false
  | some p => decide (m < p + ceilDiv 131072 (s.period sg))

/-- The lowest of the causes that hold. -/
def lowestCause : List (Bool × Nat) → Option Nat
  | [] => none
  | (b, c) :: t =>
    match b, lowestCause t with
    | true, some d => some (min c d)
    | true, none => some c
    | false, r => r

/-- The instruction in progress, with its line count and where it continues. -/
def Current.of (ia word m total next timeout : Nat) : Current := ⟨ia, word, m, 0, total, next, timeout, none, []⟩

/-- The causes that end the burst before the instruction at hand issues its first line in cycle m, whose ball start is a tick: that line does
not issue, and its cycle carries the safe waveform (DESIGN CHOICE, log 99). -/
def State.beginCause (s : State) (sg w m start : Nat) : Option Nat :=
  let e := s.engine sg
  let a := iA w
  let n := s.instrCount sg
  match iOp w with
  | 0x04 => lowestCause [(s.tooClose sg m, cSpacing)]
  | 0x05 =>
    let count := if iX w = 0 then a else s.gr sg (a % 16)
    lowestCause [(decide (8 ≤ e.loops.length), cLoopDepth), (count == 0, cZeroCount)]
  | 0x06 =>
    match e.loops with
    | [] => some cLoopDepth
    | l :: _ => if l.level = e.calls.length then none else some cLoopDepth
  | 0x07 => lowestCause [(decide (16 ≤ e.calls.length), cStack)]
  | 0x08 => lowestCause [(e.calls.isEmpty, cStack)]
  | 0x09 => lowestCause [(s.tooClose sg m, cSpacing), (s.gr sg (bitsOf a 8 4) == 0, cZeroCount),
      (decide (n ≤ s.gr sg (bitsOf a 12 4)), cBadTarget)]
  | 0x0A => lowestCause [(s.tooClose sg m, cSpacing)]
  | 0x0C => lowestCause [(!s.srcServes (a % 16) sg, cUnbound)]
  | 0x0D => lowestCause [((bitsSet 16 a).any fun u => !s.acqServes u sg, cUnbound)]
  | 0x0E =>
    if iX w = 0 then none
    else lowestCause [(s.tooClose sg m, cSpacing), (s.gr sg (bitsOf a 12 4) == 0, cZeroCount),
      (decide (n ≤ s.gr sg (bitsOf a 16 4)), cBadTarget)]
  | 0x0F =>
    if iX w = 0 then
      let early := match e.closedAt with
        | none => false
        | some t => decide (start < t + 20000 * 8192)
      lowestCause [(e.streamOpen || a % 16 != e.nextEntry || early, cStreamOrder)]
    else
      let same := match e.stream with
        | none => false
        | some t => t.entry == a % 16
      lowestCause [(!e.streamOpen || !same, cStreamOrder)]
  | _ => none

/-- A stream entry with nothing fetched. -/
def Stream.fresh (entry : Nat) : Stream := ⟨entry, [], 0, [], 0, 0, none, 0⟩

/-- What the instruction at an address does in its first line's cycle m, and the instruction it makes current. -/
def State.beginEffect (s : State) (sg ia w m start : Nat) : State :=
  let e := s.engine sg
  let a := iA w
  let one (next : Nat) (e : Engine) : State :=
    s.setEngine sg { e with cur := some (Current.of ia w m 1 next 0) }
  match iOp w with
  | 0x01 => s.setEngine sg { e with cur := some (Current.of ia w m a (ia + 1) 0) }
  | 0x02 => s.setEngine sg { e with cur := some (Current.of ia w m a (ia + 1) 0) }
  | 0x03 => one a e
  | 0x04 => one (ia + 1) { e with lastCond := some m }
  | 0x05 =>
    let count := if iX w = 0 then a else s.gr sg (a % 16)
    one (ia + 1) { e with loops := ⟨count, e.calls.length⟩ :: e.loops }
  | 0x06 =>
    match e.loops with
    | [] => one (ia + 1) e
    | l :: t =>
      if l.remaining = 1 then one (ia + 1) { e with loops := t }
      else one a { e with loops := { l with remaining := l.remaining - 1 } :: t }
  | 0x07 => one a { e with calls := (ia + 1) :: e.calls }
  | 0x08 => one (e.calls.headD 0) { e with calls := e.calls.tail }
  | 0x09 =>
    let s := s.setReg (R.SE_MATCHST sg) 0
    s.setEngine sg { e with
      lastCond := some m, iters := []
      cur := some (Current.of ia w m (bitsOf a 0 8 * s.gr sg (bitsOf a 8 4)) (ia + 1) (s.gr sg (bitsOf a 12 4))) }
  | 0x0A => s.setEngine sg { e with
      lastCond := some m, rsamp := [], refs := [], fire := none
      cur := some (Current.of ia w m a (ia + 1) 0) }
  | 0x0B => one (ia + 1) { e with ts := a % 256 }
  | 0x0C =>
    let s := one (ia + 1) e
    match iX w with
    | 0 => s.srcStart (a % 16) (bitsOf a 4 20)
    | 1 => s.srcStop (a % 16)
    | _ => s.srcJump (a % 16) (bitsOf a 4 20)
  | 0x0D =>
    (bitsSet 16 a).foldl (fun (s : State) u =>
      s.setAcq u { s.acq u with trigs := (s.acq u).trigs ++ [(m, iX w)] }) (one (ia + 1) e)
  | 0x0E =>
    if iX w = 0 then (one (ia + 1) e).syncSend (a % 4096) (bitsOf a 20 4) start
    else s.setEngine sg { e with
      lastCond := some m
      cur := some { Current.of ia w m (s.gr sg (bitsOf a 12 4)) (ia + 1) (s.gr sg (bitsOf a 16 4)) with
        exitAt := (e.heard.find? fun h => h.1 == bitsOf a 0 12 && decide (m ≤ h.2)).map fun h => h.2 + s.flat sg } }
  | 0x0F =>
    if iX w = 0 then
      one (ia + 1) { e with
        streamOpen := true, nextEntry := e.nextEntry + 1
        stream := match e.stream with
          | some t => if t.entry = a % 16 then some t else some (Stream.fresh (a % 16))
          | none => some (Stream.fresh (a % 16)) }
    else
      one (ia + 1) { e with
        streamOpen := false, closedAt := some start
        stream := if a % 16 + 1 < s.streamCount sg then some (Stream.fresh (a % 16 + 1)) else none }
  | 0x10 => (one (ia + 1) e).setReg (R.SE_GR sg (iX w)) a
  | 0x11 => one (ia + 1) { e with clf := m }
  | _ => one (ia + 1) e

/-- The pool offset of the instruction at the program counter. -/
def State.pcAddr (s : State) (sg : Nat) : Nat := s.secAddr sg (s.sec sg 0x20 4 + 8 * (s.engine sg).pc)

/-- An instruction out of a word that cannot be corrected is reported as it is read (R233). -/
def State.readInstr (s : State) (sg : Nat) : State := s.reportPoison (s.pcAddr sg) 8

/-- Begin the instruction at the program counter in cycle m, or the cause that ends the burst. -/
def State.beginInstr (s : State) (sg m start : Nat) : Except Nat State :=
  let ia := (s.engine sg).pc
  let w := s.instrWord sg ia
  if s.poisoned (s.pcAddr sg) 8 then .error cStreamCheck
  else match s.beginCause sg w m start with
    | some c => .error c
    | none => .ok (s.beginEffect sg ia w m start)

/-! ## Reactive rules (R141–R149) -/

/-- Slots of a rule that are enabled, with their channels. -/
def State.ruleSlots (s : State) (sg r : Nat) : List (Nat × Nat) :=
  (bitsSet 32 (s.regN (R.RCT_RSLOTEN sg r))).map fun k => (k, s.fld (F.RCT_RSLOT.CH sg r (k / 4) (k % 4)))

/-- The general register that holds alternative t's address (R147). -/
def State.ruleTarget (s : State) (sg r t : Nat) : Nat :=
  s.gr sg (match t with
    | 0 => s.fld (F.RCT_RCFG.TGT0 sg r)
    | 1 => s.fld (F.RCT_RCFG.TGT1 sg r)
    | 2 => s.fld (F.RCT_RCFG.TGT2 sg r)
    | _ => s.fld (F.RCT_RCFG.TGT3 sg r))

/-- The sample of a slot in a sub-cycle of the current REACT, if it has one (R142). -/
def State.slotSample (s : State) (sg pos k : Nat) : Option Nat :=
  let v := Sparse.get (fun _ => 0) (s.engine sg).rsamp (pos * 32 + k)
  if v = 0 then none else some (v - 4)

/-- Whether a term matches in a sub-cycle (R143). -/
def State.termMatches (s : State) (sg r t pos : Nat) : Bool :=
  let val := s.regN (R.RCT_RT_VAL_LO sg r t) + 2 ^ 32 * s.regN (R.RCT_RT_VAL_HI sg r t)
  let care := s.regN (R.RCT_RT_CARE_LO sg r t) + 2 ^ 32 * s.regN (R.RCT_RT_CARE_HI sg r t)
  (List.range 32).all fun k =>
    let c := bitsOf care (2 * k) 2
    c == 0 || match s.slotSample sg pos k with
      | none => false
      | some v => (v &&& c) == (bitsOf val (2 * k) 2 &&& c)

/-- The terms of a rule whose alternatives are not disabled, in order (R147). -/
def State.ruleTerms (s : State) (sg r : Nat) : List Nat :=
  (List.range (s.fld (F.RCT_RCFG.NALT sg r) + 1)).filter fun t => decide (s.ruleTarget sg r t < s.instrCount sg)

/-- The lowest-numbered matching term whose alternative is not disabled (R146, R147). -/
def State.firstTerm (s : State) (sg r pos : Nat) : Option Nat :=
  (s.ruleTerms sg r).find? fun t => s.termMatches sg r t pos

/-- The selected strobes of a rule that one sub-cycle of a line has placed. -/
def State.ruleStrobes (s : State) (sg r cycle sub : Nat) : List Strobe :=
  s.strobes.filter fun t => t.sg == sg && t.cycle == cycle && t.sub == sub && t.second == s.flag (F.RCT_RCFG.STB sg r) &&
    (s.ruleSlots sg r).any fun k => k.2 == t.ch

/-- The reference instant of a sub-cycle that begins at a tick, plus 40,960 ticks, when it is evaluated: SUBMASK selects it and a slot
has a sample in it (R143, R144). The programmed times are those under which it is formatted. -/
def State.reference (s : State) (sg r cycle sub start : Nat) : Option Nat :=
  let times := (s.ruleStrobes sg r cycle sub).map fun t => s.tsEdge t.ch t.ts (if t.second then 5 else 4)
  if bitOf (s.fld (F.RCT_RCFG.SUBMASK sg r)) sub && !times.isEmpty then some (start + times.foldl max 0 + 40960) else none

/-- Whether a selected strobe of a sub-cycle has not been sampled yet. -/
def State.awaits (s : State) (sg r first pos : Nat) : Bool :=
  !(s.ruleStrobes sg r (first + pos / s.mult sg) (pos % s.mult sg)).isEmpty

/-- Evaluate the next sub-cycle of the current REACT, whose decision may govern from a tick on: the first match fires the rule, which
then evaluates nothing further (R146). -/
def State.evaluateOne (s : State) (sg : Nat) (c : Current) (pos from' : Nat) (rest : List (Nat × Nat)) : State :=
  let r := iX c.word % 8
  let e := s.engine sg
  match s.firstTerm sg r pos with
  | none => s.setEngine sg { e with refs := rest }
  | some t => s.setEngine sg { e with refs := [], fire := some ⟨t, s.ruleTarget sg r t, from'⟩ }

/-- Evaluate sub-cycles in time order while their samples are taken. -/
def State.evaluate (s : State) (sg : Nat) (c : Current) : Nat → State
  | 0 => s
  | n + 1 =>
    match (s.engine sg).refs with
    | [] => s
    | h :: rest =>
      if s.awaits sg (iX c.word % 8) c.first h.1 then s else (s.evaluateOne sg c h.1 h.2 rest).evaluate sg c n

/-- Evaluate what the samples taken so far allow, if the current instruction is a REACT. -/
def State.evaluateNow (s : State) (sg : Nat) : State :=
  match (s.engine sg).cur with
  | some c => if iOp c.word = 0x0A then s.evaluate sg c (s.engine sg).refs.length else s
  | none => s

/-- A later REACT has named the rule of a watch. -/
def LateReact.superseded (r : Nat) (w : LateReact) : LateReact := { w with latest := w.latest && w.rule != r }

/-- The watches of an engine when its current REACT ends: this one joins them where samples of its lines are still to come. -/
def State.watchesAfter (s : State) (sg : Nat) (c : Current) : List LateReact :=
  let r := iX c.word % 8
  let e := s.engine sg
  let old := e.watch.map (LateReact.superseded r)
  if e.fire.isSome || e.refs.isEmpty then old
  else old ++ [⟨r, c.first, e.refs.map Prod.fst, s.ruleTerms sg r, e.rsamp, true⟩]

/-- The current REACT ends: its window runs out, or its alternative begins in the line of a vector cycle. RCT_RSTAT and RCT_RCOUNT are
written and RF is set or cleared (R146, R150). A rule that has fired by the end of the window is late. -/
def State.reactEnd (s : State) (sg : Nat) (c : Current) (splice : Option (Splice × Nat)) : State :=
  let r := iX c.word % 8
  let e := s.engine sg
  let w := s.watchesAfter sg c
  let late := splice.isNone && e.fire.isSome
  let bad := (List.range (s.fld (F.RCT_RCFG.NALT sg r) + 1)).any fun t =>
    decide (s.instrCount sg ≤ s.ruleTarget sg r t)
  let s := s.setReg (R.RCT_RSTAT sg r) (2 ^ 27 * b2n bad + match splice with
    | some f => 2 ^ 31 + 2 ^ 28 * f.1.alt + (f.2 - c.first) % 2 ^ 24
    | none => 2 ^ 30 * b2n late + iA c.word)
  let s := if splice.isSome then s.addSat (F.RCT_RCOUNT.FIRES sg r) 1
    else if late then s.addSat (F.RCT_RCOUNT.LATES sg r) 1 else s
  let s := s.selectArm sg (match splice with | some f => f.1.alt | none => windowArm)
  s.setEngine sg { e with rf := splice.isSome, fire := none, refs := [], rsamp := [], cur := none, watch := w,
                          pc := match splice with | some f => f.1.target | none => c.next }

/-- The registers of a source unit that playing changes. -/
def srcRegs (u : Nat) : List Nat :=
  [R.SRC_RING_RDPTR u, R.SRC_STAT u, R.SRC_JSTAT u, R.SRC_URSAMPLE u, R.SRC_PLAYED_LO u, R.SRC_PLAYED_HI u]

/-- The source units of a group as they stand. -/
def State.keepSrcs (s : State) (sg : Nat) : List (Nat × SrcUnit × List Word) :=
  (unitsServing fun u => s.srcServes u sg).map fun u => (u, s.src u, (srcRegs u).map s.reg)

/-- Put a kept source unit back. -/
def State.putSrc (s : State) (k : Nat × SrcUnit × List Word) : State :=
  ((srcRegs k.1).zip k.2.2).foldl (fun (s : State) p => s.setReg p.1 p.2.toNat) (s.setSrc k.1 k.2.1)

/-- Play source unit u alone for the sub-cycles of a line, giving its lanes' bits to their data, and whether an under-run aborts the
burst. -/
def State.replaySrc (s : State) (u : Nat) : List SubData → List SubData × Bool × State
  | [] => ([], false, s)
  | d :: t =>
    let r := s.srcPlay u
    let first := s.fld (F.SRC_CFG.FIRSTCH u)
    let bits := (List.range (s.srcWidth u)).foldl (fun b j =>
      Sparse.set (fun _ => false) b (first + j) (match r.1 with | some v => bitOf v j | none => false)) d.bits
    let q := r.2.2.replaySrc u t
    ({ d with bits := bits } :: q.1, r.2.1 || q.2.1, q.2.2)

/-- The codes of sub-cycles 0 to q - 1 from one line and the rest from another. -/
def spliceCodes (n q : Nat) (a b : List Nat) : List Nat :=
  (a ++ List.replicate (q * n - a.length) 0).take (q * n) ++ b.drop (q * n)

/-- The lines issued behind one whose burst ends in it are not issued after all: their vector cycles carry the safe waveform, and the
burst has issued cycles 0 to m - 1. -/
def State.cutAhead (s : State) (sg m : Nat) : State :=
  let e := s.engine sg
  if e.ahead.isEmpty then s
  else (s.setEngine sg { e with ahead := e.ahead.map fun a => { a with safe := true } }).setReg64
    (R.SE_CYCLE_LO sg) (R.SE_CYCLE_HI sg) m

/-- The line just issued was a HALT: the burst ends, HALTED even if it had been aborted while the line was open (R64). -/
def State.haltLine (s : State) (sg m : Nat) : State :=
  let s := s.cutAhead sg (m + 1)
  if s.eState sg = 2 then s.enterEnding sg cHalted
  else
    let s := if s.fld (F.SE_CAUSE.CAUSE sg) = cHostAbort then s.setFld (F.SE_CAUSE.ABORT_SEEN sg) 1 else s
    s.setFld (F.SE_CAUSE.CAUSE sg) cHalted

/-- A cause met by the first instruction of an alternative: the burst ends, and the rest of the shared line carries nothing (DESIGN
CHOICE, log 90). -/
def State.spliceCause (s : State) (sg m cause : Nat) : State :=
  ((s.setEngine sg { s.engine sg with part := none }).cutAhead sg (m + 1)).abortCause sg cause

/-- The splice of a fired rule (R50, R111, R148): the alternative begins in the cycle of the line, which it shares from the
decision sub-cycle on; a SRC operation of its first instruction acts from sub-cycle 0 of that cycle (R52). -/
def State.spliceLine (s : State) (sg : Nat) (c : Current) (p : PartLine) (f : Splice) : State :=
  let s := (s.reactEnd sg c (some (f, p.cycle))).readInstr sg
  let w := s.instrWord sg (s.engine sg).pc
  let isSrc := iOp w == 0x0C
  let s := if isSrc then
      match p.srcs.find? fun k => k.1 == iA w % 16 with
      | some k => s.putSrc k
      | none => s
    else s
  match s.beginInstr sg p.cycle p.start with
  | .error x => s.spliceCause sg p.cycle x
  | .ok s =>
    match (s.engine sg).cur with
    | none => s
    | some c' =>
      match s.takeLine sg c' with
      | (.error x, s) => s.spliceCause sg p.cycle x
      | (.ok bytes, s) =>
        let r := if isSrc then s.replaySrc (iA w % 16) p.subs else (p.subs, false, s)
        if r.2.1 then r.2.2.spliceCause sg p.cycle cUnderrun
        else
        let s := r.2.2.setFld (F.SE_STATE.IA sg) c'.ia
        let e := s.engine sg
        let s := s.setEngine sg { e with
          cur := e.cur.map fun c => { c with issued := 1 }
          part := some { p with codes := spliceCodes (s.nPositions sg) p.nextSub p.codes (nibbles bytes), ia := c'.ia, subs := r.1 } }
        if iOp c'.word = 0x12 then s.haltLine sg p.cycle else s

/-- Start tick of the next sub-cycle of a line in hand. -/
def PartLine.subStart (p : PartLine) : Nat := p.start + p.nextSub * p.psub

/-- Whether the next sub-cycle of the line in hand waits: a decision that could govern it is open (R144). -/
def State.held (s : State) (sg : Nat) (p : PartLine) : Bool :=
  let e := s.engine sg
  e.fire.isNone && e.refs.any fun h => decide (h.2 ≤ p.subStart)

/-- The current REACT's list of sub-cycles to evaluate, with the one just formatted. -/
def State.noteReference (s : State) (sg : Nat) (p : PartLine) : State :=
  let e := s.engine sg
  match e.cur with
  | none => s
  | some c =>
    if iOp c.word ≠ 0x0A ∨ e.fire.isSome then s
    else match s.reference sg (iX c.word % 8) p.cycle p.nextSub p.subStart with
      | none => s
      | some t => s.setEngine sg { e with refs := e.refs ++ [((p.cycle - c.first) * s.mult sg + p.nextSub, t)] }

/-- Format the next sub-cycle of the line in hand. -/
def State.formatHere (s : State) (sg : Nat) (p : PartLine) : State :=
  let s := (s.formatSub sg p.cycle p.nextSub p.start p.codes p.ts p.ia (nth p.subs p.nextSub .none)).noteReference sg p
  s.setEngine sg { s.engine sg with
    part := if p.nextSub + 1 < p.subs.length then some { p with nextSub := p.nextSub + 1 } else none }

/-- Format the next sub-cycle of the line in hand, or splice in the alternative that governs it. -/
def State.formatNext (s : State) (sg : Nat) (p : PartLine) : State :=
  match (s.engine sg).cur, (s.engine sg).fire with
  | some c, some f => if f.from' ≤ p.subStart then s.spliceLine sg c p f else s.formatHere sg p
  | _, _ => s.formatHere sg p

/-! ## Vector-cycle boundaries -/

/-- The sites that a MATCH has seen match in iterations 0 to j (R46). -/
def matchedUpTo (iters : SMap (Nat × Nat)) (j : Nat) : Nat :=
  (iters.filter fun p => decide (p.1 ≤ j)).foldl (fun a p => a ||| andNot 16 p.2.1 p.2.2) 0

/-- The sites a MATCH has matched as the boundary before cycle m sees them (R47). -/
def State.matchSites (s : State) (sg : Nat) (c : Current) : Nat :=
  let b := bitsOf (iA c.word) 0 8
  let k := c.issued / b - 1
  let d := ceilDiv (s.flat sg - 1) b
  if k < d then 0 else matchedUpTo (s.engine sg).iters (k - d)

/-- Whether the group of a MATCH matches for decision cycle m (R35, R46). -/
def State.groupMatches (s : State) (sg m : Nat) (c : Current) : Bool :=
  let got := s.matchSites sg c
  let act := s.activeSites sg m
  if bitOf (s.fld (F.SE_MMPOL.ALL sg)) (iX c.word) then !act.isEmpty && act.all (bitOf got) else act.any (bitOf got)

/-- Whether the current instruction times out or its window ends at the boundary before cycle m (R47, R49, R146). -/
def State.timesOut (s : State) (sg m : Nat) (c : Current) : Bool :=
  match iOp c.word with
  | 0x09 => decide (c.total ≤ c.issued) && !s.groupMatches sg m c
  | 0x0E => iX c.word == 1 && decide (c.total ≤ c.issued) &&
      match c.exitAt with | some x => decide (m < x) | none => true
  | 0x0A => decide (c.total ≤ c.issued)
  | _ => false

/-- The current instruction has ended: the engine continues at an address. -/
def State.continueAt (s : State) (sg pc : Nat) : State := s.setEngine sg { s.engine sg with pc := pc, cur := none }

/-- The boundary before cycle m: the current instruction ends if its lines, its match, its event or its timeout say so. -/
def State.boundary (s : State) (sg m : Nat) : State :=
  match (s.engine sg).cur with
  | none => s
  | some c =>
    let e := s.engine sg
    match iOp c.word with
    | 0x04 =>
      if c.issued = 0 then s
      else
        let taken := s.condition sg m (iX c.word)
        (s.continueAt sg (if taken then iA c.word else c.next)).selectArm sg (if taken then takenArm else otherArm)
    | 0x09 =>
      if c.issued = 0 ∨ c.issued % bitsOf (iA c.word) 0 8 ≠ 0 then s
      else
        let s := s.setReg (R.SE_MATCHST sg) (s.matchSites sg c)
        if s.groupMatches sg m c then ((s.setEngine sg { e with mf := true }).continueAt sg c.next).selectArm sg takenArm
        else if c.total ≤ c.issued then ((s.setEngine sg { e with mf := false }).continueAt sg c.timeout).selectArm sg otherArm
        else s
    | 0x0A => if c.total ≤ c.issued then s.reactEnd sg c none else s
    | 0x0E =>
      if iX c.word = 0 then (if c.total ≤ c.issued then s.continueAt sg c.next else s)
      else match c.exitAt with
        | some x =>
          if x ≤ m then ((s.setEngine sg { e with mf := true }).continueAt sg c.next).selectArm sg takenArm
          else if c.total ≤ c.issued then ((s.setEngine sg { e with mf := false }).continueAt sg c.timeout).selectArm sg otherArm
          else s
        | none =>
          if c.total ≤ c.issued then ((s.setEngine sg { e with mf := false }).continueAt sg c.timeout).selectArm sg otherArm else s
    | _ => if c.total ≤ c.issued then s.continueAt sg c.next else s

/-- Everything that happens at the boundary before the group's next vector cycle. -/
def State.atBoundary (s : State) (sg : Nat) : State :=
  (s.groupBoundary sg (s.seCycle sg) (s.engine sg).nextStart).boundary sg (s.seCycle sg)

/-! ## Issue (R39, R60) -/

/-- The acquisition units that serve a group. -/
def State.acqUnitsOf (s : State) (sg : Nat) : List Nat := (List.range 16).filter fun u => s.acqServes u sg

/-- The group's acquisition units note the ball start of a vector cycle (R182), a unit without a task of the latest 256 only. -/
def State.acqLine (s : State) (sg m start : Nat) : State :=
  (s.acqUnitsOf sg).foldl (fun (s : State) u =>
    let a := s.acq u
    let kept := if a.slot.isSome then a.starts else a.starts.filter fun p => decide (m ≤ p.1 + 256)
    s.setAcq u { a with starts := Sparse.insert kept m start, lineEnd := start + s.period sg }) s

/-- Latest samples of an acquisition unit's lanes after a list of kept samples (R181). -/
def laneSamples (lanes : Nat) (hist : SMap Nat) : Nat :=
  hist.foldl (fun l p => if bitOf p.2 2 then putBits l (2 * (p.1 % 32)) 2 p.2 else l) lanes

/-- At a burst's start the group's acquisition units keep their lanes' latest samples and note the time since the previous burst
(R181, R198); what waits for a word of the burst before waits for the first of this one (R188, R194). -/
def State.acqBurst (s : State) (sg start : Nat) : State :=
  (s.acqUnitsOf sg).foldl (fun (s : State) u =>
    let a := s.acq u
    s.setAcq u { a with
      lanes := laneSamples a.lanes a.hist, hist := [], starts := [], nextKey := 0
      idle := some (a.idle.getD 0 + (start - a.lineEnd)), lineEnd := start
      trigs := a.trigs.map fun t => (0, t.2), requal := a.requal.map fun t => (0, t.2) }) s

/-- After the burst's last line the group's units stop (R161, R171). -/
def State.stopUnits (s : State) (sg : Nat) : State :=
  let s := (unitsServing fun u => s.srcServes u sg).foldl (fun (s : State) u =>
    if s.srcState u = 0 then s else s.srcStop u) s
  (unitsServing fun u => s.modServes u sg).foldl (fun (s : State) u => s.setModu u ModUnit.off) s

/-- The vector cycle between bursts, or of an engine that issues nothing further: the safe waveform while the period generator runs,
else DEN deasserted and DRV low (R61, R93). -/
def State.idleCycle (s : State) (sg : Nat) : State :=
  let s := s.stopUnits sg
  let start := s.safeStart sg
  let s := s.groupBoundary sg (s.seCycle sg) start
  if s.flag (F.PG_CFG.EN sg) then
    let s := s.safeCycle sg start
    s.setEngine sg { s.engine sg with nextStart := start + s.period sg }
  else s.holdGroup sg

/-- The line of cycle m issues (R39): SE_CYCLE counts it, and the value SE_HFLAG.HF has is that cycle's (R42). -/
def State.noteCycle (s : State) (sg m start : Nat) : State :=
  let s := s.setReg64 (R.SE_CYCLE_LO sg) (R.SE_CYCLE_HI sg) (m + 1)
  let e := s.engine sg
  let s := s.setEngine sg { e with
    nextStart := start + s.period sg
    hf := (Sparse.set (fun _ => false) e.hf m (s.flag (F.SE_HFLAG.HF sg))).filter fun p => decide (m ≤ p.1 + 256) }
  s.acqLine sg m start

/-- Lay out the line of cycle m, whose bytes and unit data are at hand. -/
def State.emitLine (s : State) (sg m start : Nat) (c : Current) (bytes : List Byte) (subs : List SubData)
    (srcs : List (Nat × SrcUnit × List Word)) : State :=
  let s := ((s.setFld (F.SE_STATE.IA sg) c.ia).count sg 1).takeCommand sg
  let e := s.engine sg
  s.setEngine sg { e with
    cur := e.cur.map fun c => { c with issued := c.issued + 1 }
    part := some ⟨m, start, s.psub sg, nibbles bytes, e.ts, c.ia, subs, 0, srcs⟩ }

/-- The next line of the instruction in progress is that of cycle m; or the cause that ends the burst there: no line at hand, or an
under-run of a source unit (R53, R57, R58, R169). -/
def State.layLine (s : State) (sg m start : Nat) : Option Nat × State :=
  match (s.engine sg).cur with
  | none => (none, s)
  | some c =>
    match s.takeLine sg c with
    | (.error x, s) => (some x, s)
    | (.ok bytes, s) =>
      let srcs := s.keepSrcs sg
      let r := s.playLine sg (s.mult sg)
      if r.2.1 then (some cUnderrun, r.2.2) else (none, r.2.2.emitLine sg m start c bytes r.1 srcs)

/-- Whether the instruction in progress is a HALT. -/
def State.halting (s : State) (sg : Nat) : Bool :=
  match (s.engine sg).cur with
  | some c => iOp c.word == 0x12
  | none => false

/-- Begin the next instruction in cycle m, if none is in progress, and lay out its line; or the cause that ends the burst there. -/
def State.beginLine (s : State) (sg m start : Nat) : Option Nat × State :=
  if (s.engine sg).cur.isSome then s.layLine sg m start
  else
    let s := s.readInstr sg
    match s.beginInstr sg m start with
    | .error x => (some x, s)
    | .ok s => s.layLine sg m start

/-- The burst ends with a cause before the line of cycle m issues; that cycle carries the safe waveform (R58, R62), and so do the cycles
behind it. -/
def State.stopLine (s : State) (sg m start cause : Nat) : State :=
  let s := ((s.cutAhead sg m).abortCause sg cause).stopUnits sg
  if s.flag (F.PG_CFG.EN sg) then s.safeCycle sg start else s

/-- Settle what a line that issued behind an open one carries, now that the open one is done. -/
def State.settleAhead (s : State) (sg : Nat) (a : Ahead) : State :=
  if a.safe then (if s.flag (F.PG_CFG.EN sg) then s.safeCycle sg a.start else s)
  else
    let r := (s.boundary sg a.cycle).beginLine sg a.cycle a.start
    match r.1 with
    | some x => r.2.stopLine sg a.cycle a.start x
    | none => if r.2.halting sg then r.2.haltLine sg a.cycle else r.2

/-- Carry on with the line in hand, and with those behind it, one sub-cycle, splice or line at a time and as far as decisions allow
(R144–R149). What belongs to a vector cycle is done under the values that act in it (R96). A line that issues behind an open one gets its
instruction and its codes here (DEDUCED, log 101). -/
def State.advanceLine (s : State) (sg : Nat) : Nat → State
  | 0 => s
  | n + 1 =>
    let s := s.evaluateNow sg
    match (s.engine sg).part with
    | some p => if s.held sg p then s else (s.atCycle sg p.cycle fun s => s.formatNext sg p).advanceLine sg n
    | none =>
      let e := s.engine sg
      match e.ahead with
      | a :: t => ((s.setEngine sg { e with ahead := t }).atCycle sg a.cycle fun s => s.settleAhead sg a).advanceLine sg n
      | [] => s.setEngine sg (if s.eState sg = 2 then { e with heard := [] } else { e with cur := none, refs := [], fire := none, heard := [] })

/-- Carry on as far as decisions allow: a line takes at most eight sub-cycles, eight splices and its own beginning. -/
def State.advance (s : State) (sg : Nat) : State := s.advanceLine sg (18 * ((s.engine sg).ahead.length + 1))

/-- Whether an earlier line still waits for a decision, so that what the next one carries is not settled. -/
def State.lineOpen (s : State) (sg : Nat) : Bool := (s.engine sg).part.isSome || !(s.engine sg).ahead.isEmpty

/-- Whether the group's next vector cycle may issue: it begins at the balls 6.0 ns from now, or sooner (R20). -/
def State.issueDue (s : State) (sg : Nat) : Bool := decide ((s.engine sg).nextStart ≤ toTick s.now + 49152)

/-- Issue the next line of the instruction in progress as that of cycle m, or end the burst with the cause that stops it. -/
def State.issueCurrent (s : State) (sg m start : Nat) : State :=
  let r := s.layLine sg m start
  match r.1 with
  | some x => (r.2.setEngine sg { r.2.engine sg with nextStart := start + r.2.period sg }).stopLine sg m start x
  | none =>
    let s := r.2.noteCycle sg m start
    (if s.halting sg then s.haltLine sg m else s).advance sg

/-- Issue the next line of a RUNNING engine behind which no line is open, or end the burst with the cause that stops it. -/
def State.issueRun (s : State) (sg : Nat) : State :=
  let s := s.atBoundary sg
  let s := if (s.engine sg).cur.isNone then s.readInstr sg else s
  let m := s.seCycle sg
  let start := (s.engine sg).nextStart
  let begun := if (s.engine sg).cur.isNone then s.beginInstr sg m start else .ok s
  match begun with
  | .error x => (s.setEngine sg { s.engine sg with nextStart := start + s.period sg }).stopLine sg m start x
  | .ok s => s.issueCurrent sg m start

/-- A vector cycle issues while an earlier line is open: what it carries is settled when that one is. -/
def State.issueAhead (s : State) (sg : Nat) : State :=
  let m := s.seCycle sg
  let start := (s.engine sg).nextStart
  let s := s.groupBoundary sg m start
  let running := s.eState sg == 2
  let s := if running then s.noteCycle sg m start
    else s.setEngine sg { s.engine sg with nextStart := start + s.period sg }
  s.setEngine sg { s.engine sg with ahead := (s.engine sg).ahead ++ [⟨m, start, !running⟩] }

/-- One vector cycle of a group (R39, R61, R93), issued no sooner than 6.0 ns before it begins at the balls (R20): a line while RUNNING,
else the safe waveform while the period generator runs. -/
def State.vectorCycle (s : State) (sg : Nat) : State :=
  if !s.issueDue sg then s
  else
    let s := s.advance sg
    if s.lineOpen sg then s.issueAhead sg
    else if s.eState sg = 2 then s.issueRun sg
    else s.idleCycle sg

/-- The opcode of the instruction that a RUNNING engine begins next, and its X; none while another is in progress, a line is open or the
next cycle is not due. -/
def State.nextInstr (s : State) (sg : Nat) : Option (Nat × Nat) :=
  let s := s.advance sg
  if !s.issueDue sg || s.lineOpen sg then none
  else
    let s := s.atBoundary sg
    if s.eState sg = 2 ∧ (s.engine sg).cur.isNone then
      let w := s.instrWord sg (s.engine sg).pc
      some (iOp w, iX w)
    else none

/-- Carry out the next instruction's first line if it has the opcode, and X where one is given. -/
def State.runInstr (s : State) (sg op : Nat) (x : Option Nat) : State :=
  match s.nextInstr sg with
  | none => s
  | some (o, y) => if o = op ∧ (x.isNone ∨ x = some y) then (s.advance sg).issueRun sg else s

/-! ## Burst start (R60, R127) -/

/-- Clear a group's fail counters and first-fail records (R127). -/
def State.clearCounts (s : State) (sg : Nat) : State :=
  let s := (s.members sg).foldl (fun (s : State) ch =>
    (s.setReg (R.CMP_FAILCNT ch) 0).setFld (F.CMP_CHSTAT.SAT ch) 0) s
  s.resetRegs (R.CMP_FF_0 sg 0) (R.CMP_FF_0 sg 16)

/-- A burst enters RUNNING at its start instant: fail state and records are cleared, and vector cycle 0 is next (R60, R127, R34,
R151, R161, R171). -/
def State.startBurst (s : State) (sg start : Nat) : State :=
  let s := ((s.acqBurst sg start).cutSafe sg start).setFld (F.SE_STATE.STATE sg) 2
  let s := s.groupValues sg 0 start
  let s := s.setReg (R.CMP_SITEFAIL sg) 0
  let s := if s.flag (F.CMP_SGCFG.KEEPCNT sg) then s else s.clearCounts sg
  let s := (s.setReg (R.SE_AUTOMASKED sg) 0).setReg (R.SE_CAUSE sg) 0
  let s := (s.setReg (R.CMP_SGLOGGED sg) 0).setReg (R.CMP_SGCAPPED sg) 0
  let s := (s.addMod (F.CMP_SGBURST.NUMBER sg) 1).setReg64 (R.SE_CYCLE_LO sg) (R.SE_CYCLE_HI sg) 0
  let s := (unitsServing fun u => s.srcServes u sg).foldl (fun (s : State) u =>
    (s.srcStop u).setFld (F.SRC_JSTAT.VALID u) 0) s
  let s := ((unitsServing fun u => s.modServes u sg).foldl (fun (s : State) u => s.modStart u) s).latchJumps
  let s := ((List.range 32).filter fun u => s.cvServes u sg).foldl (fun (s : State) u => s.cvStart u) s
  let e := s.engine sg
  s.setEngine sg { e with
    begun := true, nextStart := start, clf := 0, mf := false, rf := false, lastCond := none, hfStart := s.flag (F.SE_HFLAG.HF sg)
    hf := [], fails := [], autoAt := [], masks := [(0, s.fld (F.SE_SITEMASK.MASK sg))], iters := [], rsamp := []
    refs := [], fire := none, watch := [], part := none, ahead := [], heard := [], ts := 0, loops := [], calls := [], cur := none
    closedAt := none, streamOpen := false, nextEntry := 0, endOffered := false, offered := 0, lastFail := [], ffNow := 0, prior := [] }

end Sys2Proof.Machine
end

