-- ==== Sys2Proof/Machine/Log.lean ====
section
/-! DEFINITION. The fail log: records, quadrant queues, staging, regions, chunks and fail routing (R128–R138, R339). -/
namespace Sys2Proof.Machine

def State.quad (s : State) (q : Nat) : Quad := Sparse.get (fun _ => ⟨[], 0, []⟩) s.quads q
def State.setQuad (s : State) (q : Nat) (v : Quad) : State :=
  { s with quads := Sparse.set (fun _ => ⟨[], 0, []⟩) s.quads q v }
def State.log (s : State) (st : Nat) : LogStream := Sparse.get (fun _ => LogStream.off) s.logs st
def State.setLog (s : State) (st : Nat) (v : LogStream) : State :=
  { s with logs := Sparse.set (fun _ => LogStream.off) s.logs st v }

/-- Draw n bytes that the spec leaves open. -/
def State.freeBytes (s : State) (n : Nat) : List Byte × State := (toBytes n (Config.freeValue s.free), s.drawn)

/-! ## Records (Table — Fail-log record) -/

/-- Fields of a record. -/
def recKind (r : Nat) : Nat := bitsOf r 124 4
def recSg (r : Nat) : Nat := bitsOf r 96 6
def recBurst (r : Nat) : Nat := bitsOf r 48 16

/-- A LOST or END record: kind, count, and SG, BURST and CYCLE in their places. -/
def countRecord (kind count place : Nat) : Nat :=
  kind * 2 ^ 124 + bitsOf count 24 8 * 2 ^ 88 + bitsOf count 0 24 * 2 ^ 64 + place

/-- SG, BURST and CYCLE in their places. -/
def recPlace (sg burst cycle : Nat) : Nat := sg * 2 ^ 96 + burst % 2 ^ 16 * 2 ^ 48 + cycle % 2 ^ 48

/-- A FAIL record. v is the recorded sample, CML + 2 CMH. -/
def failRecord (t : Strobe) (v site burst : Nat) : Nat :=
  t.ts * 2 ^ 116 + t.mode * 2 ^ 113 + v % 2 * 2 ^ 112 + v / 2 % 2 * 2 ^ 111 + b2n t.win * 2 ^ 110 + b2n t.second * 2 ^ 109 +
  t.sub * 2 ^ 106 + site * 2 ^ 102 + t.ch * 2 ^ 88 + t.ia * 2 ^ 64 + recPlace t.sg burst t.cycle

/-! ## Loss (R133) -/

/-- A record of a stream is lost. -/
def State.loseRecord (s : State) (st rec : Nat) : State :=
  let l := s.log st
  let s := s.setLog st { l with
    lost := min (l.lost + 1) (2 ^ 32 - 1)
    lostFirst := if l.lost = 0 then recPlace (recSg rec) (recBurst rec) (bitsOf rec 0 48) else l.lostFirst }
  (s.addSat (whole (R.CMP_LOG_DROP st)) 1).setFld (F.CMP_LOG_STAT.LOST st) 1

/-- A record finds its stream's region full: it is lost, and is offered again if RDPTR is written in the same core cycle (R134). -/
def State.denyRecord (s : State) (st rec : Nat) (own : Bool) : State :=
  let l := s.log st
  let fresh : Denied := ⟨s.cycle, l.lost, l.lostFirst, s.regN (R.CMP_LOG_DROP st), s.fld (F.CMP_LOG_STAT.LOST st), []⟩
  let d := match l.denied with
    | some d => if d.cycle = s.cycle then d else fresh
    | none => fresh
  (s.setLog st { l with denied := some { d with recs := d.recs ++ [(rec, own)] } }).loseRecord st rec

/-! ## Regions (R134) -/

def State.logEncrypts (s : State) (st : Nat) : Bool := s.flag (F.CMP_LOG_CFG.ENCRYPT st)
def State.logDeep (s : State) (st : Nat) : Bool := s.flag (F.CMP_LOG_CFG.DEEP st)
def State.regionBase (s : State) (st : Nat) : Nat := s.reg64 (R.CMP_LOG_BASE_LO st) (R.CMP_LOG_BASE_HI st)
def State.regionSize (s : State) (st : Nat) : Nat := s.regN (R.CMP_LOG_SIZE st) * 4096

/-- First byte that records may use: after the session header when the stream is encrypted (R137). -/
def State.regionFirst (s : State) (st : Nat) : Nat := if s.logEncrypts st then 4096 else 0

/-- Bytes of one write: a chunk or a record. -/
def State.regionUnit (s : State) (st : Nat) : Nat := if s.logEncrypts st then 4096 else 16

/-- The write pointer after one more write. -/
def State.regionNext (s : State) (st : Nat) : Nat :=
  let w := s.regN (R.CMP_LOG_WRPTR st) + s.regionUnit st
  if w < s.regionSize st then w else s.regionFirst st

/-- Whether the region is full: the next write would make WRPTR equal RDPTR (WRAP = 0). -/
def State.regionFull (s : State) (st : Nat) : Bool :=
  !s.flag (F.CMP_LOG_CFG.WRAP st) && s.regionNext st == s.regN (R.CMP_LOG_RDPTR st)

/-- Show CMP_LOG_STAT.FULL. -/
def State.showFull (s : State) (st : Nat) : State := s.setFld (F.CMP_LOG_STAT.FULL st) (b2n (s.regionFull st))

/-- Write one record or chunk at WRPTR and advance it. -/
def State.regionPut (s : State) (st : Nat) (bytes : List Byte) : State :=
  let a := s.regionBase st + s.regN (R.CMP_LOG_WRPTR st)
  let next := s.regionNext st
  let s := s.spaceWrite (if s.logDeep st then 2 else 1) a bytes
  let s := if s.flag (F.CMP_LOG_CFG.WRAP st) && decide (next ≤ s.regN (R.CMP_LOG_WRPTR st)) then
      s.setFld (F.CMP_LOG_STAT.WRAPPED st) 1 else s
  (s.setReg (R.CMP_LOG_WRPTR st) next).showFull st

/-- Seal the chunk being built: header, and its records with PAD in the unused places, enciphered under the session key (R138). -/
def State.sealChunk (s : State) (st : Nat) : State :=
  let l := s.log st
  if l.chunk = [] then s
  else
    let head := toBytes 4 0x20 ++ toBytes 1 st ++ toBytes 1 0 ++ toBytes 2 l.chunk.length ++ toBytes 8 l.seq ++
      toBytes 8 l.session ++ toBytes 8 l.seq ++ toBytes 4 0
    let plain := (l.chunk ++ List.replicate (252 - l.chunk.length) (15 * 2 ^ 124)).flatMap (toBytes 16)
    let sealed := Config.gcmSeal l.key l.seq head plain
    (s.regionPut st (head ++ toBytes 4 0 ++ toBytes 16 (sealed / 2 ^ (8 * 4032)) ++ toBytes 8 0 ++ toBytes 4032 sealed)).setLog st
      { l with chunk := [], seq := l.seq + 1 }

/-- Whether a deep stream's region lies in a LOST allocation (R255). -/
def State.regionLost (s : State) (st : Nat) : Bool :=
  s.logDeep st && match s.deepHolding (s.regionBase st) 1 with
    | some a => a.lost
    | none => true

/-- Whether the region has room for one more record. -/
def State.regionRoom (s : State) (st : Nat) : Bool :=
  !s.regionLost st && (!s.regionFull st || (s.logEncrypts st && (s.log st).chunk != []))

/-- Store a record in the region: at once, or in the chunk being built, which is sealed with its 252nd record or an END record. -/
def State.storeRecord (s : State) (st rec : Nat) : State :=
  if s.logEncrypts st then
    let l := s.log st
    let s := s.setLog st { l with chunk := l.chunk ++ [rec], chunkSince := if l.chunk = [] then s.clk else l.chunkSince }
    if (s.log st).chunk.length = 252 ∨ recKind rec = 2 then s.sealChunk st else s
  else s.regionPut st (toBytes 16 rec)

/-! ## Fail routing out (R339) -/

/-- Records of a port's fail queue. -/
def Port.failRecords (v : Port) : Nat := v.packing.length + 4 * (v.txq.filter fun f => f.cls == 5).length

/-- Pack up to four records, PAD in the unused places, into a FAIL frame of a port. -/
def State.packFail (s : State) (p : Nat) : State :=
  let v := s.port p
  let recs := v.packing.take 4
  let payload := ofBytes ((recs ++ List.replicate (4 - recs.length) (15 * 2 ^ 124)).flatMap (toBytes 16))
  let q := (s.setPort p { v with packing := v.packing.drop 4 }).nextSeq 5
  q.2.offerFrame p ⟨5, 1, s.fld F.LNK_ID.ID, q.1, payload⟩

/-- Offer a record accepted into a stream's staging to one port. -/
def State.routeTo (s : State) (rec p : Nat) : State :=
  let v := s.port p
  if 256 ≤ v.failRecords ∨ !s.carries p then s.addSat (F.LNK_P_FAIL.TXDROP p) 1
  else
    let s := s.setPort p { v with packing := v.packing ++ [rec], packSince := if v.packing = [] then s.clk else v.packSince }
    if (s.port p).packing.length = 4 then s.packFail p else s

/-- Offer a record accepted into a stream's staging to the ports that route the stream. -/
def State.routeRecord (s : State) (st rec : Nat) : State :=
  ((List.range 4).filter fun p =>
    s.flag (F.LNK_P_CFG.FAILOUT p) && s.fld (F.LNK_P_CFG.OUTSTREAM p) == st).foldl (fun (s : State) p => s.routeTo rec p) s

/-! ## Staging (R133) -/

/-- Whether a record of a stream can enter staging. -/
def State.stageRoom (s : State) (st : Nat) : Bool :=
  !(s.log st).dead && if s.logDeep st then decide ((s.log st).staged.length < 4096) else s.regionRoom st

/-- Staging with a LOST record put in: ahead of the END record of the burst it names (R130). -/
def putLost (rec : Nat) : List Nat → List Nat
  | [] => [rec]
  | r :: t => if recKind r = 2 ∧ recSg r = recSg rec ∧ recBurst r = recBurst rec then rec :: r :: t else r :: putLost rec t

/-- A record enters the 64 KiB staging area of a deep stream, at its next place; an encrypted stream's plaintext is not put where the host
could read it (R29, R138; DESIGN CHOICE, log 95). -/
def State.enterStaging (s : State) (st rec : Nat) : State :=
  let l := s.log st
  let s := if s.logEncrypts st then s
    else s.poolWrite (s.regN (R.CMP_LOG_STAGE st) + 16 * l.stageAt) (toBytes 16 rec)
  s.setLog st { l with
    staged := if recKind rec = 1 then putLost rec l.staged else l.staged ++ [rec], stageAt := (l.stageAt + 1) % 4096 }

/-- A record enters staging and is accepted into the log; a group's own FAIL record of its current burst counts in CMP_SGLOGGED. -/
def State.accept (s : State) (st rec : Nat) (own : Bool) : State :=
  let s := if s.logDeep st then s.enterStaging st rec else s.storeRecord st rec
  let s := if own ∧ recKind rec = 0 ∧ recBurst rec = s.fld (F.CMP_SGBURST.NUMBER (recSg rec)) then
      s.addSat (whole (R.CMP_SGLOGGED (recSg rec))) 1 else s
  s.routeRecord st rec

/-- The stream's LOST record is written as soon as a record can enter staging again. -/
def State.writeLost (s : State) (st : Nat) : State :=
  let l := s.log st
  if l.lost = 0 ∨ !s.stageRoom st then s
  else (s.setLog st { l with lost := 0, denied := none }).accept st (countRecord 1 l.lost l.lostFirst) false

/-- A record is lost; one that a full region turned away may come back (R134). -/
def State.turnAway (s : State) (st rec : Nat) (own : Bool) : State :=
  if (s.log st).dead || s.regionLost st then s.loseRecord st rec else s.denyRecord st rec own

/-- Offer a record to a stream's staging: behind a due LOST record, or lost. -/
def State.stageRecord (s : State) (st rec : Nat) (own : Bool) : State :=
  let s := s.writeLost st
  if s.stageRoom st && (s.log st).lost == 0 then s.accept st rec own
  else if s.logDeep st then s.loseRecord st rec
  else s.turnAway st rec own

/-- The drain's record goes to the region, or is lost there. -/
def State.drainOne (s : State) (st rec : Nat) : State :=
  if s.regionRoom st then s.storeRecord st rec else s.turnAway st rec false

/-- The drain moves the oldest record of deep staging to the region. A LOST record that is itself lost there adds one lost record; the
count it carried is gone (DESIGN CHOICE, log 96). -/
def State.drainRecord (s : State) (st : Nat) : State :=
  let s := s.writeLost st
  match (s.log st).staged with
  | [] => s
  | r :: t => (s.setLog st { s.log st with staged := t }).drainOne st r

/-- Whether a deep stream's region waits for a controller's training (R253). -/
def State.regionWaits (s : State) (st : Nat) : Bool :=
  s.logDeep st && (s.deepHolding (s.regionBase st) 1).any s.deepWaits

/-- The drain's next record, unless the region waits. -/
def State.drainNext (s : State) (st : Nat) : State := if s.regionWaits st then s else s.drainRecord st

/-- RDPTR has been written: the records that found the region full in the same core cycle are judged after it (R134). -/
def State.retryDenied (s : State) (st : Nat) : State :=
  match (s.log st).denied with
  | none => s
  | some d =>
    if d.cycle ≠ s.cycle then s
    else
      let s := s.setLog st { s.log st with denied := none, lost := d.lost, lostFirst := d.lostFirst }
      let s := (s.setReg (R.CMP_LOG_DROP st) d.drops).setFld (F.CMP_LOG_STAT.LOST st) d.flag
      d.recs.foldl (fun (s : State) r => if s.logDeep st then s.drainOne st r.1 else s.stageRecord st r.1 r.2) s

/-! ## Quadrant intake -/

/-- Offer a FAIL record of a channel to its quadrant in a pattern cycle: eight at most, the lowest channels kept (R133). -/
def State.intake (s : State) (ch pcycle st rec : Nat) : State :=
  let q := ch / 64
  let v := s.quad q
  let taken := if v.pcycle = pcycle then v.taken else []
  if 1024 ≤ v.queue.length then s.loseRecord st rec
  else if taken.length < 8 then
    s.setQuad q { v with queue := v.queue ++ [⟨st, rec⟩], pcycle := pcycle, taken := ch :: taken }
  else
    let worst := taken.foldl max 0
    if worst ≤ ch then s.loseRecord st rec
    else
      match v.queue.reverse.find? fun e => bitsOf e.record 88 8 == worst with
      | none => s.loseRecord st rec
      | some e =>
        (s.setQuad q { v with
          queue := (v.queue.reverse.erase e).reverse ++ [⟨st, rec⟩], taken := ch :: taken.erase worst }).loseRecord
            e.stream e.record

/-- Whether a burst still has records on their way to its stream's region (R136). -/
def State.recordsPending (s : State) (sg : Nat) : Bool :=
  let b := s.fld (F.CMP_SGBURST.NUMBER sg)
  let mine (r : Nat) : Bool := recSg r == sg && recBurst r == b && (recKind r == 0 || recKind r == 2)
  ((List.range 4).any fun q => (s.quad q).queue.any fun e => mine e.record) ||
  ((List.range 4).any fun st => (s.log st).staged.any mine || (s.log st).chunk.any mine)

end Sys2Proof.Machine
end

