-- ==== Sys2Proof/Machine/Capture.lean ====
section
/-! DEFINITION. Capture processors: job blocks, generators, checks, operations and result blocks (R217–R230). -/
namespace Sys2Proof.Machine

def State.cpx (s : State) (p : Nat) : Cpx := Sparse.get (fun _ => Cpx.off) s.cpxs p
def State.setCpx (s : State) (p : Nat) (v : Cpx) : State :=
  { s with cpxs := Sparse.set (fun _ => Cpx.off) s.cpxs p v }

/-! ## Job blocks and generators (R218–R220) -/

/-- An address generator. -/
structure Gen where
  base : Nat
  stride : Int
  rowlen : Nat
  rowstride : Int
  lstride : Int
  fmt : Nat
  cb : Nat
  pad : Nat
deriving DecidableEq, Repr

/-- The generator in 24 bytes. -/
def Gen.of (n : Nat) : Gen :=
  ⟨bitsOf n 0 32, signed 32 (bitsOf n 32 32), bitsOf n 64 32, signed 32 (bitsOf n 96 32), signed 32 (bitsOf n 128 32),
    bitsOf n 160 16, bitsOf n 176 8, bitsOf n 184 8⟩

def Gen.circ (g : Gen) : Bool := bitOf g.cb 7
def Gen.buffer (g : Gen) : Nat := g.cb % 8
def Gen.size (g : Gen) : Nat := 2 ^ (g.fmt % 4)
def Gen.isSigned (g : Gen) : Bool := bitOf g.fmt 2
def Gen.foff (g : Gen) : Nat := bitsOf g.fmt 3 5
def Gen.fwid (g : Gen) : Nat := bitsOf g.fmt 8 5 + 1

/-- A job block. -/
structure Job where
  kind : Nat
  op : Nat
  nlanes : Nat
  flags : Nat
  n : Nat
  result : Nat
  a : Gen
  b : Gen
  d : Gen
  param : Nat
  rawB : Nat
  rawD : Nat
  reserved : Nat
deriving DecidableEq, Repr

/-- The job block at a pool offset. -/
def State.job (s : State) (at' : Nat) : Job :=
  let w := s.poolNum at' 128
  let get (off size : Nat) : Nat := dget w off size
  ⟨get 0 4, get 4 1, get 5 1, get 6 2, get 8 4, get 0xC 4, Gen.of (get 0x10 24), Gen.of (get 0x28 24), Gen.of (get 0x40 24),
    get 0x58 16, get 0x28 24, get 0x40 24, get 0x68 24⟩

def Job.keepAcc (j : Job) : Bool := bitOf j.flags 0
def Job.clrBins (j : Job) : Bool := bitOf j.flags 1
def Job.autoscale (j : Job) : Bool := bitOf j.flags 2
def Job.nob (j : Job) : Bool := bitOf j.flags 3
def Job.bins (j : Job) : Nat := dget j.param 0 4
def Job.boff (j : Job) : Int := signed 32 (dget j.param 4 4)
def Job.bshift (j : Job) : Nat := dget j.param 8 1
def Job.block (j : Job) : Nat := dget j.param 0 2
def Job.owidth (j : Job) : Nat := dget j.param 2 1
def Job.shift (j : Job) : Nat := dget j.param 3 1
def Job.expAddr (j : Job) : Nat := dget j.param 4 4

/-- Whether generators B and D are in use. -/
def Job.usesB (j : Job) : Bool := j.op == 0 || (j.op == 3 && !j.nob)
def Job.usesD (j : Job) : Bool := j.op == 1 || j.op == 3

/-- Elements of a row: ROWLEN, or the job's N (R219). -/
def Gen.row (g : Gen) (n : Nat) : Nat := if g.rowlen = 0 then n else g.rowlen

/-- The signed byte offset of element i of a lane in a job of n elements (R219). -/
def Gen.offset (g : Gen) (n i l : Nat) : Int :=
  ((i / g.row n : Nat) : Int) * g.rowstride + ((i % g.row n : Nat) : Int) * g.stride + (l : Int) * g.lstride

/-- The pool address of element i of a lane in a job of n elements. -/
def State.genAddr (s : State) (p : Nat) (g : Gen) (n i l : Nat) : Nat :=
  let o := g.offset n i l
  if g.circ then
    let len := s.regN (R.CPX_CB_LEN p g.buffer)
    s.regN (R.CPX_CB_BASE p g.buffer) + (((s.regN (R.CPX_CB_PTR p g.buffer) : Int) + o) % (len : Int)).toNat
  else ((g.base : Int) + o).toNat

/-- The value of element i of a lane (R220). -/
def State.genValue (s : State) (p : Nat) (g : Gen) (n i l : Nat) : Int :=
  let v := bitsOf (s.poolNum (s.genAddr p g n i l) g.size) g.foff g.fwid
  if g.isSigned then signed g.fwid v else v

/-! ## Checks at fetch (R223) -/

/-- Whether a generator's format and strides are valid. -/
def Gen.valid (g : Gen) (lanes out : Bool) : Bool :=
  let size : Int := g.size
  g.fmt % 4 != 3 && decide (g.foff + g.fwid ≤ 8 * g.size) && decide (g.fmt < 2 ^ 13) && bitsOf g.cb 3 4 == 0 && g.pad == 0 &&
  (lanes || g.lstride == 0) && (g.base : Int) % size == 0 && g.stride % size == 0 && g.rowstride % size == 0 &&
  g.lstride % size == 0 && (!out || (g.foff == 0 && g.fwid == 8 * g.size))

/-- Offsets at the corners of the range of count elements of a generator in a job of n elements: the extremes lie among them. -/
def Gen.corners (g : Gen) (n count lanes : Nat) : List Int :=
  let r := g.row n
  let q := (count - 1) / r
  let idx := [0, r - 1, (q - 1) * r, q * r - 1, q * r, count - 1].filter fun i => decide (i < count)
  idx.flatMap fun i => [g.offset n i 0, g.offset n i (lanes - 1)]

/-- Whether one of count places from start, stride apart, lies in [lo, hi). -/
def progressionHits (start stride : Int) (count : Nat) (lo hi : Int) : Bool :=
  if count = 0 then false
  else if stride = 0 then decide (lo ≤ start) && decide (start < hi)
  else
    let (first, step) := if 0 < stride then (start, stride) else (start + (count - 1 : Nat) * stride, -stride)
    let m := max 0 (-((first - lo) / step))
    decide (m < count) && decide (first + m * step < hi)

/-- Whether an element of a non-circular generator touches the bytes [lo, hi). -/
def Gen.touches (g : Gen) (n count lanes : Nat) (lo hi : Int) : Bool :=
  let os := g.corners n count lanes
  let spans := os.any (fun o => decide ((g.base : Int) + o < hi)) && os.any fun o => decide (lo < (g.base : Int) + o + g.size)
  let r := g.row n
  spans && (List.range lanes).any fun l => (List.range (ceilDiv count r)).any fun q =>
    progressionHits ((g.base : Int) + g.offset n (q * r) l) g.stride (min r (count - q * r)) (lo - g.size + 1) hi

/-- Bytes of the result block. -/
def Job.resultBytes (j : Job) : Nat := if j.op = 0 then 320 else if j.op = 2 then 96 else 64

/-- Scaling blocks of a job. -/
def Job.blocks (j : Job) : Nat := ceilDiv j.n j.block

/-- The generators a job uses, with the elements each reaches and its lanes. -/
def Job.gens (j : Job) : List (Gen × Nat × Nat) :=
  [(j.a, j.n, 1)] ++ (if j.usesB then [(j.b, j.n, if j.op = 0 then j.nlanes else 1)] else []) ++
  (if j.usesD then [(j.d, if j.op = 1 then j.bins else j.n, 1)] else [])

/-- Whether PARAM is valid for the operation (Table — Operation parameters). -/
def Job.paramValid (j : Job) : Bool :=
  match j.op with
  | 1 => decide (1 ≤ j.bins) && decide (j.bins ≤ 65536) && decide (j.bshift ≤ 31) && dget j.param 9 7 == 0
  | 3 => decide (1 ≤ j.block) && decide (j.block ≤ 4096) && decide (j.owidth ≤ 1) && decide (j.shift ≤ 63) &&
      dget j.param 8 8 == 0
  | _ => j.param == 0

/-- Check 1 of R223. -/
def State.jobValid (s : State) (at' : Nat) (j : Job) : Bool :=
  let flagMask := match j.op with | 0 => 1 | 1 => 2 | 3 => 12 | _ => 0
  at' % 64 == 0 && (s.poolHolding at' 128).isSome && j.kind == 0x40 && decide (j.op ≤ 3) &&
  (if j.op = 0 then decide (1 ≤ j.nlanes) && decide (j.nlanes ≤ 16) else j.nlanes == 0) &&
  andNot 16 j.flags flagMask == 0 && decide (1 ≤ j.n) && j.reserved == 0 && j.paramValid &&
  j.a.valid false false && (if j.usesB then j.b.valid (j.op == 0) false else j.rawB == 0) &&
  (if j.usesD then j.d.valid false true else j.rawD == 0) &&
  (j.op != 1 || j.d.fmt % 4 == 2) && (j.op != 3 || j.d.fmt % 4 == j.owidth + 1) &&
  j.result % 64 == 0 && (s.poolHolding j.result 1).isSome && (!j.autoscale || (s.poolHolding j.expAddr 1).isSome) &&
  j.gens.all fun g => g.1.circ || (s.poolHolding g.1.base 1).isSome

/-- The allocation a generator reaches into: its base's, or its circular buffer's. -/
def State.genAlloc (s : State) (p : Nat) (g : Gen) : Option PoolAlloc :=
  if g.circ then s.poolHolding (s.regN (R.CPX_CB_BASE p g.buffer)) (s.regN (R.CPX_CB_LEN p g.buffer))
  else s.poolHolding g.base 1

/-- Whether a range lies in the allocation that holds its base. -/
def State.inBaseAlloc (s : State) (base : Nat) (lo hi : Int) : Bool :=
  match s.poolHolding base 1 with
  | none => false
  | some a => decide ((a.base : Int) ≤ lo) && decide (hi ≤ (a.base : Int) + a.bytes)

/-- Whether a generator reaches a protected allocation (R29): with one of its elements, or with the buffer it walks. -/
def State.reachesProt (s : State) (p n count lanes : Nat) (g : Gen) : Bool :=
  s.poolAllocs.any fun a => a.prot &&
    if g.circ then rangesOverlap a.base a.bytes (s.regN (R.CPX_CB_BASE p g.buffer)) (s.regN (R.CPX_CB_LEN p g.buffer))
    else g.touches n count lanes a.base (a.base + a.bytes)

/-- Checks 1 to 4 of R223: the first that fails, with its status. -/
def State.jobChecks (s : State) (p at' : Nat) : Option (Nat × Nat) :=
  let j := s.job at'
  if !s.jobValid at' j then some (stInconsistent, 1)
  else if j.gens.any fun g => s.reachesProt p j.n g.2.1 g.2.2 g.1 then some (stAuthFail, 2)
  else if !((j.gens.all fun g => g.1.circ || (g.1.corners j.n g.2.1 g.2.2).all fun o =>
      s.inBaseAlloc g.1.base ((g.1.base : Int) + o) ((g.1.base : Int) + o + g.1.size)) &&
    s.inBaseAlloc j.result j.result ((j.result : Int) + j.resultBytes) &&
    (!j.autoscale || s.inBaseAlloc j.expAddr j.expAddr ((j.expAddr : Int) + j.blocks))) then some (stTooLarge, 3)
  else if !(j.gens.all fun g => !g.1.circ || ((s.genAlloc p g.1).isSome && (g.1.corners j.n g.2.1 g.2.2).all fun o =>
      decide (o.natAbs ≤ s.regN (R.CPX_CB_LEN p g.1.buffer)))) then some (stTooLarge, 4)
  else none

/-! ## Operations (R224–R228) -/

/-- Limits of an accumulator (R225). -/
def accMax : Int := 2 ^ 79 - 1
def accMin : Int := -(2 ^ 79)

/-- One element of one lane of a MAC job (R224, R225). -/
def State.macLane (s : State) (p : Nat) (j : Job) (i l : Nat) : State :=
  let c := s.cpx p
  if bitOf (s.fld (F.CPX_AOV.LANES p)) l then s
  else
    let x := nth c.acc l 0 + s.genValue p j.a j.n i 0 * s.genValue p j.b j.n i l
    let y := max accMin (min accMax x)
    let s := s.setCpx p { c with acc := setAt c.acc l y }
    if x = y then s
    else (s.setFld (F.CPX_AOV.LANES p) (setBit (s.fld (F.CPX_AOV.LANES p)) l)).setFld (F.CPX_FLAGS.AOV p) 1

/-- Write one element of generator D. -/
def State.writeD (s : State) (p : Nat) (j : Job) (i v : Nat) : State :=
  s.poolWrite (s.genAddr p j.d j.n i 0) (toBytes j.d.size v)

/-- Round half up (R228). -/
def rnd (x : Int) (e : Nat) : Int := if e = 0 then x else (x + 2 ^ (e - 1)) / 2 ^ e

/-- The bin of an element of a HIST job (R226); its shift rounds as every right shift of the processor does (R228; DEDUCED, log 110). -/
def State.histBin (s : State) (p : Nat) (j : Job) (i : Nat) : Int := rnd (s.genValue p j.a j.n i 0) j.bshift - j.boff

/-- One element of a HIST job (R226). -/
def State.histOne (s : State) (p : Nat) (j : Job) (i : Nat) : State :=
  let c := s.cpx p
  let b := s.histBin p j i
  if b < 0 then s.setCpx p { c with under := c.under + 1 }
  else if (j.bins : Int) ≤ b then s.setCpx p { c with above := c.above + 1 }
  else
    let v := s.poolNum (s.genAddr p j.d j.n b.toNat 0) 4
    if v = 2 ^ 32 - 1 then (s.setCpx p { c with bsat := true }).setFld (F.CPX_FLAGS.BSAT p) 1
    else s.writeD p j b.toNat (v + 1)

/-- One element of a MINMAX job (R227). -/
def State.minmaxOne (s : State) (p : Nat) (j : Job) (i : Nat) : State :=
  let c := s.cpx p
  let v := s.genValue p j.a j.n i 0
  s.setCpx p { c with
    low := match c.low with | some (m, k) => if v < m then some (v, i) else some (m, k) | none => some (v, i)
    high := match c.high with | some (m, k) => if m < v then some (v, i) else some (m, k) | none => some (v, i) }

/-- The product of a MOVE job's element. -/
def State.moveProduct (s : State) (p : Nat) (j : Job) (i : Nat) : Int :=
  s.genValue p j.a j.n i 0 * (if j.nob then 1 else s.genValue p j.b j.n i 0)

/-- Output bits of a MOVE job. -/
def Job.outBits (j : Job) : Nat := if j.owidth = 0 then 16 else 32

/-- One element of a MOVE job shifted by e. -/
def State.moveOne (s : State) (p : Nat) (j : Job) (e i : Nat) : State :=
  let w := j.outBits
  let x := rnd (s.moveProduct p j i) e
  let y := max (-((2 ^ (w - 1) : Nat) : Int)) (min (((2 ^ (w - 1) : Nat) : Int) - 1) x)
  let s := if x = y then s else (s.setCpx p { s.cpx p with esat := true }).setFld (F.CPX_FLAGS.ESAT p) 1
  s.writeD p j i (unsigned (8 * j.d.size) y)

/-- The least block exponent for which every element of a block fits (R228). -/
def State.blockExponent (s : State) (p : Nat) (j : Job) (is : List Nat) : Nat :=
  ((List.range 64).find? fun e =>
    is.all fun i => fitsSigned j.outBits (rnd (s.moveProduct p j i) (j.shift + e))).getD 63

/-- One scaling block of an AUTOSCALE job. -/
def State.moveBlock (s : State) (p : Nat) (j : Job) (is : List Nat) : State :=
  let e := s.blockExponent p j is
  let k := is.headD 0 / j.block
  let s := (s.poolWrite (j.expAddr + k) [BitVec.ofNat 8 e]).setCpx p { s.cpx p with emax := max (s.cpx p).emax e }
  is.foldl (fun (s : State) i => s.moveOne p j (j.shift + e) i) s

/-- The operands a job reads for element i; a HIST job reads the bin as well. -/
def State.jobReads (s : State) (p : Nat) (j : Job) (i : Nat) : List (Nat × Nat) :=
  let bin := s.histBin p j i
  [(s.genAddr p j.a j.n i 0, j.a.size)] ++
  (if !j.usesB then []
   else (List.range (if j.op = 0 then j.nlanes else 1)).map fun l => (s.genAddr p j.b j.n i l, j.b.size)) ++
  (if j.op = 1 ∧ 0 ≤ bin ∧ bin < j.bins then [(s.genAddr p j.d j.n bin.toNat 0, j.d.size)] else [])

/-- Whether an element's operands hold an uncorrectable error (R230, R233). -/
def State.jobPoisoned (s : State) (p : Nat) (j : Job) (i : Nat) : Bool :=
  (s.jobReads p j i).any fun r => s.poisoned r.1 r.2

/-- The elements that the next step of a job takes together: a scaling block, or one. -/
def Job.group (j : Job) (i : Nat) : List Nat :=
  if j.op = 3 ∧ j.autoscale then (List.range (min (j.block - i % j.block) (j.n - i))).map (i + ·) else [i]

/-- Process a group of elements. -/
def State.jobGroup (s : State) (p : Nat) (j : Job) (is : List Nat) : State :=
  match j.op with
  | 0 => is.foldl (fun (s : State) i => (List.range j.nlanes).foldl (fun (s : State) l => s.macLane p j i l) s) s
  | 1 => is.foldl (fun (s : State) i => s.histOne p j i) s
  | 2 => is.foldl (fun (s : State) i => s.minmaxOne p j i) s
  | _ => if j.autoscale then s.moveBlock p j is else is.foldl (fun (s : State) i => s.moveOne p j j.shift i) s

/-- Show the elements processed. -/
def State.showElems (s : State) (p : Nat) : State := s.setReg64 (R.CPX_ELEM_LO p) (R.CPX_ELEM_HI p) (s.cpx p).elems

/-- A job begins (R224, R226): accumulators and AOV bits are cleared unless KEEPACC, bins if CLRBINS. -/
def State.jobStart (s : State) (p slot : Nat) (j : Job) : State :=
  let c := s.cpx p
  let s := (s.setFld (F.CPX_STAT.STATE p) 1).setFld (F.CPX_STAT.OP p) j.op
  let keep := j.op != 0 || j.keepAcc
  let s := if keep then s else s.setFld (F.CPX_AOV.LANES p) 0
  let s := s.setCpx p { Cpx.off with acc := if keep then c.acc else Cpx.off.acc, slot := some slot, held := c.held }
  let s := if j.op = 1 ∧ j.clrBins then
      (List.range j.bins).foldl (fun (s : State) b => s.writeD p j b 0) s
    else s
  s.showElems p

/-- Whether every element of the running job is done. -/
def State.jobAll (s : State) (p : Nat) (j : Job) : Bool := decide (j.n ≤ (s.cpx p).elems)

/-- Lanes whose AOV is set, for a MAC job. -/
def State.aovMask (s : State) (p : Nat) (j : Job) : Nat := if j.op = 0 then s.fld (F.CPX_AOV.LANES p) else 0

/-- The result block of a job (R229). -/
def State.resultBlock (s : State) (p : Nat) (j : Job) (cancelled : Bool) : List Byte :=
  let c := s.cpx p
  let aov := s.aovMask p j
  let head := toBytes 4 0x41 ++ toBytes 1 j.op ++
    toBytes 1 (b2n (aov != 0) + 2 * b2n c.bsat + 4 * b2n c.esat + 8 * b2n cancelled) ++ toBytes 2 aov ++
    toBytes 8 c.elems ++ toBytes 8 c.under ++ toBytes 8 c.above ++ toBytes 1 c.emax ++ toBytes 31 0
  match j.op with
  | 0 => head ++ c.acc.flatMap fun a => toBytes 16 (unsigned 128 a)
  | 2 =>
    let lo := c.low.getD (0, 0)
    let hi := c.high.getD (0, 0)
    head ++ toBytes 8 (unsigned 64 lo.1) ++ toBytes 8 lo.2 ++ toBytes 8 (unsigned 64 hi.1) ++ toBytes 8 hi.2
  | _ => head

/-- Write a circular-buffer register: 0 BASE, 1 LEN, 2 PTR. -/
def cbReg (p k which : Nat) : Nat :=
  if which = 0 then R.CPX_CB_BASE p k else if which = 1 then R.CPX_CB_LEN p k else R.CPX_CB_PTR p k

/-- Reduce a pointer at or beyond LEN (R222 step 4). -/
def State.cbReduce (s : State) (p k : Nat) : State :=
  let len := s.regN (R.CPX_CB_LEN p k)
  if s.regN (R.CPX_CB_PTR p k) < len then s else s.setReg (R.CPX_CB_PTR p k) (s.regN (R.CPX_CB_PTR p k) % len)

/-- At the end of a job the held writes apply: PTR, then BASE and LEN, then the reduction (R222). -/
def State.applyHeld (s : State) (p : Nat) : State :=
  let held := (s.cpx p).held
  let s := held.foldl (fun (s : State) h => s.setReg (cbReg p (h.1 / 3) (h.1 % 3)) h.2.toNat) s
  let s := (List.range 8).foldl (fun (s : State) k =>
    let s := s.cbReduce p k
    if s.regN (R.CPX_CB_PEND p k) = 0 then s else s.setReg (R.CPX_CB_PEND p k) 0) s
  s.setCpx p { s.cpx p with held := [] }

/-- The advance of the circular pointers at the end of a job (R221). -/
def State.advancePtrs (s : State) (p : Nat) (j : Job) : State :=
  j.gens.foldl (fun (s : State) g =>
    if g.1.circ then
      let k := g.1.buffer
      let len := s.regN (R.CPX_CB_LEN p k)
      let x := ((s.regN (R.CPX_CB_PTR p k) : Int) + g.1.offset j.n j.n 0) % (len : Int)
      s.setReg (R.CPX_CB_PTR p k) x.toNat
    else s) s

/-- The processor is idle again after a job. -/
def State.cpxIdle (s : State) (p : Nat) : State :=
  let s := s.applyHeld p
  let s := s.setCpx p { s.cpx p with slot := none }
  if s.fld (F.CPX_STAT.STATE p) = 1 then s.setFld (F.CPX_STAT.STATE p) 0 else s

/-- A running job is cancelled: it stops with its result block (R230). -/
def State.jobCancel (s : State) (p k : Nat) (j : Job) : State :=
  ((s.poolWrite j.result (s.resultBlock p j true)).cpxIdle p).workDone k stCancelled 0 (s.cpx p).elems

/-- A job that has not processed all of its elements ends for good: with a result block if it has read an element, but for an uncorrectable
operand (R229, R230). -/
def State.jobFail (s : State) (p k : Nat) (j : Job) (poolError : Bool) : State :=
  let n := (s.cpx p).elems
  let s := if poolError ∨ n = 0 then s else s.poolWrite j.result (s.resultBlock p j false)
  (s.cpxIdle p).workDone k stTesterFault 0 n

/-- A running job is interrupted (R230, R392): it runs again from its start, its held writes still held, or fails when it has been replayed
already. -/
def State.jobInterrupt (s : State) (p k : Nat) (j : Job) (poolError : Bool) : State :=
  if (s.slot k).replayed then s.jobFail p k j poolError
  else (s.setCpx p { s.cpx p with slot := none }).interrupt k (s.cpx p).elems

/-- The elements of generator D whose old contents a replay needs (R230, R391): the bins that a HIST job adds to, and those that a MOVE job
writes where its own operands lie. -/
def State.jobRewrites (s : State) (p : Nat) (j : Job) : Nat :=
  let span (g : Gen) (count : Nat) : Nat × Nat :=
    if g.circ then (s.regN (R.CPX_CB_BASE p g.buffer), s.regN (R.CPX_CB_LEN p g.buffer))
    else
      let os := (g.corners j.n count 1).map fun o => (g.base : Int) + o
      let lo := os.foldl min (g.base : Int)
      (lo.toNat, (os.foldl max (g.base : Int) + g.size - lo).toNat)
  match j.op with
  | 1 => if j.clrBins then 0 else j.bins
  | 3 =>
    let d := span j.d j.n
    let meets (g : Gen) : Bool := let r := span g j.n; rangesOverlap d.1 d.2 r.1 r.2
    if meets j.a ∨ (j.usesB ∧ meets j.b) then j.n else 0
  | _ => 0

/-- The journal entry of a job (R391): AOV bits, accumulators, and the elements of D that it changes and needs again. -/
def State.jobJournal (s : State) (p : Nat) (j : Job) : List Nat :=
  (s.fld (F.CPX_AOV.LANES p) :: ((s.cpx p).acc.map (unsigned 80))) ++
  (List.range (s.jobRewrites p j)).map fun i => s.poolNum (s.genAddr p j.d j.n i 0) j.d.size

/-- The inputs of a job are again what its journal entry holds. -/
def State.jobRestore (s : State) (p : Nat) (j : Job) (journal : List Nat) : State :=
  let s := s.setFld (F.CPX_AOV.LANES p) (journal.headD 0)
  let s := s.setCpx p { s.cpx p with acc := ((journal.drop 1).take 16).map (signed 80) }
  (List.range (journal.length - 17)).foldl (fun (s : State) i => s.writeD p j i (nth journal (17 + i) 0)) s

/-- Run the next groups of the job that a processor runs, up to a count; an operand with an uncorrectable error ends it. -/
def State.jobRun (s : State) (p : Nat) (j : Job) : Nat → State
  | 0 => s
  | n + 1 =>
    let i := (s.cpx p).elems
    if j.n ≤ i then s
    else
      let is := j.group i
      match is.find? fun i => s.jobPoisoned p j i with
      | some i =>
        let r := ((s.jobReads p j i).find? fun r => s.poisoned r.1 r.2).getD (0, 0)
        let s := s.reportPoison r.1 r.2
        match (s.cpx p).slot with
        | some k => s.jobInterrupt p k j true
        | none => s
      | none =>
        let s := s.jobGroup p j is
        ((s.setCpx p { s.cpx p with elems := i + is.length }).showElems p).jobRun p j n

/-- A job that has processed every element ends: result block, pointers, held writes, completion (R221, R222, R229). -/
def State.jobEnd (s : State) (p slot : Nat) (j : Job) : State :=
  let c := s.cpx p
  let aov := s.aovMask p j
  let s := s.poolWrite j.result (s.resultBlock p j false)
  let s := (s.advancePtrs p j).addSat (F.CPX_STAT.JOBS p) 1
  let st := if aov ≠ 0 ∨ c.bsat ∨ c.esat then stOverflow else stOk
  (s.cpxIdle p).workDone slot st (if st = stOverflow then aov else 0) c.elems

/-- A host write of a circular-buffer register (R222): discarded with a fault when invalid, held while a job runs. -/
def State.cbWrite (s : State) (p k which v : Nat) : State :=
  if (which = 0 ∧ v % 64 ≠ 0) ∨ (which = 1 ∧ (v % 64 ≠ 0 ∨ v = 0)) then s.regFault (cbReg p k which)
  else if s.fld (F.CPX_STAT.STATE p) = 1 then
    let s := s.setCpx p { s.cpx p with held := Sparse.insert (s.cpx p).held (3 * k + which) (BitVec.ofNat 32 v) }
    s.setReg (R.CPX_CB_PEND p k) (setBit (s.regN (R.CPX_CB_PEND p k)) which)
  else (s.setReg (cbReg p k which) v).cbReduce p k

end Sys2Proof.Machine
end

