-- ==== Sys2Proof/Machine/Alloc.lean ====
section
/-! DEFINITION. Allocation commands and what is in use (R241–R246). -/
namespace Sys2Proof.Machine

/-! ## What names an allocation (R245) -/

/-- Pool ranges, as (offset, bytes), named by settings in effect. -/
def State.settingRanges (s : State) : List (Nat × Nat) :=
  ((List.range 16).flatMap fun u =>
    [(s.regN (R.SRC_MEM_BASE u), s.regN (R.SRC_MEM_SIZE u) * 4096), (s.regN (R.SRC_RING_BASE u), s.ringSize u),
     (s.regN (R.MOD_MEM_BASE u), s.regN (R.MOD_MEM_SIZE u) * 4096),
     (s.regN (R.AQ_BUF_BASE u), s.regN (R.AQ_BUF_SIZE u) * 4096)]) ++
  ((List.range 32).map fun u => (s.regN (R.CV_BUF_BASE u), s.regN (R.CV_BUF_SIZE u) * 4096)) ++
  ((List.range 64).map fun u => (s.regN (R.TDC_RES_BASE u), s.regN (R.TDC_RES_SIZE u) * 4096)) ++
  ((List.range 4).flatMap fun st =>
    if s.logDeep st then [(s.regN (R.CMP_LOG_STAGE st), 65536)] else [(s.regionBase st, s.regionSize st)])

/-- Deep ranges named by settings in effect. -/
def State.settingDeep (s : State) : List (Nat × Nat) :=
  ((List.range 16).filterMap fun u =>
    if s.flag (F.AQ_CFG.SPILL u) then
      some (s.reg64 (R.AQ_SPILL_BASE_LO u) (R.AQ_SPILL_BASE_HI u), s.regN (R.AQ_SPILL_SIZE u) * 4096)
    else none) ++
  ((List.range 4).filterMap fun st => if s.logDeep st then some (s.regionBase st, s.regionSize st) else none)

/-- Ranges of a space that a descriptor names. -/
def State.taskRanges (s : State) (space d : Nat) : List (Nat × Nat) :=
  match dOpcode d with
  | 0x01 =>
    (if dget d 0x30 1 % 4 = space then [(dget d 0x18 8, dget d 0x28 8)] else []) ++
    (if dget d 0x30 1 / 4 % 4 = space then [(dget d 0x20 8, dget d 0x28 8)] else [])
  | 0x02 => if dget d 0x20 1 = space then [(dget d 0x18 8, dget d 0x28 4)] else []
  | 0x03 => if space = 1 then [(dget d 0x18 4, dget d 0x1C 4)] else []
  | 0x08 =>
    if space = 1 then
      let j := s.job (dget d 0x1C 4)
      (dget d 0x1C 4, 128) :: (j.result, 1) :: j.gens.filterMap fun g =>
        (s.genAlloc (dget d 0x18 1) g.1).map fun a => (a.base, 1)
    else []
  | 0x09 => if dget d 0x20 1 = space then [(dget d 0x18 8, dget d 0x24 4)] else []
  | _ => []

/-- The descriptors of open tasks. -/
def State.openTasks (s : State) : List Nat :=
  s.slots.filterMap fun p => if p.2.state = .empty ∨ p.2.state = .finished then none else some p.2.desc

/-- Whether a list of ranges touches a range. -/
def touches (l : List (Nat × Nat)) (base bytes : Nat) : Bool := l.any fun r => rangesOverlap r.1 r.2 base bytes

/-- Whether a pool allocation is in use. -/
def State.poolInUse (s : State) (a : PoolAlloc) : Bool :=
  touches s.settingRanges a.base a.bytes ||
  (s.openTasks.any fun d => touches (s.taskRanges 1 d) a.base a.bytes || (dOpcode d == 3 && dget d 0x24 2 == a.k)) ||
  (s.engines.any fun p => match p.2.sec with | some c => c.pa == a.k | none => false)

/-- Whether a deep allocation is in use. -/
def State.deepInUse (s : State) (a : DeepAlloc) : Bool :=
  touches s.settingDeep a.base a.bytes ||
  (s.openTasks.any fun d => touches (s.taskRanges 2 d) a.base a.bytes || (dOpcode d == 3 && dget d 0x26 2 == a.k)) ||
  (s.engines.any fun p => match p.2.sec with | some c => c.da == some a.k | none => false)

/-- Mark a pool or deep allocation protected, or return it unprotected (R29, R419). -/
def State.setPoolProt (s : State) (k : Nat) (b : Bool) : State := s.setFld (F.MEM_AT_SIZE.PROT k) (b2n b)
def State.setDeepProt (s : State) (k : Nat) (b : Bool) : State :=
  s.setReg (R.DRM_AT k 1) (putBits (s.regN (R.DRM_AT k 1)) 30 1 (b2n b))

/-! ## Commands (R244) -/

/-- The result of CREATE or FREE: 0 OK, 1 OVERLAP, 2 BUSY, 3 BADARG, 4 FENCED, by its first cause. -/
def allocResult (badarg fenced busy overlap : Bool) : Nat :=
  if badarg then 3 else if fenced then 4 else if busy then 2 else if overlap then 1 else 0

/-- MEM_ACMD with CREATE. -/
def State.poolCreate (s : State) (k : Nat) : State :=
  let base := s.regN R.MEM_AW_BASE
  let units := s.regN R.MEM_AW_SIZE
  let bad := base % 4096 != 0 || units == 0 || decide (2 ^ 27 < base + units * 4096)
  let overlap := s.poolAllocs.any fun a => rangesOverlap base (units * 4096) a.base a.bytes
  let r := allocResult bad false (s.poolAlloc k).isSome overlap
  let s := s.setFld F.MEM_ARESULT.RESULT r
  if r = 0 then (s.setReg (R.MEM_AT_BASE k) base).setReg (R.MEM_AT_SIZE k) (2 ^ 31 + units % 32768) else s

/-- MEM_ACMD with FREE. -/
def State.poolFree (s : State) (k : Nat) : State :=
  match s.poolAlloc k with
  | none => s.setFld F.MEM_ARESULT.RESULT 3
  | some a =>
    if a.prot || s.poolInUse a then s.setFld F.MEM_ARESULT.RESULT 2
    else ((s.setFld F.MEM_ARESULT.RESULT 0).setReg (R.MEM_AT_BASE k) 0).setReg (R.MEM_AT_SIZE k) 0

/-- Whether two deep allocations share a controller. -/
def DeepAlloc.shares (a b : DeepAlloc) : Bool := (controllers a.chmask).any (controllers b.chmask).contains

/-- Fields of the deep allocation that DRM_AW registers describe. -/
def State.deepWanted (s : State) (k : Nat) : DeepAlloc :=
  ⟨k, s.regN R.DRM_AW_BASE_LO + 2 ^ 32 * s.fld F.DRM_AW_BASE_HI.VALUE, s.regN R.DRM_AW_SIZE * 4096,
    s.fld F.DRM_AW_CHMASK.MASK, s.regN R.DRM_AW_LOCAL * 4096, false, false⟩

/-- DRM_ACMD with CREATE. A high base word with bits above [7:0] names an address at or above 2^40. -/
def State.deepCreate (s : State) (k : Nat) : State :=
  let d := s.deepWanted k
  let n := (controllers d.chmask).length
  let bad := d.base % 4096 != 0 || d.bytes == 0 || n == 0 || decide (2 ^ 40 < d.base + d.bytes) ||
    d.bytes / 4096 % n != 0 || decide (s.capacity < d.lbase + d.bytes / n)
  let fenced := (controllers d.chmask).any s.dramFenced
  let overlap := s.deepAllocs.any fun a => rangesOverlap d.base d.bytes a.base a.bytes ||
    (d.shares a && rangesOverlap d.lbase d.span a.lbase a.span)
  let r := allocResult bad fenced (s.deepAlloc k).isSome overlap
  let s := s.setFld F.DRM_ARESULT.RESULT r
  if r = 0 then
    let s := (s.setReg (R.DRM_AT k 0) d.base).setReg (R.DRM_AT k 1) (2 ^ 31 + d.base / 2 ^ 32)
    (s.setReg (R.DRM_AT k 2) (d.bytes / 4096)).setReg (R.DRM_AT k 3) (d.chmask * 2 ^ 24 + d.lbase / 4096)
  else s

/-- DRM_ACMD with FREE. -/
def State.deepFree (s : State) (k : Nat) : State :=
  match s.deepAlloc k with
  | none => s.setFld F.DRM_ARESULT.RESULT 3
  | some a =>
    if a.prot || s.deepInUse a then s.setFld F.DRM_ARESULT.RESULT 2
    else (s.setFld F.DRM_ARESULT.RESULT 0).resetRegs (R.DRM_AT k 0) (R.DRM_AT k 4)

end Sys2Proof.Machine
end

