-- ==== Sys2Proof/Machine/Compare.lean ====
section
/-! DEFINITION. Strobe judgement and what a fail reaches: site state, counters, first-fail records, the log, MATCH, reactive
rules, acquisition units and check-value units (R115–R132, R142, R156, R181). -/
namespace Sys2Proof.Machine

/-- Whether a sample, CML + 2 CMH, fails a strobe mode (Table — Judgement). -/
def sampleFails (mode v : Nat) : Bool :=
  match mode with
  | 1 => v != 1
  | 2 => v != 2
  | 3 => v != 0
  | 4 => v == 0 || v == 3
  | _ => false

/-- A crossed sample (R117). -/
def State.crossed (s : State) (ch v : Nat) : State :=
  if v = 3 then
    let s := (s.setFld (F.CMP_CHSTAT.CROSSED ch) 1).addSat (F.CMP_CHSTAT.CROSSCNT ch) 1
    (s.signal (80 + ch / 16)).count (208 + ch / 16) 1
  else s

/-- Whether a fail of a strobe's channel reaches no consumer, apart from its mode (R121). -/
def State.discards (s : State) (t : Strobe) : Bool :=
  !s.isMember t.sg t.ch || s.flag (F.CMP_CHCFG.MASK t.ch) ||
    bitOf (maskAt t.cycle (s.engine t.sg).masks (s.fld (F.SE_SITEMASK.MASK t.sg))) (s.siteOf t.sg t.ch)

/-- Whether AUTOMASK has masked a site before vector cycle m (R34). -/
def State.autoMasked (s : State) (sg site m : Nat) : Bool :=
  match Sparse.get (fun _ => none) (s.engine sg).autoAt site with
  | none => false
  | some a => decide (a + s.flat sg ≤ m)

/-- The place of a fail in the order of R126: vector cycle, sub-cycle, S0 before S1, channel. -/
def failKey (cycle sub stb ch : Nat) : Nat := ((cycle * 8 + sub) * 2 + stb) * 256 + ch

/-- Fill or better the first-fail record of a site (R126). -/
def State.firstFail (s : State) (t : Strobe) (v site : Nat) : State :=
  let sg := t.sg
  let old := failKey (s.regN (R.CMP_FF_0 sg site) + 2 ^ 32 * s.fld (F.CMP_FF_1.CYCLE_HI sg site))
    (s.fld (F.CMP_FF_1.SUB sg site)) (s.fld (F.CMP_FF_1.STB sg site)) (s.fld (F.CMP_FF_1.CH sg site))
  let e := s.engine sg
  if s.flag (F.CMP_FF_1.VALID sg site) &&
      !(bitOf e.ffNow site && decide (failKey t.cycle t.sub (b2n t.second) t.ch < old)) then s
  else
    let s := s.setReg (R.CMP_FF_0 sg site) t.cycle
    let s := s.setReg (R.CMP_FF_1 sg site)
      (2 ^ 31 + 2 ^ 30 * b2n t.win + 2 ^ 29 * b2n t.second + 2 ^ 26 * t.sub + 2 ^ 16 * t.ch + t.cycle / 2 ^ 32 % 2 ^ 16)
    let s := s.setReg (R.CMP_FF_2 sg site) (2 ^ 24 * t.ts + t.ia)
    let s := s.setReg (R.CMP_FF_3 sg site) (32 * (v % 2) + 16 * (v / 2 % 2) + t.mode)
    s.setEngine sg { e with ffNow := setBit e.ffNow site }

/-- Offer a fail to its group's log stream (R122, R131, R132). CMP_SGCAPPED and CMP_SGLOGGED stay at their greatest value, which their cards
leave open (DESIGN CHOICE, log 94). -/
def State.offerFail (s : State) (t : Strobe) (v site : Nat) (again : Bool) : State :=
  let sg := t.sg
  let mode := s.fld (F.CMP_SGCFG.LOGMODE sg)
  if mode = 0 ∨ (mode = 2 ∧ again) ∨ (s.autoMasked sg site t.cycle && !s.flag (F.CMP_SGCFG.LOGMASKED sg)) then s
  else
    let e := s.engine sg
    let cap := s.regN (R.CMP_SGLOGCAP sg)
    if cap ≠ 0 ∧ cap ≤ e.offered then s.addSat (whole (R.CMP_SGCAPPED sg)) 1
    else
      (s.setEngine sg { e with offered := e.offered + 1 }).intake t.ch (t.instant / 4096).toNat
        (s.fld (F.CMP_SGCFG.LOGSTREAM sg)) (failRecord t v site (s.fld (F.CMP_SGBURST.NUMBER sg)))

/-- The place of an acquisition sample: vector cycle, sub-cycle, lane. -/
def histKey (cycle sub lane : Nat) : Nat := (cycle * 8 + sub) * 32 + lane

/-- The lanes of an acquisition unit that name a channel (R180). -/
def State.acqLanes (s : State) (u ch : Nat) : List Nat :=
  (List.range (s.fld (F.AQ_CFG.NLANES u))).filter fun j => s.fld (F.AQ_LANE.CH u (j / 4) (j % 4)) == ch

/-- Acquisition units with an open task that serve a group. -/
def State.acqOpenOf (s : State) (sg : Nat) : List Nat := (s.acqUnitsOf sg).filter fun u => s.fld (F.AQ_STAT.STATE u) != 0

/-- Keep a sample, CML + 2 CMH, for the acquisition units whose strobe it is (R181). -/
def State.acqSample (s : State) (t : Strobe) (v : Nat) : State :=
  ((s.acqOpenOf t.sg).filter fun u => s.flag (F.AQ_CFG.STB u) == t.second).foldl (fun (s : State) u =>
    (s.acqLanes u t.ch).foldl (fun (s : State) j =>
      let k := histKey t.cycle t.sub j
      let failed := bitOf (Sparse.get (fun _ => 0) (s.acq u).hist k) 3
      let x := v + 4 + 8 * b2n failed + 16 * s.tsEdge t.ch t.ts (if t.second then 5 else 4)
      s.setAcq u { s.acq u with hist := Sparse.set (fun _ => 0) (s.acq u).hist k x }) s) s

/-- Mark a lane's sub-cycle as failed, at whichever strobe, for conditions of kind FAIL (R191). -/
def State.acqFail (s : State) (t : Strobe) : State :=
  (s.acqOpenOf t.sg).foldl (fun (s : State) u => (s.acqLanes u t.ch).foldl (fun (s : State) j =>
    let k := histKey t.cycle t.sub j
    let x := Sparse.get (fun _ => 0) (s.acq u).hist k
    s.setAcq u { s.acq u with hist := Sparse.set (fun _ => 0) (s.acq u).hist k (setBit x 3) }) s) s

/-- A fail that is not discarded reaches its consumers (R34, R120, R124–R126, R131, R436). -/
def State.recordFail (s : State) (t : Strobe) (v : Nat) : State :=
  let sg := t.sg
  let site := s.siteOf sg t.ch
  let e := s.engine sg
  let prior := Sparse.get (fun _ => 0) e.fails t.cycle
  let active := fun (k : Nat) => !s.autoMasked sg k t.cycle
  let fresh := active site && !(List.range 16).any fun k => bitOf prior k && active k
  let again := Sparse.get (fun _ => 0) e.lastFail t.ch == t.cycle + 1
  let s := if fresh && !s.flag (F.CMP_SGCFG.CONCEAL sg) then s.count (64 + sg) 1 else s
  let first := s.flag (F.SE_CFG.AUTOMASK sg) && !bitOf (s.fld (F.SE_AUTOMASKED.MASKED sg)) site
  let s := if first then s.setFld (F.SE_AUTOMASKED.MASKED sg) (setBit (s.fld (F.SE_AUTOMASKED.MASKED sg)) site) else s
  let s := s.setEngine sg { e with
    fails := Sparse.set (fun _ => 0) e.fails t.cycle (setBit prior site)
    autoAt := if first then Sparse.set (fun _ => none) e.autoAt site (some t.cycle) else e.autoAt
    lastFail := Sparse.set (fun _ => 0) e.lastFail t.ch (t.cycle + 1) }
  let s := s.setFld (F.CMP_SITEFAIL.FAIL sg) (setBit (s.fld (F.CMP_SITEFAIL.FAIL sg)) site)
  let s := s.addSat (whole (R.CMP_FAILCNT t.ch)) 1
  let s := if s.regN (R.CMP_FAILCNT t.ch) = 2 ^ 32 - 1 then s.setFld (F.CMP_CHSTAT.SAT t.ch) 1 else s
  ((s.firstFail t v site).offerFail t v site again).acqFail t

/-- A judged strobe of an active site inside a MATCH counts for its iteration (R46). -/
def State.matchStrobe (s : State) (t : Strobe) (fail : Bool) : State :=
  let e := s.engine t.sg
  match e.cur with
  | none => s
  | some c =>
    let k := s.siteOf t.sg t.ch
    if iOp c.word = 9 ∧ c.first ≤ t.cycle ∧ !s.autoMasked t.sg k t.cycle ∧
        bitOf (s.regN (R.SE_MM t.sg (iX c.word) (t.ch / 32))) (t.ch % 32) then
      let j := (t.cycle - c.first) / bitsOf (iA c.word) 0 8
      let x := Sparse.get (fun _ => (0, 0)) e.iters j
      s.setEngine t.sg { e with
        iters := Sparse.set (fun _ => (0, 0)) e.iters j (setBit x.1 k, if fail then setBit x.2 k else x.2) }
    else s

/-- A sample of a REACT's line goes to the slots that take it (R142). -/
def State.reactSample (s : State) (t : Strobe) (v : Nat) : State :=
  let e := s.engine t.sg
  match e.cur with
  | none => s
  | some c =>
    let r := iX c.word % 8
    if iOp c.word = 10 ∧ c.first ≤ t.cycle ∧ t.second = s.flag (F.RCT_RCFG.STB t.sg r) then
      ((s.ruleSlots t.sg r).filter fun k => k.2 == t.ch).foldl (fun (s : State) k =>
        let e := s.engine t.sg
        let pos := (t.cycle - c.first) * s.mult t.sg + t.sub
        s.setEngine t.sg { e with rsamp := Sparse.set (fun _ => 0) e.rsamp (pos * 32 + k.1) (v + 4) }) s
    else s

/-- A sample of an ended REACT's line goes to the slots that take it (R142). -/
def State.watchSample (s : State) (t : Strobe) (v : Nat) (w : LateReact) : LateReact :=
  let pos := (t.cycle - w.first) * s.mult t.sg + t.sub
  if w.first ≤ t.cycle ∧ pos ∈ w.left ∧ t.second = s.flag (F.RCT_RCFG.STB t.sg w.rule) then
    { w with samples := ((s.ruleSlots t.sg w.rule).filter fun k => k.2 == t.ch).foldl (fun m k =>
      Sparse.set (fun _ => 0) m (pos * 32 + k.1) (v + 4)) w.samples }
  else w

/-- Evaluate the sub-cycles that a watch has left, in order, while samples are in: those left after it, and whether one matched. -/
def State.watchOn (s : State) (sg : Nat) (w : LateReact) : List Nat → List Nat × Bool
  | [] => ([], false)
  | pos :: rest =>
    if s.awaits sg w.rule w.first pos then (pos :: rest, false)
    else
      let s' := s.setEngine sg { s.engine sg with rsamp := w.samples }
      if w.terms.any fun t => s'.termMatches sg w.rule t pos then ([], true) else s.watchOn sg w rest

/-- Advance one watch: a match is late, and ends it (R146). -/
def State.advanceWatch (s : State) (sg : Nat) (w : LateReact) : State :=
  let r := s.watchOn sg w w.left
  if r.2 then
    let s := s.addSat (F.RCT_RCOUNT.LATES sg w.rule) 1
    if w.latest then s.setFld (F.RCT_RSTAT.LATE sg w.rule) 1 else s
  else if r.1.isEmpty then s
  else s.setEngine sg { s.engine sg with watch := (s.engine sg).watch ++ [{ w with left := r.1 }] }

/-- A sample reaches the ended REACTs of its group that still watch. -/
def State.lateSample (s : State) (t : Strobe) (v : Nat) : State :=
  let ws := (s.engine t.sg).watch
  if ws.isEmpty then s
  else
    (ws.map (s.watchSample t v)).foldl (fun (s : State) w => s.advanceWatch t.sg w)
      (s.setEngine t.sg { s.engine t.sg with watch := [] })

/-- A check-mode unit has made a strobe a fail: it is none again for another unit that shares the lane (R125). -/
def State.countStrobe (s : State) (t : Strobe) : State :=
  ((List.range 32).filter fun u => s.cvServes u t.sg && s.flag (F.CV_CFG.MODE u)).foldl (fun (s : State) u =>
    s.setCv u { s.cv u with expect := (s.cv u).expect.map fun b =>
      if b.strobe.ch == t.ch && b.strobe.cycle == t.cycle && b.strobe.sub == t.sub then { b with counted := true } else b }) s

/-- Pass the stream bits of a check-mode unit whose samples are in, oldest first (R151, R156). -/
def State.cvDrain (s : State) (u : Nat) : Nat → State
  | 0 => s
  | n + 1 =>
    match (s.cv u).expect with
    | [] => s
    | b :: rest =>
      match b.sample with
      | none => s
      | some v =>
        let s := s.setCv u { s.cv u with expect := rest }
        let bit := v == 2
        let lvl := v == 0 || v == 3
        if b.field then
          let r := s.cvCheckField u bit lvl
          let s :=
            if r.1 && s.flag (F.CV_CFG.FAILMAP u) && !b.counted && !r.2.discards b.strobe then
              (r.2.recordFail b.strobe v).countStrobe b.strobe
            else r.2
          s.cvDrain u n
        else (s.cvData u bit lvl).cvDrain u n

/-- Give an S0 sample to the check-mode units whose stream it belongs to. -/
def State.cvSample (s : State) (t : Strobe) (v : Nat) : State :=
  ((List.range 32).filter fun u => s.cvServes u t.sg && s.flag (F.CV_CFG.MODE u)).foldl (fun (s : State) u =>
    let w := s.cv u
    let s := s.setCv u { w with expect := w.expect.map fun b =>
      if b.strobe.ch == t.ch && b.strobe.cycle == t.cycle && b.strobe.sub == t.sub && !t.second then
        { b with sample := some v } else b }
    s.cvDrain u (s.cv u).expect.length) s

/-- The sample a strobe records and whether it fails: of a window, the first departing one (R119). -/
def judgeStrobe (t : Strobe) (v0 v1 : Nat) (between : Option Nat) : Nat × Bool :=
  if !t.win then (v0, sampleFails t.mode v0)
  else if sampleFails t.mode v0 then (v0, true)
  else match between with
    | some v =>
      if sampleFails t.mode v then (v, true) else if sampleFails t.mode v1 then (v1, true) else (v0, false)
    | none => if sampleFails t.mode v1 then (v1, true) else (v0, false)

/-- Take the samples of a placed strobe and pass them and the judgement to their consumers. v0 is the sample at S0 or S1; a
window also has the one at its end and, if the sampler detected one, a departing sample between. -/
def State.takeStrobe (s : State) (t : Strobe) (v0 v1 : Nat) (between : Option Nat) : State :=
  let s := s.crossed t.ch v0
  let s :=
    if t.win then
      let s := match between with | some v => s.crossed t.ch v | none => s
      s.crossed t.ch v1
    else s
  let s := ((s.reactSample t v0).lateSample t v0).acqSample t v0
  let j := judgeStrobe t v0 v1 between
  let s :=
    if t.mode = 5 ∨ s.discards t then s
    else
      let s := s.matchStrobe t j.2
      if j.2 then s.recordFail t j.1 else s
  s.cvSample t v0

/-- The oldest placed strobe of a channel is sampled (R115, R116). -/
def State.judge (s : State) (ch v0 v1 : Nat) (between : Option Nat) : State :=
  match s.strobes.find? fun t => t.ch == ch with
  | none => s
  | some t =>
    ({ s with strobes := s.strobes.erase t } : State).atCycle t.sg t.cycle fun s => s.takeStrobe t v0 v1 between

end Sys2Proof.Machine
end

