-- ==== Sys2Proof/Machine/Acq.lean ====
section
/-! DEFINITION. Acquisition units: layout, words, trigger conditions, records, gaps and spill (R180–R200). -/
namespace Sys2Proof.Machine

/-! ## Layout (R183, R185, R199) -/

/-- Bytes of a capture word. -/
def State.aqBytes (s : State) (u : Nat) : Nat := if s.fld (F.AQ_CFG.FORMAT u) = 0 then 4 else 8

def State.aqPre (s : State) (u : Nat) : Nat := s.regN (R.AQ_PRE u)
def State.aqPost (s : State) (u : Nat) : Nat := s.regN (R.AQ_POST u)
def State.aqSg (s : State) (u : Nat) : Nat := s.fld (F.AQ_CFG.SG u)

/-- Round up to a multiple of 64. -/
def up64 (n : Nat) : Nat := ceilDiv n 64 * 64

/-- Bytes that each record takes in the pool buffer behind the headers, and in the spill region. -/
def State.aqRecBytes (s : State) (u : Nat) : Nat :=
  up64 ((s.aqPre u + if s.flag (F.AQ_CFG.SPILL u) then 0 else s.aqPost u) * s.aqBytes u)
def State.aqSpillBytes (s : State) (u : Nat) : Nat := up64 (s.aqPost u * s.aqBytes u)

/-- Whether the layout of a task of nrec records fits its buffers (check 2 of R186). -/
def State.aqFits (s : State) (u nrec : Nat) : Bool :=
  let spill := s.flag (F.AQ_CFG.SPILL u)
  decide (nrec * 64 + nrec * s.aqRecBytes u + (if spill then 65536 else 0) ≤ s.regN (R.AQ_BUF_SIZE u) * 4096) &&
  (!spill || decide (nrec * s.aqSpillBytes u ≤ s.regN (R.AQ_SPILL_SIZE u) * 4096))

/-- Words per captured vector cycle (R182). -/
def State.aqWordsPerCycle (s : State) (u : Nat) : Nat :=
  if s.fld (F.AQ_CFG.FORMAT u) = 2 then 1
  else ((List.range (s.mult (s.aqSg u))).filter fun k => bitOf (s.fld (F.AQ_CFG.SUBMASK u)) k).length

def State.aqSpillBase (s : State) (u : Nat) : Nat := s.reg64 (R.AQ_SPILL_BASE_LO u) (R.AQ_SPILL_BASE_HI u)

/-- The deep allocation that holds the spill region. -/
def State.aqSpillAlloc (s : State) (u : Nat) : Option DeepAlloc :=
  s.deepHolding (s.aqSpillBase u) (s.regN (R.AQ_SPILL_SIZE u) * 4096)

/-- The reservation of a spilling task in GB/s (R199). -/
def State.aqRate (s : State) (u : Nat) : Nat :=
  ceilDiv (s.aqBytes u * s.aqWordsPerCycle u * 8192) (s.period (s.aqSg u) * (s.fld (F.AQ_DECIM.DECIM u) + 1))

/-! ## States and tasks (R187) -/

def State.aqState (s : State) (u : Nat) : Nat := s.fld (F.AQ_STAT.STATE u)

/-- The unit without its task: what belongs to the group's lines, and the requests that still wait for a word, stay (R188). -/
def AcqUnit.closed (a : AcqUnit) : AcqUnit :=
  { AcqUnit.off with
    reqArm := a.reqArm, reqForce := a.reqForce, reqStop := a.reqStop, trigs := a.trigs
    lineEnd := a.lineEnd, starts := a.starts, nextKey := a.nextKey }

/-- The first place of the current burst whose vector cycle begins from now on; none of it, when the engine is not RUNNING (R180). -/
def State.aqNextKey (s : State) (u : Nat) : Nat :=
  let sg := s.aqSg u
  let next := (s.engine sg).nextStart
  8 * (s.seCycle sg - (if s.eState sg = 2 then ceilDiv (next - toTick s.now) (s.period sg) else 0))

/-- A dispatched task opens its unit, for the vector cycles from then on. -/
def State.aqOpen (s : State) (u slot nrec : Nat) : State :=
  let s := (s.setFld (F.AQ_STAT.STATE u) 1).setFld (F.AQ_STAT.RECORD u) 0
  let a := (s.acq u).closed
  s.setAcq u { a with slot := some slot, nrec := nrec, nextKey := max a.nextKey (s.aqNextKey u) }

/-- The task's work ends with a status: the unit is IDLE. -/
def State.aqEnd (s : State) (u status : Nat) : State :=
  match (s.acq u).slot with
  | none => s
  | some k =>
    let n := s.fld (F.AQ_STAT.RECORD u)
    ((s.setFld (F.AQ_STAT.STATE u) 0).setAcq u (s.acq u).closed).workDone k status 0 n

/-! ## Spill (R199, R200) -/

/-- Copy the oldest staged word to deep memory. -/
def State.spillOne (s : State) (u : Nat) : State :=
  match (s.acq u).spill with
  | [] => s
  | w :: t => (s.spaceWrite 2 w.1 w.2).setAcq u { s.acq u with spill := t }

/-- The spill's next copy, unless its controllers have still to train (R253). -/
def State.spillDrain (s : State) (u : Nat) : State :=
  if (s.aqSpillAlloc u).any s.deepWaits then s else s.spillOne u

/-- Copy every staged word. -/
def State.spillAll (s : State) (u : Nat) : State := iter (s.acq u).spill.length (fun s => s.spillOne u) s

/-! ## Records (R190, R196–R198) -/

/-- Gaps inside the record, oldest first, with POS as a word place in time order: pre-trigger words count from the oldest kept. -/
def AcqUnit.recordGaps (a : AcqUnit) (pre : Nat) : List Gap :=
  let dropped := a.fill - min pre a.fill
  (a.gaps.reverse.filter fun g => decide (dropped < g.pos)).map fun g => { g with pos := g.pos - dropped }

/-- A gap entry in 8 bytes. -/
def Gap.bytes (g : Gap) : List Byte := toBytes 4 g.pos ++ toBytes 4 (g.kind * 2 ^ 28 + min g.count (2 ^ 28 - 1))

/-- The 64-byte header of the current record. -/
def State.aqHeader (s : State) (u : Nat) (trunc : Bool) (cause : Nat) : List Byte :=
  let a := s.acq u
  let pre := s.aqPre u
  let gs := a.recordGaps pre
  let lost := sumNat (a.gaps.map fun g => if g.kind = 2 then g.count else 0)
  let flags := 1 + 2 * b2n trunc + 4 * b2n a.interpValid + 8 * b2n (decide (2 < gs.length)) + 16 * b2n a.overrun
  let start := if pre = 0 ∨ a.fill < pre then 0 else a.fill % pre
  toBytes 4 0x30 ++ toBytes 2 (s.fld (F.AQ_STAT.RECORD u)) ++ toBytes 1 flags ++ toBytes 1 cause ++ toBytes 1 a.trigMap ++
  toBytes 1 (min gs.length 2) ++ toBytes 2 0 ++ toBytes 4 start ++ toBytes 8 a.trigWord ++ toBytes 8 a.trigNs ++
  toBytes 4 a.trigFrac ++ toBytes 4 (unsigned 32 a.interp) ++ toBytes 8 (a.post - lost) ++
  (((gs.take 2).flatMap Gap.bytes) ++ toBytes 16 0).take 16

/-- Close the current record: its words are stored, then its header (R197). -/
def State.aqClose (s : State) (u : Nat) (trunc : Bool) (cause : Nat) : State :=
  let s := s.spillAll u
  let k := s.fld (F.AQ_STAT.RECORD u)
  let s' := s.poolWrite (s.regN (R.AQ_BUF_BASE u) + 64 * k) (s.aqHeader u trunc cause)
  let s' := if 2 < ((s.acq u).recordGaps (s.aqPre u)).length then s'.setFld (F.AQ_FLAGS.GAPOVF u) 1 else s'
  s'.setFld (F.AQ_STAT.RECORD u) (k + 1)

/-- CAUSE of a record: the lowest-numbered source of TRIGMAP (R193). -/
def causeOf (trigMap : Nat) : Nat := ((List.range 5).find? (bitOf trigMap)).getD 0xF

/-- What a record begins with. -/
def AcqUnit.newRecord (a : AcqUnit) : AcqUnit :=
  { a with fill := 0, post := 0, rearm := 0, gaps := [], overrun := false, trigMap := 0, trigWord := 0, trigNs := 0
           trigFrac := 0, interp := 0, interpValid := false }

/-- The POST words are stored: the record closes and the unit enters REARM, or the task completes (R190). -/
def State.aqRecordDone (s : State) (u : Nat) : State :=
  if s.aqState u = 4 ∧ s.aqPost u ≤ (s.acq u).post then
    let s := s.aqClose u false (causeOf (s.acq u).trigMap)
    if s.fld (F.AQ_STAT.RECORD u) < (s.acq u).nrec then
      (s.setAcq u (s.acq u).newRecord).setFld (F.AQ_STAT.STATE u) 5
    else s.aqEnd u stOk
  else s

/-- The eight REARM words have passed: the next record's fill begins (R190). -/
def State.aqRearmDone (s : State) (u : Nat) : State :=
  if s.aqState u = 5 ∧ 8 ≤ (s.acq u).rearm then
    (s.setAcq u { (s.acq u).newRecord with fresh := true }).setFld (F.AQ_STAT.STATE u) 2
  else s

/-- PRE words of the current record are stored (R187). -/
def State.aqPrefillDone (s : State) (u : Nat) : State :=
  if s.aqState u = 2 ∧ s.aqPre u ≤ (s.acq u).fill then s.setFld (F.AQ_STAT.STATE u) 3 else s

/-- A record is being filled or triggered. -/
def State.aqInRecord (s : State) (u : Nat) : Bool := s.aqState u == 2 || s.aqState u == 3 || s.aqState u == 4

/-- Close the current record, if there is one, with TRUNC at a word index and instant (R188, R190). -/
def State.aqTruncate (s : State) (u index ns frac : Nat) : State :=
  if s.aqState u = 4 then s.aqClose u true (causeOf (s.acq u).trigMap)
  else if s.aqInRecord u then
    (s.setAcq u { s.acq u with trigWord := index, trigNs := ns, trigFrac := frac, interp := 0, interpValid := false }).aqClose
      u true 0xF
  else s

/-- The words indexed since the latest arm (R189). -/
def State.aqIndex (s : State) (u : Nat) : Nat := s.reg64 (R.AQ_WORDS_LO u) (R.AQ_WORDS_HI u)

/-- A cancel of a running capture (R190, R298). No word marks the place, and the spec gives its header no instant: a free value. -/
def State.aqCancel (s : State) (u : Nat) : State :=
  let f := Config.freeValue s.free
  ((s.drawn).aqTruncate u (s.aqIndex u) (f % 2 ^ 64) (f / 2 ^ 64 % 2 ^ 32)).aqEnd u stCancelled

/-- A gap at its place among a record's gaps, latest first. -/
def insertGap (g : Gap) : List Gap → List Gap
  | [] => [g]
  | h :: t => if h.pos ≤ g.pos then g :: h :: t else h :: insertGap g t

/-- OVERRUN gaps that follow one another are one gap (R198). -/
def joinGaps (gs : List Gap) : List Gap :=
  gs.foldr (fun g older => match older with
    | h :: t => if g.kind = 2 ∧ h.kind = 2 ∧ h.pos + h.count = g.pos then { h with count := h.count + g.count } :: t else g :: older
    | [] => [g]) []

/-- The words of the current record that still wait in the staging area are lost: their places become OVERRUN gaps of undefined contents,
free values (R198, R200). -/
def State.aqLoseStaged (s : State) (u : Nat) : State :=
  let a := s.acq u
  let first := s.aqSpillBase u + s.fld (F.AQ_STAT.RECORD u) * s.aqSpillBytes u
  let gaps := a.spill.foldl (fun gs w => insertGap ⟨2, 1, a.fill + (w.1 - first) / s.aqBytes u⟩ gs) a.gaps
  let s := a.spill.foldl (fun (s : State) w => s.drawn.spaceWrite 2 w.1 (toBytes w.2.length (Config.freeValue s.free))) s
  (s.setAcq u { a with gaps := joinGaps gaps, overrun := true, spill := [] }).setFld (F.AQ_FLAGS.OVERRUN u) 1

/-- A controller that holds the spill region is fenced, or the unit cannot go on (R200). -/
def State.aqFault (s : State) (u : Nat) : State :=
  if s.aqState u = 0 then s
  else
    let s := if s.aqInRecord u then s.aqLoseStaged u else s
    let f := Config.freeValue s.free
    (s.drawn.aqTruncate u (s.aqIndex u) (f % 2 ^ 64) (f / 2 ^ 64 % 2 ^ 32)).aqEnd u stTesterFault

/-! ## Words (R181–R183) -/

/-- CMH bits of the lanes from their latest samples. -/
def laneHighs (lanes n : Nat) : Nat := (List.range n).foldl (fun w j => w + lanes / 2 ^ (2 * j + 1) % 2 * 2 ^ j) 0

/-- The kept samples of sub-cycle q of a cycle. -/
def samplesOf (hist : SMap Nat) (cycle q : Nat) : SMap Nat :=
  hist.filter fun p => p.1 / 32 == cycle * 8 + q

/-- The word of a place, and the lanes' latest samples after it. SER gathers all sub-cycles of the vector cycle. -/
def State.aqWord (s : State) (u cycle sub : Nat) : Nat × Nat :=
  let a := s.acq u
  let n := s.fld (F.AQ_CFG.NLANES u)
  if s.fld (F.AQ_CFG.FORMAT u) = 2 then
    let before := laneSamples a.lanes (a.hist.filter fun p => decide (p.1 / 32 < cycle * 8))
    (List.range (s.mult (s.aqSg u))).foldl (fun (r : Nat × Nat) q =>
      let l := laneSamples r.2 (samplesOf a.hist cycle q)
      (r.1 + laneHighs l n * 2 ^ (q * n), l)) (0, before)
  else
    let l := laneSamples a.lanes (a.hist.filter fun p => decide (p.1 / 32 ≤ cycle * 8 + sub))
    (if s.fld (F.AQ_CFG.FORMAT u) = 0 then laneHighs l n else l % 2 ^ (2 * n), l)

/-- Lanes whose judgement failed in a sub-cycle the word covers, as a bit set (R191). -/
def State.aqFailed (s : State) (u cycle sub : Nat) : Nat :=
  let ser := s.fld (F.AQ_CFG.FORMAT u) == 2
  (s.acq u).hist.foldl (fun m p =>
    if bitOf p.2 3 ∧ p.1 / 256 = cycle ∧ (ser || p.1 / 32 % 8 == sub) then setBit m (p.1 % 32) else m) 0

/-- The reference lane (R182). -/
def State.aqRef (s : State) (u : Nat) : Nat := if s.flag (F.AQ_LOC.EN u) then s.fld (F.AQ_LOC.LANE u) else 0

/-- The instant of a word in ticks: the start of its sub-cycle plus the programmed time of the reference lane's strobe. -/
def State.aqInstant (s : State) (u cycle sub : Nat) : Nat :=
  let q := if s.fld (F.AQ_CFG.FORMAT u) = 2 then 0 else sub
  let start := Sparse.get (fun _ => 0) (s.acq u).starts cycle
  start + q * s.psub (s.aqSg u) + Sparse.get (fun _ => 0) (s.acq u).hist (histKey cycle q (s.aqRef u)) / 16

/-! ## Trigger conditions (R191–R193) -/

def State.tcVal (s : State) (u k : Nat) : Nat := s.reg64 (R.AQ_TC_VAL_LO u k) (R.AQ_TC_VAL_HI u k)
def State.tcCare (s : State) (u k : Nat) : Nat := s.reg64 (R.AQ_TC_CARE_LO u k) (R.AQ_TC_CARE_HI u k)

/-- Whether the LEVEL test of condition k holds in a word. -/
def State.tcLevel (s : State) (u k word : Nat) : Bool := word &&& s.tcCare u k == s.tcVal u k &&& s.tcCare u k

/-- Whether condition k holds in a word apart from qualification. -/
def State.tcHolds (s : State) (u k word failed : Nat) : Bool :=
  let a := s.acq u
  s.flag (F.AQ_TC_CFG.EN u k) &&
  match s.fld (F.AQ_TC_CFG.KIND u k) with
  | 0 => s.tcLevel u k word
  | 1 => s.tcLevel u k word && !bitOf a.prevHold k && !a.fresh
  | 2 => (failed &&& s.tcCare u k) % 2 ^ 32 != 0
  | _ => false

/-- Whether qualification governs condition k. -/
def State.tcQualified (s : State) (u k : Nat) : Bool :=
  s.fld (F.AQ_TC_CFG.KIND u k) == 1 || bitOf (s.acq u).qual k

/-- The sources of a trigger event in a word: the true conditions, and FORCE as bit 4. -/
def State.eventMap (s : State) (u word failed : Nat) (force : Bool) : Nat :=
  sumNat ((List.range 4).map fun k => if s.tcHolds u k word failed && s.tcQualified u k then 2 ^ k else 0) + 16 * b2n force

/-- Qualification after a word: a condition that took part in an event is disqualified, one that was false is qualified again. -/
def State.qualAfter (s : State) (u word failed map : Nat) : Nat :=
  (List.range 4).foldl (fun q k =>
    if bitOf map k then clearBit q k
    else if !s.tcHolds u k word failed then setBit q k else q) (s.acq u).qual

/-! ## One word -/

/-- The locator's INTERP for a word (R196): the latest transition after the previous word's instant and by this one's. -/
def State.aqInterp (s : State) (u : Nat) (instant : Int) : Option Int :=
  let a := s.acq u
  if s.fld (F.AQ_CFG.FORMAT u) = 2 ∨ a.fresh ∨ !s.flag (F.AQ_LOC.EN u) then none
  else
    match a.locs.find? fun t => decide (a.prevInstant < t) && decide (t ≤ instant) with
    | none => none
    | some t => if t - instant < -(2 ^ 31) then none else some (t - instant)

/-- Note the IDLE gap before the first word of a burst (R198). -/
def State.aqIdleGap (s : State) (u : Nat) : State :=
  let a := s.acq u
  match a.idle with
  | none => s
  | some t =>
    let n := t / s.period (s.aqSg u) / (s.fld (F.AQ_DECIM.DECIM u) + 1) * s.aqWordsPerCycle u
    let place := a.fill + a.post
    let gaps := if s.aqInRecord u && n != 0 then ⟨1, n, place⟩ :: a.gaps else a.gaps
    s.setAcq u { a with idle := none, fresh := true, gaps := gaps }

/-- Store a word of the fill into its ring slot (R190). -/
def State.aqStorePre (s : State) (u word : Nat) : State :=
  let a := s.acq u
  let pre := s.aqPre u
  let at' := s.regN (R.AQ_BUF_BASE u) + a.nrec * 64 + s.fld (F.AQ_STAT.RECORD u) * s.aqRecBytes u + a.fill % pre * s.aqBytes u
  let s := if pre = 0 then s else (s.poolWrite at' (toBytes (s.aqBytes u) word)).count (224 + u) 1
  s.setAcq u { a with fill := a.fill + 1 }

/-- Where the next post-trigger word of a spilling capture belongs (R199). -/
def State.aqSpillPlace (s : State) (u : Nat) : Nat :=
  s.aqSpillBase u + s.fld (F.AQ_STAT.RECORD u) * s.aqSpillBytes u + (s.acq u).post * s.aqBytes u

/-- A spilled word is lost (R200): it opens or extends an OVERRUN gap, and the contents of its place are undefined (R198): a free value. -/
def State.aqLose (s : State) (u : Nat) : State :=
  let s := s.drawn.spaceWrite 2 (s.aqSpillPlace u) (toBytes (s.aqBytes u) (Config.freeValue s.free))
  let a := s.acq u
  let place := a.fill + a.post
  let gaps := match a.gaps with
    | g :: t => if g.kind = 2 ∧ g.pos + g.count = place then { g with count := g.count + 1 } :: t else ⟨2, 1, place⟩ :: g :: t
    | [] => [⟨2, 1, place⟩]
  ((s.setAcq u { a with gaps := gaps, overrun := true, post := a.post + 1 }).setFld (F.AQ_FLAGS.OVERRUN u) 1).count (240 + u) 1

/-- Store a post-trigger word: behind the ring, or in the spill staging area if it has room (R185, R199). -/
def State.aqStorePost (s : State) (u word : Nat) : State :=
  let a := s.acq u
  let b := s.aqBytes u
  let k := s.fld (F.AQ_STAT.RECORD u)
  if s.flag (F.AQ_CFG.SPILL u) then
    if 65536 < (a.spill.length + 1) * b then s.aqLose u
    else (s.setAcq u { a with spill := a.spill ++ [(s.aqSpillPlace u, toBytes b word)], post := a.post + 1 }).count (224 + u) 1
  else
    let at' := s.regN (R.AQ_BUF_BASE u) + a.nrec * 64 + k * s.aqRecBytes u + (s.aqPre u + a.post) * b
    ((s.poolWrite at' (toBytes b word)).setAcq u { a with post := a.post + 1 }).count (224 + u) 1

/-- An accepted trigger makes the record's trigger point (R190, R193, R196). -/
def State.aqTrigger (s : State) (u index instant map : Nat) : State :=
  let a := s.acq u
  let i := s.aqInterp u instant
  let s := s.setAcq u { a with
    trigWord := index, trigNs := instant / 8192, trigFrac := instant % 8192 * 2 ^ 19, trigMap := map
    interp := i.getD 0, interpValid := i.isSome }
  ((s.setFld (F.AQ_STAT.STATE u) 4).setFld (F.AQ_FLAGS.TRIGD u) 1).signal (112 + u)

/-- What an armed unit does with a produced word: index it, evaluate its conditions, and store it. -/
def State.aqTake (s : State) (u cycle sub word : Nat) (force : Bool) : State :=
  let index := s.aqIndex u
  let s := s.setReg64 (R.AQ_WORDS_LO u) (R.AQ_WORDS_HI u) (index + 1)
  let failed := s.aqFailed u cycle sub
  let map := s.eventMap u word failed force
  let hold := sumNat ((List.range 4).map fun k => if s.tcLevel u k word then 2 ^ k else 0)
  let qual := s.qualAfter u word failed map
  let instant := s.aqInstant u cycle sub
  let st := s.aqState u
  let s := if map = 0 then s
    else if st = 2 then s.addSat (F.AQ_IGN.PREFILL u) 1
    else if st = 5 then s.addSat (F.AQ_IGN.REARM u) 1
    else if st = 3 then s.aqTrigger u index instant map
    else s
  let s := if s.aqState u = 4 then s.aqStorePost u word
    else if st = 5 then s.setAcq u { s.acq u with rearm := (s.acq u).rearm + 1 }
    else s.aqStorePre u word
  s.setAcq u { s.acq u with qual := qual, prevHold := hold, fresh := false, prevInstant := instant }

/-- The requests that act at a word (R188): ARM, FORCE, STOP of the host and of TRIG lines up to its cycle. -/
def AcqUnit.requests (a : AcqUnit) (cycle : Nat) : Bool × Bool × Bool :=
  let due := a.trigs.filter fun t => decide (t.1 ≤ cycle)
  (a.reqArm || due.any fun t => t.2 == 0, a.reqForce || due.any fun t => t.2 == 1, a.reqStop || due.any fun t => t.2 == 2)

/-- The requests and qualifications due at a word have acted. -/
def AcqUnit.acted (a : AcqUnit) (cycle : Nat) : AcqUnit :=
  { a with
    reqArm := false, reqForce := false, reqStop := false, trigs := a.trigs.filter fun t => decide (cycle < t.1)
    qual := (a.requal.filter fun t => decide (t.1 ≤ cycle)).foldl (fun q t => setBit q t.2) a.qual
    requal := a.requal.filter fun t => decide (cycle < t.1) }

/-- After a word: its samples and start are past. -/
def State.aqPass (s : State) (u cycle sub lanes : Nat) (instant : Int) : State :=
  let a := s.acq u
  s.setAcq u { a with
    lanes := lanes, nextKey := cycle * 8 + sub + 1
    hist := a.hist.filter fun p => decide (cycle * 8 + sub < p.1 / 32)
    starts := a.starts.filter fun p => decide (cycle ≤ p.1)
    locs := a.locs.filter fun t => decide (instant < t) }

/-- Whether a place of the current burst gives the unit a word (R180, R182): a vector cycle that its engine issued while RUNNING, and no
place that the unit is past. -/
def State.aqProduces (s : State) (u cycle sub : Nat) : Bool :=
  let sg := s.aqSg u
  s.flag (F.AQ_CFG.EN u) && decide (cycle < s.seCycle sg) && cycle % (s.fld (F.AQ_DECIM.DECIM u) + 1) == 0 &&
  decide ((s.acq u).nextKey ≤ cycle * 8 + sub) &&
  (if s.fld (F.AQ_CFG.FORMAT u) = 2 then sub == 7
   else decide (sub < s.mult sg) && bitOf (s.fld (F.AQ_CFG.SUBMASK u)) sub)

/-- A word of a unit with an open task. STOP wins over the other requests of its word; ARM acts in OPEN only. -/
def State.aqWordOpen (s : State) (u cycle sub : Nat) : State :=
  let s := (s.aqPrefillDone u).aqRecordDone u
  let s := (s.aqRearmDone u).aqPrefillDone u
  if s.aqState u = 0 then s
  else
    let r := (s.acq u).requests cycle
    let s := s.setAcq u ((s.acq u).acted cycle)
    let instant := s.aqInstant u cycle sub
    if r.2.2 then
      let s := s.aqIdleGap u
      let i := s.aqIndex u
      let s := if s.aqState u = 1 then s else s.setReg64 (R.AQ_WORDS_LO u) (R.AQ_WORDS_HI u) (i + 1)
      (s.aqTruncate u i (instant / 8192) (instant % 8192 * 2 ^ 19)).aqEnd u stOk
    else
      let arm := r.1 && s.aqState u == 1
      let s := if arm then
          let a := (s.acq u).newRecord
          let first := cycle * 8 + if s.fld (F.AQ_CFG.FORMAT u) = 2 then 0 else sub
          let s := (s.setAcq u { a with
            qual := 15, fresh := true, lanes := 0, idle := none
            hist := a.hist.filter fun p => decide (first ≤ p.1 / 32) }).setFld (F.AQ_STAT.STATE u) 2
          s.setReg64 (R.AQ_WORDS_LO u) (R.AQ_WORDS_HI u) 0
        else s.aqIdleGap u
      let s := s.aqPrefillDone u
      let w := s.aqWord u cycle sub
      if s.aqState u = 1 then s.aqPass u cycle sub w.2 instant
      else (s.aqTake u cycle sub w.1 r.2.1).aqPass u cycle sub w.2 instant

/-- An acquisition unit meets the word place of a sub-cycle (for SER, sub-cycle 7 stands for the whole vector cycle). -/
def State.captureWord (s : State) (u cycle sub : Nat) : State :=
  let sub := if s.fld (F.AQ_CFG.FORMAT u) = 2 then 7 else sub
  if !s.aqProduces u cycle sub then s
  else if s.aqState u = 0 then
    let r := (s.acq u).requests cycle
    let s := if r.1 then s.setFld (F.AQ_FLAGS.NOTASK u) 1 else s
    s.setAcq u { (s.acq u).acted cycle with nextKey := cycle * 8 + sub + 1 }
  else s.atCycle (s.aqSg u) cycle fun s => s.aqWordOpen u cycle sub

/-- The locator resolves a CMH transition of its lane to a phase step of 64 ticks (R195). -/
def State.locate (s : State) (u step : Nat) : State :=
  if s.flag (F.AQ_LOC.EN u) ∧ 2 ≤ s.aqState u then
    s.setAcq u { s.acq u with locs := s.stepTime (u / 4) step :: (s.acq u).locs }
  else s

end Sys2Proof.Machine
end

