-- ==== Sys2Proof/Machine/Load.lean ====
section
/-! DEFINITION. Images and sections: the section checks (R38, R41, R66, R67), the load checks (R415–R419), binding and unloading
(R276, R419). -/
namespace Sys2Proof.Machine

/-! ## Instruction words (R38, Table — Pattern instructions) -/

/-- The bounds an instruction word is checked against: instructions, resident lines and stream entries of its section. -/
structure Bounds where
  instrs : Nat
  lines : Nat
  streams : Nat
deriving DecidableEq, Repr

/-- Whether X and the bits of A that its opcode and X do not name are valid, and its operands lie in their ranges. -/
def operandsValid (b : Bounds) (w : Nat) : Bool :=
  let x := iX w
  let a := iA w
  match iOp w with
  | 0x01 => x == 0 && a != 0
  | 0x02 => x == 0 && a != 0
  | 0x03 => x == 0 && decide (a < b.instrs)
  | 0x04 => decide (x % 8 < 6) && decide (a < b.instrs)
  | 0x05 => (x == 0 && a != 0) || (x == 1 && decide (a < 16))
  | 0x06 => x == 0 && decide (a < b.instrs)
  | 0x07 => x == 0 && decide (a < b.instrs)
  | 0x08 => x == 0 && a == 0
  | 0x09 => a % 256 != 0 && decide (a < 2 ^ 16)
  | 0x0A => decide (x < 8) && a != 0
  | 0x0B => x == 0 && decide (a < 256)
  | 0x0C => x == 0 || x == 2 || (x == 1 && decide (a < 16))
  | 0x0D => decide (x < 3) && decide (a < 2 ^ 16)
  | 0x0E => (x == 0 && bitsOf a 12 8 == 0) || (x == 1 && decide (a < 2 ^ 20))
  | 0x0F => decide (x < 2) && decide (a < 16) && decide (a < b.streams)
  | 0x10 => true
  | 0x11 => x == 0 && a == 0
  | 0x12 => x == 0 && a == 0
  | _ => false

/-- The number of resident lines an instruction reaches from LINE on. -/
def lineReach (w : Nat) : Nat :=
  match iOp w with
  | 0x01 => iA w
  | 0x09 => iA w % 256
  | 0x0A => iA w
  | _ => 1

/-- Whether an instruction word is valid in its section. -/
def instrValid (b : Bounds) (w : Nat) : Bool :=
  operandsValid b w &&
  (if iS w then (iOp w == 1 || iOp w == 2) && iLine w == 0 else decide (iLine w + lineReach w ≤ b.lines))

/-! ## Sections -/

/-- A header field of the section at a pool offset. -/
def State.secField (s : State) (base off size : Nat) : Nat := s.poolNum (base + off) size

/-- The smallest power of two, as its exponent, that holds W codes in at least 32 bits (R36). -/
def lineLog2 (w : Nat) : Nat := ((List.range 9).find? fun k => decide (4 * w ≤ 2 ^ (k + 5))).getD 8 + 5

/-- Whether the header's fields lie in the ranges of R66 and R41. DEDUCED (log 6): a section outside them does not pass. -/
def State.headerValid (s : State) (base len : Nat) : Bool :=
  let f (off size : Nat) : Nat := s.secField base off size
  decide (0x2B0 ≤ len) && f 0 4 == 2 && f 4 4 == len && decide (f 8 1 ≤ 1) && decide (f 9 1 ≤ 15) && decide (f 0xA 1 ≤ 3) &&
  decide (2 ≤ f 0xB 1) && decide (5 ≤ f 0xE 2) && decide (f 0xE 2 ≤ 13) && f 0x2A 2 == 0 &&
  decide (1 ≤ f 0x28 1) && decide (f 0x28 1 ≤ 16) && decide (f 0x29 1 ≤ 16) && f 0x20 4 % 8 == 0 && f 0x24 4 % 32 == 0 &&
  decide (f 0x20 4 + 8 * f 0x18 4 ≤ len) && decide (f 0x24 4 + f 0x1C 4 * (2 ^ f 0xE 2 / 8) ≤ len)

/-- Whether the instructions and the ENTRY table of the section at a pool offset are valid (R38). -/
def State.instrsValid (s : State) (base : Nat) : Bool :=
  let n := s.secField base 0x18 4
  let b : Bounds := ⟨n, s.secField base 0x1C 4, s.secField base 0x29 1⟩
  let word (k : Nat) : Nat := s.secField base (s.secField base 0x20 4 + 8 * k) 8
  decide (0 < n) && ((List.range n).all fun k => instrValid b (word k)) &&
  (iOp (word (n - 1)) == 0x03 || iOp (word (n - 1)) == 0x08 || iOp (word (n - 1)) == 0x12) &&
  (List.range (s.secField base 0x28 1)).all fun e => decide (s.secField base (0x70 + 4 * e) 4 < n)

/-- The settings with the values that earlier Tacks committed for groups and that wait for a boundary laid over them. -/
def State.committed (s : State) : State :=
  (s.groupPend.filter fun c => c.values.all fun p => decide (p.1 / 2 ^ 26 ≠ trimSpace)).foldl
    (fun (s : State) c => s.overlay c.values) s

/-- Whether the section at a pool offset agrees with its group's settings (R67): sites and positions, line size, multiplier,
shortest vector cycle and fail latency (R41). -/
def State.sectionFits (s : State) (sg base : Nat) : Bool :=
  let f (off size : Nat) : Nat := s.secField base off size
  b2n (s.gang sg) == f 8 1 % 2 && s.fld (F.SE_CFG.NSITES sg) == f 9 1 && s.nPositions sg == f 0xC 2 &&
  lineLog2 (f 0xC 2 * 2 ^ f 0xA 1) == f 0xE 2 && s.fld (F.PG_CFG.MULT sg) == f 0xA 1 &&
  decide (f 0x10 8 ≤ s.period sg) && decide (12 * 8192 ≤ (f 0xB 1 - 1) * s.period sg)

/-- The time sets a section can select (R101): TS0 and those its TSET instructions name. -/
def State.selectable (s : State) (base : Nat) : List Nat :=
  0 :: (List.range (s.secField base 0x18 4)).filterMap fun k =>
    let w := s.secField base (s.secField base 0x20 4 + 8 * k) 8
    if iOp w = 0x0B then some (iA w % 256) else none

/-! ## Images (R415–R417) -/

/-- Fields of an image's header and of directory entry k, in an image at a pool offset. -/
def State.imgField (s : State) (img off size : Nat) : Nat := s.poolNum (img + off) size
def State.dirField (s : State) (img k off size : Nat) : Nat :=
  s.imgField img (s.imgField img 0x18 4 + 128 * k + off) size

/-- Bytes of the head before its signature. -/
def State.headLen (s : State) (img : Nat) : Nat := s.imgField img 0x1C 4 + 64 * s.imgField img 0x12 2

/-- Whether directory entry k is valid. -/
def State.dirValid (s : State) (img len k : Nat) : Bool :=
  let d (off size : Nat) : Nat := s.dirField img k off size
  let enc := bitOf (d 2 2) 0
  d 0 2 == 2 && decide (d 2 2 < 4) && d 0x24 4 == 0 && d 0x78 8 == 0 &&
  (if enc then d 0x38 64 == 0 else d 0x18 12 == 0 && d 0x28 16 == 0) &&
  decide (s.headLen img + 64 ≤ d 8 8) && decide (d 8 8 + d 4 4 ≤ len)

/-- Check 4: header, directory and recipient table valid, SECTION below SECTIONS, and every section after the signature. -/
def State.headValid (s : State) (img len wanted : Nat) : Bool :=
  let f (off size : Nat) : Nat := s.imgField img off size
  let n := f 0x10 2
  decide (0x100 ≤ len) && f 0 4 == 1 && f 4 2 == 1 && decide (f 6 2 ≤ 1) && f 8 8 == len && decide (1 ≤ n) && decide (n ≤ 64) &&
  decide (f 0x12 2 ≤ 16384) && f 0x14 4 == 0 && f 0x90 112 == 0 && (bitOf (f 6 2) 0 || f 0x40 32 == 0) &&
  decide (f 0x18 4 + 128 * n ≤ len) && decide (s.headLen img + 64 ≤ len) &&
  ((List.range n).all fun k => s.dirValid img len k) &&
  ((List.range n).all fun k => !bitOf (s.dirField img k 2 2) 0 || f 0x12 2 != 0) && decide (wanted < n)

/-- KA_PUB of the device's key-agreement key; the base point of X25519 is 9. -/
def State.kaPub (s : State) : Nat :=
  match s.shroud.keys with
  | some k => Config.x25519 k.2 9
  | none => 0

def State.idPub (s : State) : Nat :=
  match s.shroud.keys with
  | some k => Config.ed25519Pub k.1
  | none => 0

/-- The content key of an image, if a recipient entry carries this device's KEYID and its WRAP authenticates (R416). -/
def State.contentKey (s : State) (img : Nat) : Option Nat :=
  match s.shroud.keys with
  | none => none
  | some k =>
    let pub := s.kaPub
    let id := Config.sha512 (toBytes 32 pub) % 2 ^ 128
    let eph := s.imgField img 0x60 32
    let kek := Config.sha512 (toBytes 32 (Config.x25519 k.2 eph) ++ toBytes 32 eph ++ toBytes 32 pub) % 2 ^ 256
    let aad := s.poolRead img 256
    (List.range (s.imgField img 0x12 2)).findSome? fun r =>
      let at' := s.imgField img 0x1C 4 + 64 * r
      let wrap := s.poolRead (img + at' + 16) 32
      if s.imgField img at' 16 = id ∧ Config.gcmTag kek 0 aad wrap (s.imgField img (at' + 48) 16) then
        some (Config.gcmPlain kek 0 wrap % 2 ^ 256)
      else none

/-- SHR_STAT.LIFECYCLE and SHR_STAT.DEBUG. -/
def State.lifecycle (s : State) : Nat := s.fld F.SHR_STAT.LIFECYCLE
def State.debug (s : State) : Nat := s.fld F.SHR_STAT.DEBUG

/-- Whether lifecycle and debug state permit a load (Table — Security, debug and power matrix). -/
def State.permits (s : State) (encrypted : Bool) (owner : Nat) : Bool :=
  if s.debug = 1 then owner == s.shroud.dbgKey
  else if s.debug = 2 ∨ s.lifecycle = 0 ∨ s.lifecycle = 3 then !encrypted
  else true

/-! ## The LOAD task (R274, R418, R419) -/

def ldImage (d : Nat) : Nat := dget d 0x18 4
def ldLen (d : Nat) : Nat := dget d 0x1C 4
def ldSection (d : Nat) : Nat := dget d 0x20 2
def ldSg (d : Nat) : Nat := dget d 0x22 1
def ldPa (d : Nat) : Nat := dget d 0x24 2
def ldDa (d : Nat) : Option Nat := if dget d 0x26 2 = 0xFFFF then none else some (dget d 0x26 2)

/-- Whether RES_PA and DEEP_DA name free, unprotected, valid entries. -/
def State.loadTargets (s : State) (d : Nat) : Bool :=
  (match s.poolAlloc (ldPa d) with
   | some a => !a.prot && !s.poolInUse a
   | none => false) &&
  (match ldDa d with
   | none => true
   | some k => match s.deepAlloc k with
     | some a => !a.prot && !s.deepInUse a
     | none => false)

/-- The fetch checks of a LOAD: the first that fails, with its status. Its sizes stand in the image's plain directory. -/
def State.loadFetch (s : State) (d : Nat) : Option (Nat × Nat) :=
  let img := ldImage d
  if !((s.poolHolding img (ldLen d)).isSome && s.loadTargets d && decide (ldSg d < 64) && (s.engine (ldSg d)).sec.isNone) then
    some (stInconsistent, 1)
  else
    let deep := s.dirField img (ldSection d) 0x10 8
    let paBytes := (s.poolAlloc (ldPa d)).elim 0 fun a => a.bytes
    let daBytes := ((ldDa d).bind s.deepAlloc).elim 0 fun a => a.bytes
    if paBytes < s.dirField img (ldSection d) 4 4 ∨ daBytes < deep then some (stTooLarge, 2) else none

/-- Checks 3 to 7: the first that fails, with its status. -/
def State.loadChecks (s : State) (d : Nat) : Option (Nat × Nat) :=
  let img := ldImage d
  let enc := bitOf (s.dirField img (ldSection d) 2 2) 0
  if enc && !s.flag F.SHR_STAT.IDENT then some (stAuthFail, 3)
  else if !s.headValid img (ldLen d) (ldSection d) then some (stInconsistent, 4)
  else if !Config.ed25519 (s.imgField img 0x20 32) (s.poolRead img (s.headLen img)) (s.imgField img (s.headLen img) 64) then
    some (stAuthFail, 5)
  else if !s.permits enc (s.imgField img 0x20 32) then some (stAuthFail, 6)
  else if enc && (s.contentKey img).isNone then some (stAuthFail, 7)
  else none

/-- Erase a deep allocation's bytes on controllers in service (R246). -/
def State.deepErase (s : State) (a : DeepAlloc) : State :=
  (controllers a.chmask).foldl (fun (s : State) n =>
    if s.dramFenced n then s
    else
      let q := ((s.dram n).queue.filter fun w =>
        !(decide (a.lbase ≤ w.unit * 64) && decide (w.unit * 64 < a.lbase + a.span)))
      (s.deepForget n a.lbase (a.lbase + a.span)).setDram n
        { s.dram n with queue := q }) s

/-- Erase a section's allocations and return them unprotected (R276, R418). -/
def State.dropSection (s : State) (pa : Nat) (da : Option Nat) : State :=
  let s := match s.poolAlloc pa with
    | some a => (s.poolErase a.base a.bytes).setPoolProt pa false
    | none => s
  match da.bind s.deepAlloc with
  | some a => (s.deepErase a).setDeepProt a.k false
  | none => s

/-- The plaintext of the section (resident and deep part), if its tag or digest matches (check 8). -/
def State.decrypted (s : State) (d : Nat) : Option (List Byte) :=
  let img := ldImage d
  let k := ldSection d
  let f (off size : Nat) : Nat := s.dirField img k off size
  let deep := match (ldDa d).bind s.deepAlloc with
    | some a => s.deepReadAt a 0 (f 0x10 8)
    | none => []
  let body := s.poolRead (img + f 8 8) (f 4 4) ++ deep
  if bitOf (f 2 2) 0 then
    match s.contentKey img with
    | none => none
    | some cek =>
      if Config.gcmTag cek (f 0x18 12) (s.poolRead img 256 ++ toBytes 2 k) body (f 0x28 16) then
        some (toBytes body.length (Config.gcmPlain cek (f 0x18 12) body))
      else none
  else if Config.sha512 body % 2 ^ 512 = f 0x38 64 then some body
  else none

/-- Bind a section to its group (R101, R139, R419): general registers, time sets and sites it uses, and its flags. -/
def State.bindSection (s : State) (sg : Nat) (c : Section) : State :=
  let s := s.setEngine sg { s.engine sg with sec := some c }
  let s := (List.range 16).foldl (fun (s : State) k => s.setReg (R.SE_GR sg k) (s.secField c.base (0x30 + 4 * k) 4)) s
  let used := s.selectable c.base
  let s := (List.range 8).foldl (fun (s : State) w =>
    s.setReg (R.TS_USED sg w) ((used.filter fun t => t / 32 == w).foldl (fun a t => setBit a (t % 32)) 0)) s
  (s.setFld (F.SE_CFG.FLAT sg) (s.secField c.base 0xB 1)).setFld (F.CMP_SGCFG.CONCEAL sg) (b2n (c.conceal && s.debug != 1))

/-- The work of a dispatched LOAD: decryption, the section's checks and its binding (checks 8 and 9). -/
def State.loadWork (s : State) (slot : Nat) : State :=
  let d := (s.slot slot).desc
  let img := ldImage d
  let f (off size : Nat) : Nat := s.dirField img (ldSection d) off size
  let s0 := s.setPoolProt (ldPa d) true
  let s0 := match ldDa d with | some k => s0.setDeepProt k true | none => s0
  match s.poolAlloc (ldPa d) with
  | none => s.workDone slot stInconsistent 9 0
  | some a =>
    match s.decrypted d with
    | none => ((s0.dropSection (ldPa d) (ldDa d)).addSat F.SHR_AUTHFAIL.LOAD 1).workDone slot stAuthFail 8 0
    | some plain =>
      let s1 := s0.poolWrite a.base (plain.take (f 4 4))
      let s1 := match (ldDa d).bind s.deepAlloc with
        | some x => s1.deepWriteAt x 0 (plain.drop (f 4 4))
        | none => s1
      if s1.headerValid a.base (f 4 4) && s1.instrsValid a.base && s1.committed.sectionFits (ldSg d) a.base then
        let c : Section := ⟨ldPa d, ldDa d, a.base, f 4 4, f 0x10 8, bitOf (f 2 2) 0, bitOf (f 2 2) 1,
          s.imgField img 0x20 32, s.imgField img 0x40 32, bitOf (s.imgField img 6 2) 0⟩
        (s1.bindSection (ldSg d) c).workDone slot stOk 0 plain.length
      else (s1.dropSection (ldPa d) (ldDa d)).workDone slot stInconsistent 9 0

/-- Erase and unbind a group's section (R276). -/
def State.unloadSection (s : State) (sg : Nat) : State :=
  match (s.engine sg).sec with
  | none => s
  | some c =>
    let s := (s.dropSection c.pa c.da).setEngine sg { s.engine sg with sec := none }
    let s := s.resetRegs (R.TS_USED sg 0) (R.TS_USED sg 8)
    (s.setFld (F.SE_CFG.FLAT sg) 0).setFld (F.CMP_SGCFG.CONCEAL sg) 0

end Sys2Proof.Machine
end

