-- ==== Sys2Proof/Machine/Tdc.lean ====
section
/-! DEFINITION. Time-interval units: ring tracking, input conditioning, conversion, measurements and sets (R202–R216). -/
namespace Sys2Proof.Machine

/-- Time-interval unit u. -/
def State.tdc (s : State) (u : Nat) : TdcUnit := Sparse.get (fun _ => TdcUnit.off) s.tdcs u
def State.setTdc (s : State) (u : Nat) (v : TdcUnit) : State :=
  { s with tdcs := Sparse.set (fun _ => TdcUnit.off) s.tdcs u v }

/-- MODE of a unit: 0 STAMP, 1 INTERVAL, 2 PERIOD, 3 FREQ. -/
def State.tdcMode (s : State) (u : Nat) : Nat := s.fld (F.TDC_CFG.MODE u)

/-- The partner of a unit (R202). -/
def partnerOf (u : Nat) : Nat := if u % 2 = 0 then u + 1 else u - 1

/-- The unit whose converter serves an input (R202, R211). -/
def converterOf (u : Nat) (onB : Bool) : Nat := if onB then partnerOf u else u

/-- The conditioning stages of an input. -/
def State.tdcInput (s : State) (u : Nat) (onB : Bool) : TdcInput := if onB then (s.tdc u).inB else (s.tdc u).inA
def State.setTdcInput (s : State) (u : Nat) (onB : Bool) (v : TdcInput) : State :=
  s.setTdc u (if onB then { s.tdc u with inB := v } else { s.tdc u with inA := v })

/-- Channel, source (0 CMH, 1 CML) and polarity of an input. -/
def State.tdcCh (s : State) (u : Nat) (onB : Bool) : Nat :=
  if onB then s.fld (F.TDC_INB.CH u) else s.fld (F.TDC_INA.CH u)
def State.tdcSrc (s : State) (u : Nat) (onB : Bool) : Nat :=
  if onB then s.fld (F.TDC_INB.SRC u) else s.fld (F.TDC_INA.SRC u)
def State.tdcPol (s : State) (u : Nat) (onB : Bool) : Nat :=
  if onB then s.fld (F.TDC_INB.POL u) else s.fld (F.TDC_INA.POL u)

/-- The inputs that a unit's mode uses. -/
def State.tdcInputs (s : State) (u : Nat) : List Bool := if s.tdcMode u = 1 then [false, true] else [false]

/-- Whether a unit is armed. -/
def State.tdcArmed (s : State) (u : Nat) : Bool := s.fld (F.TDC_STAT.STATE u) == 1

/-! ## Ring tracking (R205) -/

/-- Whether a converter is in fallback mode. -/
def State.tdcFallback (s : State) (u : Nat) : Bool := s.flag (F.TDC_STAT.FALLBACK u) || s.flag (F.TDC_CFG.FORCE64 u)

/-- Whether ring periods in 2^-24 ns are plausible after earlier ones, if there are any. Δ between 200 fs and 300 fs, the slow
ring between 25 ps and 35 ps, and neither more than 0.5 % from its previous value. -/
def plausibleRings (slow fast : Nat) (prior : Option (Nat × Nat)) : Bool :=
  let near (a b : Nat) : Bool := decide (200 * (max a b - min a b) ≤ b)
  decide (fast ≤ slow) && decide (200 * 2 ^ 24 ≤ (slow - fast) * 1000000) && decide ((slow - fast) * 1000000 ≤ 300 * 2 ^ 24) &&
  decide (25 * 2 ^ 24 ≤ slow * 1000) && decide (slow * 1000 ≤ 35 * 2 ^ 24) &&
  match prior with
  | none => true
  | some p => near slow p.1 && near fast p.2

/-- Whether 4,096 pattern cycles (2,048 ns) have passed since a converter's latest update. -/
def TdcUnit.updateDue (d : TdcUnit) (clk : Nat) : Bool := d.updated.all fun t => decide (t + 2048 ≤ clk)

/-- A converter takes the periods it has measured (R205). -/
def State.ringUpdate (s : State) (u slow fast : Nat) : State :=
  let d := s.tdc u
  let prior := d.updated.map fun _ => (s.regN (R.TDC_RINGS u), s.regN (R.TDC_RINGF u))
  if !d.updateDue s.clk then s
  else
    let t := some s.clk
    let s := (s.setReg (R.TDC_RINGS u) slow).setReg (R.TDC_RINGF u) fast
    if plausibleRings slow fast prior then
      let n := min (d.plausible + 1) 16
      let s := s.setTdc u { d with slow := slow, fast := fast, plausible := n, updated := t }
      if n = 16 then s.setFld (F.TDC_STAT.FALLBACK u) 0 else s
    else
      let s := s.setTdc u { d with plausible := 0, updated := t }
      if s.flag (F.TDC_STAT.FALLBACK u) then s
      else ((s.setFld (F.TDC_STAT.FALLBACK u) 1).setFld (F.TDC_STAT.FBSEEN u) 1).signal (128 + u)

/-! ## Records (R212) -/

/-- The 16 bytes of a result record. -/
def tdcRecord (mode : Nat) (fallback overrun rising : Bool) (count value : Nat) : List Byte :=
  toBytes 16 (mode * 2 ^ 124 + b2n fallback * 2 ^ 123 + b2n overrun * 2 ^ 122 + b2n rising * 2 ^ 120 +
    count % 2 ^ 24 * 2 ^ 96 + value % 2 ^ 96)

/-- The unit's set ends with a status: unit and partner are IDLE, and an open measurement is discarded (R214). -/
def State.tdcEnd (s : State) (u status : Nat) : State :=
  match (s.tdc u).slot with
  | none => s
  | some k =>
    let d := s.tdc u
    let n := s.regN (R.TDC_DONE u)
    let s := s.setFld (F.TDC_STAT.STATE u) 0
    let p := partnerOf u
    let s := if s.fld (F.TDC_STAT.STATE p) = 2 then s.setFld (F.TDC_STAT.STATE p) 0 else s
    (s.setTdc u { d with
      slot := none, armedAt := none, conv := [], inA := .off, inB := .off, start := none, lastEdge := none
      freeB := [], closedB := none, lapsed := none }).workDone
      k status 0 n

/-- Write the next record; the record NRES - 1 completes the set (R214). A COUNT of more than 24 bits has no stated value: a free
value. -/
def State.tdcWrite (s : State) (u : Nat) (value : Int) (count : Nat) (fallback rising : Bool) : State :=
  let d := s.tdc u
  let n := s.regN (R.TDC_DONE u)
  let c := if count < 2 ^ 24 then count else Config.freeValue s.free
  let s := if count < 2 ^ 24 then s else s.drawn
  let s := s.poolWrite (s.regN (R.TDC_RES_BASE u) + 16 * n)
    (tdcRecord (s.tdcMode u) fallback d.dropped rising c (unsigned 96 value))
  let s := (s.setReg (R.TDC_DONE u) (n + 1)).setTdc u { d with dropped := false }
  if d.nres ≤ n + 1 then s.tdcEnd u stOk else s

/-! ## Measurements (R210, R211) -/

/-- The calibrated delay of an input's path, in ticks. -/
def State.inputDelay (s : State) (u : Nat) (onB : Bool) : Int := s.trimAt (s.tdcCh u onB * 8 + 6 + s.tdcSrc u onB)

/-- Input periods between two accepted edges. -/
def State.tdcPeriods (s : State) (u a b : Nat) : Nat := (b - a) * (s.fld (F.TDC_CFG.PRESCALE u) + 1)

/-- The record of a FREQ gate from its first to its last converted edge. -/
def State.gateRecord (s : State) (u : Nat) : State :=
  let d := s.tdc u
  match d.start, d.lastEdge with
  | some a, some b =>
    if a.accepted = b.accepted then s.tdcWrite u 0 0 d.fellBack b.rising
    else s.tdcWrite u (b.time - a.time) (s.tdcPeriods u a.accepted b.accepted) d.fellBack b.rising
  | _, _ => s.tdcWrite u 0 0 false false

/-- The instant at which the current FREQ gate closes, in 2^-32 ns. -/
def State.gateEndAt (s : State) (u : Nat) : Nat := (s.tdc u).gateStart + s.regN (R.TDC_GATE u) * 2 ^ 32

/-- Close the current gate at its end and open the next one. -/
def State.gateEnd (s : State) (u : Nat) : State :=
  if s.tdcArmed u ∧ s.tdcMode u = 3 then
    let next := s.gateEndAt u
    let s := s.gateRecord u
    s.setTdc u { s.tdc u with start := none, lastEdge := none, fellBack := false, gateStart := next }
  else s

/-- Gates that end at or before an instant close, at most n of them. -/
def State.gatesUntil (s : State) (u : Nat) (t : Int) : Nat → State
  | 0 => s
  | n + 1 => if s.tdcArmed u ∧ (s.gateEndAt u : Int) ≤ t then (s.gateEnd u).gatesUntil u t n else s

/-- A converted edge in FREQ mode. -/
def State.freqEdge (s : State) (u : Nat) (c : Conversion) : State :=
  let s := s.gatesUntil u c.time ((s.tdc u).nres)
  let d := s.tdc u
  if !s.tdcArmed u || decide (c.time < (d.gateStart : Int)) then s
  else
    match d.start, d.lastEdge with
    | some a, some b =>
      if s.tdcPeriods u a.accepted c.accepted < 2 ^ 24 then
        s.setTdc u { d with lastEdge := some c, fellBack := d.fellBack || c.fallback }
      else
        let s := s.gateRecord u
        s.setTdc u { s.tdc u with
          start := some b, lastEdge := some c, fellBack := b.fallback || c.fallback, gateStart := b.time.toNat }
    | _, _ => s.setTdc u { d with start := some c, lastEdge := some c, fellBack := c.fallback }

/-- A converted edge in PERIOD mode. -/
def State.periodEdge (s : State) (u : Nat) (c : Conversion) : State :=
  let d := s.tdc u
  match d.start with
  | none => s.setTdc u { d with start := some c, fellBack := c.fallback }
  | some a =>
    if c.accepted - a.accepted < s.fld (F.TDC_PERIODS.PERIODS u) then
      s.setTdc u { d with fellBack := d.fellBack || c.fallback }
    else
      let s := s.setTdc u { d with start := some c, fellBack := c.fallback }
      s.tdcWrite u (c.time - a.time) (s.tdcPeriods u a.accepted c.accepted) (d.fellBack || c.fallback) c.rising

/-- An interval closes. -/
def State.intervalClose (s : State) (u : Nat) (a b : Conversion) : State :=
  (s.setTdc u { s.tdc u with start := none, closedB := some b.time }).tdcWrite u (b.time - a.time) 0 (a.fallback || b.fallback) b.rising

/-- Keep a B edge that closed no interval, with those before it that an A edge still to come could precede in time: the inputs' delays bound
how far. -/
def State.keepB (s : State) (u : Nat) (c : Conversion) : State :=
  let reach : Int := (s.inputDelay u false - s.inputDelay u true).natAbs * 2 ^ 19 + 2 ^ 25
  s.setTdc u { s.tdc u with freeB := ((s.tdc u).freeB.filter fun b => decide (c.time ≤ b.time + reach)) ++ [c] }

/-- A converted edge in INTERVAL mode. The two inputs' delays may differ, so an A edge can come after a B edge that is later by its time: the
first B edge kept that lies at or after it closes its interval, and an A edge that lies within the interval closed last starts none (R210,
R211). -/
def State.intervalEdge (s : State) (u : Nat) (c : Conversion) : State :=
  let d := s.tdc u
  match d.start, c.onB with
  | some a, true =>
    if a.time ≤ c.time then s.intervalClose u a c else s
  | none, true => s.keepB u c
  | some _, false => s
  | none, false =>
    if d.closedB.any fun t => decide (c.time < t) then s
    else
      let later := d.freeB.filter fun b => decide (c.time ≤ b.time)
      match later with
      | [] => s.setTdc u { d with start := some c, freeB := [] }
      | b :: rest => (s.setTdc u { d with freeB := rest }).intervalClose u c b

/-- The unit's oldest conversion ends. -/
def State.conversionDone (s : State) (u : Nat) : State :=
  match (s.tdc u).conv with
  | [] => s
  | c :: t =>
    let s := s.setTdc u { s.tdc u with conv := t }
    if !s.tdcArmed u then s
    else match s.tdcMode u with
      | 0 => s.tdcWrite u c.time 0 c.fallback c.rising
      | 1 => s.intervalEdge u c
      | 2 => s.periodEdge u c
      | _ => s.freqEdge u c

/-! ## Input conditioning (R206–R209) -/

/-- The transition that an input sees: the mode and the ring periods are those in use when it arrives (R205). -/
def State.tdcArrival (s : State) (u : Nat) (onB : Bool) (step rings : Nat) (rising : Bool) : TdcEdge :=
  let d := s.tdc (converterOf u onB)
  ⟨step, rings * (d.slow - d.fast) * 2 ^ 8, rising, s.tdcFallback (converterOf u onB)⟩

/-- Where a transition lies on the grid of phase steps of 2^25 units of 2^-32 ns, by its step and its ring count (DESIGN CHOICE, log 107). -/
def TdcEdge.instant (e : TdcEdge) : Int := (e.step : Int) * 2 ^ 25 - e.back

/-- Time of an edge in 2^-32 ns (R203): phase step, ring count, input delay of its path. -/
def State.edgeTime (s : State) (u : Nat) (onB : Bool) (e : TdcEdge) : Int :=
  let back : Int := if e.fallback then 32 * 2 ^ 19 else e.back
  (s.stepTime (u / 16) e.step - s.inputDelay u onB) * 2 ^ 19 - back

/-- A gate's end: its instant has come at the converter, behind the input's delay, and no edge of the gate waits for its width decision or
its conversion (R210). -/
def State.gateDue (s : State) (u : Nat) : Bool :=
  decide ((s.gateEndAt u : Int) + s.inputDelay u false * 2 ^ 19 ≤ s.now) &&
  ((s.tdc u).inA.waiting.all fun e => decide ((s.gateEndAt u : Int) ≤ s.edgeTime u false e)) &&
  (s.tdc u).conv.all fun c => decide ((s.gateEndAt u : Int) ≤ c.time)

/-- Stage 6: dead time, and the start of the conversion. -/
def State.tdcConvert (s : State) (u : Nat) (onB : Bool) (e : TdcEdge) : State :=
  let k := converterOf u onB
  let tooSoon := match (s.tdc k).lastConv with
    | none => false
    | some l => decide (e.instant < l + 205 * 2 ^ 25)
  if tooSoon then
    let s := (s.addSat (whole (R.TDC_DROP u)) 1).setFld (F.TDC_STAT.OVERRUN u) 1
    s.setTdc u { s.tdc u with dropped := true }
  else
    let c : Conversion := ⟨s.edgeTime u onB e, onB, e.rising, e.fallback, (s.tdc u).accepted⟩
    let s := s.setTdc k { s.tdc k with lastConv := some e.instant }
    s.setTdc u { s.tdc u with conv := (s.tdc u).conv ++ [c] }

/-- Stage 5: the prescaler, in PERIOD and FREQ modes; what it passes is accepted. -/
def State.tdcPrescale (s : State) (u : Nat) (onB : Bool) (e : TdcEdge) : State :=
  let n := (s.tdcInput u onB).prescale
  if s.tdcMode u < 2 ∨ n = s.fld (F.TDC_CFG.PRESCALE u) then
    let s := s.setTdcInput u onB { s.tdcInput u onB with prescale := 0 }
    (s.setTdc u { s.tdc u with accepted := (s.tdc u).accepted + 1 }).tdcConvert u onB e
  else s.setTdcInput u onB { s.tdcInput u onB with prescale := n + 1 }

/-- Stages 2 to 4: the level has changed; polarity and hold-off. -/
def State.tdcPassed (s : State) (u : Nat) (onB : Bool) (e : TdcEdge) : State :=
  let s := s.setTdcInput u onB { s.tdcInput u onB with stuckSince := s.clk, stuckSent := false }
  let pol := s.tdcPol u onB
  if !(pol == 2 || (pol == 0 && e.rising) || (pol == 1 && !e.rising)) then s
  else
    let held := match (s.tdcInput u onB).lastPass with
      | none => false
      | some l => decide (e.instant < l + (s.fld (F.TDC_COND.HOLDOFF u) * 64 : Nat) * 2 ^ 25)
    if held then s.addSat (F.TDC_IGN.HOLD u) 1
    else (s.setTdcInput u onB { s.tdcInput u onB with lastPass := some e.instant }).tdcPrescale u onB e

/-- A transition reaches an input (stage 1 first). An input of a unit that is not armed measures nothing. -/
def State.tdcEdge (s : State) (u : Nat) (onB : Bool) (e : TdcEdge) : State :=
  if !s.tdcArmed u || !(s.tdcInputs u).contains onB then s
  else if s.fld (F.TDC_COND.MINW u) = 0 then s.tdcPassed u onB e
  else s.setTdcInput u onB { s.tdcInput u onB with waiting := (s.tdcInput u onB).waiting ++ [e] }

/-- The minimum-width decision of an input's oldest waiting transition, MINW steps after it (R207). -/
def State.widthDecision (s : State) (u : Nat) (onB : Bool) : State :=
  let minw := s.fld (F.TDC_COND.MINW u)
  match (s.tdcInput u onB).waiting with
  | [] => s
  | [e] =>
    if (s.now : Int) < e.instant + minw * 2 ^ 25 then s
    else (s.setTdcInput u onB { s.tdcInput u onB with waiting := [] }).tdcPassed u onB e
  | e :: e2 :: t =>
    if (s.now : Int) < e.instant + minw * 2 ^ 25 then s
    else if e2.instant < e.instant + minw * 2 ^ 25 then
      (s.setTdcInput u onB { s.tdcInput u onB with waiting := t }).addSat (F.TDC_IGN.NARROW u) 1
    else (s.setTdcInput u onB { s.tdcInput u onB with waiting := e2 :: t }).tdcPassed u onB e

/-- Stuck detection of an input (R208): the level has been unchanged for TIMEOUT µs while armed. -/
def State.stuckTimeout (s : State) (u : Nat) (onB : Bool) : State :=
  let i := s.tdcInput u onB
  let t := s.fld (F.TDC_STUCK.TIMEOUT u)
  if s.tdcArmed u && (s.tdcInputs u).contains onB && t != 0 && !i.stuckSent && decide (i.stuckSince + t * 1000 ≤ s.clk) then
    ((s.setTdcInput u onB { i with stuckSent := true }).setFld (F.TDC_STAT.STUCK u) 1).signal (128 + u)
  else s

/-! ## Sets (R213–R215) -/

/-- Arming: TDC_DONE is cleared and the input stages start afresh. -/
def State.tdcArm (s : State) (u : Nat) : State :=
  let fresh : TdcInput := { TdcInput.off with stuckSince := s.clk }
  let s := (s.setReg (R.TDC_DONE u) 0).setFld (F.TDC_STAT.STATE u) 1
  s.setTdc u { s.tdc u with
    armedAt := some s.clk, inA := fresh, inB := fresh, conv := [], accepted := 0, start := none, lastEdge := none
    fellBack := false, gateStart := s.now, freeB := [], closedB := none, lapsed := none }

/-- Arm instant of a unit's settings in ns; 0: at dispatch. -/
def State.tdcStartNs (s : State) (u : Nat) : Nat := s.reg64 (R.TDC_TSTART_LO u) (R.TDC_TSTART_HI u)

/-- A dispatched set claims its unit, and in INTERVAL mode the partner; it arms at once, waits for TDC_TSTART, or completes DEADLINE
when that lies less than 1 µs after dispatch. -/
def State.tdcOpen (s : State) (u slot nres : Nat) : State :=
  let t := s.tdcStartNs u
  if t != 0 && decide (t * 2 ^ 32 < s.now + 1000 * 2 ^ 32) then s.workDone slot stDeadline 0 0
  else
    let s := s.setTdc u { s.tdc u with slot := some slot, nres := nres, armedAt := none }
    let s := if s.tdcMode u = 1 then s.setFld (F.TDC_STAT.STATE (partnerOf u)) 2 else s
    if t = 0 then s.tdcArm u else s

/-- A waiting set arms at device time TDC_TSTART. -/
def State.tdcArmDue (s : State) (u : Nat) : State :=
  if (s.tdc u).slot.isSome && (s.tdc u).armedAt.isNone && decide (s.tdcStartNs u * 2 ^ 32 ≤ s.now) then s.tdcArm u else s

/-- TIMEOUT µs after arming the set completes OK with TIMEOUT set; while conversions are in progress, at the end of the core cycle, so
that the record that completes the set wins in it (R214, R215). -/
def State.tdcTimeout (s : State) (u : Nat) : State :=
  let t := s.regN (R.TDC_TIMEOUT u)
  let d := s.tdc u
  match d.armedAt with
  | none => s
  | some a =>
    if t = 0 ∨ s.clk < a + t * 1000 ∨ d.lapsed.isSome then s
    else if d.conv.isEmpty then (s.setFld (F.TDC_STAT.TIMEOUT u) 1).tdcEnd u stOk
    else s.setTdc u { d with lapsed := some s.cycle }

/-- Timeouts of earlier core cycles end their sets. -/
def State.tdcLapses (s : State) : State :=
  (List.range 64).foldl (fun (s : State) u =>
    if (s.tdc u).lapsed.any fun c => decide (c < s.cycle) then (s.setFld (F.TDC_STAT.TIMEOUT u) 1).tdcEnd u stOk else s) s

end Sys2Proof.Machine
end

