-- ==== Sys2Proof/Machine/Fetch.lean ====
section
/-! DEFINITION. Fetch and validation of descriptors (R268–R276). -/
namespace Sys2Proof.Machine

/-! ## Descriptor bodies (R271–R273) -/

/-- The named fields of an opcode's body, as (offset, size). -/
def bodyFields (op : Nat) : List (Nat × Nat) :=
  match op with
  | 0x01 => [(0x18, 8), (0x20, 8), (0x28, 8), (0x30, 1)]
  | 0x02 => [(0x18, 8), (0x20, 1), (0x21, 1), (0x24, 4), (0x28, 4)]
  | 0x03 => [(0x18, 4), (0x1C, 4), (0x20, 2), (0x22, 1), (0x24, 2), (0x26, 2)]
  | 0x04 => [(0x18, 1)]
  | 0x05 => [(0x18, 1), (0x19, 1), (0x1A, 1), (0x1B, 1), (0x20, 8), (0x28, 4)]
  | 0x06 => [(0x18, 1), (0x1A, 2)]
  | 0x07 => [(0x18, 1), (0x1A, 2)]
  | 0x08 => [(0x18, 1), (0x1C, 4)]
  | 0x09 => [(0x18, 8), (0x20, 1), (0x21, 1), (0x24, 4)]
  | 0x0A => [(0x18, 8), (0x20, 1), (0x24, 4)]
  | 0x0B => [(0x18, 1), (0x19, 1), (0x1A, 1), (0x20, 8), (0x28, 4)]
  | 0x0C => [(0x18, 2)]
  | _ => []

/-- Whether every body byte that the opcode does not name is 0. -/
def bodyClean (d : Nat) : Bool :=
  (List.range 40).all fun i =>
    dget d (0x18 + i) 1 == 0 || (bodyFields (dOpcode d)).any fun f => decide (f.1 ≤ 0x18 + i) && decide (0x18 + i < f.1 + f.2)

/-- A NOTIFY field is well formed: [14:12] are 0 and a valid one names another slot. -/
def notifyValid (d n : Nat) : Bool := bitsOf n 12 3 == 0 && (!bitOf n 15 || n % 4096 != dSlot d)

/-- Step 1 of R274: the header. -/
def headerOk (d : Nat) : Bool :=
  decide (1 ≤ dOpcode d) && decide (dOpcode d ≤ 0x0D) && decide (dFlags d < 2) && decide (dFlow d < 32) && dget d 3 1 == 0 &&
  decide (dSlot d < 4096) && bodyClean d &&
  (if dOpcode d = 0x0C then dSlot d == 0 && dWaits d == 0 && dNotify0 d == 0 && dNotify1 d == 0 && dDeadline d == 0
   else notifyValid d (dNotify0 d) && notifyValid d (dNotify1 d))

/-! ## Opcode checks (Table — Opcode checks and results) -/

/-- Whether a space number names a space. -/
def spaceValid (sp : Nat) : Bool := decide (sp < 3)

/-- Whether a pool or deep start lies in an allocation; a host address needs none. -/
def State.startHeld (s : State) (sp a : Nat) : Bool :=
  sp == 0 || (if sp = 1 then (s.poolHolding a 1).isSome else (s.deepHolding a 1).isSome)

/-- Whether a range ends within the allocation that holds its start. -/
def State.rangeHeld (s : State) (sp a n : Nat) : Bool :=
  sp == 0 || (if sp = 1 then (s.poolHolding a n).isSome else (s.deepHolding a n).isSome)

/-- Whether a range touches a protected allocation. -/
def State.touchesProt (s : State) (sp a n : Nat) : Bool :=
  if sp = 1 then s.poolAllocs.any fun p => p.prot && rangesOverlap p.base p.bytes a n
  else if sp = 2 then s.deepAllocs.any fun p => p.prot && rangesOverlap p.base p.bytes a n
  else false

def mvSrc (d : Nat) : Nat := dget d 0x18 8
def mvDst (d : Nat) : Nat := dget d 0x20 8
def mvLen (d : Nat) : Nat := dget d 0x28 8
def mvFrom (d : Nat) : Nat := dget d 0x30 1 % 4
def mvTo (d : Nat) : Nat := dget d 0x30 1 / 4 % 4

/-- The fetch checks of MOVE. A LEN of 0, which Table — Descriptor bodies shuts out, fails check 1 (DEDUCED, log 7). -/
def State.moveFetch (s : State) (d : Nat) : Option (Nat × Nat) :=
  let n := mvLen d
  if !(spaceValid (mvFrom d) && spaceValid (mvTo d) && decide (dget d 0x30 1 < 16) && !(mvFrom d == 0 && mvTo d == 0) &&
      n != 0 && s.startHeld (mvFrom d) (mvSrc d) && s.startHeld (mvTo d) (mvDst d)) then
    some (stInconsistent, 1)
  else if s.touchesProt (mvFrom d) (mvSrc d) n || s.touchesProt (mvTo d) (mvDst d) n then some (stAuthFail, 2)
  else if !(s.rangeHeld (mvFrom d) (mvSrc d) n && s.rangeHeld (mvTo d) (mvDst d) n) then some (stTooLarge, 3)
  else if mvFrom d = mvTo d ∧ rangesOverlap (mvSrc d) n (mvDst d) n then some (stInconsistent, 4)
  else none

/-- Entry size and bytes of a table space by TSPACE. -/
def tableEntry (t : Nat) : Nat := if t = 0 then 32 else if t = 1 then 4 else 8
def tableSize (t : Nat) : Nat :=
  match t with | 0 => 2 ^ 21 | 1 => 2 ^ 14 | 2 => 2 ^ 15 | 3 => 2 ^ 17 | 4 => 2 ^ 15 | _ => 2 ^ 17

def twSrc (d : Nat) : Nat := dget d 0x18 8
def twFrom (d : Nat) : Nat := dget d 0x20 1
def twSpace (d : Nat) : Nat := dget d 0x21 1
def twOffset (d : Nat) : Nat := dget d 0x24 4
def twLen (d : Nat) : Nat := dget d 0x28 4

/-- The fetch checks of TABLE_WRITE: check 1 asks that neither OFFSET nor LEN be 0 (log 24). A pool source that runs beyond its allocation is judged by check 2, and a protected source is
refused as MOVE refuses one, with DETAIL 3 (both DEDUCED, log 7). -/
def State.tableFetch (s : State) (d : Nat) : Option (Nat × Nat) :=
  let e := tableEntry (twSpace d)
  if !(decide (twSpace d ≤ 5) && twOffset d % e == 0 && twOffset d != 0 && twLen d % e == 0 && twLen d != 0 && decide (twFrom d ≤ 1) &&
      s.startHeld (twFrom d) (twSrc d)) then some (stInconsistent, 1)
  else if !(decide (twOffset d + twLen d ≤ tableSize (twSpace d)) && s.rangeHeld (twFrom d) (twSrc d) (twLen d)) then
    some (stTooLarge, 2)
  else if s.touchesProt (twFrom d) (twSrc d) (twLen d) then some (stAuthFail, 3)
  else none

def State.unloadFetch (s : State) (d : Nat) : Option (Nat × Nat) :=
  let sg := dget d 0x18 1
  if sg < 64 ∧ (s.engine sg).sec.isSome ∧ s.eState sg = 0 then none else some (stInconsistent, 1)

def buSg (d : Nat) : Nat := dget d 0x18 1
def buEntry (d : Nat) : Nat := dget d 0x19 1
def buStart (d : Nat) : Nat := dget d 0x1A 1
def buTt (d : Nat) : Nat := dget d 0x1B 1

def burstFetch (d : Nat) : Option (Nat × Nat) :=
  if buSg d < 64 ∧ buStart d ≤ 2 ∧ buEntry d ≤ 15 ∧ (buStart d ≠ 2 ∨ buTt d ≤ 3) then none else some (stInconsistent, 1)

/-- UNIT and count of CAPTURE and MEASURE. -/
def duUnit (d : Nat) : Nat := dget d 0x18 1
def duCount (d : Nat) : Nat := dget d 0x1A 2

def State.captureFetch (s : State) (d : Nat) : Option (Nat × Nat) :=
  let u := duUnit d
  if !(decide (u < 16) && s.flag (F.AQ_CFG.EN u) && duCount d != 0) then some (stInconsistent, 1)
  else if !s.aqFits u (duCount d) then some (stTooLarge, 2)
  else none

def State.measureFetch (s : State) (d : Nat) : Option (Nat × Nat) :=
  let u := duUnit d
  if !(decide (u < 64) && s.flag (F.TDC_CFG.EN u) && duCount d != 0) then some (stInconsistent, 1)
  else if s.regN (R.TDC_RES_SIZE u) * 4096 < duCount d * 16 then some (stTooLarge, 2)
  else none

def dsCpx (d : Nat) : Nat := dget d 0x18 1
def dsJob (d : Nat) : Nat := dget d 0x1C 4

def State.dspFetch (s : State) (d : Nat) : Option (Nat × Nat) :=
  if 8 ≤ dsCpx d then some (stInconsistent, 1) else s.jobChecks (dsCpx d) (dsJob d)

def rfSrc (d : Nat) : Nat := dget d 0x18 8
def rfFrom (d : Nat) : Nat := dget d 0x20 1
def rfUnit (d : Nat) : Nat := dget d 0x21 1
def rfCount (d : Nat) : Nat := dget d 0x24 4

/-- Bytes of refills of a unit that are fetched and not yet written (R276). -/
def State.refillsOpen (s : State) (u : Nat) : Nat :=
  sumNat (s.slots.map fun p =>
    if p.2.state ≠ .empty ∧ p.2.state ≠ .finished ∧ p.2.done.isNone ∧ dOpcode p.2.desc = 0x09 ∧ rfUnit p.2.desc = u then
      rfCount p.2.desc - p.2.moved
    else 0)

/-- The validation of R168, its items numbered in their order there, the unit, space and source with the last (DEDUCED, log 7). -/
def State.refillFetch (s : State) (d : Nat) : Option (Nat × Nat) :=
  let u := rfUnit d
  if 16 ≤ u then some (stInconsistent, 3)
  else
    let cap := s.ringSize u - 32
    if cap < rfCount d then some (stTooLarge, 1)
    else if cap < s.ringFilled u + s.refillsOpen u + rfCount d then some (stFull, 2)
    else if !(rfCount d % 32 == 0 && decide (rfFrom d ≤ 1) && s.rangeHeld (rfFrom d) (rfSrc d) (max (rfCount d) 1)) then
      some (stInconsistent, 3)
    else if s.touchesProt (rfFrom d) (rfSrc d) (rfCount d) then some (stAuthFail, 4)
    else none

def luDst (d : Nat) : Nat := dget d 0x18 8
def luStream (d : Nat) : Nat := dget d 0x20 1
def luMax (d : Nat) : Nat := dget d 0x24 4

def State.uploadFetch (s : State) (d : Nat) : Option (Nat × Nat) :=
  let st := luStream d
  if st < 4 ∧ s.flag (F.CMP_LOG_CFG.EN st) ∧ luMax d % s.regionUnit st = 0 then none else some (stInconsistent, 1)

def tkBank (d : Nat) : Nat := dget d 0x18 1
def tkWhen (d : Nat) : Nat := dget d 0x19 1
def tkSg (d : Nat) : Nat := dget d 0x1A 1
def tkAt (d : Nat) : Nat := dget d 0x20 8
def tkFrac (d : Nat) : Nat := dget d 0x28 4

def tackFetch (d : Nat) : Option (Nat × Nat) :=
  if tkBank d ≤ 1 ∧ tkWhen d ≤ 2 ∧ (tkWhen d ≠ 1 ∨ tkSg d < 64) then none else some (stInconsistent, 1)

def cnTarget (d : Nat) : Nat := dget d 0x18 2

def State.cancelFetch (s : State) (d : Nat) : Option (Nat × Nat) :=
  if 4096 ≤ cnTarget d then some (stInconsistent, 1)
  else if (s.slot (cnTarget d)).state = .empty then some (stNotPresent, 2)
  else none

/-- Step 2 of R274: the opcode's fetch checks, the first that fails with its status. -/
def State.opcodeFetch (s : State) (d : Nat) : Option (Nat × Nat) :=
  match dOpcode d with
  | 0x01 => s.moveFetch d
  | 0x02 => s.tableFetch d
  | 0x03 => s.loadFetch d
  | 0x04 => s.unloadFetch d
  | 0x05 => burstFetch d
  | 0x06 => s.captureFetch d
  | 0x07 => s.measureFetch d
  | 0x08 => s.dspFetch d
  | 0x09 => s.refillFetch d
  | 0x0A => s.uploadFetch d
  | 0x0B => tackFetch d
  | 0x0C => s.cancelFetch d
  | _ => none

/-- The five steps of R274: the first failure as (status, DETAIL). -/
def State.validate (s : State) (d : Nat) : Option (Nat × Nat) :=
  if !headerOk d then some (stInconsistent, 0x10)
  else match s.opcodeFetch d with
    | some f => some f
    | none =>
      if dOpcode d = 0x0C then none
      else if (s.slot (dSlot d)).state ≠ .empty then some (stFull, 0x11)
      else if s.fld (F.SCH_FLOW_CFG.LIMIT (dFlow d)) ≤ s.fld (F.SCH_FLOW_STAT.HELD (dFlow d)) then some (stFull, 0x12)
      else if dWaits d < (s.slot (dSlot d)).count then some (stInconsistent, 0x13)
      else none

/-! ## From descriptor to task (R288–R291, R301) -/

/-- A validated descriptor becomes a task in its slot, less the slot's credits; a count of 0 makes it READY, and a deadline that has
passed ends it. -/
def State.newTask (s : State) (ring d : Nat) : State :=
  let k := dSlot d
  let count := dWaits d - (s.slot k).count
  let s := s.setSlot k { Task.none with state := .waiting, count := count, desc := d, ring := ring, order := s.fetched }
  let s := { s with fetched := s.fetched + 1 }
  let s := s.setFld (F.SCH_FLOW_STAT.HELD (dFlow d)) (s.fld (F.SCH_FLOW_STAT.HELD (dFlow d)) + 1)
  let s := if count = 0 then s.makeReady k else s
  if dDeadline d ≠ 0 ∧ dDeadline d * 2 ^ 32 ≤ s.now then s.finish k stDeadline 0 0 else s

/-- A descriptor refused at fetch completes at once; its NOTIFY slots follow its flow's policy, and step 5 clears the slot's
credits. -/
def State.refuseFetch (s : State) (ring d status detail : Nat) : State :=
  let s := if detail = 0x13 then s.setSlot (dSlot d) { s.slot (dSlot d) with count := 0 } else s
  (s.post ring d status detail 0 true).cascadeFrom d

/-- The tail as a fetch sees it: the one from before the core cycle's doorbells (R269). -/
def Ring.fetchTail (r : Ring) (cycle : Nat) : Nat := if r.tailAt = some cycle then r.tailWas else r.sqTail

/-- Whether a ring has a descriptor to fetch and its CQ has room for the completion (R267, R268); only in service, and in P0 or P1
(R445, R457). -/
def State.mayFetch (s : State) (k : Nat) : Bool :=
  s.fld F.SYS_BOOT_STATE.STATE == 8 && decide (s.fld F.SYS_PWR.STATE < 2) && s.fld (F.HIF_RING_STAT.STATE k) == 1 &&
  s.fld (F.HIF_RING_POS.SQHEAD k) != (s.ring k).fetchTail s.cycle &&
  decide (s.fld (F.HIF_RING_STAT.OUTSTANDING k) + (s.ring k).unreleased < s.cqSize k)

/-- Take one descriptor that was read. -/
def State.takeDescriptor (s : State) (k d : Nat) : State :=
  match s.validate d with
  | some f => s.refuseFetch k d f.1 f.2
  | none =>
    if dOpcode d = 0x0C then { s with cancels := s.cancels ++ [⟨cnTarget d, d, k, false, none⟩] }
    else s.newTask k d

/-- How many descriptors one read request takes: up to 8, while the SQ holds more and the CQ has room (R268). -/
def State.fetchCount (s : State) (k : Nat) : Nat :=
  let held := ((s.ring k).fetchTail s.cycle + s.sqSize k - s.fld (F.HIF_RING_POS.SQHEAD k)) % s.sqSize k
  min 8 (min held (s.cqSize k - (s.fld (F.HIF_RING_STAT.OUTSTANDING k) + (s.ring k).unreleased)))

/-- One read request: the descriptors are read, the head passes them, and each is validated in SQ order (R268, R274). -/
def State.fetchRequest (s : State) (k : Nat) : State :=
  if s.mayFetch k then
    let n := s.fetchCount k
    let head := s.fld (F.HIF_RING_POS.SQHEAD k)
    let ds := (List.range n).map fun i => ofBytes (s.hostRead (s.sqEntry k ((head + i) % s.sqSize k)) 64)
    let s := s.setFld (F.HIF_RING_POS.SQHEAD k) ((head + n) % s.sqSize k)
    let s := (s.setFld (F.HIF_RING_STAT.OUTSTANDING k) (s.fld (F.HIF_RING_STAT.OUTSTANDING k) + n)).bwBytes 8 (64 * n)
    ds.foldl (fun s d => s.takeDescriptor k d) s
  else s

end Sys2Proof.Machine
end

