-- ==== Sys2Proof/Machine/Checking.lean ====
section
/-! DEFINITION. Dispatch: resources, dispatch checks, Reef's grants and reservations, entry into RUNNING, deadlines (R24–R27,
R186, R213, R223, R289–R302, R313–R317). -/
namespace Sys2Proof.Machine

/-! ## Companions and fences (R344–R346) -/

/-- The companion slot a channel is bound to; 15: unbound (R344). -/
def State.bindSlot (s : State) (ch : Nat) : Nat := bitsOf (s.regN (R.PEM_Q_BIND (ch / 64) (ch % 64 / 8))) (4 * (ch % 8)) 4

/-- Whether a channel is bound to a present companion. -/
def State.boundPresent (s : State) (ch : Nat) : Bool :=
  s.bindSlot ch != 15 && s.fld (F.PEM_Q_SLOT_STAT.STATE (ch / 64) (s.bindSlot ch)) == 2

/-- Whether the collector or the block's own chapter holds the block of a source fenced. -/
def State.srcFenced (s : State) (n : Nat) : Bool := (s.source n).fenced

/-- Whether the block of a source is in a block reset or out of service for its self-check. -/
def State.inReset (s : State) (n : Nat) : Bool := (s.source n).resetting.isSome || (s.source n).checking.isSome

/-- Whether a deep allocation is LOST or lies on a fenced controller. -/
def State.deepGone (s : State) (a : DeepAlloc) : Bool := a.lost || (controllers a.chmask).any s.dramFenced

/-! ## Free resources (R294) -/

/-- Whether a task of a resource is in CHECKING. -/
def State.checkingOf (s : State) (r : Resource) : Bool :=
  s.slots.any fun p => p.2.state == .checking && taskResource p.2.desc == r

/-- Whether an INTERVAL set at the head of the partner's list comes before a task and so holds this unit's list (R295). -/
def State.heldByPartner (s : State) (u : Nat) (t : Task) : Bool :=
  s.tdcMode (partnerOf u) == 1 &&
  match s.readyHead (.tdc (Fin.ofNat 64 (partnerOf u))) with
  | none => false
  | some k => readyBefore (s.slot k) t

/-- Whether a time-interval unit holds no set and serves no partner. -/
def State.tdcIdle (s : State) (u : Nat) : Bool := s.fld (F.TDC_STAT.STATE u) == 0 && (s.tdc u).slot.isNone

/-- The units that a measurement set of a unit claims (R211). -/
def State.tdcClaims (s : State) (u : Nat) : List Nat := if s.tdcMode u = 1 then [u, partnerOf u] else [u]

/-- Whether a measurement set in CHECKING or RUNNING, apart from the one in a slot, claims a unit (R211, R295). -/
def State.tdcClaimed (s : State) (v : Nat) (own : Option Nat) : Bool :=
  s.slots.any fun p => (p.2.state == .checking || p.2.state == .running) && own != some p.1 &&
    match taskResource p.2.desc with
    | .tdc w => (s.tdcClaims w.val).contains v
    | _ => false

/-- Whether every unit that a set claims is free (R211, R294): a fenced unit counts as free. -/
def State.tdcFree (s : State) (u : Nat) (own : Option Nat) : Bool :=
  (s.tdcClaims u).all fun v =>
    !s.inReset (160 + v) && (s.srcFenced (160 + v) || (s.tdcIdle v && !s.tdcClaimed v own))

/-- Whether the boot and power state let work of a resource begin (R445, R457): only in service; P1 holds back the pattern domain, P2
and P3 everything. -/
def State.powered (s : State) (r : Resource) : Bool :=
  s.fld F.SYS_BOOT_STATE.STATE == 8 &&
  match s.fld F.SYS_PWR.STATE, r with
  | 0, _ => true
  | 1, .engine _ => false
  | 1, .acq _ => false
  | 1, .tdc _ => false
  | 1, _ => true
  | _, _ => false

/-- Whether a resource is free for a task (R294, R295): a fenced one counts as free, one in a block reset does not. -/
def State.isFree (s : State) (r : Resource) (t : Task) : Bool :=
  s.powered r &&
  match r with
  | .engine sg =>
    s.shroud.erase.isNone && (s.eState sg.val == 0 || s.eState sg.val == 4) && !s.checkingOf r && !s.inReset sg.val &&
    (s.eState sg.val == 4 || !s.holds r)
  | .acq u => !s.checkingOf r && !s.inReset (144 + u.val) && (s.srcFenced (144 + u.val) || !s.holds r)
  | .tdc u =>
    !s.checkingOf r && !s.heldByPartner u.val t && s.tdcFree u.val none
  | .cpx p => !s.checkingOf r && !s.inReset (224 + p.val) && (s.fld (F.CPX_STAT.STATE p.val) == 2 || !s.holds r)
  | .moveEngine => s.idleEngines != [] || s.allMoveFenced
  | .loader => s.shroud.erase.isNone && !s.holds r && !s.inReset 262
  | .tack => !s.holds r
  | .none => true

/-- Whether a cancel of a task is registered and has not acted (R299). -/
def State.cancelDue (s : State) (k : Nat) : Bool := s.cancels.any fun c => c.target == k && !c.acted && c.released.isNone

/-! ## Reef's costs (R314) -/

/-- The rate in MB/s at which a group's streamed section is read: the greatest of its entries' bytes over their lines' time
(DEDUCED, log 8). -/
def State.streamRate (s : State) (sg : Nat) : Nat :=
  (List.range (s.streamCount sg)).foldl (fun m i =>
    max m (ceilDiv (s.streamEntry sg i 8 8 * 8192 * 1000) (max 1 (s.streamEntry sg i 0x10 8 * s.period sg)))) 0

/-- The deep allocation of a group's streamed section. -/
def State.streamAlloc (s : State) (sg : Nat) : Option DeepAlloc :=
  if s.streams sg then (s.engine sg).sec.bind fun c => c.da.bind s.deepAlloc else none

/-- Cost of a burst. -/
def State.burstCost (s : State) (sg : Nat) : Nat :=
  3 + (s.members sg).length * (if s.psub sg < 1024 then 2 else 1) + (unitsServing fun u => s.srcServes u sg).length +
  (unitsServing fun u => s.modServes u sg).length + (if s.streams sg then streamCharge (s.streamRate sg) else 0)

/-- Cost of a capture. -/
def State.captureCost (s : State) (u : Nat) : Nat :=
  2 + (if s.flag (F.AQ_CFG.SPILL u) then streamCharge (s.aqRate u * 1000) else 0)

/-! ## Dispatch checks -/

/-- What the checks before the grant say: refused with a status and DETAIL, a grant to ask for, or nothing more to check. -/
inductive Verdict where
  | refuse (status detail : Nat)
  | grant (cost : Nat)
  | run
deriving DecidableEq, Repr

/-- The arm lead in ns (R26). -/
def State.armLead (s : State) (sg : Nat) : Nat := if s.streams sg then 20000 else 4000

/-- Enable of a time trigger. -/
def State.ttEnabled (s : State) (n : Nat) : Bool := s.flag (F.TT_CFG.EN n)

/-- Time trigger n beside its registers. -/
def State.trigger (s : State) (n : Nat) : Trigger := Sparse.get (fun _ => Trigger.off) s.clock.tts n
def State.setTrigger (s : State) (n : Nat) (t : Trigger) : State :=
  { s with clock := { s.clock with tts := Sparse.set (fun _ => Trigger.off) s.clock.tts n t } }

/-- Instant of firing k of a trigger in 2^-32 ns, and whether there is a firing k (R362). -/
def State.ttInstant (s : State) (n k : Nat) : Nat :=
  (s.reg64 (R.TT_START_LO n) (R.TT_START_HI n) + k * s.reg64 (R.TT_PERIOD_LO n) (R.TT_PERIOD_HI n)) * 2 ^ 32 +
  s.regN (R.TT_START_FRAC n)
def State.ttHas (s : State) (n k : Nat) : Bool :=
  if s.flag (F.TT_CFG.MODE n) then s.regN (R.TT_COUNT n) == 0 || decide (k < s.regN (R.TT_COUNT n)) else k == 0

/-- The first k whose instant lies at or after an instant. -/
def State.ttFirst (s : State) (n after : Nat) : Nat :=
  let start := s.ttInstant n 0
  if after ≤ start then 0
  else if s.flag (F.TT_CFG.MODE n) then ceilDiv (after - start) (s.reg64 (R.TT_PERIOD_LO n) (R.TT_PERIOD_HI n) * 2 ^ 32) else 1

/-- The first firing of a time trigger at or after an instant, in 2^-32 ns, committed or still to be (R276, R362). -/
def State.ttFiring (s : State) (n after : Nat) : Option Nat :=
  let t := s.trigger n
  match t.committed.find? fun i => decide (after ≤ i) with
  | some i => some i
  | none =>
    let k := max t.next (s.ttFirst n after)
    if s.ttEnabled n && !t.stopping && s.ttHas n k then some (s.ttInstant n k) else none

/-- The start instant in ticks of a burst dispatched now, if its descriptor fixes one (R27, R276). -/
def State.startOf (s : State) (d : Nat) : Option Nat :=
  match buStart d with
  | 0 => some (toTick (s.now + s.armLead (buSg d) * 2 ^ 32))
  | 1 => some (toTick (dget d 0x20 8 * 2 ^ 32 + dget d 0x28 4))
  | _ => none

/-- The start instant in ticks that a burst dispatched now gets: that of its descriptor, or its trigger's first firing after the arm lead
(R276). -/
def State.startAt (s : State) (d : Nat) : Option Nat :=
  match buStart d with
  | 2 => (s.ttFiring (buTt d) (s.now + s.armLead (buSg d) * 2 ^ 32)).map toTick
  | _ => s.startOf d

/-- The settings that check 4 judges: values a Tack has committed for a group count, and so does a Tack whose instant is the start
instant (R25). -/
def State.viewAt (s : State) (d : Nat) : State :=
  let s := s.committed
  match s.tack with
  | none => s
  | some t =>
    let td := (s.slot t.slot).desc
    if t.passed && tkWhen td == 2 && s.startAt d == some (toTick (tkAt td * 2 ^ 32 + tkFrac td)) then
      s.overlay (s.bank t.bank).vals
    else s

/-- Whether an instruction of a burst's section breaks R150 or R178. -/
def State.instrDisabled (s : State) (sg w : Nat) : Bool :=
  match iOp w with
  | 0x0A => !s.flag (F.RCT_RCFG.EN sg (iX w))
  | 0x0C => iX w != 1 && decide (s.fld (F.SRC_TABLEN.SEQCOUNT (iA w % 16)) ≤ bitsOf (iA w) 4 20)
  | _ => false

/-- Check 4 of R24. -/
def State.burstReady (s : State) (d : Nat) : Bool :=
  let sg := buSg d
  let s := s.viewAt d
  let valid (t : Nat) : Bool := bitOf (s.regN (R.TS_VALID sg (t / 32))) (t % 32)
  decide (buEntry d < s.entryCount sg) && s.flag (F.PG_CFG.EN sg) &&
  (s.bits256 (R.TS_USED sg)).all valid && valid (s.fld (F.SE_SAFE.SAFE_TS sg)) &&
  ((bitsSet 16 (s.sec sg 0x2C 4 / 2 ^ 16)).all fun u => s.modServes u sg) &&
  !(s.instrWords sg).any (s.instrDisabled sg)

/-- Whether a burst of a group names a fenced resource (check 2 of R24, R246). -/
def State.burstFenced (s : State) (sg : Nat) : Bool :=
  s.eState sg == 4 || (s.members sg).any s.channelFenced ||
  (match s.streamAlloc sg with | some a => s.deepGone a | none => false) ||
  ((List.range 16).any fun u => (s.srcServes u sg && s.srcFenced (112 + u)) || (s.modServes u sg && s.srcFenced (128 + u))) ||
  (List.range 32).any fun u => s.cvServes u sg && s.srcFenced (80 + u)

/-- Checks 1 to 4 of R24, then the cost. -/
def State.burstVerdict (s : State) (d : Nat) : Verdict :=
  let sg := buSg d
  if (s.engine sg).sec.isNone then .refuse stAuthFail 1
  else if s.burstFenced sg then .refuse stFenced 2
  else if !(s.members sg).all s.boundPresent then .refuse stNotPresent 3
  else if !s.burstReady d then .refuse stInconsistent 4
  else .grant (s.committed.burstCost sg)

/-- Whether a capture names a fenced resource (R7, R246). -/
def State.captureFenced (s : State) (u : Nat) : Bool :=
  s.srcFenced (144 + u) || (s.flag (F.AQ_CFG.SPILL u) && match s.aqSpillAlloc u with | some a => s.deepGone a | none => false)

/-- Check 3 of R186, then the cost. -/
def State.captureVerdict (s : State) (u : Nat) : Verdict :=
  if s.captureFenced u then .refuse stFenced 3 else .grant (s.committed.captureCost u)

/-- Input channels of a measurement set. -/
def State.tdcChannels (s : State) (u : Nat) : List Nat := (s.tdcInputs u).map (s.tdcCh u)

/-- Whether a measurement set names a fenced resource (R7). -/
def State.measureFenced (s : State) (u : Nat) : Bool :=
  (s.tdcClaims u).any (fun v => s.srcFenced (160 + v)) || (s.tdcChannels u).any s.channelFenced

/-- Checks 3 and 4 of R213, then the cost. -/
def State.measureVerdict (s : State) (u : Nat) : Verdict :=
  if s.measureFenced u then .refuse stFenced 3
  else if !(s.tdcChannels u).all s.boundPresent then .refuse stNotPresent 4
  else .grant (s.tdcClaims u).length

/-- Check 5 of R223, then the cost. -/
def State.dspVerdict (s : State) (p : Nat) : Verdict :=
  if s.fld (F.CPX_STAT.STATE p) = 2 then .refuse stFenced 5 else .grant 10

/-- Whether a move-engine task names a fenced source unit or a log region that is LOST (R7, R246). -/
def State.blockGone (s : State) (d : Nat) : Bool :=
  match dOpcode d with
  | 0x09 => s.srcFenced (112 + rfUnit d)
  | 0x0A => s.regionLost (luStream d)
  | _ => false

/-- The re-check of a task's allocations at its dispatch: protection, and LOST or fenced resources (R7, R246, log 9). -/
def State.rangesVerdict (s : State) (d : Nat) : Verdict :=
  let prot := ((s.taskRanges 1 d).any fun r => s.touchesProt 1 r.1 r.2) || (s.taskRanges 2 d).any fun r => s.touchesProt 2 r.1 r.2
  let gone := (s.taskRanges 2 d).any fun r => match s.deepHolding r.1 1 with | some a => s.deepGone a | none => false
  if prot then .refuse stAuthFail 2 else if gone || s.blockGone d || s.allMoveFenced then .refuse stFenced 0 else .run

/-- A LOAD at its dispatch: check 1 and 2 again, a LOST or fenced DEEP_DA, then checks 3 to 7 of R418. -/
def State.loadVerdict (s : State) (d : Nat) : Verdict :=
  match s.loadFetch d with
  | some f => .refuse f.1 f.2
  | none =>
    let gone := match (ldDa d).bind s.deepAlloc with | some a => s.deepGone a | none => false
    if gone then .refuse stFenced 0
    else match s.loadChecks d with
      | some f => .refuse f.1 f.2
      | none => .run

/-- The dispatch checks of a task up to its grant. -/
def State.verdict (s : State) (k : Nat) : Verdict :=
  let d := (s.slot k).desc
  match dOpcode d with
  | 0x03 => (s.setSlot k Task.none).loadVerdict d
  | 0x04 => match s.unloadFetch d with | some f => .refuse f.1 f.2 | none => .run
  | 0x05 => s.burstVerdict d
  | 0x06 => s.captureVerdict (duUnit d)
  | 0x07 => s.measureVerdict (duUnit d)
  | 0x08 => s.dspVerdict (dsCpx d)
  | 0x0D => .run
  | _ => s.rangesVerdict d

/-! ## Entry into RUNNING (R289, R391) -/

/-- Crow's Nest number of a dispatch: bursts, DSP jobs, moves, other tasks. -/
def dispatchEvent (op : Nat) : Nat :=
  if op = 0x05 then 288 else if op = 0x08 then 289 else if taskResource op = .moveEngine then 290 else 291

/-- Whether tasks of an opcode have a journal entry (R391, R392). -/
def journalled (op : Nat) : Bool := op != 0x05 && op != 0x07 && op != 0x0D

/-- The task passes into RUNNING: dispatch instant, journal entry with a DSP job's accumulators and AOV bits, and for a TABLE_WRITE
the bank that WBANK names (R306). -/
def State.enterRunning (s : State) (k : Nat) : State :=
  let t := s.slot k
  let op := dOpcode t.desc
  let keep := if op = 0x08 then s.jobJournal (dsCpx t.desc) (s.job (dsJob t.desc))
    else if op = 0x02 then [s.fld F.TCK_CTRL.WBANK] else []
  let s := s.setSlot k { t with state := .running, dispatch := s.now, journal := keep, moved := 0 }
  let s := if journalled op then { s with journal := s.journal ++ [k] } else s
  (s.setFld F.FLT_STAT.JOURNAL s.journal.length).count (dispatchEvent op) 1

/-- The engine of a dispatched burst is ARMED (R59): its start, or the trigger it waits for; Backstay flags clear and a paired
burst sends ARM (R399). -/
def State.arm (s : State) (k : Nat) (start : Option Nat) : State :=
  let d := (s.slot k).desc
  let sg := buSg d
  let e := s.engine sg
  let s := (s.setFld (F.SE_STATE.STATE sg) 1).setReg (R.SE_CAUSE sg) 0
  let s := s.setReg (R.BKS_SGSTAT sg) (s.fld (F.BKS_SGSTAT.PBURST sg))
  let s := s.microArm sg (s.entryAddr sg (buEntry d))
  let s := s.setEngine sg { e with
    slot := some k, begun := false, start := start, trigger := if buStart d = 2 then some (buTt d) else none, pc := s.entryAddr sg (buEntry d)
    stream := if s.streams sg then some (Stream.fresh 0) else none, streamOpen := false, nextEntry := 0
    cur := none, endOffered := false }
  s

/-- TIM_STAT.STATE (R360): 0 FREE, 1 MASTER, 2 UNSYNCED, 3 SYNCED, 4 SLEWING, 5 HOLDOVER, 6 REFUSING. -/
def State.timeState (s : State) : Nat := s.fld F.TIM_STAT.STATE

/-- Whether the device is synchronised (R360). -/
def State.synchronised (s : State) : Bool := s.timeState == 1 || s.timeState == 3 || s.timeState == 5

/-- Bytes 0x18 to 0x2F of a BURST descriptor. -/
def burstBody (d : Nat) : List Byte := (toBytes 64 d).drop 0x18 |>.take 0x18

/-- CRC-64/ECMA-182 (preset 4) of a byte string from a register value, most significant bit of a byte first. -/
def crc64From (reg : Nat) (bs : List Byte) : Nat :=
  bs.foldl (fun r b => (List.range 8).foldl (fun r i => crcStep 64 (crcPoly 4) false r (bitOf b.toNat (7 - i))) r) reg

/-- The DIGEST field of an ARM frame (R398). -/
def State.armDigest (s : State) (d : Nat) : Nat := s.fld F.BKS_CFG.ROLE * 2 ^ 62 + crc64From 0 (burstBody d) % 2 ^ 62

/-- The start instant in whole ns that an ARM frame carries. -/
def armNs (start : Option Nat) : Nat := (start.getD 0) / 8192

/-- A paired burst in ARMED is matched as soon as the partner's ARM is here, at least 2 µs before the start instant (R399). -/
def State.pairMatch (s : State) (sg : Nat) : State :=
  let v := s.pair sg
  match s.eState sg, (s.engine sg).slot, (s.engine sg).start, v.arm with
  | 1, some k, some t, some (ns, crc, role) =>
    let own := s.armDigest (s.slot k).desc
    if s.paired sg && !v.matched && ns == armNs (some t) && crc == own % 2 ^ 62 && role + own / 2 ^ 62 == 3 && role != 0 && role != 3 &&
        s.synchronised && decide (toTick s.now + 2000 * 8192 ≤ t) then
      (s.setPair sg { v with matched := true }).setFld (F.BKS_SGSTAT.PAIRED sg) 1
    else s
  | _, _, _, _ => s

/-- A paired burst that has entered ARMED sends ARM (R399). The partner's ARM may have come before it. -/
def State.sendArm (s : State) (k : Nat) (start : Option Nat) : State :=
  let d := (s.slot k).desc
  let sg := buSg d
  if s.paired sg then
    let s := s.setPair sg { PairSg.off with arm := (s.pair sg).arm }
    (s.sendPair 1 sg (armNs start) (s.armDigest d)).pairMatch sg
  else s

/-- A task starts its work on its resource. -/
def State.beginWork (s : State) (k : Nat) : State :=
  let d := (s.slot k).desc
  match dOpcode d with
  | 0x05 =>
    let start := s.startAt d
    (s.arm k start).sendArm k start
  | 0x06 => s.aqOpen (duUnit d) k (duCount d)
  | 0x07 => s.tdcOpen (duUnit d) k (duCount d)
  | 0x08 => s.jobStart (dsCpx d) k (s.job (dsJob d))
  | _ => s

/-- The banks, as a mask, whose calibration the dispatch of a task abandons (R374). -/
def State.dispatchBanks (s : State) (d : Nat) : Nat :=
  let maskOf (banks : List Nat) : Nat := banks.foldl setBit 0
  match dOpcode d with
  | 0x05 => maskOf (s.banksOf (buSg d))
  | 0x06 => maskOf [duUnit d]
  | 0x07 => maskOf ((s.tdcClaims (duUnit d)).map (· / 4) ++ (s.tdcChannels (duUnit d)).map (· / 16))
  | _ => 0

/-- A task passes its last check at this instant: into RUNNING, unless its deadline has gone by (R301). -/
def State.dispatch (s : State) (k : Nat) : State :=
  let t := s.slot k
  if dDeadline t.desc ≠ 0 ∧ dDeadline t.desc < s.ns then s.finish k stDeadline 0 0
  else ((s.abandonBanks (s.dispatchBanks t.desc)).enterRunning k).beginWork k

/-- The check by which a task that waited for its grant is refused, when a resource it names has been fenced meanwhile (R7). -/
def State.fencedSince (s : State) (d : Nat) : Option Nat :=
  match dOpcode d with
  | 0x05 => if s.burstFenced (buSg d) then some 2 else none
  | 0x06 => if s.captureFenced (duUnit d) then some 3 else none
  | 0x07 => if s.measureFenced (duUnit d) then some 3 else none
  | 0x08 => if s.fld (F.CPX_STAT.STATE (dsCpx d)) = 2 then some 5 else none
  | _ => none

/-- The checks after the grant: fences raised while it was awaited, bandwidth, then the start instant (R7, checks 6 and 7 of R24, check 4
of R186). A refusal returns the grant. -/
def State.granted (s : State) (k : Nat) : State :=
  let d := (s.slot k).desc
  match s.fencedSince d with
  | some n => s.finish k stFenced n 0
  | none =>
  match dOpcode d with
  | 0x05 =>
    let sg := buSg d
    let r : Bool × State := match s.streamAlloc sg with
      | some a => s.reserve ⟨k, a.chmask, s.committed.streamRate sg⟩
      | none => (true, s)
    if !r.1 then r.2.finish k stNoGrant 6 0
    else
      let late := match r.2.startOf d with
        | some t => decide (t < toTick (s.now + s.armLead sg * 2 ^ 32))
        | none => !s.ttEnabled (buTt d)
      if late then r.2.finish k stDeadline 7 0 else r.2.dispatch k
  | 0x06 =>
    let u := duUnit d
    let r : Bool × State := match s.flag (F.AQ_CFG.SPILL u), s.aqSpillAlloc u with
      | true, some a => s.reserve ⟨k, a.chmask, s.committed.aqRate u * 1000⟩
      | _, _ => (true, s)
    if r.1 then r.2.dispatch k else r.2.finish k stNoGrant 4 0
  | _ => s.dispatch k

/-- The number of the check at which a task asks for its grant (R315). -/
def grantCheck (op : Nat) : Nat := match op with | 0x05 => 5 | 0x06 => 4 | 0x07 => 5 | _ => 6

/-- A task asks Reef for its grant (R315): refused outright above the grantable budget, else it queues. -/
def State.askGrant (s : State) (k cost : Nat) : State :=
  if s.grantable < cost then
    (s.addSat F.REEF_REFUSED.POWER 1).finish k stNoGrant (grantCheck (dOpcode (s.slot k).desc)) 0
  else (s.setReefQueue (insertReef s.reefQueue ⟨k, cost, s.cycle⟩)).count 293 1

/-- Whether the head of Reef's queue fits. -/
def State.reefFits (s : State) (cost : Nat) : Bool := decide (s.fld F.REEF_GRANTED.UNITS + cost ≤ s.grantable)

/-- Whether a queued task's own resource lets it be dispatched: a Tack may have made a waiting set an INTERVAL set, which is dispatched
only when its partner is free as well (R211). -/
def State.claimsFree (s : State) (k : Nat) : Bool :=
  match taskResource (s.slot k).desc with
  | .tdc u => s.tdcFree u.val (some k)
  | _ => true

/-- The head of Reef's queue is granted if it fits (R315). -/
def State.reefGrant (s : State) : State :=
  match s.reefQueue with
  | [] => s
  | q :: t =>
    if s.reefFits q.cost ∧ s.claimsFree q.slot then
      let s := (s.setReefQueue t).setSlot q.slot { s.slot q.slot with grant := q.cost }
      (s.setFld F.REEF_GRANTED.UNITS (s.fld F.REEF_GRANTED.UNITS + q.cost)).granted q.slot
    else s

/-- A request that has waited QWAIT µs leaves the queue, unless it is the head and its grant is possible now (R315). -/
def State.reefTimeout (s : State) (k : Nat) : State :=
  match s.reefQueue.find? fun q => q.slot == k with
  | none => s
  | some q =>
    let wait := s.fld F.REEF_QWAIT.USEC
    let head := match s.reefQueue with | h :: _ => h.slot == k | [] => false
    if wait == 0 || decide (s.cycle < q.joined + usCycles wait) || (head && s.reefFits q.cost) then s
    else
      let s := (s.addSat F.REEF_REFUSED.POWER 1).signal 208
      s.finish k stNoGrant (grantCheck (dOpcode (s.slot k).desc)) 0

/-! ## CHECKING -/

/-- A TACK enters CHECKING: its bank is LOCKED (R305) and TCK_PEND shows it. -/
def State.tackEnter (s : State) (k : Nat) : State :=
  let d := (s.slot k).desc
  let b := tkBank d
  let s := s.setBank b { s.bank b with locked := true }
  let s := { s with tack := some ⟨k, b, false, 0, false, [], []⟩ }
  let s := (s.setFld F.TCK_PEND.PENDING 1).setFld F.TCK_PEND.BANK b
  (s.setFld F.TCK_PEND.WHEN (tkWhen d)).setFld F.TCK_PEND.SG (if tkWhen d = 1 then tkSg d else 0)

/-- The TACK of a slot leaves Tack: its bank is unlocked and nothing is pending. -/
def State.tackLeave (s : State) (k : Nat) : State :=
  match s.tack with
  | none => s
  | some t =>
    if t.slot = k then
      let s := s.setBank t.bank { s.bank t.bank with locked := false }
      { (s.setReg R.TCK_PEND 0) with tack := none }
    else s

/-- A task's checks refuse it. -/
def State.refuse (s : State) (k status detail : Nat) : State :=
  let s := if dOpcode (s.slot k).desc = 0x03 ∧ status = stAuthFail then s.addSat F.SHR_AUTHFAIL.LOAD 1 else s
  s.finish k status detail 0

/-- The head of a resource's ready list enters CHECKING and runs its dispatch checks (R288, R295). A TACK then waits for its own
checks. -/
def State.enterChecking (s : State) (r : Resource) : State :=
  match s.readyHead r with
  | none => s
  | some k =>
    let t := s.slot k
    if !s.isFree r t || s.cancelDue k || r == .none then s
    else
      let s := s.setSlot k { t with state := .checking, engine := s.idleEngines.headD 0 }
      if r = .tack then s.tackEnter k
      else match s.verdict k with
        | .refuse status detail => s.refuse k status detail
        | .grant cost => s.askGrant k cost
        | .run => s.dispatch k

/-- A NOP finishes in the cycle it becomes READY (R295). -/
def State.nopDone (s : State) (k : Nat) : State :=
  if (s.slot k).state = .ready ∧ dOpcode (s.slot k).desc = 0x0D ∧ !s.cancelDue k then s.finish k stOk 0 0 else s

/-- Device time reaches a task's DEADLINE before its dispatch (R301, R302). A TACK leaves Tack. -/
def State.deadlineExpiry (s : State) (k : Nat) : State :=
  let t := s.slot k
  let before := t.state == .waiting || t.state == .ready || t.state == .checking
  if before && dDeadline t.desc != 0 && decide (dDeadline t.desc * 2 ^ 32 ≤ s.now) && !s.cancelDue k then
    (s.tackLeave k).finish k stDeadline 0 0
  else s

end Sys2Proof.Machine
end

