-- ==== Sys2Proof/Machine/Work.lean ====
section
/-! DEFINITION. The work of tasks that need no unit of their own: move engines and the section loader, and how any task ends:
finish, cascade, cancel and release (R178, R273–R276, R290–R300). -/
namespace Sys2Proof.Machine

/-! ## Move engines -/

/-- The fault source of the block that runs a task. -/
def Task.source (t : Task) : Nat :=
  match taskResource t.desc with
  | .engine sg => sg.val
  | .acq u => 144 + u.val
  | .tdc u => 160 + u.val
  | .cpx p => 224 + p.val
  | .moveEngine => 243 + t.engine
  | .loader => 262
  | .tack => 250
  | .none => 247

/-- Whether a task that is replayed on another move engine waits for the task that runs there (R392). -/
def State.engineTaken (s : State) (t : Task) : Bool :=
  t.replay && taskResource t.desc == .moveEngine &&
  s.slots.any fun p => p.2.state == .running && !p.2.replay && p.2.done.isNone && taskResource p.2.desc == .moveEngine &&
    p.2.engine == t.engine

/-- The deep allocations that a task's accesses reach. -/
def State.taskDeep (s : State) (d : Nat) : List DeepAlloc :=
  (s.taskRanges 2 d).filterMap (fun r => s.deepHolding r.1 1) ++
  (match dOpcode d with
   | 0x03 => ((ldDa d).bind s.deepAlloc).toList
   | 0x0A => if s.logDeep (luStream d) then (s.deepHolding (s.regionBase (luStream d)) 1).toList else []
   | _ => [])

/-- Whether a task of an opcode has work to go on with: RUNNING, not ended, its block free for it and not in a reset, its deep memory not
waiting for a training (R253). -/
def State.works (s : State) (k op : Nat) : Bool :=
  let t := s.slot k
  t.state == .running && t.done.isNone && dOpcode t.desc == op && !s.inReset t.source && !s.engineTaken t &&
  !(s.taskDeep t.desc).any s.deepWaits

/-- Whether a pool range lies in source memory of a unit whose group is ARMED or RUNNING (R178). -/
def State.playedRange (s : State) (a n : Nat) : Bool :=
  (List.range 16).any fun u =>
    (s.flag (F.SRC_CFG.EN u) && s.busySg (s.fld (F.SRC_CFG.SG u)) &&
      rangesOverlap a n (s.regN (R.SRC_MEM_BASE u)) (s.regN (R.SRC_MEM_SIZE u) * 4096)) ||
    (s.flag (F.MOD_CFG.EN u) && s.busySg (s.fld (F.MOD_CFG.SG u)) &&
      rangesOverlap a n (s.regN (R.MOD_MEM_BASE u)) (s.regN (R.MOD_MEM_SIZE u) * 4096))

/-- A pool word that cannot be corrected reaches a move engine: counted, reported, and the task is interrupted (R233, R392). -/
def State.poisonedMove (s : State) (k a n : Nat) : State :=
  (s.reportPoison a n).interrupt k (s.slot k).moved

/-- A deep read meets a link CRC mismatch that its retries do not mend: reported, and the task is interrupted (R247; DEDUCED, log 116). -/
def State.failedMove (s : State) (k a : Nat) : State :=
  (match s.deepHolding a 1 with
   | some d => s.readFails d (a - d.base)
   | none => s).interrupt k (s.slot k).moved

/-- Bytes that pass a move engine are counted at the ports they use (R442). -/
def State.countMove (s : State) (space a n : Nat) (reads : Bool) : State :=
  if space = 0 then s.bwBytes (if reads then 8 else 9) n
  else if space = 2 ∧ reads then
    match s.deepHolding a n with
    | some d => s.countRead d (a - d.base) n
    | none => s
  else s

/-- A task has done n more bytes; at its whole length its work has ended. -/
def State.progress (s : State) (k n total : Nat) : State :=
  let t := s.slot k
  let s := s.setSlot k { t with moved := t.moved + n }
  if total ≤ t.moved + n then s.workDone k stOk 0 (t.moved + n) else s

/-- A MOVE copies up to n further bytes (R273, R276); bad: its read of deep memory fails (R247). -/
def State.moveStep (s : State) (k n : Nat) (bad : Bool) : State :=
  if !s.works k 0x01 then s
  else
    let t := s.slot k
    let d := t.desc
    let n := min n (mvLen d - t.moved)
    let src := mvSrc d + t.moved
    let dst := mvDst d + t.moved
    if mvTo d = 1 ∧ s.playedRange dst (mvLen d - t.moved) then s.workDone k stInconsistent 0 t.moved
    else if mvFrom d = 1 ∧ s.poisoned src n then s.poisonedMove k src n
    else if bad ∧ mvFrom d = 2 then s.failedMove k src
    else
      let bytes := s.spaceRead (mvFrom d) src n
      let s := (s.countMove (mvFrom d) src n true).countMove (mvTo d) dst n false
      (s.spaceWrite (mvTo d) dst bytes).progress k n (mvLen d)

/-- The staged words of a run of table words; the last eight bytes of a TIMESET entry stage nothing (R104). -/
def State.stageWords (s : State) (bank space off : Nat) : List Byte → State
  | b0 :: b1 :: b2 :: b3 :: t =>
    let s := if space = 1 ∧ 24 ≤ off % 32 then s
      else s.stage bank (spaceKey space off) (BitVec.ofNat 32 (ofBytes [b0, b1, b2, b3]))
    s.stageWords bank space (off + 4) t
  | _ => s

/-- A TABLE_WRITE stages up to n further bytes, whole words, into the bank of its dispatch (R104, R306). -/
def State.tableStep (s : State) (k n : Nat) : State :=
  if !s.works k 0x02 then s
  else
    let t := s.slot k
    let d := t.desc
    let bank := t.journal.headD 0
    let n := min (n / 4 * 4) (twLen d - t.moved)
    let src := twSrc d + t.moved
    if (s.bank bank).locked then s.workDone k stInconsistent 0 t.moved
    else if twFrom d = 1 ∧ s.poisoned src n then s.poisonedMove k src n
    else
      let bytes := s.spaceRead (twFrom d) src n
      ((s.countMove (twFrom d) src n true).stageWords bank (twSpace d + 1) (twOffset d + t.moved) bytes).progress k n (twLen d)

/-- Write 32-byte words at a refill ring's write pointer, advancing it word by word (R168, R276). -/
def State.refillWords (s : State) (u src space : Nat) : Nat → State
  | 0 => s
  | n + 1 =>
    let w := s.regN (R.SRC_RING_WRPTR u)
    let s := s.poolWrite (s.regN (R.SRC_RING_BASE u) + w) (s.spaceRead space src 32)
    let s := s.setReg (R.SRC_RING_WRPTR u) (if w + 32 < s.ringSize u then w + 32 else 0)
    s.refillWords u (src + 32) space n

/-- A REFILL writes up to n further bytes, whole 32-byte words. -/
def State.refillStep (s : State) (k n : Nat) : State :=
  if !s.works k 0x09 then s
  else
    let t := s.slot k
    let d := t.desc
    let n := min (n / 32 * 32) (rfCount d - t.moved)
    let src := rfSrc d + t.moved
    if rfFrom d = 1 ∧ s.poisoned src n then s.poisonedMove k src n
    else ((s.countMove (rfFrom d) src n true).refillWords (rfUnit d) src (rfFrom d) (n / 32)).progress k n (rfCount d)

/-- The place in a stream's region n bytes past a pointer. -/
def State.regionPlace (s : State) (st ptr n : Nat) : Nat :=
  let first := s.regionFirst st
  first + (ptr - first + n) % (s.regionSize st - first)

/-- A LOG_UPLOAD copies up to n further records or chunks toward WRPTR, at most MAXLEN bytes (R276). The length it copies up to is
judged as it goes; it completes, and advances RDPTR, where no further unit may be copied. bad: its next read of deep memory fails (R247). -/
def State.uploadUnits (s : State) (k : Nat) (bad : Bool) : Nat → State
  | 0 => s
  | n + 1 =>
    let t := s.slot k
    let d := t.desc
    let st := luStream d
    let unit := s.regionUnit st
    let at' := s.regionPlace st (s.regN (R.CMP_LOG_RDPTR st)) t.moved
    let span := s.regionSize st - s.regionFirst st
    if (s.regN (R.CMP_LOG_WRPTR st) + span - at') % span < unit ∨ luMax d < t.moved + unit then
      (((s.setReg (R.CMP_LOG_RDPTR st) at').showFull st).writeLost st).workDone k stOk 0 t.moved
    else
      let space := if s.logDeep st then 2 else 1
      let a := s.regionBase st + at'
      if space = 1 ∧ s.poisoned a unit then s.poisonedMove k a unit
      else if bad ∧ space = 2 then s.failedMove k a
      else
        let s := (s.hostWrite (luDst d + t.moved) (s.spaceRead space a unit)).countMove space a unit true
        ((s.bwBytes 9 unit).setSlot k { t with moved := t.moved + unit }).uploadUnits k bad n

def State.uploadStep (s : State) (k n : Nat) (bad : Bool) : State := if s.works k 0x0A then s.uploadUnits k bad n else s

/-! ## Section loader -/

/-- The pool bytes of a LOAD's image that its work reads: head, signature and directory, and the section (R418). -/
def State.loadReads (s : State) (d : Nat) : List (Nat × Nat) :=
  [(ldImage d, s.headLen (ldImage d) + 64),
   (ldImage d + s.dirField (ldImage d) (ldSection d) 8 8, s.dirField (ldImage d) (ldSection d) 4 4)]

/-- The work of a LOAD: a word of its image that cannot be corrected, or a failed read of its deep part, interrupts it (R233, R247). -/
def State.loadStep (s : State) (k : Nat) (bad : Bool) : State :=
  if !s.works k 0x03 then s
  else
    let d := (s.slot k).desc
    match (s.loadReads d).find? (fun r => s.poisoned r.1 r.2), (ldDa d).bind s.deepAlloc with
    | some r, _ => s.poisonedMove k r.1 r.2
    | none, some a => if bad then s.failedMove k a.base else s.loadWork k
    | none, none => s.loadWork k

/-- The work of an UNLOAD. -/
def State.unloadStep (s : State) (k : Nat) : State :=
  if s.works k 0x04 then (s.unloadSection (dget (s.slot k).desc 0x18 1)).workDone k stOk 0 0 else s

/-! ## Capture processors -/

/-- A journalled DSP job that is to be replayed starts again, with the inputs of its first start (R230, R391). -/
def State.jobRestart (s : State) (k : Nat) : State :=
  let t := s.slot k
  let p := dsCpx t.desc
  if t.replay && (s.cpx p).slot.isNone then
    let j := s.job (dsJob t.desc)
    (s.jobRestore p j t.journal).jobStart p k j
  else s

/-- A DSP job processes up to n further elements (R224–R230). -/
def State.dspStep (s : State) (k n : Nat) : State :=
  if s.works k 0x08 then
    let d := (s.slot k).desc
    let s := s.jobRestart k
    if (s.cpx (dsCpx d)).slot = some k then s.jobRun (dsCpx d) (s.job (dsJob d)) n else s
  else s

/-- A job that has processed all of its elements completes (R229). -/
def State.dspComplete (s : State) (k : Nat) : State :=
  if s.works k 0x08 then
    let p := dsCpx (s.slot k).desc
    let j := s.job (dsJob (s.slot k).desc)
    if (s.cpx p).slot = some k ∧ s.jobAll p j then s.jobEnd p k j else s
  else s

/-! ## The end of a task -/

/-- The windows of sources whose reset has ended and which replay no task any more are over (R390). -/
def State.closeWindows (s : State) : State :=
  (s.sources.filter fun p => p.2.window).foldl (fun (s : State) p =>
    let open' := p.2.resetting.isSome || s.slots.any fun q => q.2.state == .running && q.2.replay && q.2.source == p.1
    if open' then s else s.setSource p.1 { s.source p.1 with window := false }) s

/-- A task whose work has ended reaches FINISHED (R290). -/
def State.taskFinish (s : State) (k : Nat) : State :=
  let t := s.slot k
  match t.state, t.done with
  | .running, some (status, detail, result) => (s.finish k status detail result).closeWindows
  | _, _ => s

/-- A flow releases its oldest task, if it is FINISHED, and at most one in a core cycle (R296). -/
def State.flowRelease (s : State) (flow : Nat) : State :=
  match s.oldestOf flow with
  | none => s
  | some k =>
    if (s.slot k).state = .finished ∧ Sparse.get (fun _ => 0) s.releasedAt flow ≠ s.cycle + 1 then
      ({ s with releasedAt := Sparse.set (fun _ => 0) s.releasedAt flow (s.cycle + 1) } : State).release k
    else s

/-- A move engine that has reached its 4 KiB boundary stops, unless its work ended there. -/
def State.stopped (s : State) (k : Nat) : State :=
  if (s.slot k).done.isSome then s else s.workDone k stCancelled 0 (s.slot k).moved

/-- The cancel of a RUNNING task is its unit's own (R298). A LOAD decrypts nothing before the step that completes it, so there is nothing
to erase. -/
def State.cancelRunning (s : State) (k : Nat) : State :=
  let t := s.slot k
  let d := t.desc
  let left (total : Nat) : Nat := min ((4096 - t.moved % 4096) % 4096) (total - t.moved)
  match dOpcode d with
  | 0x01 => (s.moveStep k (left (mvLen d)) false).stopped k
  | 0x02 => (s.tableStep k (left (twLen d))).stopped k
  | 0x09 => (s.refillStep k (left (rfCount d))).stopped k
  | 0x0A => (s.uploadStep k (left (t.moved + 4096) / s.regionUnit (luStream d)) false).stopped k
  | 0x03 => s.workDone k stCancelled 0 0
  | 0x05 => s.hostAbort (buSg d)
  | 0x06 => s.aqCancel (duUnit d)
  | 0x07 => s.tdcEnd (duUnit d) stCancelled
  | 0x08 => s.jobCancel (dsCpx d) k (s.job (dsJob d))
  | _ => s

/-- A cancel of the task in a slot (R298, R312). -/
def State.cancelTask (s : State) (k : Nat) : State :=
  let t := s.slot k
  match t.state with
  | .waiting => s.cancelWaiting k
  | .ready => s.finish k stCancelled 0 0
  | .checking => if taskResource t.desc = .tack then s else s.finish k stCancelled 0 0
  | .running => if t.done.isSome then s else s.cancelRunning k
  | _ => s

/-- A CANCEL acts on its target (R276, R298). -/
def State.cancelActs (s : State) (k : Nat) : State :=
  if s.cancelDue k then
    let s : State := { s with cancels := s.cancels.map fun (c : CancelWait) => if c.target = k then { c with acted := true } else c }
    s.cancelTask k
  else s

/-- The cascade cancels of the finishes of earlier core cycles (R293): each task named, if it is WAITING still, is cancelled and counted in
its own flow. -/
def State.cascade (s : State) : State :=
  let due := s.cascades.filter fun c => decide (c.cycle < s.cycle)
  let s := { s with cascades := s.cascades.filter fun c => !decide (c.cycle < s.cycle) }
  due.foldl (fun s c => c.slots.foldl (fun (s : State) p =>
    let t := s.slot p.1
    if t.state = .waiting ∧ t.order = p.2 then (s.addSat (F.SCH_FLOW_STAT.CASCADED (dFlow t.desc)) 1).cancelWaiting p.1 else s) s) s

end Sys2Proof.Machine
end

