-- ==== Sys2Proof/Machine/Rings.lean ====
section
/-! DEFINITION. Ring control, doorbells, PCI Express errors on rings, coalescing and the bulk data ports (R263–R286). -/
namespace Sys2Proof.Machine

/-! ## Ring states (R263–R265, R270) -/

/-- A register access fault of an access that has no BAR0 offset of its own: its ADDRESS is open. -/
def State.regFaultOpen (s : State) : State := (s.regFault (Config.freeValue s.free % 2 ^ 48)).drawn

/-- A ring enters ERROR with a cause, and the ring-error event is signalled. -/
def State.ringError (s : State) (k cause : Nat) : State :=
  ((s.setFld (F.HIF_RING_STAT.STATE k) 3).setFld (F.HIF_RING_STAT.ERRCAUSE k) cause).signal 192

/-- Enable (R265): pointers 0, phase 1, RUN. -/
def State.ringEnable (s : State) (k : Nat) : State :=
  let s := (s.setReg (R.HIF_RING_POS k) 0).setRing k { Ring.off with phase := true, last := (s.ring k).last }
  (s.setFld (F.HIF_RING_STAT.STATE k) 1).setFld (F.HIF_RING_STAT.ERRCAUSE k) 0

/-- A write of HIF_RINGk_CFG (R263, R265). -/
def State.ringCfgWrite (s : State) (k v : Nat) : State :=
  let sq := bitsOf v 0 5
  let cq := bitsOf v 8 5
  let en := bitOf v 31
  let state := s.fld (F.HIF_RING_STAT.STATE k)
  let ranged := decide (6 ≤ sq) && decide (sq ≤ 16) && decide (6 ≤ cq) && decide (cq ≤ 16)
  if en && !ranged then s.regFault (R.HIF_RING_CFG k)
  else if state = 0 then
    let s := ((s.setFld (F.HIF_RING_CFG.EN k) (b2n en)).setFld (F.HIF_RING_CFG.SQLOG2 k) sq).setFld (F.HIF_RING_CFG.CQLOG2 k) cq
    if en then s.ringEnable k else s
  else if sq ≠ s.fld (F.HIF_RING_CFG.SQLOG2 k) ∨ cq ≠ s.fld (F.HIF_RING_CFG.CQLOG2 k) then s.regFault (R.HIF_RING_CFG k)
  else if en ∨ state = 2 then s
  else ((s.setFld (F.HIF_RING_CFG.EN k) 0).setFld (F.HIF_RING_STAT.STATE k) 2).drainEnd k

/-- A write of a ring's base register: only in DISABLED (R265). -/
def State.ringBaseWrite (s : State) (k off v : Nat) : State :=
  if s.fld (F.HIF_RING_STAT.STATE k) = 0 then s.setReg off v else s.regFault off

/-! ## Doorbells (R266, R267) -/

/-- An SQ_TAIL write. -/
def State.sqTailWrite (s : State) (k v : Nat) : State :=
  if s.fld (F.HIF_RING_STAT.STATE k) = 0 then s
  else
    let n := s.sqSize k
    let tail := (s.ring k).sqTail
    let head := s.fld (F.HIF_RING_POS.SQHEAD k)
    if v < n ∧ (v + n - tail) % n ≤ (head + n - 1 + n - tail) % n then
      let r := s.ring k
      s.setRing k { r with sqTail := v, tailAt := some s.cycle, tailWas := if r.tailAt = some s.cycle then r.tailWas else tail }
    else s.ringError k 1

/-- A CQ_HEAD write: the span runs over the unreleased completions; the head's own index releases all of a full CQ. -/
def State.cqHeadWrite (s : State) (k v : Nat) : State :=
  if s.fld (F.HIF_RING_STAT.STATE k) = 0 then s
  else
    let n := s.cqSize k
    let r := s.ring k
    let freed := if v = r.cqHead ∧ r.unreleased = n then n else (v + n - r.cqHead) % n
    if v < n ∧ freed ≤ r.unreleased then s.setRing k { r with cqHead := v, unreleased := r.unreleased - freed }
    else s.ringError k 1

/-- A write of a ring's doorbell page: offset 0 is SQ_TAIL, offset 4 is CQ_HEAD, and a write to another offset is discarded (R266). -/
def State.doorbellWrite (s : State) (k off v : Nat) : State :=
  if off = 0 then s.sqTailWrite k v else if off = 4 then s.cqHeadWrite k v else s

/-- A read of a doorbell page (R266). -/
def doorbellRead (_ : Nat) : Nat := 0

/-! ## PCI Express errors (R270) and coalescing (R285) -/

/-- The read request that fetches a ring's next descriptors meets an error. -/
def State.fetchFails (s : State) (k : Nat) : State := if s.mayFetch k then s.ringError k 2 else s

/-- The latest completion write of a ring meets an error: the completion is lost and its TAG kept. -/
def State.cqWriteFails (s : State) (k : Nat) : State :=
  match (s.ring k).last with
  | none => s
  | some w =>
    let s := (s.hostWrite w.addr w.old).setRing k { s.ring k with last := none }
    (s.setReg (R.HIF_RING_LOSTTAG k) w.tag).ringError k 3

/-- The oldest unsignalled completion of a ring has waited USEC µs. -/
def State.coalesceTimeout (s : State) (k : Nat) : State :=
  let r := s.ring k
  let usec := s.fld (F.HIF_RING_IRQ.USEC k)
  if usec != 0 && r.since != 0 && decide (r.oldest + usec * 1000 ≤ s.clk) then s.signalRing k else s

/-- SCH_SLOTCTRL.CLRCREDIT: the selected slot's credits are cleared if it is EMPTY. -/
def State.clearCredit (s : State) : State :=
  let k := s.fld F.SCH_SLOTSEL.SLOT
  if (s.slot k).state = .empty then s.setSlot k { s.slot k with count := 0 } else s

/-! ## Bulk data ports (R281–R283) -/

/-- Bulk port n's bound. -/
def State.bulkPort (s : State) (n : Nat) : BulkPort := Sparse.get (fun _ => ⟨false, 0⟩) s.bulk n

/-- Current address and space of a port. -/
def State.bulkAddr (s : State) (n : Nat) : Nat := s.reg64 (R.HIF_BP_ADDR_LO n) (R.HIF_BP_ADDR_HI n)
def State.bulkSpace (s : State) (n : Nat) : Nat := s.fld (F.HIF_BP_CTRL.SPACE n)

/-- The bounds of the unprotected allocation that holds an address. -/
def State.bulkBound (s : State) (space a : Nat) : Option Nat :=
  if space = 1 then (s.poolHolding a 1).bind fun p => if p.prot then none else some (p.base + p.bytes)
  else if space = 2 then (s.deepHolding a 1).bind fun d => if d.prot then none else some (d.base + d.bytes)
  else none

/-- After a write of a port's ADDR or CTRL: the allocation that holds the address bounds it (R282). -/
def State.bulkAim (s : State) (n : Nat) : State :=
  let b := s.bulkBound (s.bulkSpace n) (s.bulkAddr n)
  let s := s.setFld (F.HIF_BP_STAT.INVALID n) (b2n b.isNone)
  { s with bulk := Sparse.set (fun _ => ⟨false, 0⟩) s.bulk n ⟨b.isSome, b.getD 0⟩ }

/-- Advance a port by a count of bytes. -/
def State.bulkAdvance (s : State) (n len : Nat) : State :=
  s.setReg64 (R.HIF_BP_ADDR_LO n) (R.HIF_BP_ADDR_HI n) (s.bulkAddr n + len)

/-- Whether an access of a port reaches a deep allocation that is LOST or on a fenced controller: it is not performed (R246, R255; DESIGN
CHOICE, log 113). -/
def State.bulkGone (s : State) (n : Nat) : Bool := s.bulkSpace n == 2 && (s.deepHolding (s.bulkAddr n) 1).any s.deepGone

/-- Whether an access of a port may be performed; its range must still be unprotected (R29, R282). -/
def State.bulkMay (s : State) (n len : Nat) : Bool :=
  (s.bulkPort n).valid && (s.bulkSpace n == 1 || s.bulkSpace n == 2) && s.rangeHeld (s.bulkSpace n) (s.bulkAddr n) len &&
  !s.touchesProt (s.bulkSpace n) (s.bulkAddr n) len && !s.bulkGone n

/-- Whether an access of a port waits for a controller's training (R253). -/
def State.bulkWaits (s : State) (n : Nat) : Bool := s.bulkSpace n == 2 && (s.deepHolding (s.bulkAddr n) 1).any s.deepWaits

/-- Whether an access would pass the end of the port's allocation. -/
def State.bulkPasses (s : State) (n len : Nat) : Bool :=
  (s.bulkPort n).valid && decide ((s.bulkPort n).limit < s.bulkAddr n + len)

/-- An access that would pass the end. -/
def State.bulkEnd (s : State) (n : Nat) : State := (s.setFld (F.HIF_BP_STAT.END n) 1).regFaultOpen

/-- Write bytes to the pool but for those in some of its words. -/
def State.poolWriteBut (s : State) (lost : List Nat) (a : Nat) : List Byte → State
  | [] => s
  | b :: t => (if lost.contains (a / 32) then s else s.poolWrite a [b]).poolWriteBut lost (a + 1) t

/-- The writes of a bulk port that lost their words to others: recorded, and each reported as a register access fault (R237). -/
def State.bulkCollides (s : State) (lost : List Nat) : State :=
  lost.foldl (fun (s : State) w => ((s.setFld F.MEM_COLL.CLASS 5).setReg R.MEM_COLLADDR (w * 32)).regFaultOpen) s

/-- The bytes of a bulk port's write reach the pool but for the words that another write of their core cycle wins (R237), each numbered from
the first that the access touches. -/
def State.bulkPoolPut (s : State) (a : Nat) (bytes : List Byte) (lost : List Nat) : State :=
  let words := (lost.map (a / 32 + ·)).filter fun w => decide (w * 32 < a + bytes.length)
  if words.isEmpty then s.poolWrite a bytes else (s.poolWriteBut words a bytes).bulkCollides words

/-- A BAR2 write to a port. A write into source memory in play is discarded with a fault (R178). -/
def State.bulkWrite (s : State) (n : Nat) (bytes : List Byte) (lost : List Nat) : State :=
  let len := bytes.length
  if s.bulkWaits n then s
  else if s.bulkPasses n len then s.bulkEnd n
  else if !s.bulkMay n len then s
  else
    let s := s.bwBytes 8 len
    let a := s.bulkAddr n
    if s.bulkSpace n = 1 ∧ s.playedRange a len then (s.bulkAdvance n len).regFaultOpen
    else (if s.bulkSpace n = 1 then s.bulkPoolPut a bytes lost else s.spaceWrite 2 a bytes).bulkAdvance n len

/-- Bytes as dwords. -/
def dwords : List Byte → List Word
  | b0 :: b1 :: b2 :: b3 :: t => BitVec.ofNat 32 (ofBytes [b0, b1, b2, b3]) :: dwords t
  | _ => []

/-- Dwords of a pool range, those with a poisoned word reading all ones (R233). -/
def State.poolDwords (s : State) (a : Nat) (ws : List Word) : List Word :=
  (ws.zip (List.range ws.length)).map fun p => if s.poisoned (a + 4 * p.2) 4 then 0xFFFFFFFF else p.1

/-- A BAR2 read of len bytes from a port; bad: the read of deep memory fails, and every dword reads all ones (R247; DEDUCED, log 116). -/
def State.bulkRead (s : State) (n len : Nat) (bad : Bool) : State :=
  let ones := List.replicate (len / 4) (0xFFFFFFFF : Word)
  if s.bulkWaits n then s
  else if s.bulkPasses n len then { s.bulkEnd n with readData := ones }
  else if !s.bulkMay n len then { s with readData := ones }
  else
    let a := s.bulkAddr n
    let space := s.bulkSpace n
    let ws := dwords (s.spaceRead space a len)
    let failed := bad && space == 2
    let ws := if space = 1 then s.poolDwords a ws else if failed then ones else ws
    let s := if space = 1 then s.reportPoison a len else s.countMove space a len true
    let s := match failed, s.deepHolding a 1 with
      | true, some d => s.readFails d (a - d.base)
      | _, _ => s
    { (s.bwBytes 9 len).bulkAdvance n len with readData := ws }

end Sys2Proof.Machine
end

