-- ==== Sys2Proof/Machine/TackChecks.lean ====
section
/-! DEFINITION. What a Tack covers and its checks 2 to 12 (R30, R32, R41, R61, R67, R91–R107, R137–R140, R150, R158, R177, R184,
R194–R201, R216, R308, R309, R342, R344, R368, R397). A check answers none when it passes, else the BAR0 offset of the first register
involved, 0 for a table entry or none; its items stand in the order of its rule. -/
namespace Sys2Proof.Machine

/-- The first item that fails, by its offset. -/
def firstFail (items : List (Bool × Nat)) : Option Nat := items.findSome? fun p => if p.1 then some p.2 else none

/-! ## Covering (R308) -/

/-- The channels whose own register or entry a staged key is. -/
def keyChannels (key : Nat) : List Nat :=
  let space := key / 2 ^ 26
  let off := key % 2 ^ 26
  if space = 1 then [off / 8192]
  else if space = 2 then [off / 64]
  else if space ≠ 0 then []
  else if 0x1800000 ≤ off ∧ off < 0x1810000 then [(off - 0x1800000) / 0x100]
  else if 0xD00000 ≤ off ∧ off < 0xD04000 ∧ 0x40 ≤ off % 0x1000 ∧ off % 0x1000 < 0x60 then
    (List.range 8).map fun j => (off - 0xD00000) / 0x1000 * 64 + (off % 0x1000 - 0x40) / 4 * 8 + j
  else []

/-- The site group in whose SEQ, TMG, CMP or RCT page a staged key lies. -/
def keyGroup (key : Nat) : Option Nat :=
  if 0x1000000 ≤ key ∧ key < 0x1100000 then some ((key - 0x1000000) / 0x4000)
  else if 0x1500000 ≤ key ∧ key < 0x1540000 then some ((key - 0x1500000) / 0x1000)
  else if 0x1820000 ≤ key ∧ key < 0x1830000 then some ((key - 0x1820000) / 0x400)
  else if 0x1C00000 ≤ key ∧ key < 0x1C40000 then some ((key - 0x1C00000) / 0x1000)
  else none

/-- A unit that serves a site group by its SG field. -/
inductive ServeUnit where
  | cv (u : Nat)
  | src (u : Nat)
  | mod (u : Nat)
  | acq (u : Nat)
deriving DecidableEq, Repr

/-- The unit whose register or table entry a staged key is. -/
def keyUnit (key : Nat) : Option ServeUnit :=
  let space := key / 2 ^ 26
  let off := key % 2 ^ 26
  match space with
  | 0 =>
    if 0x1E00000 ≤ off ∧ off < 0x1E02000 then some (.cv ((off - 0x1E00000) / 0x100))
    else if 0x2000000 ≤ off ∧ off < 0x2010000 then some (.src ((off - 0x2000000) / 0x1000))
    else if 0x2100000 ≤ off ∧ off < 0x2110000 then some (.mod ((off - 0x2100000) / 0x1000))
    else if 0x2400000 ≤ off ∧ off < 0x2410000 then some (.acq ((off - 0x2400000) / 0x1000))
    else none
  | 3 => some (.src (off / 2048))
  | 4 => some (.src (off / 8192))
  | 5 => some (.mod (off / 2048))
  | 6 => some (.mod (off / 8192))
  | _ => none

/-- The SG field of a unit. -/
def State.unitSg (s : State) : ServeUnit → Nat
  | .cv u => s.fld (F.CV_CFG.SG u)
  | .src u => s.fld (F.SRC_CFG.SG u)
  | .mod u => s.fld (F.MOD_CFG.SG u)
  | .acq u => s.fld (F.AQ_CFG.SG u)

/-- Whether a unit is enabled. -/
def State.unitOn (s : State) : ServeUnit → Bool
  | .cv u => s.flag (F.CV_CFG.EN u)
  | .src u => s.flag (F.SRC_CFG.EN u)
  | .mod u => s.flag (F.MOD_CFG.EN u)
  | .acq u => s.flag (F.AQ_CFG.EN u)

/-- The groups that the settings of a state make a staged key cover. -/
def State.keyGroups (s : State) (key : Nat) : List Nat :=
  (keyGroup key).toList ++ (keyChannels key).filterMap s.groupOf ++ ((keyUnit key).map s.unitSg).toList

/-- A Tack under check: settings committed so far, those after the commit, the staged values, the keys that change, and the groups it
covers. -/
structure TackView where
  s : State
  n : State
  vals : SMap Word
  changed : List Nat
  groups : List Nat

/-- The view of a Tack of a bank. -/
def State.tackView (s : State) (b : Nat) : TackView :=
  let vals := (s.bank b).vals
  let s := s.committed
  let n := s.overlay vals
  let names := vals.flatMap fun p => s.keyGroups p.1 ++ n.keyGroups p.1
  ⟨s, n, vals, (vals.filter fun p => decide (s.inEffect p.1 ≠ n.inEffect p.1)).map (·.1),
    (List.range 64).filter names.contains⟩

/-- Whether a unit is covered, itself or by its group. -/
def TackView.covers (t : TackView) (u : ServeUnit) : Bool :=
  (t.vals.any fun p => keyUnit p.1 == some u) || t.groups.contains (t.s.unitSg u) || t.groups.contains (t.n.unitSg u)

/-- Whether an enabled unit's group is ARMED or RUNNING, before or after the commit. -/
def TackView.unitBusy (t : TackView) (u : ServeUnit) : Bool :=
  (t.s.unitOn u && t.s.busySg (t.s.unitSg u)) || (t.n.unitOn u && t.s.busySg (t.n.unitSg u))

/-- The offset a staged key shows in TCK_ERR. -/
def keyOffset (key : Nat) : Nat :=
  if key / 2 ^ 26 = 0 then key
  else if key / 2 ^ 26 = 2 then R.WT_CODE (key % 2 ^ 26 / 64) (key % 2 ^ 26 % 64 / 4)
  else 0

/-! ## Check 3: membership and sites (R30, R32) -/

def State.sharedWord (n : State) (g w : Nat) : Bool :=
  let v := n.regN (R.SE_CHMAP g w)
  v != 0 && (List.range 64).any fun h => h != g && (v &&& n.regN (R.SE_CHMAP h w)) != 0

def State.siteCheck (n : State) (g : Nat) : List (Bool × Nat) :=
  if !n.gang g then []
  else
    let sites := n.fld (F.SE_CFG.NSITES g) + 1
    let ms := n.members g
    let first := R.SE_CHSITE g (ms.headD 0 / 8)
    (decide (sites < 2), R.SE_CFG g) ::
    (ms.map fun c => (decide (sites ≤ n.siteOf g c), R.SE_CHSITE g (c / 8))) ++
    [((List.range sites).any fun k => (n.siteMembers g k).length != (n.siteMembers g 0).length, first)]

def TackView.check3 (t : TackView) : Option Nat :=
  firstFail (((List.range 64).flatMap fun g => (List.range 8).map fun w => (t.n.sharedWord g w, R.SE_CHMAP g w)) ++
    t.groups.flatMap t.n.siteCheck)

/-! ## Checks 4 and 5: timing (R2, R41, R61, R67, R91–R107) -/

/-- Whether a waveform entry is valid (R98). -/
def entryValid (w : Nat) : Bool :=
  bitsOf w 16 16 == 0 && !bitOf w 11 && !bitOf w 7 && !bitOf w 1 &&
  decide (bitsOf w 8 3 ≤ 5) && decide (bitsOf w 12 3 ≤ 5) &&
  (!bitOf w 15 || (decide (1 ≤ bitsOf w 8 3) && decide (bitsOf w 8 3 ≤ 4) && bitsOf w 12 3 == 0))

/-- Whether an entry uses edge e: E0, E1, E2, E3, S0, S1 (R98). -/
def usesEdge (w e : Nat) : Bool :=
  match e with
  | 0 => bitOf w 0
  | 1 => bitsOf w 2 2 != 0
  | 2 => bitsOf w 4 2 != 0
  | 3 => bitOf w 6
  | 4 => bitsOf w 8 3 != 0
  | _ => bitsOf w 12 3 != 0 || bitOf w 15

/-- The edges that some code of a channel uses. -/
def State.usedEdges (n : State) (ch : Nat) : List Nat :=
  (List.range 6).filter fun e => (List.range 16).any fun x => usesEdge (n.wtCode ch x) e

/-- TMG_SG_ERR's word of a failure (R107). -/
def timingErr (check edge ts code ch : Nat) : Nat :=
  check * 2 ^ 28 + edge * 2 ^ 24 + ts * 2 ^ 16 + code * 2 ^ 12 + ch

/-- Checks 1 to 4 of a group. The PERIOD in effect that check 4 compares with is the latest committed one, where an earlier commit still
waits for its boundary (DESIGN CHOICE, log 91). -/
def State.timingGroup (n s : State) (g : Nat) : Option Nat :=
  let p := n.period g
  if p < 4096 ∨ 2 ^ 33 < p then some (timingErr 1 7 0 0 0)
  else if p % n.mult g ≠ 0 then some (timingErr 2 7 0 0 0)
  else if n.psub g < n.subMin then some (timingErr 3 7 0 0 0)
  else if s.busySg g && (decide (p < s.period g) || n.mult g != s.mult g ||
      n.flag (F.PG_CFG.EN g) != s.flag (F.PG_CFG.EN g)) then some (timingErr 4 7 0 0 0)
  else none

/-- Check 5. -/
def State.timingSets (n s : State) (g : Nat) : Option Nat :=
  let valid (t : Nat) : Bool := bitOf (n.regN (R.TS_VALID g (t / 32))) (t % 32)
  if !n.flag (F.PG_CFG.EN g) then none
  else if !valid (n.fld (F.SE_SAFE.SAFE_TS g)) then some (timingErr 5 7 (n.fld (F.SE_SAFE.SAFE_TS g)) 0 0)
  else if s.busySg g then
    ((n.bits256 (R.TS_USED g)).find? fun t => !valid t).map fun t => timingErr 5 7 t 0 0
  else none

/-- Check 6 of a channel. -/
def State.timingCodes (n : State) (ch : Nat) : Option Nat :=
  ((List.range 16).find? fun x => !entryValid (n.wtCode ch x)).map fun x => timingErr 6 7 0 x ch

/-- Check 7 of a channel in a time set. -/
def State.timingRange (n : State) (g ch ts : Nat) : Option Nat :=
  ((n.usedEdges ch).find? fun e => decide (n.psub g ≤ n.tsEdge ch ts e)).map fun e => timingErr 7 e ts 0 ch

/-- Check 8 of a code: the first pair of one output that is too close. -/
def State.timingCode (n : State) (ch ts x : Nat) : Option Nat :=
  let w := n.wtCode ch x
  ([(0, 3), (1, 2), (4, 5)].find? fun p =>
    usesEdge w p.1 && usesEdge w p.2 && decide (n.tsEdge ch ts p.2 < n.tsEdge ch ts p.1 + n.tmin)).map fun p =>
      timingErr 8 p.2 ts x ch

/-- The latest and earliest of some edges of a channel in a time set, with the latest's number: of two that share the latest time, the
later edge's (DESIGN CHOICE, log 91). -/
def State.extremes (n : State) (ch ts : Nat) (es : List Nat) : Option (Nat × Nat × Nat) :=
  es.foldl (fun (a : Option (Nat × Nat × Nat)) e =>
    let t := n.tsEdge ch ts e
    match a with
    | none => some (e, t, t)
    | some (l, hi, lo) => some (if hi ≤ t then e else l, max hi t, min lo t)) none

/-- Check 9 of a channel in a time set: outputs DEN, DRV, strobe sampler. -/
def State.timingWrap (n : State) (g ch ts : Nat) : Option Nat :=
  [[0, 3], [1, 2], [4, 5]].findSome? fun es =>
    match n.extremes ch ts ((n.usedEdges ch).filter es.contains) with
    | some (e, hi, lo) => if n.psub g + lo < n.tmin + hi then some (timingErr 9 e ts 0 ch) else none
    | none => none

/-- Checks 5 to 9 of a group. -/
def State.timingTables (n s : State) (g : Nat) : Option Nat :=
  let ms := n.members g
  let sets := n.bits256 (R.TS_VALID g)
  let each (f : Nat → Nat → Option Nat) : Option Nat := ms.findSome? fun ch => sets.findSome? fun ts => f ch ts
  (n.timingSets s g).or ((ms.findSome? n.timingCodes).or ((each (n.timingRange g)).or
    ((each fun ch ts => (List.range 16).findSome? fun x => n.timingCode ch ts x).or (each (n.timingWrap g)))))

/-- The whole word of TMG_SG_ERR after a Tack that covers a group. -/
def State.timingWord (n s : State) (g : Nat) : Nat := ((n.timingGroup s g).or (n.timingTables s g)).getD 0

/-- The offset that stands for a timing failure. -/
def timingOffset (g word : Nat) : Nat :=
  let ts := bitsOf word 16 8
  match word / 2 ^ 28 with
  | 5 => R.TS_VALID g (ts / 32)
  | 6 => R.WT_CODE (word % 256) (bitsOf word 12 4)
  | 7 => 0
  | 8 => 0
  | 9 => 0
  | _ => R.PG_PERIOD_LO g

/-- Check 4: timing checks 1 to 4, R41 and R67 with the loaded section. -/
def TackView.check4 (t : TackView) : Option Nat :=
  t.groups.findSome? fun g =>
    match t.n.timingGroup t.s g with
    | some w => some (timingOffset g w)
    | none =>
      match (t.n.engine g).sec with
      | none => none
      | some c =>
        if (t.n.flat g - 1) * t.n.period g < 12 * 8192 ∨ t.n.period g < t.n.sec g 0x10 8 then some (R.PG_PERIOD_LO g)
        else if !t.n.sectionFits g c.base then some (R.SE_CFG g) else none

/-- Whether the safe code defines a strobe on a channel (R61). -/
def State.safeStrobes (n : State) (g ch : Nat) : Bool :=
  let w := n.wtCode ch (n.fld (F.SE_SAFE.SAFE_CODE g))
  usesEdge w 4 || usesEdge w 5

/-- Check 5: the safe waveform and timing checks 5 to 9. -/
def TackView.check5 (t : TackView) : Option Nat :=
  t.groups.findSome? fun g =>
    if (t.n.members g).any (t.n.safeStrobes g) then some (R.SE_SAFE g)
    else (t.n.timingTables t.s g).map (timingOffset g)

/-! ## Check 6: compare and fail log (R135, R137, R139, R140) -/

/-- Whether a group is assigned to a stream (R128). -/
def State.assigned (n : State) (g st : Nat) : Bool :=
  n.fld (F.CMP_SGCFG.LOGMODE g) != 0 && n.fld (F.CMP_SGCFG.LOGSTREAM g) == st

/-- The streams whose settings a Tack changes. -/
def TackView.streams (t : TackView) : List Nat :=
  (List.range 4).filter fun st => t.changed.any fun k => decide (R.CMP_LOG_CFG st ≤ k) && decide (k < R.CMP_LOG_CFG st + 0x100)

/-- The groups the check binds: covered, or assigned to a changed stream. -/
def TackView.logGroups (t : TackView) : List Nat :=
  (List.range 64).filter fun g => t.groups.contains g || t.streams.any (t.n.assigned g)

/-- The owners and fail-log keys of the loaded sections of a stream's groups. -/
def State.streamSections (n : State) (st : Nat) : List Section :=
  (List.range 64).filterMap fun g => if n.assigned g st then (n.engine g).sec else none

/-- The owner of a section: its image's OWNER_KEY and FLKEY (R420). -/
def Section.owner (c : Section) : Nat × Nat := (c.ownerKey, c.flKey)

/-- Whether a group's assignment breaks R137. -/
def State.sessionBreaks (n : State) (g : Nat) : Bool :=
  let st := n.fld (F.CMP_SGCFG.LOGSTREAM g)
  n.assigned g st && n.logEncrypts st &&
  (let secs := n.streamSections st
   (secs.any fun a => secs.any fun b => a.owner != b.owner) ||
   (match (n.engine g).sec with | some c => !c.failKey | none => false))

/-- A range lies in one pool allocation that is not protected: what a Tack may place there (R421). -/
def State.poolOpen (n : State) (base bytes : Nat) : Bool := (n.poolHolding base bytes).any fun a => !a.prot

/-- A range is one whole pool allocation that is not protected (R135). -/
def State.poolNamed (n : State) (base bytes : Nat) : Bool :=
  (n.poolHolding base bytes).any fun a => !a.prot && a.base == base && a.bytes == bytes

/-- A range lies in one deep allocation that is not protected: what a Tack may place there (R421). -/
def State.deepOpen (n : State) (base bytes : Nat) : Bool := (n.deepHolding base bytes).any fun a => !a.prot

/-- Whether an enabled stream's region or staging breaks R134, R135 or its card, or would lie in a protected allocation (R421). -/
def State.regionBreaks (n : State) (st : Nat) : Bool :=
  n.flag (F.CMP_LOG_CFG.EN st) &&
  (let base := n.regionBase st
   let size := n.regionSize st
   base % 4096 != 0 || decide (size < (if n.logEncrypts st then 8192 else 4096)) ||
   (if n.logDeep st then
      !n.deepOpen base size || n.fld (F.CMP_LOG_CFG.BW st) == 0 || n.regN (R.CMP_LOG_STAGE st) % 65536 != 0 ||
      !n.poolNamed (n.regN (R.CMP_LOG_STAGE st)) 65536
    else !n.poolOpen base size))

def TackView.check6 (t : TackView) : Option Nat :=
  let n := t.n
  let gs := t.logGroups
  firstFail ((gs.map fun g => (n.sessionBreaks g, R.CMP_SGCFG g)) ++
    (gs.map fun g => (n.flag (F.CMP_SGCFG.CONCEAL g) && (List.range 4).any fun st => n.assigned g st && !n.logEncrypts st,
      R.CMP_SGCFG g)) ++
    (gs.map fun g => (n.fld (F.CMP_SGCFG.LOGMODE g) == 3, R.CMP_SGCFG g)) ++
    (gs.map fun g => ((List.range 4).any fun st => n.assigned g st && !n.flag (F.CMP_LOG_CFG.EN st), R.CMP_SGCFG g)) ++
    (t.streams.map fun st => (n.regionBreaks st, R.CMP_LOG_CFG st)))

/-! ## Check 7: reactive rules (R150) -/

/-- Whether an enabled modulation unit is attached to a channel. -/
def State.modulated (n : State) (ch : Nat) : Bool :=
  n.flag (F.MOD_CFG.EN (ch / 16)) && bitOf (n.fld (F.MOD_CHMASK.CH (ch / 16))) (ch % 16)

/-- The items of R150 about one enabled rule. -/
def State.ruleCheck (n : State) (g r : Nat) : List (Bool × Nat) :=
  if !n.flag (F.RCT_RCFG.EN g r) then []
  else
    let slots := n.ruleSlots g r
    let nalt := n.fld (F.RCT_RCFG.NALT g r)
    let care (t : Nat) : Nat := n.regN (R.RCT_RT_CARE_LO g r t) + 2 ^ 32 * n.regN (R.RCT_RT_CARE_HI g r t)
    (slots.map fun k => (!n.isMember g k.2, R.RCT_RSLOT g r (k.1 / 4))) ++
    (slots.map fun k => (slots.any fun j => decide (j.1 < k.1) && j.2 == k.2, R.RCT_RSLOT g r (k.1 / 4))) ++
    ((List.range 4).map fun t =>
      ((List.range 32).any fun k => bitsOf (care t) (2 * k) 2 != 0 &&
        (decide (nalt < t) || !bitOf (n.regN (R.RCT_RSLOTEN g r)) k), R.RCT_RT_CARE_LO g r t)) ++
    [(decide (2 ^ n.mult g ≤ n.fld (F.RCT_RCFG.SUBMASK g r)), R.RCT_RCFG g r)] ++
    (slots.map fun k => (n.modulated k.2, R.RCT_RSLOT g r (k.1 / 4)))

def TackView.check7 (t : TackView) : Option Nat :=
  firstFail ((t.changed.map fun k => (decide (0x1C00000 ≤ k) && decide (k < 0x1C40000) &&
      t.s.busySg ((k - 0x1C00000) / 0x1000), k)) ++
    t.groups.flatMap fun g => (List.range 16).flatMap fun r => t.n.ruleCheck g r)

/-! ## Check 8: check-value units (R158) -/

/-- Whether a range of whole 4 KiB units lies in one pool allocation, an unprotected one (R421); an empty one has no byte outside. -/
def State.unitsHeld (n : State) (base units : Nat) : Bool := units == 0 || n.poolOpen base (units * 4096)

/-- The changed keys of a unit, as items, except those a test excuses. -/
def TackView.changedItems (t : TackView) (u : ServeUnit) (excused : Nat → Bool) : List (Bool × Nat) :=
  if t.unitBusy u then
    (t.changed.filter fun k => keyUnit k == some u && !excused k).map fun k => (true, keyOffset k)
  else []

/-- The level of the last used data edge of an entry: 1 Low, 2 High, 3 source bit, 0 none. -/
def lastLevel (w : Nat) : Nat := if bitsOf w 4 2 ≠ 0 then bitsOf w 4 2 else bitsOf w 2 2

def State.cvLaneList (n : State) (u : Nat) : List Nat :=
  (List.range (n.fld (F.CV_LANES.NLANES u))).map (n.fld (F.CV_LANES.FIRSTCH u) + ·)

def State.cvLanesBad (n : State) (u : Nat) : Bool :=
  let ls := n.cvLaneList u
  ls.isEmpty || ls.any fun c => c / 16 != n.fld (F.CV_LANES.FIRSTCH u) / 16 || !n.isMember (n.fld (F.CV_CFG.SG u)) c

def State.cvDrives (n : State) (u : Nat) : Bool := n.flag (F.CV_CFG.EN u) && !n.flag (F.CV_CFG.MODE u)

def State.cvCodesBad (n : State) (u : Nat) : Bool :=
  let entry (c x : Nat) : Nat := n.wtCode c x
  let c0 := n.fld (F.CV_CODES.C0 u)
  let c1 := n.fld (F.CV_CODES.C1 u)
  let cf := n.fld (F.CV_CODES.CF u)
  (n.cvLaneList u).any fun c =>
    if n.flag (F.CV_CFG.MODE u) then
      bitsOf (entry c c0) 8 3 == 0 || bitsOf (entry c c1) 8 3 == 0 || bitsOf (entry c cf) 8 3 == 0 ||
      (n.flag (F.CV_CFG.FAILMAP u) && bitsOf (entry c cf) 8 3 != 5)
    else lastLevel (entry c c0) != 1 || lastLevel (entry c c1) != 2

def State.cvCheck (n : State) (u : Nat) : List (Bool × Nat) :=
  if !n.flag (F.CV_CFG.EN u) then []
  else
    [(n.cvLanesBad u, R.CV_LANES u),
     (n.cvDrives u && (List.range 32).any fun v => v != u && n.cvDrives v &&
        (n.cvLaneList u).any fun c => n.cvLane v c, R.CV_LANES u),
     (decide (5 ≤ n.fld (F.CV_CFG.POLY u)) || decide (16 < n.fld (F.CV_CFG.ALEN u)), R.CV_CFG u),
     (n.cvCodesBad u, R.CV_CODES u),
     (n.flag (F.CV_CFG.MODE u) && !n.unitsHeld (n.regN (R.CV_BUF_BASE u)) (n.regN (R.CV_BUF_SIZE u)), R.CV_BUF_BASE u)]

/-- The covered units of a kind, ascending. -/
def TackView.units (t : TackView) (count : Nat) (mk : Nat → ServeUnit) : List Nat :=
  (List.range count).filter fun u => t.covers (mk u)

def TackView.check8 (t : TackView) : Option Nat :=
  let us := t.units 32 .cv
  firstFail ((us.flatMap fun u => t.changedItems (.cv u) fun _ => false) ++ us.flatMap t.n.cvCheck)

/-! ## Check 9: source and modulation units (R177) -/

/-- The sequence entries and the segments they use, of a unit's tables. -/
def State.seqSegs (n : State) (seqSpace segSpace u count : Nat) : List (SeqEntry × Segment) :=
  (List.range count).map fun e => (n.seqEntry seqSpace u e, n.segment segSpace u (n.seqEntry seqSpace u e).seg)

def seqBad (q : SeqEntry) (segCount seqCount : Nat) : Bool :=
  decide (segCount ≤ q.seg) || (!q.ends && decide (seqCount ≤ q.next))

def State.srcCheck (n : State) (u : Nat) : List (Bool × Nat) :=
  if !n.flag (F.SRC_CFG.EN u) then []
  else
    let lanes := (List.range (n.srcWidth u)).map (n.fld (F.SRC_CFG.FIRSTCH u) + ·)
    let segs := n.fld (F.SRC_TABLEN.SEGCOUNT u)
    let seqs := n.fld (F.SRC_TABLEN.SEQCOUNT u)
    let es := n.seqSegs 4 3 u seqs
    let idle := n.segment 3 u (n.fld (F.SRC_CFG.IDLESEG u))
    [(lanes.any fun c => c / 16 != u || !n.isMember (n.fld (F.SRC_CFG.SG u)) c, R.SRC_CFG u),
     (decide (5 ≤ n.fld (F.SRC_CFG.WIDTH u)) || n.fld (F.SRC_CFG.URPOL u) == 3, R.SRC_CFG u),
     (!n.unitsHeld (n.regN (R.SRC_MEM_BASE u)) (n.regN (R.SRC_MEM_SIZE u)), R.SRC_MEM_BASE u),
     (!n.unitsHeld (n.regN (R.SRC_RING_BASE u)) (n.regN (R.SRC_RING_SIZE u)), R.SRC_RING_BASE u),
     (es.any fun p => decide (p.2.length < 16) || (!p.2.stream &&
        decide (n.regN (R.SRC_MEM_SIZE u) * 4096 < p.2.offset * 32 + ceilDiv (p.2.length * n.srcWidth u) 8)), 0),
     (n.regN (R.SRC_RING_SIZE u) == 0 && es.any fun p => p.2.stream, 0),
     (es.any fun p => seqBad p.1 segs seqs, 0),
     (n.fld (F.SRC_CFG.URPOL u) == 1 && (decide (segs ≤ n.fld (F.SRC_CFG.IDLESEG u)) || idle.stream), R.SRC_CFG u)]

def State.modCheck (n : State) (u : Nat) : List (Bool × Nat) :=
  if !n.flag (F.MOD_CFG.EN u) then []
  else
    let sg := n.fld (F.MOD_CFG.SG u)
    let chs := (bitsSet 16 (n.fld (F.MOD_CHMASK.CH u))).map (16 * u + ·)
    let len := n.regN (R.MOD_TABLEN u)
    let segs := bitsOf len 0 9
    let seqs := bitsOf len 16 11
    let es := n.seqSegs 6 5 u seqs
    let segmented := n.fld (F.MOD_CFG.MODE u) % 2 == 1
    [(chs.any fun c => !n.isMember sg c, R.MOD_CHMASK u),
     (decide (16383 < n.fld (F.MOD_AMP.AMP u)), R.MOD_AMP u),
     (!n.unitsHeld (n.regN (R.MOD_MEM_BASE u)) (n.regN (R.MOD_MEM_SIZE u)), R.MOD_MEM_BASE u),
     (es.any fun p => decide (p.2.length < 16) ||
        decide (n.regN (R.MOD_MEM_SIZE u) * 4096 < p.2.offset * 32 + 4 * p.2.length), 0),
     (es.any fun p => p.2.stream, 0),
     (es.any fun p => seqBad p.1 segs seqs, 0),
     (segmented && n.regN (R.MOD_RATIO u) == 0, R.MOD_RATIO u),
     (segmented && decide (seqs ≤ n.fld (F.MOD_JUMP.ENTRY u)), R.MOD_JUMP u),
     (segmented && decide (seqs ≤ n.fld (F.MOD_CFG.STARTENT u)), R.MOD_CFG u),
     (decide (2 ^ 15 ≤ n.regN (R.MOD_FREQ_HI u)), R.MOD_FREQ_HI u),
     (chs.any fun c => (List.range 16).any fun r =>
        n.flag (F.RCT_RCFG.EN sg r) && (n.ruleSlots sg r).any fun k => k.2 == c, R.MOD_CHMASK u)]

/-- MOD_FREQ, MOD_AMP and MOD_JUMP may change during a burst. -/
def modMayChange (key : Nat) : Bool :=
  decide (key < 2 ^ 26) && (key % 0x1000 == 0x0C || key % 0x1000 == 0x10 || key % 0x1000 == 0x14 || key % 0x1000 == 0x28)

def TackView.check9 (t : TackView) : Option Nat :=
  let ss := t.units 16 .src
  let ms := t.units 16 .mod
  firstFail ((ss.flatMap fun u => t.changedItems (.src u) fun _ => false) ++
    (ms.flatMap fun u => t.changedItems (.mod u) modMayChange) ++
    ss.flatMap t.n.srcCheck ++ ms.flatMap t.n.modCheck)

/-! ## Check 10: acquisition units (R180, R183, R184, R194, R199, R201) -/

def State.aqLaneList (n : State) (u : Nat) : List Nat :=
  (List.range (n.fld (F.AQ_CFG.NLANES u))).map fun j => n.fld (F.AQ_LANE.CH u (j / 4) (j % 4))

/-- AQ_LOC and the condition registers may change while a task is open (R194). -/
def aqMayChange (key : Nat) : Bool := key % 0x1000 == 0x44 || (decide (0x80 ≤ key % 0x1000) && decide (key % 0x1000 < 0x100))

/-- The rate reserved by the open task of a unit, GB/s (R199). -/
def State.aqReserved (s : State) (u : Nat) : Option Nat :=
  (Sparse.get (fun _ => AcqUnit.off) s.acqs u).slot.bind fun k => (s.resv.find? fun r => r.owner == k).map fun r => r.mbps / 1000

def State.aqLanesBad (n : State) (u : Nat) : Bool :=
  let ls := n.aqLaneList u
  ls.any (fun c => c / 64 != u / 4 || !n.isMember (n.fld (F.AQ_CFG.SG u)) c) || !allPairs (fun a b => a != b) ls

def State.aqShapeBad (n : State) (u : Nat) : Bool :=
  let lanes := n.fld (F.AQ_CFG.NLANES u)
  lanes == 0 || decide (32 < lanes) ||
  (n.fld (F.AQ_CFG.FORMAT u) == 2 && decide (64 < lanes * n.mult (n.aqSg u)))

def State.aqTooFast (n : State) (u : Nat) : Bool :=
  decide (n.fld (F.AQ_CFG.FORMAT u) < 2) &&
  decide (n.period (n.aqSg u) * (n.fld (F.AQ_DECIM.DECIM u) + 1) < popCount 8 (n.fld (F.AQ_CFG.SUBMASK u)) * 4096)

def TackView.aqCheck (t : TackView) (u : Nat) : List (Bool × Nat) :=
  let n := t.n
  if !n.flag (F.AQ_CFG.EN u) then []
  else
    [(n.aqTooFast u, R.AQ_CFG u),
     ((match t.s.aqReserved u with | some r => decide (r < n.aqRate u) | none => false), R.AQ_CFG u),
     (n.aqLanesBad u, R.AQ_LANE u 0),
     (n.aqShapeBad u, R.AQ_CFG u),
     (n.fld (F.AQ_CFG.FORMAT u) == 3, R.AQ_CFG u),
     ((List.range 4).any fun k => n.fld (F.AQ_TC_CFG.KIND u k) == 3, R.AQ_TC_CFG u 0),
     (n.aqPost u == 0, R.AQ_POST u),
     (decide (n.fld (F.AQ_CFG.NLANES u) ≤ n.fld (F.AQ_LOC.LANE u)), R.AQ_LOC u),
     (!n.unitsHeld (n.regN (R.AQ_BUF_BASE u)) (n.regN (R.AQ_BUF_SIZE u)), R.AQ_BUF_BASE u),
     (n.flag (F.AQ_CFG.SPILL u) && !((n.aqSpillAlloc u).any fun a => !a.prot), R.AQ_SPILL_BASE_LO u)]

def TackView.check10 (t : TackView) : Option Nat :=
  let us := t.units 16 .acq
  firstFail ((us.flatMap fun u =>
      if t.s.aqState u = 0 then []
      else (t.changed.filter fun k => keyUnit k == some (.acq u) && !aqMayChange k).map fun k => (true, k)) ++
    us.flatMap t.aqCheck)

/-! ## Check 11: time-interval units (R216) -/

def tdcOfKey (key : Nat) : Option Nat :=
  if 0x2800000 ≤ key ∧ key < 0x2840000 then some ((key - 0x2800000) / 0x1000) else none

def State.tdcBusy (s : State) (u : Nat) : Bool := s.fld (F.TDC_STAT.STATE u) != 0

/-- The items of R216 about a covered unit's settings, whatever its EN and MODE. -/
def State.tdcCheck (n : State) (u : Nat) : List (Bool × Nat) :=
    [(n.tdcCh u false / 64 != u / 16, R.TDC_INA u), (n.tdcCh u true / 64 != u / 16, R.TDC_INB u),
     (n.tdcPol u false == 3, R.TDC_INA u), (n.tdcPol u true == 3, R.TDC_INB u),
     (n.tdcMode u == 2 && n.regN (R.TDC_PERIODS u) == 0, R.TDC_PERIODS u),
     (n.tdcMode u == 3 && decide (n.regN (R.TDC_GATE u) < 100), R.TDC_GATE u),
     (!n.unitsHeld (n.regN (R.TDC_RES_BASE u)) (n.regN (R.TDC_RES_SIZE u)), R.TDC_RES_BASE u)]

def TackView.check11 (t : TackView) : Option Nat :=
  firstFail ((t.changed.map fun k => ((match tdcOfKey k with
      | some u => t.s.tdcBusy u || t.s.tdcBusy (partnerOf u)
      | none => false), k)) ++
    ((List.range 64).filter fun u => t.vals.any fun p => tdcOfKey p.1 == some u).flatMap t.n.tdcCheck)

/-! ## Check 12: the other blocks (R342, R344, R368, R397) -/

/-- Items of R342. -/
def State.linkCheck (n : State) : List (Bool × Nat) :=
  let out (p : Nat) : Bool := n.flag (F.LNK_P_CFG.FAILOUT p)
  let inn (p : Nat) : Bool := n.flag (F.LNK_P_CFG.FAILIN p)
  let target (p : Nat) : Nat := n.fld (F.LNK_P_CFG.INSTREAM p)
  ((List.range 4).map fun p => ((out p && n.logEncrypts (n.fld (F.LNK_P_CFG.OUTSTREAM p))) || (inn p && n.logEncrypts (target p)),
    R.LNK_P_CFG p)) ++
  ((List.range 4).map fun p => (inn p && (List.range 64).any fun g => n.assigned g (target p), R.LNK_P_CFG p)) ++
  ((List.range 4).map fun p => (inn p && (List.range p).any fun q => inn q && target q == target p, R.LNK_P_CFG p))

/-- Items of R344: a changed binding of a channel of an ARMED or RUNNING group. -/
def TackView.bindCheck (t : TackView) : List (Bool × Nat) :=
  (t.changed.filter fun k => decide (0xD00000 ≤ k) && decide (k < 0xD04000)).map fun k =>
    ((keyChannels k).any fun c => t.s.bindSlot c != t.n.bindSlot c &&
      ((t.s.groupOf c).toList ++ (t.n.groupOf c).toList).any t.s.busySg, k)

/-- Items of R397. -/
def TackView.pairCheck (t : TackView) : List (Bool × Nat) :=
  let busy := (List.range 64).any fun g => t.s.paired g && t.s.busySg g
  let cfg := t.s.fld F.BKS_CFG.ROLE != t.n.fld F.BKS_CFG.ROLE || t.s.fld F.BKS_CFG.PORT != t.n.fld F.BKS_CFG.PORT
  let mask := (List.range 64).any fun g => t.s.paired g && !t.n.paired g
  let half (g b : Nat) : Bool := bitsOf (t.n.regN (R.SE_CHMAP g (b / 2))) (16 * (b % 2)) 16 != 0
  [(busy && cfg, R.BKS_CFG), (busy && mask, R.BKS_SGMASK_LO),
   (t.n.fld F.BKS_CFG.ROLE != 0 && (List.range 16).any fun b =>
      ((List.range 64).any fun g => t.n.paired g && half g b) && (List.range 64).any fun g => !t.n.paired g && half g b,
    R.BKS_SGMASK_LO),
   (t.n.fld F.BKS_CFG.ROLE == 3, R.BKS_CFG)]

def TackView.check12 (t : TackView) : Option Nat :=
  firstFail (t.n.linkCheck ++ t.bindCheck ++
    [(decide (t.n.skew < -2048) || decide (2048 < t.n.skew), R.CAL_DEVSKEW)] ++ t.pairCheck)

/-! ## All of them -/

/-- The first of checks 3 to 12 that fails, with its offset. -/
def TackView.firstCheck (t : TackView) : Option (Nat × Nat) :=
  [(3, t.check3), (4, t.check4), (5, t.check5), (6, t.check6), (7, t.check7), (8, t.check8), (9, t.check9), (10, t.check10),
   (11, t.check11), (12, t.check12)].findSome? fun p => p.2.map fun off => (p.1, off)

end Sys2Proof.Machine
end

