-- ==== Sys2Proof/Machine/Tack.lean ====
section
/-! DEFINITION. Tack: the end of a TACK's checks, its commit instant and its commit, sessions of encrypted streams and the
reservations of fail-log drains (R25, R96, R135, R137, R305–R312, R424). -/
namespace Sys2Proof.Machine

/-! ## Fail-log drains (R135) -/

/-- The reservation that the settings in effect give a log stream. -/
def State.drainResv (s : State) (st : Nat) : Option Resv :=
  if s.flag (F.CMP_LOG_CFG.EN st) && s.logDeep st then
    ((s.deepHolding (s.regionBase st) (s.regionSize st)).filter fun d => !s.deepGone d).map fun d =>
      ⟨logOwner st, d.chmask, s.fld (F.CMP_LOG_CFG.BW st) * 1000⟩
  else none

/-- Streams that get a new or a different reservation with the commit. -/
def TackView.drains (t : TackView) : List Nat :=
  (List.range 4).filter fun st => (t.n.drainResv st).isSome && t.s.drainResv st != t.n.drainResv st

/-- Put the reservation of a stream that some settings give in the place of the one it holds. -/
def State.swapDrain (s : State) (st : Nat) (r : Option Resv) : State :=
  let s := s.unreserve (logOwner st)
  s.setResv (s.resv ++ r.toList)

/-- What a stream's new reservation adds to the one it holds, which stays in force until the commit (R23, R135): its increase on the same
controllers, or the whole of it on others (DESIGN CHOICE, log 92). -/
def State.drainExtra (s : State) (st : Nat) (r : Resv) : Resv :=
  match s.resv.find? fun o => o.owner == logOwner st with
  | some o => if o.chmask = r.chmask then { r with mbps := r.mbps - o.mbps } else r
  | none => r

/-- Check 13: every drain that the commit enables or changes is reserved with its stream charge, or none. -/
def State.reserveDrains (n s : State) : List Nat → Bool × State
  | [] => (true, s)
  | st :: rest =>
    match n.drainResv st with
    | none => n.reserveDrains s rest
    | some r =>
      let q := s.reserve (s.drainExtra st r)
      if !q.1 then (false, q.2)
      else if q.2.grantable < q.2.fld F.REEF_GRANTED.UNITS then (false, q.2.addSat F.REEF_REFUSED.POWER 1)
      else n.reserveDrains q.2 rest

/-- The drains hold what the settings in effect give them. -/
def State.settleDrains (s : State) : State :=
  (List.range 4).foldl (fun (s : State) st => s.swapDrain st (s.drainResv st)) s

/-! ## The checks (R309, R310) -/

/-- A TACK's checks or its commit instant refuse it: the bank is STAGED again, reservations are returned. -/
def State.tackFail (s : State) (k status check off : Nat) : State :=
  let s := (s.setFld F.TCK_ERR.CHECK check).setFld F.TCK_ERR.OFFSET off
  (s.settleDrains.tackLeave k).finish k status check 0

/-- A TACK in RUNNING whose commit instant will not come completes DEADLINE (R310, R357): no check of it failed, and its bank is
STAGED again. -/
def State.tackLapse (s : State) (k : Nat) : State := (s.settleDrains.tackLeave k).finish k stDeadline 0 0

/-- The tick at which cycle b of a group's current burst begins at the balls, if the start is known and line b is not issued. -/
def State.cycleStart (s : State) (sg b : Nat) : Option Nat :=
  let e := s.engine sg
  if s.eState sg = 1 then e.start.map fun t => t + b * s.period sg
  else if s.eState sg = 2 ∧ s.seCycle sg ≤ b then some (e.nextStart + (b - s.seCycle sg) * s.period sg)
  else none

/-- Whether check 14 fails: the commit instant has passed. -/
def State.tackLate (s : State) (d : Nat) : Bool :=
  match tkWhen d with
  | 1 =>
    match s.cycleStart (tkSg d) (tkAt d) with
    | some t => decide (t < toTick s.now + 61440)
    | none => !(s.eState (tkSg d) == 1)
  | 2 => decide (tkAt d * 2 ^ 32 + tkFrac d < s.now)
  | _ => false

/-- The group in whose vector cycles a staged value acts, if it acts in one (R96). -/
def TackView.actsIn (t : TackView) (d key : Nat) : Option Nat :=
  let gs := t.n.keyGroups key ++ t.s.keyGroups key
  if tkWhen d = 1 ∧ gs.contains (tkSg d) then some (tkSg d) else gs.head?

/-- The values of a bank that act in a group's cycles. -/
def TackView.groupValues (t : TackView) (d sg : Nat) : SMap Word := t.vals.filter fun p => t.actsIn d p.1 == some sg

/-- The TACK task in CHECKING or RUNNING. -/
def State.setTackJob (s : State) (job : TackJob) : State := { s with tack := some job }

/-- Committed values of a group wait for their boundary. -/
def State.pushGroup (s : State) (c : GroupCommit) : State := { s with groupPend := s.groupPend ++ [c] }

/-- A group's values of a bank wait for cycle b, or for the cycle that begins at a tick, ahead of the commit; those they replace are
kept for it. -/
def State.takeAhead (s : State) (job : TackJob) (sg : Nat) (b : Option Nat) (at' : Nat) (t : TackView) : State :=
  let vals := t.groupValues (s.slot job.slot).desc sg
  (s.setTackJob { job with
    met := if b.isNone then sg :: job.met else job.met
    before := job.before ++ vals.map fun p => (p.1, s.inEffect p.1) }).pushGroup ⟨sg, b, at', vals⟩

/-- The burst of a group starts: where that is the commit instant of a TACK in RUNNING, its values apply from cycle 0, whose line
issues before the instant (R25). -/
def State.meetTack (s : State) (sg start : Nat) : State :=
  match s.tack with
  | none => s
  | some job =>
    let d := (s.slot job.slot).desc
    if job.passed ∧ tkWhen d = 2 ∧ toTick (tkAt d * 2 ^ 32 + tkFrac d) = start then
      s.takeAhead job sg none start (s.tackView job.bank)
    else s

/-- The checks have passed and the drains are reserved: the task enters RUNNING, or its instant has passed meanwhile (check 14). -/
def State.tackPass (s : State) (k : Nat) (job : TackJob) (t : TackView) : State :=
  let d := (s.slot k).desc
  if s.tackLate d then s.tackFail k stDeadline 14 0
  else
    let s := (s.setReg R.TCK_ERR 0).enterRunning k
    let s := s.setTackJob { job with passed := true, checkEnd := s.now }
    if tkWhen d = 1 then s.takeAhead { job with passed := true, checkEnd := s.now } (tkSg d) (some (tkAt d)) 0 t else s

/-- TMG_SG_ERR of every group that a Tack covers, whichever of its checks fails (R107). -/
def State.writeTimingErrs (s : State) (t : TackView) : State :=
  t.groups.foldl (fun (s : State) g => s.setReg (R.TMG_SG_ERR g) (t.n.timingWord t.s g)) s

/-- The checks of a bank's settings, in order (R309); the drains' bandwidth is reserved last (check 13). -/
def State.tackJudge (s : State) (k : Nat) (job : TackJob) (t : TackView) : State :=
  match t.firstCheck with
  | some f => s.tackFail k stInconsistent f.1 f.2
  | none =>
    let r := t.n.reserveDrains s t.drains
    if !r.1 then r.2.tackFail k stNoGrant 13 0 else r.2.tackPass k job t

/-- The checks of the TACK in a slot, in order (R309). One that passes enters RUNNING; with WHEN = 1 its group's values wait for
cycle b. -/
def State.tackRun (s : State) (k : Nat) : State :=
  let d := (s.slot k).desc
  match s.tack with
  | none => s
  | some job =>
    if job.slot ≠ k ∨ job.passed then s
    else if (s.bank job.bank).vals.isEmpty then
      ((s.setReg R.TCK_ERR 0).tackLeave k).finish k stOk 0 0
    else
      let t := s.tackView job.bank
      let s := s.writeTimingErrs t
      if tkWhen d = 1 ∧ !s.busySg (tkSg d) then s.tackFail k stInconsistent 2 0 else s.tackJudge k job t

/-! ## Sessions (R137, R424) -/

/-- Bytes 0x00 to 0xBF of a session header. -/
def State.sessionHead (s : State) (st number : Nat) (eph : List Byte) (c : Option Section) : List Byte :=
  toBytes 4 0x21 ++ toBytes 1 st ++ toBytes 3 0 ++ toBytes 8 number ++ toBytes 8 s.part.uid ++ toBytes 8 s.ns ++ eph ++
  toBytes 32 ((c.map fun c => c.flKey).getD 0) ++ toBytes 32 ((c.map fun c => c.ownerKey).getD 0) ++ toBytes 64 0

/-- A new session of a stream begins for the owner of one of its groups' sections, or its records are lost until a later Tack begins one
(R424): the ephemeral key pair is drawn, and only the session key is kept. -/
def State.beginSession (s : State) (st : Nat) (c : Option Section) : State :=
  let l := s.log st
  match s.shroud.keys with
  | none => s.setLog st { l with dead := true, chunk := [] }
  | some key =>
    if !s.flag F.SHR_STAT.IDENT ∨ s.debug = 2 then s.setLog st { l with dead := true, chunk := [] }
    else
      let number := s.kept.sessions
      let s := { s with kept := { s.kept with sessions := (number + 1) % 2 ^ 64 } }
      let priv := Config.freeValue s.free % 2 ^ 256
      let eph := toBytes 32 (Config.x25519 priv 9)
      let flKey := (c.map fun c => c.flKey).getD 0
      let sessionKey := Config.sha512 (toBytes 32 (Config.x25519 priv flKey) ++ eph ++ toBytes 32 flKey) % 2 ^ 256
      let head := s.sessionHead st number eph c
      let s := s.drawn
      let bytes := head ++ toBytes 64 (Config.ed25519Sign key.1 head) ++ toBytes 3840 0
      let s := s.spaceWrite (if s.logDeep st then 2 else 1) (s.regionBase st) bytes
      let s := (s.setReg (R.CMP_LOG_WRPTR st) 4096).setReg (R.CMP_LOG_RDPTR st) 4096
      (s.setLog st { l with dead := false, chunk := [], seq := 0, session := number, owner := (c.map Section.owner).getD (0, 0), key := sessionKey }).showFull st

/-- Whether a commit begins a session on a stream. -/
def State.sessionDue (s old : State) (st : Nat) : Bool :=
  s.logEncrypts st && (!old.logEncrypts st ||
    (List.range 64).any fun g => s.assigned g st && !old.assigned g st &&
      match (s.engine g).sec with
      | some c => c.owner != (s.log st).owner
      | none => false)

/-- A stream after a commit from old settings to new ones, some of which may still wait for their groups' boundaries: its old chunk is
sealed, a session begins where one is due, and
a pointer outside the region returns to the region's first byte (DESIGN CHOICE, log 21). -/
def State.settleStream (n old : State) (s : State) (st : Nat) : State :=
  let s := if n.sessionDue old st then s.beginSession st (n.streamSections st).head?
    else if s.logEncrypts st then s else s.setLog st { s.log st with dead := false }
  let bad (p : Nat) : Bool := decide (p < s.regionFirst st) || decide (s.regionSize st ≤ p) || p % s.regionUnit st != 0
  let s := if s.flag (F.CMP_LOG_CFG.EN st) && (bad (s.regN (R.CMP_LOG_WRPTR st)) || bad (s.regN (R.CMP_LOG_RDPTR st))) then
      (s.setReg (R.CMP_LOG_WRPTR st) (s.regionFirst st)).setReg (R.CMP_LOG_RDPTR st) (s.regionFirst st)
    else s
  (s.showFull st).writeLost st

/-! ## The commit (R310–R312) -/

/-- What the commit instant of a TACK in RUNNING brings now: nothing yet, the commit, or its failure. -/
inductive CommitState where
  | waits | commits | fails
deriving DecidableEq, Repr

def State.commitState (s : State) (job : TackJob) (d : Nat) : CommitState :=
  match tkWhen d with
  | 1 =>
    let sg := tkSg d
    let waiting := s.groupPend.any fun c => c.sg == sg && c.atCycle.isSome
    if job.applied then
      let back := s.seCycle sg - tkAt d
      if s.eState sg ≠ 2 ∨ (s.engine sg).nextStart ≤ toTick s.now + back * s.period sg then .commits else .waits
    else if waiting then (if s.busySg sg then .waits else .commits)
    else .fails
  | 2 => if tkAt d * 2 ^ 32 + tkFrac d ≤ s.now then .commits else .waits
  | _ => .commits

/-- A value takes effect in the core cycle of τ, or waits for its group's boundary: that of the burst's start when τ meets it
(R25), else the first at or after τ + 7.5 ns. A group without vector cycles takes it at once. -/
def State.commitGroup (s : State) (tau sg : Nat) (vals : SMap Word) : State :=
  if vals.isEmpty then s
  else if !s.flag (F.PG_CFG.EN sg) then ((s.takeCommit sg (s.seCycle sg) (tau + 61440) ⟨sg, none, tau, vals⟩).holdGroup sg).latchJumps
  else
    let at' := if s.busySg sg ∧ (s.engine sg).start = some tau then tau else tau + 61440
    { s with groupPend := s.groupPend ++ [⟨sg, none, at', vals⟩] }

/-- The commit of a bank at tick τ. -/
def State.commitBank (s : State) (job : TackJob) (d tau : Nat) : State :=
  let t := (s.overlay job.before).tackView job.bank
  let own := if tkWhen d = 1 then [tkSg d] else []
  let left := s.groupPend.filter fun c => tkWhen d == 1 && c.sg == tkSg d && c.atCycle.isSome
  let s := left.foldl (fun (s : State) c => s.applyValues (s.seCycle c.sg) c.values)
    { s with groupPend := s.groupPend.filter fun c => !left.contains c }
  let free := t.vals.filter fun p => (t.actsIn d p.1).isNone
  let streams := (List.range 4).filter fun st => t.streams.contains st || t.groups.any fun g => t.n.assigned g st
  let s := streams.foldl (fun (s : State) st =>
    if s.logEncrypts st && (t.n.sessionDue t.s st || !t.n.logEncrypts st) then s.sealChunk st else s) s
  let s := s.applyValues 0 free
  let s := ((List.range 64).filter fun g => !own.contains g && !job.met.contains g).foldl (fun (s : State) g => s.commitGroup tau g (t.groupValues d g)) s
  let s := streams.foldl (fun (s : State) st => t.n.settleStream t.s s st) s
  let s := (s.settleDrains.setReg R.TCK_PEND 0).setBank job.bank ⟨false, []⟩
  ({ s with tack := none }).addSat F.TCK_STAT.COMMITS 1

/-- The commit instant of the TACK in a slot (R311): the commit, or DEADLINE when its burst ended before cycle b. -/
def State.tackCommit (s : State) (k : Nat) : State :=
  let d := (s.slot k).desc
  match s.tack with
  | none => s
  | some job =>
    if job.slot ≠ k ∨ !job.passed then s
    else match s.commitState job d with
      | .waits => s
      | .fails => s.tackLapse k
      | .commits =>
        let tau := match tkWhen d with
          | 1 => (s.engine (tkSg d)).nextStart - (s.seCycle (tkSg d) - tkAt d) * s.period (tkSg d)
          | 2 => toTick (tkAt d * 2 ^ 32 + tkFrac d)
          | _ => toTick s.now
        (s.commitBank job d tau).finish k stOk 0 0

/-- Where no safe-waveform cycle is commanded, a group's values take effect as the clock passes the boundary of its grid at which one
would begin (R96; DESIGN CHOICE, log 22). -/
def State.passGrid (s : State) (g : Nat) : State :=
  let n := (s.engine g).nextStart
  if toTick s.now < n then s
  else
    let start := n + (toTick s.now - n) / s.period g * s.period g
    if s.groupPend.any fun c => c.due (decide (2 ≤ s.eState g)) g (s.seCycle g) start then
      (s.setEngine g { s.engine g with nextStart := start }).groupBoundary g (s.seCycle g) start
    else s

/-- Between bursts the values that wait for a group's boundary take effect with the clock too. -/
def State.idleBoundaries (s : State) : State :=
  let gs := (List.range 64).filter fun g => s.groupPend.any fun c => c.sg == g
  gs.foldl (fun (s : State) g =>
    if s.eState g = 2 then s
    else if s.flag (F.PG_CFG.EN g) then s.passGrid g
    else s.groupBoundary g (s.seCycle g) (toTick s.now)) s

/-! ## Stage banks (R306) -/

/-- TCK_CTRL.CLRA or CLRB. -/
def State.bankClear (s : State) (b : Nat) : State :=
  if (s.bank b).locked then s.regFault R.TCK_CTRL else s.setBank b ⟨false, []⟩

end Sys2Proof.Machine
end

