-- ==== Sys2Proof/Machine/Time.lean ====
section
/-! DEFINITION. Device time, its master and corrections, TIME frames, and time triggers (R349–R366). -/
namespace Sys2Proof.Machine

/-! ## The counter (R349, R356, R357) -/

/-- ADJ in effect: TIM_ADJ, signed. -/
def State.adj (s : State) : Int := signed 32 (s.regN R.TIM_ADJ)

/-- SLEWTERM of the next time-clock edge: TIM_SLEW with the sign of what is left, less at the final edge (R356). -/
def State.slewTerm (s : State) : Int :=
  let most : Int := s.regN R.TIM_SLEW
  max (-most) (min most s.clock.slew)

/-- INCR (R349). -/
def State.incr (s : State) : Int := 2 ^ 32 + s.adj + s.slewTerm

/-- Enter a time state; a change signals event 195 (R361). -/
def State.setTimeState (s : State) (v : Nat) : State :=
  if s.timeState = v then s else (s.setFld F.TIM_STAT.STATE v).signal 195

/-- Whether an engine is ARMED or RUNNING. -/
def State.anyBusy (s : State) : Bool := (List.range 64).any s.busySg

/-! ## Time triggers (R362–R364) -/

/-- The start instants of ARMED bursts that wait for a trigger follow its firings (R276, R363). -/
def State.retrigger (s : State) (n : Nat) : State :=
  (List.range 64).foldl (fun (s : State) sg =>
    let e := s.engine sg
    match e.slot with
    | some k =>
      if s.eState sg = 1 ∧ e.trigger = some n then
        s.setEngine sg { e with start := (s.ttFiring n ((s.slot k).dispatch + s.armLead sg * 2 ^ 32)).map toTick }
      else s
    | none => s) s

/-- Commit the firings whose instants lie within 100 ns, at most a count of them. -/
def State.ttCommit (s : State) (n : Nat) : Nat → State
  | 0 => s
  | fuel + 1 =>
    let t := s.trigger n
    if s.ttEnabled n && !t.stopping && s.ttHas n t.next && decide (s.ttInstant n t.next ≤ s.now + 100 * 2 ^ 32) then
      (s.setTrigger n { t with next := t.next + 1, done := t.next + 1, committed := t.committed ++ [s.ttInstant n t.next] }).ttCommit n fuel
    else s

/-- A trigger with nothing committed and nothing to come is disabled (R364). -/
def State.ttSettle (s : State) (n : Nat) : State :=
  let t := s.trigger n
  if t.committed.isEmpty && (t.stopping || !s.ttHas n t.next) then
    (s.setTrigger n { t with stopping := false }).setFld (F.TT_CFG.EN n) 0
  else s

/-- The schedule goes on from the first k at or after a given one whose instant lies at least 100 ns ahead; those left out are
counted in MISSED (R362). -/
def State.ttSkip (s : State) (n k : Nat) : State :=
  let t := s.trigger n
  let next := max k (s.ttFirst n (s.now + 100 * 2 ^ 32))
  let last := if s.flag (F.TT_CFG.MODE n) then (if s.regN (R.TT_COUNT n) = 0 then next else s.regN (R.TT_COUNT n)) else 1
  let missed := min next last - t.next
  (((s.setTrigger n { t with next := next }).addSat (F.TT_STAT.MISSED n) missed).ttCommit n 16).ttSettle n

/-- A step of device time from an instant reschedules a trigger: firings that it passes over are not made, no committed firing is
repeated. -/
def State.ttStep (s : State) (before n : Nat) : State :=
  if s.ttEnabled n then
    let t := s.trigger n
    let passed := t.committed.filter fun i => decide (before < i) && decide (i < s.now)
    let s := (s.setTrigger n { t with committed := t.committed.filter fun i => !passed.contains i }).addSat (F.TT_STAT.MISSED n) passed.length
    if t.stopping then s.ttSettle n else (s.ttSkip n t.done).retrigger n
  else s

/-- A write of TT_CFG with EN = 1 (R364). -/
def State.ttEnable (s : State) (n v : Nat) : State :=
  let width := bitsOf v 0 16
  let period := s.reg64 (R.TT_PERIOD_LO n) (R.TT_PERIOD_HI n)
  if s.ttEnabled n || (bitOf v 29 && decide (width < 4)) ||
      (bitOf v 30 && (decide (period < width + 4) || decide (period < 8))) then s.regFault (R.TT_CFG n)
  else
    let s := (s.setReg (R.TT_CFG n) (v &&& 0xF000FFFF)).setTrigger n Trigger.off
    (s.ttSkip n 0).retrigger n

/-- A write of TT_CFG with EN = 0 (R364): while enabled it only ends the schedule, after a firing already committed. -/
def State.ttDisable (s : State) (n v : Nat) : State :=
  if s.ttEnabled n then
    ((s.setTrigger n { s.trigger n with stopping := true }).ttSettle n).retrigger n
  else s.setReg (R.TT_CFG n) (v &&& 0x7000FFFF)

/-- A write of TT_CFG. -/
def State.ttCfgWrite (s : State) (n v : Nat) : State := if bitOf v 31 then s.ttEnable n v else s.ttDisable n v

/-- A write of another trigger register: only while EN = 0 (R364). -/
def State.ttRegWrite (s : State) (n off v : Nat) : State := if s.ttEnabled n then s.regFault off else s.setReg off v

/-- The ns edge at which the pulse of TTOUTn ends, or that none is running. -/
def State.ttoutPulse (s : State) (n : Nat) (upto : Option Nat) : State :=
  { s with pins := { s.pins with ttoutEnd := setAt s.pins.ttoutEnd n upto } }

/-- A committed firing comes due (R363). -/
def State.ttFire (s : State) (n : Nat) : State :=
  let t := s.trigger n
  match t.committed with
  | [] => s
  | i :: rest =>
    if s.now < i then s
    else
      let s := ((s.setTrigger n { t with committed := rest }).addSat (F.TT_STAT.FIRED n) 1).signal (196 + n)
      (if s.flag (F.TT_CFG.OUTEN n) then s.ttoutPulse n (some (s.clk + s.fld (F.TT_CFG.WIDTH n))) else s).ttSettle n

/-- TTOUTn returns to its inactive level after WIDTH ns. -/
def State.ttoutEnds (s : State) (n : Nat) : State :=
  match nth s.pins.ttoutEnd n none with
  | some e => if e ≤ s.clk then s.ttoutPulse n none else s
  | none => s

/-- The level of TTOUTn (R363). -/
def State.ttout (s : State) (n : Nat) : Bool :=
  ((nth s.pins.ttoutEnd n none).isSome && s.flag (F.TT_CFG.OUTEN n)) != s.flag (F.TT_CFG.POL n)

/-- A rising edge on TTINk (R365), stamped with the time-clock edge at or after it: this one, or the next. -/
def State.ttinEdge (s : State) (k : Nat) (onEdge : Bool) : State :=
  let t := if onEdge then s.now else (s.now + s.incr).toNat
  let s := s.setReg64 (R.TIM_TTIN_LO k) (R.TIM_TTIN_HI k) (t / 2 ^ 32 % 2 ^ 64)
  (s.addSat (if k = 0 then F.TIM_TTINCNT.CNT0 else F.TIM_TTINCNT.CNT1) 1).signal 195

/-! ## Steps (R357) -/

/-- A TACK with WHEN = 2, or a set with TDC_TSTART, over whose instant the step passes completes DEADLINE. -/
def State.stepPasses (s : State) (before : Nat) : State :=
  let passed (i : Nat) : Bool := decide (before < i) && decide (i < s.now)
  let s := match s.tack with
    | none => s
    | some t =>
      let d := (s.slot t.slot).desc
      if t.passed && tkWhen d == 2 && passed (tkAt d * 2 ^ 32 + tkFrac d) then s.tackLapse t.slot else s
  (List.range 64).foldl (fun (s : State) u =>
    if (s.tdc u).slot.isSome && (s.tdc u).armedAt.isNone && s.tdcStartNs u != 0 && passed (s.tdcStartNs u * 2 ^ 32) then
      s.tdcEnd u stDeadline
    else s) s

/-- Apply a step: the counter changes at once, and time triggers are rescheduled. -/
def State.applyStep (s : State) (h : HeldStep) : State :=
  let before := s.now
  let value : Nat := match h with
    | .gain d => (((before : Int) + d) % (2 ^ 96 : Int)).toNat
    | .load v => v
  let s := { s with now := value }.stepPasses before
  let s := (List.range 4).foldl (fun (s : State) n => s.ttStep before n) s
  let s := s.retimeDrams
  match h with
  | .gain _ => s.setTimeState 3
  | .load _ => s

/-- A held step is applied in the first core cycle with no engine ARMED or RUNNING. -/
def State.stepApply (s : State) : State :=
  match s.clock.held with
  | none => s
  | some h =>
    if s.anyBusy then s
    else ({ s with clock := { s.clock with held := none } }.setFld F.TIM_STAT.STEPPEND 0).applyStep h

/-- A step is requested: it is held, and applied at once where no engine is ARMED or RUNNING. -/
def State.requestStep (s : State) (h : HeldStep) : State :=
  ({ s with clock := { s.clock with held := some h } }.setFld F.TIM_STAT.STEPPEND 1).stepApply

/-- TIM_CTRL.SET (R357): in MASTER or FREE only. -/
def State.timeSet (s : State) : State :=
  if s.timeState ≤ 1 then
    s.requestStep (.load ((s.reg64 R.TIM_SET_NS_LO R.TIM_SET_NS_HI) * 2 ^ 32 + s.regN R.TIM_SET_FRAC))
  else s.regFault R.TIM_CTRL

/-- TIM_CTRL.ACCEPT (R356): in REFUSING only. -/
def State.timeAccept (s : State) : State :=
  if s.timeState = 6 then { s with clock := { s.clock with accept := true } } else s

/-! ## Masters (R358–R361) -/

/-- A master in view: its PRIO and UID, the hops to it, and the upstream port; none: this device itself. -/
structure Master where
  prio : Nat
  uid : Nat
  hops : Nat
  port : Option Nat
deriving DecidableEq, Repr

/-- Whether a view is better than another (R358). -/
def Master.better (a b : Master) : Bool :=
  let key (m : Master) : List Nat := [m.prio, m.uid, m.hops, match m.port with | none => 0 | some p => p + 1]
  decide (key a < key b)

/-- The master in view, if any: of itself and the kept ANNOUNCEs the best. -/
def State.master (s : State) : Option Master :=
  let own := s.fld F.TIM_CFG.PRIO
  let self := if own = 255 then [] else [Master.mk own s.part.uid 0 none]
  let heard := s.clock.anns.filterMap fun p =>
    if p.2.hops < 15 ∧ p.2.prio < 255 then some (Master.mk p.2.prio p.2.muid (p.2.hops + 1) (some p.1)) else none
  (self ++ heard).foldl (fun (b : Option Master) m =>
    match b with
    | none => some m
    | some c => if m.better c then some m else b) none

/-- The device's view is computed anew; lost says whether the upstream's ANNOUNCE has just been dropped (R358, R360, R361). -/
def State.review (s : State) (lost : Bool) : State :=
  let m := s.master
  let s := s.setFld F.TIM_STAT.UPPORT ((m.bind fun m => m.port).getD 0)
  let s := s.setFld F.TIM_STAT.HOPS ((m.map fun m => m.hops).getD 0)
  let s := s.setReg64 R.TIM_MASTER_LO R.TIM_MASTER_HI ((m.map fun m => m.uid).getD 0)
  match m with
  | some m =>
    if m.port.isNone then s.setTimeState 1
    else if s.timeState ≤ 1 then s.setTimeState 2
    else if lost && s.timeState == 3 then s.setTimeState 5
    else s
  | none =>
    if s.timeState = 3 ∨ s.timeState = 5 then s.setTimeState 5
    else if s.timeState = 4 then s
    else s.setTimeState 0

/-- The upstream port, if the view has one. -/
def State.upstream (s : State) : Option Nat := s.master.bind fun m => m.port

/-- The kept ANNOUNCE of a port is dropped. -/
def State.dropAnnounce (s : State) (p : Nat) : State :=
  let lost := s.upstream = some p
  { s with clock := { s.clock with anns := Sparse.erase s.clock.anns p } }.review lost

/-- 4 ms without a new ANNOUNCE (R358). -/
def State.announceExpires (s : State) (p : Nat) : State :=
  match Sparse.find? s.clock.anns p with
  | some a => if a.at' + 4000000 ≤ s.clk then s.dropAnnounce p else s
  | none => s

/-- A write of TIM_CFG. -/
def State.timCfgWrite (s : State) (v : Nat) : State := (s.setReg R.TIM_CFG (v &&& 0xFFFF01FF)).review false

/-- EFFECTIVE of a write now (R359), in ns. -/
def effectiveAfter (ns : Nat) : Nat := ceilDiv (ns + 2 ^ 24) (2 ^ 25) * 2 ^ 25

/-- A write of TIM_ADJ: in MASTER or FREE only, it becomes PEND_ADJ. -/
def State.timAdjWrite (s : State) (v : Nat) : State :=
  if s.timeState ≤ 1 then { s with clock := { s.clock with pend := some (v % 2 ^ 32, effectiveAfter (ceilDiv s.now (2 ^ 32))) } }
  else s.regFault R.TIM_ADJ

/-- At EFFECTIVE, PEND_ADJ becomes ADJ. -/
def State.adjEffective (s : State) : State :=
  match s.clock.pend with
  | some (v, at') => if at' * 2 ^ 32 ≤ s.now then { s with clock := { s.clock with pend := none } }.setReg R.TIM_ADJ v else s
  | none => s

/-- When a slew has gained exactly d the device is SYNCED (R356), or in HOLDOVER if its upstream was lost meanwhile. -/
def State.slewDone (s : State) : State :=
  if s.timeState = 4 ∧ s.clock.slew = 0 then s.setTimeState (if s.upstream.isSome then 3 else 5) else s

/-! ## TIME frames (R351–R354) -/

/-- A device time in 2^-32 ns as 12 bytes: ns, then fraction. -/
def timeBytes (t : Nat) : List Byte := toBytes 8 (t / 2 ^ 32) ++ toBytes 4 t
/-- The time in the 12 bytes of a payload from a byte on. -/
def payloadTime (d off : Nat) : Nat := dget d off 8 * 2 ^ 32 + dget d (off + 8) 4

/-- Offer a TIME frame to a port. -/
def State.offerTime (s : State) (p : Nat) (bytes : List Byte) : State :=
  let q := s.nextSeq 4
  q.2.offerFrame p ⟨4, 1, s.fld F.LNK_ID.ID, q.1, ofBytes bytes⟩

/-- ANNOUNCE payload: the device's own view (R358), ADJ and the change that is pending. -/
def State.announcePayload (s : State) : List Byte :=
  let m := s.master
  let pend := s.clock.pend.getD (0, 0)
  toBytes 1 3 ++ toBytes 1 (b2n s.synchronised) ++ toBytes 1 ((m.map fun m => m.prio).getD 255) ++
  toBytes 1 ((m.map fun m => m.hops).getD 0) ++ toBytes 4 (s.regN R.TIM_ADJ) ++
  toBytes 8 ((m.map fun m => m.uid).getD s.part.uid) ++ toBytes 4 pend.1 ++ toBytes 8 pend.2 ++ toBytes 4 0

/-- Every 1 ms a port that carries TIME frames sends an ANNOUNCE. -/
def State.announceTimer (s : State) (p : Nat) : State :=
  if s.carries p && decide ((s.port p).announceTx + 1000000 ≤ s.clk) then
    (s.setPort p { s.port p with announceTx := s.clk }).offerTime p s.announcePayload
  else s

/-- Every 125 µs the upstream port sends a REQUEST. -/
def State.requestTimer (s : State) (p : Nat) : State :=
  if s.carries p && s.upstream == some p && decide ((s.port p).requestTx + 125000 ≤ s.clk) then
    (s.setPort p { s.port p with requestTx := s.clk }).offerTime p (toBytes 1 1 ++ toBytes 1 (b2n s.synchronised) ++ toBytes 30 0)
  else s

/-- Transmit stamp queue of a port, shown in its DEPTH. -/
def State.txq (s : State) (p : Nat) : List TxStamp := Sparse.get (fun _ => []) s.clock.txq p
def State.setTxq (s : State) (p : Nat) (q : List TxStamp) : State :=
  { s with clock := { s.clock with txq := Sparse.set (fun _ => []) s.clock.txq p q } }.setFld (F.TIM_P_TXQ.DEPTH p) q.length

/-- The stamp of a sent REQUEST joins the queue (R353). -/
def State.stampRequest (s : State) (p seq phase : Nat) : State :=
  let q := s.txq p
  let s := if q.length < 16 then s else s.addSat (F.TIM_P_TXQ.OVF p) 1
  s.setTxq p ((if q.length < 16 then q else q.drop 1) ++ [⟨seq, s.now, phase, s.clk⟩])

/-- A TIME frame at the instant its SOF crosses the transmit ball: a REQUEST is stamped, a RESPONSE carries its stamp. -/
def State.stampSent (s : State) (p phase : Nat) (f : Frame) : Frame × State :=
  if f.cls ≠ 4 then (f, s)
  else if dget f.payload 0 1 = 1 then (f, s.stampRequest p f.seq phase)
  else if dget f.payload 0 1 = 2 then
    ({ f with payload := putBits (putBits f.payload 48 16 phase) 160 96 (ofBytes (timeBytes s.now)) }, s)
  else (f, s)

/-- A stamp is removed 1 ms after its REQUEST was sent. -/
def State.stampExpires (s : State) (p : Nat) : State :=
  s.setTxq p ((s.txq p).filter fun e => !decide (e.at' + 1000000 ≤ s.clk))

/-- Whether the reserved bytes of a TIME payload are 0 (R351). -/
def timeClean (d : Nat) : Bool :=
  bitsOf d 9 7 == 0 &&
  match dget d 0 1 with
  | 1 => dget d 2 30 == 0
  | 2 => true
  | 3 => dget d 28 4 == 0
  | _ => false

/-- A correction of a slave (R356). -/
def State.correct (s : State) (d : Int) : State :=
  let most : Int := s.fld F.TIM_CFG.JUMPMAX * 2 ^ 32
  let mag : Int := if d < 0 then -d else d
  let refuse (s : State) : State :=
    (((s.setFld F.TIM_STAT.JUMPREF 1).addSat F.TIM_STAT.REFUSALS 1).signal 195).setTimeState 6
  match s.timeState with
  | 2 => s.requestStep (.gain d)
  | 6 =>
    if s.clock.accept || (s.flag F.TIM_CFG.RELOCK && decide (16 ≤ s.clock.refused)) then
      { s with clock := { s.clock with accept := false, refused := 0 } }.requestStep (.gain d)
    else refuse { s with clock := { s.clock with refused := s.clock.refused + 1 } }
  | 3 | 5 =>
    if d = 0 then s.setTimeState 3
    else if mag ≤ most then { s with clock := { s.clock with slew := d } }.setTimeState 4
    else refuse { s with clock := { s.clock with accept := false, refused := 1 } }
  | _ => s

/-- A RESPONSE that matches a stamp (R354): the four stamps, in 2^-32 ns. -/
def State.exchange (s : State) (p : Nat) (t : TxStamp) (d phase : Nat) : State :=
  let at' (edge ticks : Nat) : Int := edge + ticks * 2 ^ 19
  let t1 := at' t.edge t.phase
  let t2 := at' (payloadTime d 8) (dget d 4 2)
  let t3 := at' (payloadTime d 20) (dget d 6 2)
  let t4 := at' s.now phase
  let o2 := (t2 - t1) - (t4 - t3)
  let p2 := (t2 - t1) + (t4 - t3)
  let incr := s.incr
  let r := ((payloadTime d 8 : Int) - t.edge) % incr
  let off := r + incr * roundDiv (o2 - 2 * r) (2 * incr).toNat
  let adjOf := (s.upstream.bind (Sparse.find? s.clock.anns)).map fun a => a.adj
  if p2 < 0 ∨ 5 * 2 ^ 32 < p2 ∨ !bitOf d 8 ∨ adjOf ≠ some (s.regN R.TIM_ADJ) ∨ s.slewTerm ≠ 0 then
    s.addSat (F.TIM_P_TXQ.BADEX p) 1
  else
    let s := (s.setFld F.TIM_MEAS.DELAY (roundDiv p2 (2 ^ 20)).toNat).setFld F.TIM_MEAS.RESID (unsigned 16 (roundDiv (o2 - 2 * off) (2 ^ 20)))
    let s := s.setReg64 R.TIM_LASTD_LO R.TIM_LASTD_HI (unsigned 64 (roundDiv off (2 ^ 32)))
    if s.clock.held.isSome then s else s.correct off

end Sys2Proof.Machine
end

