-- ==== Sys2Proof/Machine/Links.lean ====
section
/-! DEFINITION. Alapel links: bring-up, failure, partners, frames and credits; PE companions on the I3C buses (R321–R347). -/
namespace Sys2Proof.Machine

/-! ## Columns (R321, R324) -/

/-- The column in which a time-clock edge falls: four lanes of 32.0 Gbaud carry one column of ten symbols' bits in 312.5 ps. All ports count
from the first edge (DESIGN CHOICE, log 117). -/
def State.column (s : State) : Nat := s.clk * 16 / 5

/-! ## Port states (R329–R331) -/

/-- LNK_Pp_STAT.STATE: 0 DOWN, 1 ACQUIRE, 2 ALIGN, 3 TUNE, 4 HANDSHAKE, 5 UP. -/
def State.portState (s : State) (p : Nat) : Nat := s.fld (F.LNK_P_STAT.STATE p)

/-- The link event of a port. -/
def State.linkEvent (s : State) (p : Nat) : State := s.signal (200 + p)

/-- The partner is detached (R333): its ANNOUNCE is dropped (R358). -/
def State.detach (s : State) (p : Nat) : State :=
  if s.flag (F.LNK_P_STAT.ATTACHED p) then
    (((s.setFld (F.LNK_P_STAT.ATTACHED p) 0).setFld (F.LNK_P_STAT.IDCLASH p) 0).linkEvent p).dropAnnounce p
  else s

/-- Frames and records queued for a port are discarded and counted as its transmit drops (R331). -/
def State.flushPort (s : State) (p : Nat) : State :=
  let v := s.port p
  let syncs := (v.txq.filter fun f => f.cls == 3).length
  let recs := v.packing.length + sumNat ((v.txq.filter fun f => f.cls == 5).map fun f => (payloadRecords f.payload).length)
  ((s.setPort p { v with txq := [], packing := [] }).addSat (F.LNK_P_SYNC.TXDROP p) syncs).addSat (F.LNK_P_FAIL.TXDROP p) recs

/-- A port enters ACQUIRE. -/
def State.acquire (s : State) (p : Nat) : State :=
  let s := (s.setFld (F.LNK_P_STAT.STATE p) 1).setFld (F.LNK_P_STAT.LANEREV p) 0
  s.setPort p { s.port p with
    acquireAt := s.clk, tsRun := [0, 0, 0, 0], tsSeen := [0, 0, 0, 0], tsSent := 0, tuneStep := 0, tuneBest := none
    request := none, badFrames := [], codeErrs := [], locked := false, deskew := [0, 0, 0, 0] }

/-- A port goes back to ACQUIRE: counted, and from UP its frames are discarded, its partner is detached and a link fault is
reported. -/
def State.reacquire (s : State) (p : Nat) : State :=
  let up := s.portState p == 5
  let s := (s.acquire p).addSat (F.LNK_P_STAT.RETRAINS p) 1
  if up then (((s.flushPort p).detach p).report (252 + p) kLink 5) else s

/-- An enabled port leaves DOWN. -/
def State.portUpFromDown (s : State) (p : Nat) : State := if s.portState p = 0 then s.acquire p else s

/-- EN = 0: the port is DOWN; from UP its frames are discarded and its partner is detached. -/
def State.portDown (s : State) (p : Nat) : State :=
  let s := if s.portState p = 5 then s.flushPort p else s
  (s.setFld (F.LNK_P_STAT.STATE p) 0).detach p

/-- DISCOVER payload (R333). -/
def State.discoverPayload (s : State) (p : Nat) : List Byte :=
  let id := s.regN R.SYS_PART_ID
  toBytes 8 s.part.uid ++ toBytes 2 (s.fld F.LNK_ID.ID) ++ toBytes 1 p ++ toBytes 1 (bitsOf id 12 4) ++
  toBytes 1 (bitsOf id 0 8) ++ toBytes 3 0

/-- Offer a DISCOVER frame to a port. -/
def State.sendDiscover (s : State) (p : Nat) : State :=
  let q := s.nextSeq 2
  let t := q.2.setPort p { q.2.port p with discTx := s.clk }
  t.offerFrame p ⟨2, 1, s.fld F.LNK_ID.ID, q.1, ofBytes (s.discoverPayload p)⟩

/-- A port reaches UP (R329): its fail route starts with 64 credits and no frame seen, and DISCOVER is sent at once. -/
def State.linkUp (s : State) (p : Nat) : State :=
  let s := (s.setFld (F.LNK_P_STAT.STATE p) 5).setFld (F.LNK_P_FAIL.CREDITS p) 64
  let s := s.setPort p { s.port p with
    discRx := s.clk, failSent := 0, failFreed := 0, rxFreed := 0, rxReported := 0, linkTx := s.clk, failSeq := none
    announceTx := s.clk, requestTx := s.clk
    txFree := s.column, txAligned := s.column, rxAligned := s.column, locked := true }
  s.sendDiscover p

/-- HANDSHAKE ends when 64 TS with SEEN = 1 have come on every lane and 16 TS have been sent after that. -/
def State.handshakeCheck (s : State) (p : Nat) : State :=
  let v := s.port p
  if s.portState p = 4 ∧ v.tsSeen.all (fun n => decide (64 ≤ n)) ∧ 16 ≤ v.tsSent then s.linkUp p else s

/-- TUNE begins with preset 0, or is passed at once with AUTOTX = 0 (R329, R330). -/
def State.enterTune (s : State) (p : Nat) : State :=
  if s.flag (F.LNK_P_CFG.AUTOTX p) then
    (s.setFld (F.LNK_P_STAT.STATE p) 3).setPort p { s.port p with tuneStep := 0, tuneAt := s.clk, tuneBest := none, request := some 0 }
  else s.setFld (F.LNK_P_STAT.STATE p) 4

/-- A training sequence received on a physical lane, valid or not, with the skew between the lanes in UI. -/
def State.trainingRx (s : State) (p lane : Nat) (t : Training) (valid : Bool) (skew : Nat) : State :=
  let st := s.portState p
  if st = 0 then s
  else if st = 5 then s.reacquire p
  else
    let v := s.port p
    let v := { v with
      tsRun := setAt v.tsRun lane (if valid then nth v.tsRun lane 0 + 1 else 0)
      laneNo := if valid then setAt v.laneNo lane t.lane else v.laneNo
      partnerReq := if valid && t.req then t.preset else v.partnerReq
      tsSeen := if valid && t.seen && st == 4 then setAt v.tsSeen lane (nth v.tsSeen lane 0 + 1) else v.tsSeen }
    let s := s.setPort p v
    match st with
    | 1 => if v.tsRun.all fun n => decide (8 ≤ n) then s.setFld (F.LNK_P_STAT.STATE p) 2 else s
    | 2 =>
      let order := v.laneNo
      if order ≠ [0, 1, 2, 3] ∧ order ≠ [3, 2, 1, 0] then s.reacquire p
      else if 32 < skew then s
      else (s.setFld (F.LNK_P_STAT.LANEREV p) (b2n (order == [3, 2, 1, 0]))).enterTune p
    | 4 => s.handshakeCheck p
    | _ => s

/-- A port that is not UP sends its next TS on each lane (R328, R330): a requested preset applies from it. -/
def State.trainingTx (s : State) (p : Nat) : State :=
  let st := s.portState p
  if st = 0 ∨ st = 5 then s
  else
    let v := s.port p
    let preset := if s.flag (F.LNK_P_CFG.AUTOTX p) then v.partnerReq else s.fld (F.LNK_P_CFG.PRESET p)
    let ready := v.tsSeen.all fun n => decide (64 ≤ n)
    let s := s.setPort p { v with
      inUse := preset
      tsSent := if st == 4 && ready then v.tsSent + 1 else v.tsSent
      tsOut := some ⟨0, p, decide (2 ≤ st), v.request.isSome, v.request.getD 0, preset⟩ }
    (s.setFld (F.LNK_P_STAT.TXPRESET p) preset).handshakeCheck p

/-- A port not UP within 2 ms of entering ACQUIRE goes back to it. -/
def State.trainTimeout (s : State) (p : Nat) : State :=
  let st := s.portState p
  if st != 0 && st != 5 && decide ((s.port p).acquireAt + 2000000 ≤ s.clk) then s.reacquire p else s

/-- 10 µs on a requested preset: the eye heights of the four lanes are measured, and the next preset is requested or one is chosen
(R330). -/
def State.tuneStep (s : State) (p : Nat) (eyes : List Nat) : State :=
  let v := s.port p
  if s.portState p != 3 || !decide (v.tuneAt + 10000 ≤ s.clk) then s
  else
    let eye := eyes.foldl min (eyes.headD 0)
    let best := match v.tuneBest with
      | none => (v.tuneStep, eye)
      | some b => if b.2 < eye then (v.tuneStep, eye) else b
    if v.tuneStep < 7 then
      s.setPort p { v with tuneStep := v.tuneStep + 1, tuneAt := s.clk, tuneBest := some best, request := some (v.tuneStep + 1) }
    else
      ((s.setPort p { v with tuneBest := some best, request := some best.1 }).setFld (F.LNK_P_STAT.RXPRESET p) best.1).setFld
        (F.LNK_P_STAT.STATE p) 4

/-- RETRAIN (R331): an enabled port goes back to ACQUIRE. -/
def State.retrain (s : State) (p : Nat) : State := if s.portState p = 0 then s else s.reacquire p

/-- A received frame is discarded (R326); the sixteenth within 1 ms fails the link (R331). -/
def State.discardFrame (s : State) (p : Nat) : State :=
  let s := (s.addSat (F.LNK_P_ERR.CRC p) 1).count (284 + p) 1
  let bad := s.clk :: ((s.port p).badFrames.filter fun t => decide (s.clk < t + 1000000))
  let s := s.setPort p { s.port p with badFrames := bad }
  if 16 ≤ bad.length then s.reacquire p else s

/-- A code error of a lane is counted; the sixteenth within 1 ms fails the link. -/
def State.codeError (s : State) (p lane : Nat) : State :=
  let s := s.addSat (F.LNK_P_ERR.CODE p) 1
  let errs := (s.clk, lane) :: ((s.port p).codeErrs.filter fun e => decide (s.clk < e.1 + 1000000))
  let s := s.setPort p { s.port p with codeErrs := errs }
  if s.portState p = 5 ∧ 16 ≤ (errs.filter fun e => e.2 == lane).length then s.reacquire p else s

/-- An alignment column is received: with the lanes at most 32 UI apart it gives column lock and their deskew (R321, R324). -/
def State.alignedRx (s : State) (p : Nat) (arrival : List Nat) : State :=
  let last := arrival.foldl max 0
  let lanes := (List.range 4).map fun k => last - nth arrival k last
  let held := lanes.all fun d => decide (d ≤ 32)
  s.setPort p { s.port p with
    rxAligned := s.column, locked := held, deskew := if held then lanes else (s.port p).deskew }

/-- LINK_FAILURE: what a port's receivers meet, and the conditions of R331 it may fulfil. -/
def State.linkLoss (s : State) (p : Nat) (l : LinkLoss) : State :=
  if s.portState p = 0 then s
  else match l with
    | .aligned arrival => if s.portState p = 5 then s.alignedRx p arrival else s
    | .noAlignment => if s.portState p = 5 ∧ (s.port p).rxAligned + 256 ≤ s.column then s.reacquire p else s
    | .codeError lane => s.codeError p lane
    | .noDiscover => if s.portState p = 5 ∧ (s.port p).discRx + 4000000 ≤ s.clk then s.reacquire p else s
    | .clockLost _ => if s.portState p = 5 then s.reacquire p else s

/-! ## Sending (R325, R327, R339, R340) -/

/-- Transmit priority of a class (Table — Frame classes). -/
def framePriority (cls : Nat) : Nat :=
  match cls with
  | 3 => 1
  | 6 => 2
  | 4 => 3
  | 1 => 4
  | 2 => 5
  | _ => 6

/-- Credits a port holds: 64 less the FAIL frames sent and not reported freed. -/
def Port.credits (v : Port) : Nat := 64 - (v.failSent + 65536 - v.failFreed) % 65536

/-- The frame a port sends next: of the highest priority, the first queued; FAIL only with a credit. -/
def Port.nextFrame (v : Port) : Option Frame :=
  (v.txq.filter fun f => f.cls != 5 || v.credits != 0).foldl (fun (b : Option Frame) f =>
    match b with
    | none => some f
    | some g => if framePriority f.cls < framePriority g.cls then some f else b) none

/-- Bytes of a frame of a class: header, payload and CRC (R325, Table — Frame classes). -/
def frameBytes (cls : Nat) : Nat :=
  12 + match cls with | 1 => 8 | 2 => 16 | 3 => 16 | 4 => 32 | 5 => 64 | 6 => 24 | _ => 0

/-- Columns of a frame of a class: SOF, data and EOF (Table — Frame classes). -/
def frameColumns (cls : Nat) : Nat := frameBytes cls / 4 + 2

/-- An UP port whose transmitter is free has sent alignment columns in the columns that have passed without a frame (R324). -/
def State.sendIdle (s : State) (p : Nat) : State :=
  let v := s.port p
  if s.portState p = 5 ∧ v.txFree < s.column then
    s.setPort p { v with txFree := s.column, txAligned := s.column - 1 }
  else s

/-- The transmitter takes n columns for a frame, behind an alignment column where the next would otherwise come more than 128 columns after
the latest (R324). -/
def Port.takeColumns (v : Port) (n : Nat) : Port :=
  if v.txAligned + 128 < v.txFree + n then { v with txAligned := v.txFree, txFree := v.txFree + 1 + n }
  else { v with txFree := v.txFree + n }

/-- An UP port whose transmitter is free sends its next frame; phase is that of the SOF in ticks. A frame in progress is never interrupted
(R327). -/
def State.frameTx (s : State) (p phase : Nat) : State :=
  let s := s.sendIdle p
  if s.portState p ≠ 5 ∨ s.column < (s.port p).txFree then s
  else
    let v := s.port p
    match v.nextFrame with
    | none => s
    | some f =>
      let q := s.stampSent p phase f
      let v := { v with txq := v.txq.erase f, sent := some q.1, failSent := if f.cls = 5 then (v.failSent + 1) % 65536 else v.failSent }
      ((q.2.setPort p (v.takeColumns (frameColumns f.cls))).setFld (F.LNK_P_FAIL.CREDITS p) v.credits).count (280 + p) 1 |>.bwBytes 10 (frameBytes f.cls)

/-- 1 µs after its first record, a part-filled FAIL frame is sent (R339). -/
def State.failFrameTimer (s : State) (p : Nat) : State :=
  let v := s.port p
  if v.packing != [] && decide (v.packSince + 1000 ≤ s.clk) then s.packFail p else s

/-- Every 1 ms an UP port sends DISCOVER. -/
def State.discoverTimer (s : State) (p : Nat) : State :=
  if s.portState p == 5 && decide ((s.port p).discTx + 1000000 ≤ s.clk) then s.sendDiscover p else s

/-- Every 1 µs, or after 16 freed FAIL frames, the receiver returns its count in a LINK frame (R340). -/
def State.creditTimer (s : State) (p : Nat) : State :=
  let v := s.port p
  if s.portState p == 5 && (decide (v.linkTx + 1000 ≤ s.clk) || decide (v.rxReported + 16 ≤ v.rxFreed)) then
    let q := s.nextSeq 1
    let s := q.2.setPort p { v with rxReported := v.rxFreed, linkTx := s.clk }
    s.offerFrame p ⟨1, 1, s.fld F.LNK_ID.ID, q.1, v.rxFreed % 65536⟩
  else s

/-! ## Receiving -/

/-- A frame comes in on an UP port with column lock: discarded when it or its payload is bad, else taken (R326). -/
def State.receive (s : State) (p : Nat) (a : Arrival) (payloadOk : Bool) (take : State → State) : State :=
  if s.portState p ≠ 5 ∨ !(s.port p).locked then s
  else if a.clean && payloadOk && a.hops != 0 then take s
  else s.discardFrame p

/-- Load the PART registers from a DISCOVER payload. -/
def State.loadPart (s : State) (p d : Nat) : State :=
  let s := s.setReg64 (R.LNK_P_PART_LO p) (R.LNK_P_PART_HI p) (dget d 0 8)
  let s := (s.setFld (F.LNK_P_PART_ID.ID p) (dget d 8 2)).setFld (F.LNK_P_PART_ID.PORT p) (dget d 10 1)
  let s := (s.setFld (F.LNK_P_PART_ID.GRADE p) (dget d 11 1)).setFld (F.LNK_P_PART_ID.STEPPING p) (dget d 12 1)
  s.setFld (F.LNK_P_STAT.IDCLASH p) (b2n (dget d 8 2 == s.fld F.LNK_ID.ID))

/-- DISCOVER (R333): the first attaches, one of another UID detaches and attaches; a later one of the same partner refreshes its
fields. -/
def State.discoverRx (s : State) (p : Nat) (a : Arrival) : State :=
  s.receive p a (dget a.payload 13 3 == 0) fun s =>
    let s := s.setPort p { s.port p with discRx := s.clk }
    let same := s.reg64 (R.LNK_P_PART_LO p) (R.LNK_P_PART_HI p) == dget a.payload 0 8
    if s.flag (F.LNK_P_STAT.ATTACHED p) && same then s.loadPart p a.payload
    else (((s.detach p).loadPart p a.payload).setFld (F.LNK_P_STAT.ATTACHED p) 1).linkEvent p

/-- A write of LNK_ID: IDCLASH of the attached partners follows (R334). -/
def State.linkIdWrite (s : State) (v : Nat) : State :=
  let s := s.setReg R.LNK_ID (v % 65536)
  (List.range 4).foldl (fun (s : State) p =>
    if s.flag (F.LNK_P_STAT.ATTACHED p) then
      s.setFld (F.LNK_P_STAT.IDCLASH p) (b2n (s.fld (F.LNK_P_PART_ID.ID p) == v % 65536))
    else s) s

/-- A sync event reaches all 64 engines in the vector cycle in progress at the balls at an instant (R49, R336). -/
def State.deliver (s : State) (event instant : Nat) : State :=
  (List.range 64).foldl (fun (s : State) sg =>
    let e := s.engine sg
    let at' := toTick instant
    let period := s.period sg
    let k := if at' < e.nextStart then s.seCycle sg - ceilDiv (e.nextStart - at') period
      else s.seCycle sg + (at' - e.nextStart) / period
    let e := if s.lineOpen sg then { e with heard := e.heard ++ [(event, k)] } else e
    let s := s.setEngine sg e
    match e.cur with
    | some c =>
      if s.eState sg = 2 ∧ iOp c.word = 0x0E ∧ iX c.word = 1 ∧ bitsOf (iA c.word) 0 12 = event ∧ c.first ≤ k ∧ c.exitAt.isNone then
        s.setEngine sg { e with cur := some { c with exitAt := some (k + s.flat sg) } }
      else s
    | none => s) s

/-- The pending sync events whose RELEASE has come are delivered, oldest release first. -/
def State.deliverDue (s : State) : State :=
  let due := s.syncPend.filter fun e => decide (e.release ≤ s.now)
  due.foldl (fun (s : State) e => s.deliver e.event e.release)
    { s with syncPend := s.syncPend.filter fun e => !decide (e.release ≤ s.now) }

/-- SYNC (R336–R338). -/
def State.syncRx (s : State) (p : Nat) (a : Arrival) : State :=
  s.receive p a (dget a.payload 2 2 == 0 && dget a.payload 0 2 < 4096) fun s =>
    if !s.carries p then s
    else if s.recentSync.contains (a.origin, a.seq) then s.addSat (F.LNK_P_SYNC.DUP p) 1
    else
      let s := { s with recentSync := ((a.origin, a.seq) :: s.recentSync).take 64 }
      let event := dget a.payload 0 2
      let release := payloadTime a.payload 4 + a.hops * 24 * 2 ^ 32
      let late := decide (release < s.now + 3 * 2 ^ 31) || !s.synchronised
      let s := if late then ((s.addSat (F.LNK_P_SYNC.LATE p) 1).linkEvent p).deliver event s.now
        else { s with syncPend := s.syncPend ++ [⟨p, event, release, false⟩] }
      if a.hops < 15 then
        ((bitsSet 4 (s.fld (F.LNK_P_CFG.FWD p))).filter fun n => n != p).foldl (fun (s : State) n =>
          s.offerFrame n ⟨3, a.hops + 1, a.origin, a.seq, a.payload⟩) s
      else s

/-- LINK (R340). -/
def State.linkRx (s : State) (p : Nat) (a : Arrival) : State :=
  s.receive p a (dget a.payload 2 6 == 0) fun s =>
    let v := { s.port p with failFreed := dget a.payload 0 2 }
    (s.setPort p v).setFld (F.LNK_P_FAIL.CREDITS p) v.credits

/-- FAIL (R341): missing frames are counted, the records are offered to INSTREAM's staging, and the frame is freed. -/
def State.failRx (s : State) (p : Nat) (a : Arrival) : State :=
  s.receive p a true fun s =>
    if !s.carries p then s
    else
      let v := s.port p
      let missing := 4 * (match v.failSeq with
        | none => 0
        | some e => (a.seq + 65536 - e) % 65536)
      let s := s.setPort p { v with failSeq := some ((a.seq + 1) % 65536), rxFreed := v.rxFreed + 1 }
      let s := s.addSat (F.LNK_P_FAIL.GAPS p) missing
      if !s.flag (F.LNK_P_CFG.FAILIN p) then s
      else
        let st := s.fld (F.LNK_P_CFG.INSTREAM p)
        let l := s.log st
        let s := if missing = 0 then s
          else if l.lost = 0 then
            s.setLog st { l with lost := missing, lostFirst := 0 }
          else s.setLog st { l with lost := min (l.lost + missing) (2 ^ 32 - 1) }
        (payloadRecords a.payload).foldl (fun (s : State) r => s.stageRecord st r false) s

/-- Whether a TIME frame of a kind has come; another valid kind is not this row's. -/
def State.timeRx (s : State) (p kind : Nat) (a : Arrival) (take : State → State) : State :=
  if timeClean a.payload ∧ dget a.payload 0 1 ≠ kind then s
  else s.receive p a (timeClean a.payload) fun s => if s.carries p then take s else s

/-- REQUEST (R352): answered with a stamped RESPONSE; phase is that of its receipt in ticks. -/
def State.requestRx (s : State) (p : Nat) (a : Arrival) (phase : Nat) : State :=
  s.timeRx p 1 a fun s =>
    s.offerTime p (toBytes 1 2 ++ toBytes 1 (b2n s.synchronised) ++ toBytes 2 a.seq ++ toBytes 2 phase ++ toBytes 2 0 ++
      timeBytes s.now ++ toBytes 12 0)

/-- RESPONSE (R353, R354). -/
def State.responseRx (s : State) (p : Nat) (a : Arrival) (phase : Nat) : State :=
  s.timeRx p 2 a fun s =>
    match (s.txq p).find? fun e => e.seq == dget a.payload 2 2 with
    | none => s.addSat (F.TIM_P_TXQ.NOMATCH p) 1
    | some t => (s.setTxq p ((s.txq p).erase t)).exchange p t a.payload phase

/-- ANNOUNCE (R358, R359): kept; a slave copies ADJ, PEND_ADJ and EFFECTIVE from its upstream. -/
def State.announceRx (s : State) (p : Nat) (a : Arrival) : State :=
  s.timeRx p 3 a fun s =>
    let d := a.payload
    let ann : Announce := ⟨dget d 2 1, dget d 3 1, dget d 4 4, dget d 8 8, dget d 16 4, dget d 20 8, s.clk⟩
    let s := { s with clock := { s.clock with anns := Sparse.insert s.clock.anns p ann } }.review false
    if s.upstream = some p then
      let s := { s with clock := { s.clock with pend := if ann.effective = 0 then none else some (ann.pend, ann.effective) } }
      if s.clock.pend.isNone ∧ s.regN R.TIM_ADJ ≠ ann.adj then (s.setReg R.TIM_ADJ ann.adj).setTimeState 2 else s
    else s

/-! ## Eye scan (R332) -/

/-- A write of EYE_CTRL: with START = 1 only on an UP port that is not scanning, else discarded with a fault. -/
def State.eyeWrite (s : State) (p v : Nat) : State :=
  let fields := bitsOf v 0 6 + bitsOf v 8 6 * 2 ^ 8 + bitsOf v 22 8 * 2 ^ 22
  let busy := s.flag (F.LNK_P_EYE_CTRL.BUSY p)
  if !bitOf v 31 then (s.setReg (R.LNK_P_EYE_CTRL p) fields).setFld (F.LNK_P_EYE_CTRL.BUSY p) (b2n busy)
  else if busy ∨ s.portState p ≠ 5 then s.regFault (R.LNK_P_EYE_CTRL p)
  else
    ((s.setReg (R.LNK_P_EYE_CTRL p) fields).setFld (F.LNK_P_EYE_CTRL.BUSY p) 1).setPort p
      { s.port p with scan := some (s.clk + ceilDiv (2 ^ bitsOf v 22 6) 32) }

/-- The scan ends with a count of disagreements. -/
def State.eyeDone (s : State) (p errs : Nat) : State :=
  match (s.port p).scan with
  | none => s
  | some t =>
    if s.clk < t then s
    else ((s.setPort p { s.port p with scan := none }).setFld (F.LNK_P_EYE_CTRL.BUSY p) 0).setReg (R.LNK_P_EYE_ERRS p) (min errs (2 ^ 32 - 1))

/-! ## PE companions (R343–R347) -/

def State.i3c (s : State) (q : Nat) : I3c := Sparse.get (fun _ => I3c.off) s.i3cs q
def State.setI3c (s : State) (q : Nat) (v : I3c) : State :=
  { s with i3cs := Sparse.set (fun _ => I3c.off) s.i3cs q v }

/-- State of a companion slot: 0 UNUSED, 1 SEARCHING, 2 PRESENT, 3 LOST. -/
def State.slotState (s : State) (q k : Nat) : Nat := s.fld (F.PEM_Q_SLOT_STAT.STATE q k)

/-- The provisioned ID a slot expects. -/
def State.slotPid (s : State) (q k : Nat) : Nat := s.regN (R.PEM_Q_SLOT_PID_LO q k) + 2 ^ 32 * s.fld (F.PEM_Q_SLOT_PID_HI.PID q k)

/-- The companion event of a quadrant. -/
def State.pemEvent (s : State) (q : Nat) : State := s.signal (204 + q)

/-- A responding or hot-joining device: its slot is PRESENT at 0x10 + s, or it is unknown and gets an address from 0x30 upward. -/
def State.deviceJoins (s : State) (q pid bcr dcr : Nat) : State :=
  match (List.range 15).find? fun k => s.slotPid q k == pid && pid != 0 with
  | some k =>
    let s := (s.setFld (F.PEM_Q_SLOT_STAT.STATE q k) 2).setFld (F.PEM_Q_SLOT_STAT.DA q k) (0x10 + k)
    let s := (s.setFld (F.PEM_Q_SLOT_STAT.BCR q k) bcr).setFld (F.PEM_Q_SLOT_STAT.DCR q k) dcr
    s.setI3c q { s.i3c q with nacks := setAt (s.i3c q).nacks k 0 }
  | none =>
    let da := (s.i3c q).next
    let s := (s.addSat (F.PEM_Q_UNK.COUNT q) 1).setFld (F.PEM_Q_UNK.DA q) da
    (s.setI3c q { s.i3c q with next := da + 1 }).pemEvent q

/-- RSTDAA, then ENTDAA (R343), once after EN becomes 1: the devices that respond. -/
def State.daa (s : State) (q : Nat) (devices : List (Nat × Nat × Nat)) : State :=
  if !(s.i3c q).due ∨ !s.flag (F.PEM_Q_CFG.EN q) then s
  else
    let s := s.setI3c q { s.i3c q with due := false, next := 0x30, pollAt := s.clk }
    devices.foldl (fun (s : State) d => s.deviceJoins q d.1 d.2.1 d.2.2) s

/-- A device hot-joins. -/
def State.hotJoin (s : State) (q pid bcr dcr : Nat) : State :=
  if s.flag (F.PEM_Q_CFG.EN q) then s.deviceJoins q pid bcr dcr else s

/-- The channels bound to a slot. -/
def State.boundTo (s : State) (q k : Nat) : List Nat :=
  (List.range 64).filterMap fun c => if s.bindSlot (64 * q + c) = k then some (64 * q + c) else none

/-- Bursts and measurement sets on channels that go out of service end (R7, R345). -/
def State.loseChannels (s : State) (chs : List Nat) : State :=
  let s := s.fenceChannels chs
  (List.range 64).foldl (fun (s : State) u =>
    if (s.tdc u).slot.isSome && (s.tdcChannels u).any chs.contains then s.tdcEnd u stTesterFault else s) s

/-- A companion is lost (R345). -/
def State.companionLost (s : State) (q k : Nat) : State :=
  let chs := s.boundTo q k
  let s := s.setFld (F.PEM_Q_SLOT_STAT.STATE q k) 3
  let new := chs.map fun c => (c, 16 * q + k)
  let s := { s with compFence := s.compFence ++ new.filter fun f => !s.compFence.contains f }
  ((s.loseChannels chs).pemEvent q).report (256 + q) kCompanion k

/-- The polls of a quadrant: GETSTATUS to each PRESENT slot, which ACKs if its bit is set. -/
def State.poll (s : State) (q acks : Nat) : State :=
  if !s.flag (F.PEM_Q_CFG.EN q) ∨ s.clk < (s.i3c q).pollAt + s.fld (F.PEM_Q_CFG.POLL q) * 1000000 then s
  else
    let s := s.setI3c q { s.i3c q with pollAt := s.clk }
    ((List.range 15).filter fun k => s.slotState q k == 2).foldl (fun (s : State) k =>
      let n := if bitOf acks k then 0 else nth (s.i3c q).nacks k 0 + 1
      let s := s.setI3c q { s.i3c q with nacks := setAt (s.i3c q).nacks k (if n = 3 then 0 else n) }
      if n = 3 then s.companionLost q k else s) s

/-- RELEASE (R346): the fence that the loss of this companion set is cleared, whatever its channels are bound to now. -/
def State.companionRelease (s : State) (q k : Nat) : State :=
  if s.slotState q k = 2 then
    { s with compFence := s.compFence.filter fun f => f.2 != 16 * q + k }
  else s.regFault (R.PEM_Q_SLOT_CTRL q k)

/-- A PID write: not to a PRESENT or LOST slot (R346). -/
def State.pidWrite (s : State) (q k off v : Nat) : State :=
  if 2 ≤ s.slotState q k then s.regFault off
  else
    let s := s.setReg off (if off = R.PEM_Q_SLOT_PID_HI q k then v % 65536 else v)
    s.setFld (F.PEM_Q_SLOT_STAT.STATE q k) (if s.slotPid q k = 0 then 0 else 1)

/-- An in-band interrupt (R347): acknowledged from a PRESENT slot's address. -/
def State.ibi (s : State) (q da mdb : Nat) : State :=
  if s.flag (F.PEM_Q_CFG.EN q) && (List.range 15).any fun k => s.slotState q k == 2 && s.fld (F.PEM_Q_SLOT_STAT.DA q k) == da then
    (((s.addSat (F.PEM_Q_IBI.COUNT q) 1).setFld (F.PEM_Q_IBI.MDB q) mdb).setFld (F.PEM_Q_IBI.DA q) da).pemEvent q
  else s

/-- A write of XCTL: START, while not BUSY, starts a transfer; an address that no PRESENT slot has ends ABSENT. -/
def State.xctlWrite (s : State) (q v : Nat) : State :=
  let busy := s.flag (F.PEM_Q_XCTL.BUSY q)
  let s := ((s.setFld (F.PEM_Q_XCTL.READ q) (bitsOf v 24 1)).setFld (F.PEM_Q_XCTL.LEN q) (bitsOf v 16 6)).setFld (F.PEM_Q_XCTL.DA q) (bitsOf v 0 7)
  if busy ∨ !bitOf v 31 then s
  else if (List.range 15).any fun k => s.slotState q k == 2 && s.fld (F.PEM_Q_SLOT_STAT.DA q k) == bitsOf v 0 7 then
    (s.setI3c q { s.i3c q with xfer := some (bitOf v 24, bitsOf v 16 6) }).setFld (F.PEM_Q_XCTL.BUSY q) 1
  else s.setFld (F.PEM_Q_XCTL.STATUS q) 2

/-- The transfer ends: NACK, or OK with the bytes of a read. -/
def State.xferDone (s : State) (q : Nat) (nack : Bool) (bytes : List Byte) : State :=
  match (s.i3c q).xfer with
  | none => s
  | some x =>
    let s := (s.setI3c q { s.i3c q with xfer := none }).setFld (F.PEM_Q_XCTL.BUSY q) 0
    let s := s.setFld (F.PEM_Q_XCTL.STATUS q) (b2n nack)
    if nack ∨ !x.1 then s
    else
      ((bytes.take (min 32 x.2)).zip (List.range 32)).foldl (fun (s : State) p =>
        s.setFld ⟨R.PEM_Q_XDATA q (p.2 / 4), 8 * (p.2 % 4), 8⟩ p.1.toNat) s

/-- A write of PEM_Qq_CFG: EN becoming 1 makes an address assignment due; a POLL of 0 is discarded with a fault. -/
def State.pemCfgWrite (s : State) (q v : Nat) : State :=
  if bitsOf v 0 8 = 0 then s.regFault (R.PEM_Q_CFG q)
  else
    let was := s.flag (F.PEM_Q_CFG.EN q)
    let s := s.setReg (R.PEM_Q_CFG q) (v &&& 0x800000FF)
    if !was && bitOf v 31 then s.setI3c q { s.i3c q with due := true } else s

end Sys2Proof.Machine
end

