-- ==== Sys2Proof/Machine/Pool.lean ====
section
/-! DEFINITION. The pool's banks: arbitration, collisions, check bits, promotion and the background test (R232–R240). -/
namespace Sys2Proof.Machine

/-- Rank of a requester (Table — Pool priority). -/
def requesterRank : Requester → Nat
  | .fetch _ => 1
  | .streamer _ => 1
  | .source _ => 1
  | .modulation _ => 1
  | .acquisition _ => 2
  | .frames _ => 2
  | .failWriter => 3
  | .failDrain => 3
  | .capture _ _ => 4
  | .scheduler => 5
  | .descriptors => 5
  | .task _ => 5
  | .results _ => 5
  | .shroud => 5
  | .bulk _ => 6

/-- Number of a requester within its class, in the order of Table — Pool priority; a task's is that of its move engine. -/
def State.requesterIndex (s : State) : Requester → Nat
  | .fetch sg => sg.val
  | .streamer sg => 64 + sg.val
  | .source u => 128 + u.val
  | .modulation u => 144 + u.val
  | .acquisition u => u.val
  | .frames u => 16 + u.val
  | .failWriter => 0
  | .failDrain => 1
  | .capture p g => 3 * p.val + g.val
  | .scheduler => 0
  | .descriptors => 1
  | .task k => 2 + (s.slot k.val).engine
  | .results u => 6 + u.val
  | .shroud => 70
  | .bulk n => n.val

/-- The rank at which a waiting request competes, doubled: a promoted one at 2.5 (R236). -/
def PoolReq.key (r : PoolReq) : Nat := if r.promoted then 5 else 2 * r.rank

/-- How far behind the class's latest winner a requester stands in rotating order (R234). -/
def State.poolTurn (s : State) (bank : Nat) (r : PoolReq) : Nat :=
  match Sparse.find? s.poolLast (bank * 8 + r.rank) with
  | none => r.who
  | some w => (r.who + 8191 - w) % 8192

/-- Whether a request wins over another at a bank. -/
def State.poolWins (s : State) (bank : Nat) (a b : PoolReq) : Bool :=
  decide (a.key < b.key) || (a.key == b.key && decide (s.poolTurn bank a < s.poolTurn bank b))

/-- The request that wins a bank. -/
def State.poolWinner (s : State) (bank : Nat) (l : List PoolReq) : Option PoolReq :=
  l.foldl (fun (b : Option PoolReq) r =>
    match b with
    | none => some r
    | some w => if s.poolWins bank r w then some r else some w) none

/-- Write the enabled bytes of a pool word; quarters written whole get fresh check bits. -/
def State.poolWriteWord (s : State) (word enables data : Nat) : State :=
  (List.range 4).foldl (fun (s : State) q =>
    let a := word * 32 + 8 * q
    if bitsOf enables (8 * q) 8 = 255 then s.poolWrite a (toBytes 8 (bitsOf data (64 * q) 64))
    else
      (bitsSet 8 (bitsOf enables (8 * q) 8)).foldl (fun (s : State) i =>
        s.poolWrite (a + i) (toBytes 1 (bitsOf data (64 * q + 8 * i) 8))) s) s

/-- The requests of a bank, the winner first and then the others as they would win after it. -/
def State.poolOrder (s : State) (bank : Nat) : Nat → List PoolReq → List PoolReq
  | 0, _ => []
  | n + 1, l => match s.poolWinner bank l with
    | none => []
    | some w => w :: s.poolOrder bank n (l.erase w)

/-- The RUNNING task that the section loader works on. -/
def State.loadOn (s : State) : Option Nat :=
  (s.slots.find? fun p => p.2.state == .running && p.2.done.isNone && dOpcode p.2.desc == 0x03).map (·.1)

/-- The task whose access a pool request is; none: a block's without a task. -/
def State.poolTask (s : State) : Requester → Option Nat
  | .task k => some k.val
  | .capture p _ => (s.cpx p.val).slot
  | .results u => (s.tdc u.val).slot
  | .shroud => s.loadOn
  | _ => none

/-- A lost write (R237): recorded, and a bulk-port write reported, a task's kept for its status, another's counted. -/
def State.poolCollision (s : State) (r : PoolReq) : State :=
  let s := (s.setFld F.MEM_COLL.CLASS (r.rank - 1)).setReg R.MEM_COLLADDR (r.word * 32)
  match r.owner, s.poolTask r.owner with
  | .bulk _, _ => s.regFaultOpen
  | _, some k => s.setSlot k { s.slot k with collided := true }
  | _, none => s.addSat F.MEM_COLL.COUNT 1

/-- A poisoned word reaches its requester (Table at R233). -/
def State.poolPoisoned (s : State) (r : PoolReq) : State :=
  let s := s.reportPoison (r.word * 32) 32
  match r.owner with
  | .fetch sg | .streamer sg => if s.eState sg.val = 2 then s.abortCause sg.val cStreamCheck else s
  | .capture p _ =>
    match (s.cpx p.val).slot with
    | some k => s.jobInterrupt p.val k (s.job (dsJob (s.slot k).desc)) true
    | none => s
  | .task k => s.interrupt k.val (s.slot k.val).moved
  | .shroud => match s.loadOn with | some k => s.interrupt k 0 | none => s
  | _ => s

/-- What the check bits of a word that is read show: corrections are counted, also of a bit that has failed for good (R239), and an
uncorrectable quarter stays known. -/
def State.eccRead (s : State) (word : Nat) (ecc : EccResult) : State :=
  match ecc with
  | .good =>
    let stuck := (s.poolStuck.filter fun q => q / 4 == word && !s.poolBad.contains q).length
    if stuck = 0 then s else s.addSat F.MEM_ECC.CORRECTED stuck
  | .corrected => s.addSat F.MEM_ECC.CORRECTED 1
  | .uncorrectable q =>
    let bad := word * 4 + q.val
    { s with poolBad := if s.poolBad.contains bad then s.poolBad else s.poolBad ++ [bad] }

/-- A request that reaches its word is performed; a read's data return 6 core cycles later (R232, R233). -/
def State.poolServe (s : State) (r : PoolReq) (ecc : EccResult) : State :=
  let s := s.bwBytes 11 32
  match r.write with
  | some w => s.poolWriteWord r.word w.1 w.2
  | none =>
    let s := s.eccRead r.word ecc
    let bad := s.poisoned (r.word * 32) 32
    let reply := PoolReply.mk r.word (s.poolNum (r.word * 32) 32) bad (s.cycle + 6)
    let s : State := { s with poolReplies := Sparse.insert s.poolReplies (r.rank * 8192 + r.who) reply }
    if bad then s.poolPoisoned r else s

/-- The byte enables of a request; 0: a read. -/
def PoolReq.enables (r : PoolReq) : Nat := match r.write with | some w => w.1 | none => 0

/-- Writes that reach one word together, in winning order: those performed, whose bytes no earlier one writes, and those lost (R237). -/
def meetWrites (mask : Nat) : List PoolReq → List PoolReq × List PoolReq
  | [] => ([], [])
  | r :: t =>
    if r.enables &&& mask = 0 then
      let p := meetWrites (mask ||| r.enables) t
      (r :: p.1, p.2)
    else
      let p := meetWrites mask t
      (p.1, r :: p.2)

/-- Whether two requests reach one word in the same core cycle (DESIGN CHOICE, log 58). -/
def PoolReq.meets (a b : PoolReq) : Bool := a.word == b.word && a.since == b.since

/-- One core cycle of a bank: requests arrive and the winner is served. Reads that meet a write of their word return what it held before,
other writes of it are performed or lost, and every other request stalls (R232, R234, R237). -/
def State.poolCycle (s : State) (bank : Nat) (arrivals : List PoolArrival) (ecc : EccResult) : State :=
  let fresh := (arrivals.filter fun a => a.word % 512 == bank).map fun a =>
    PoolReq.mk a.who (requesterRank a.who) (s.requesterIndex a.who) a.word s.cycle false a.write
  let l := Sparse.get (fun _ => []) s.poolWait bank ++ fresh
  match s.poolOrder bank l.length l with
  | [] => s
  | w :: rest =>
    let met := if w.write.isSome then rest.filter w.meets else []
    let reads := met.filter fun r => r.write.isNone
    let writes := meetWrites w.enables (met.filter fun r => r.write.isSome)
    let left := if w.write.isSome then rest.filter fun r => !w.meets r else rest
    let s := { s with
      poolWait := Sparse.set (fun _ => []) s.poolWait bank left
      poolLast := Sparse.insert s.poolLast (bank * 8 + w.rank) w.who }
    let s := reads.foldl (fun (s : State) r => s.poolServe r ecc) s
    let s := s.poolServe w ecc
    let s := writes.1.foldl (fun (s : State) r => s.poolServe r .good) s
    let s := writes.2.foldl State.poolCollision s
    s.count 292 left.length

/-- Requests of rank 3 to 6 that have stalled for 1,024 core cycles are raised to 2.5 for one access (R236). -/
def State.poolPromote (s : State) (bank : Nat) : State :=
  let l := Sparse.get (fun _ => []) s.poolWait bank
  let raised := l.map fun (r : PoolReq) =>
    if 3 ≤ r.rank ∧ r.since + 1024 ≤ s.cycle then { r with promoted := true } else r
  { s with poolWait := Sparse.set (fun _ => []) s.poolWait bank raised }

/-! ## Background test (R238–R240) -/

/-- Words of region r. -/
def regionBytes (r : Nat) : Nat := r * 1024

/-- The words of a region are read and checked into the test buffer, and their restored contents get fresh check bits (R238). -/
def State.regionRead (s : State) (r : Nat) (ecc : List (Fin 32 × EccResult)) : State :=
  let s := (List.range 32).foldl (fun (s : State) i =>
    s.eccRead (r * 32 + i) (((ecc.find? fun p => p.1.val == i).map (·.2)).getD .good)) s
  let s := s.reportPoison (regionBytes r) 1024
  { s with poolBad := s.poolBad.filter fun q => !(decide (regionBytes r ≤ q * 8) && decide (q * 8 < regionBytes r + 1024)) }

/-- The quarters of a pool word in which exactly one bit failed. -/
def stuckQuarters (word bits : Nat) : List Nat :=
  ((List.range 4).filter fun q => (bitsSet 64 (bitsOf bits (64 * q) 64)).length == 1).map (word * 4 + ·)

/-- March reads that differ from their patterns raise faults, and the region has failed; a single failed bit of a quarter stays (R239). -/
def State.regionFails (s : State) (r : Nat) (failing : List (Fin 32 × Nat)) : State :=
  let failing := failing.filter fun f => f.2 % 2 ^ 256 != 0
  if failing.isEmpty then s
  else
    failing.foldl (fun (s : State) f =>
      let w := r * 32 + f.1.val
      { s with poolStuck := s.poolStuck ++ (stuckQuarters w f.2).filter fun q => !s.poolStuck.contains q }.report 242 kPoolTest (w * 32))
      (s.addSat F.MEM_BIST_STAT.FAILS 1)

/-- The next region is tested: its words are read, those found failing are reported, and it yields to a request that hit it or not. -/
def State.regionTest (s : State) (yields : Bool) (failing : List (Fin 32 × Nat)) (ecc : List (Fin 32 × EccResult)) : State :=
  let b := s.bist
  let every := max 1 (s.fld F.MEM_BIST_CFG.INTERVAL) * 1000
  if !s.flag F.MEM_BIST_CFG.EN ∨ s.clk < b.last + every then s
  else
    let next := (b.region + 1) % 131072
    let s := (s.regionRead b.region ecc).regionFails b.region failing
    if yields then
      let s := s.addSat F.MEM_BIST_STAT.YIELDS 1
      if b.yields = 15 then { s.addSat F.MEM_BIST_STAT.SKIPS 1 with bist := ⟨next, 0, s.clk⟩ }
      else { s with bist := ⟨b.region, b.yields + 1, s.clk⟩ }
    else { s with bist := ⟨next, 0, s.clk⟩ }

/-! ## Allocation commands (R244) -/

/-- A write of MEM_ACMD. -/
def State.poolCommand (s : State) (v : Nat) : State :=
  match bitsOf v 16 2 with
  | 0 => s
  | 1 => s.poolCreate (bitsOf v 0 10)
  | 2 => s.poolFree (bitsOf v 0 10)
  | _ => s.setFld F.MEM_ARESULT.RESULT 3

/-- A write of DRM_ACMD. -/
def State.deepCommand (s : State) (v : Nat) : State :=
  match bitsOf v 16 2 with
  | 0 => s
  | 1 => s.deepCreate (bitsOf v 0 10)
  | 2 => s.deepFree (bitsOf v 0 10)
  | _ => s.setFld F.DRM_ARESULT.RESULT 3

end Sys2Proof.Machine
end

