-- ==== Sys2Proof/Machine/Deep.lean ====
section
/-! DEFINITION. GDDR7 controllers: write drains, retraining, fences and resets, self-refresh (R248–R257). -/
namespace Sys2Proof.Machine

/-- Whether an entry of a controller's write queue has waited 4 µs. -/
def State.writeOld (s : State) (n : Nat) : Bool := (s.dram n).queue.any fun w => decide (w.since + usCycles 4 ≤ s.cycle)

/-- Serve writes until 16 or fewer entries are queued and none has waited 4 µs. failed tells, for each write in turn, whether its link CRC
keeps failing (R247). -/
def State.drainWrites (s : State) (n : Nat) : Nat → List Bool → State
  | 0, _ => s
  | fuel + 1, failed =>
    if 16 < (s.dram n).queue.length ∨ s.writeOld n then
      (if failed.headD false then s.failOldest n else s.serveOldest n).drainWrites n fuel failed.tail
    else s

/-- A drain (R249): begun at 48 entries, or when an entry has waited 4 µs; a controller that has still to train serves nothing (R253). -/
def State.writeDrain (s : State) (n : Nat) (failed : List Bool) : State :=
  if !s.dramFenced n && !s.training n && (decide (48 ≤ (s.dram n).queue.length) || s.writeOld n) then
    (s.addSat (F.DRM_DC_WQ.DRAINS n) 1).drainWrites n 64 failed
  else s

/-! ## Fences (R255) -/

/-- The opcodes whose tasks read or write deep memory on their own. -/
def movesDeep (op : Nat) : Bool := op == 0x01 || op == 0x02 || op == 0x03 || op == 0x09 || op == 0x0A

/-- Whether a task names a deep allocation that is gone. -/
def State.taskGone (s : State) (d : Nat) : Bool :=
  (s.taskDeep d).any s.deepGone || (dOpcode d == 0x0A && s.regionLost (luStream d))

/-- Running tasks on a lost allocation end with TESTER_FAULT. -/
def State.failGone (s : State) : State :=
  s.slots.foldl (fun (s : State) p =>
    if p.2.state == .running && p.2.done.isNone && movesDeep (dOpcode p.2.desc) && s.taskGone p.2.desc then
      s.workDone p.1 stTesterFault 0 p.2.moved
    else s) s

/-- Consumers of lost allocations: streaming bursts and spilling captures end (Table at R255). -/
def State.consumersGone (s : State) : State :=
  let s := (List.range 64).foldl (fun (s : State) sg =>
    match s.streamAlloc sg with
    | some a => if s.busySg sg && s.deepGone a then (s.report 240 kDeadline sg).abortCause sg cFenced else s
    | none => s) s
  (List.range 16).foldl (fun (s : State) u =>
    match s.flag (F.AQ_CFG.SPILL u), s.aqSpillAlloc u with
    | true, some a => if (s.acq u).slot.isSome && s.deepGone a then s.aqFault u else s
    | _, _ => s) s

/-- A controller is fenced with a cause: its queue is discarded, its reservations are returned, allocations that touch it are LOST and
their users end. -/
def State.fenceDram (s : State) (n cause : Nat) : State :=
  let s := (s.setFld (F.DRM_DC_STAT.STATE n) 3).setFld (F.DRM_DC_STAT.CAUSE n) cause
  let s := s.setFld F.DRM_CFG.FENCED (setBit (s.fld F.DRM_CFG.FENCED) n)
  let s := s.setDram n { s.dram n with queue := [], trigger := none, pauseWait := none }
  let s := s.setResv (s.resv.filter fun r => !bitOf r.chmask n)
  let s := (s.deepAllocs.filter fun a => bitOf a.chmask n).foldl State.markLost s
  s.consumersGone.failGone

/-- A write of DRM_DCn_CTRL, judged against the state before it (R256). -/
def State.dramCtrlWrite (s : State) (n v : Nat) : State :=
  if s.dramFenced n then
    if bitOf v 0 then s.setDram n { s.dram n with resetting := true } else s
  else if bitOf v 1 then s.fenceDram n 4 else s

/-- Erase a controller's device. -/
def State.eraseDram (s : State) (n : Nat) : State :=
  s.deepForget n 0 (2 ^ 36)

/-- A controller's reset ends: back in service, empty, or still fenced (R256). -/
def State.dramResetDone (s : State) (n : Nat) (trained : Bool) (temp : Int) : State :=
  if !(s.dram n).resetting then s
  else
    let s := s.setDram n { s.dram n with resetting := false }
    if !trained then s
    else
      let s := s.setSource (232 + n) { s.source (232 + n) with fenced := false }
      let s := (s.setFld (F.DRM_DC_STAT.STATE n) 0).setFld (F.DRM_DC_STAT.CAUSE n) 0
      let s := (s.setFld F.DRM_CFG.FENCED (clearBit (s.fld F.DRM_CFG.FENCED) n)).setFld (F.DRM_DC_TRAIN.CONSEC n) 0
      (s.setDram n { Dram.idle with trainedAt := temp, lastSlot := (s.dram n).lastSlot }).eraseDram n

/-! ## Retraining (R253, R254) -/

/-- Every 1 ms the device's temperature, in quarter degrees, is compared with that of each controller's last training. -/
def State.tempCheck (s : State) (temp : Int) : State :=
  if s.clk < s.dramTempAt + 1000000 then s
  else
    (List.range 8).foldl (fun (s : State) n =>
      let d := s.dram n
      if s.dramFenced n ∨ d.trigger.isSome then s
      else if 20 ≤ temp - d.trainedAt ∨ 20 ≤ d.trainedAt - temp then
        s.setDram n { d with trigger := some (ceilDiv s.ns 125000 * 125000) }
      else s) { s with dramTempAt := s.clk }

/-- Whether a retraining of a controller is due. -/
def State.retrainDue (s : State) (n : Nat) : Bool :=
  s.training n || decide ((s.dram n).lastSlot < s.dramSlot n) || match (s.dram n).trigger with
    | some t => decide (t ≤ s.ns)
    | none => false

/-- A due retraining: its pause begins with 16 or fewer queued writes, or after 10 µs of waiting for that; it finds a setting with
margin, or not. With it a controller that waits for its training after self-refresh is in RUN (R253). -/
def State.dramRetrain (s : State) (n : Nat) (found : Bool) (temp : Int) : State :=
  let d := s.dram n
  if s.dramFenced n ∨ s.fld (F.DRM_DC_STAT.STATE n) = 2 ∨ !s.retrainDue n then s
  else
    let waited := match d.pauseWait with
      | none => false
      | some t => decide (t + usCycles 10 ≤ s.cycle)
    if 16 < d.queue.length ∧ !waited then
      s.setDram n { d with pauseWait := some (d.pauseWait.getD s.cycle) }
    else
      let s := s.setDram n { d with
        pauseWait := none, trigger := none, lastSlot := s.dramSlot n, trainedAt := if found then temp else d.trainedAt }
      let s := s.setFld (F.DRM_DC_STAT.STATE n) 0
      if found then s.setFld (F.DRM_DC_TRAIN.CONSEC n) 0
      else
        let fails := s.fld (F.DRM_DC_TRAIN.CONSEC n) + 1
        let s := ((s.addSat (F.DRM_DC_TRAIN.FAILS n) 1).setFld (F.DRM_DC_TRAIN.CONSEC n) fails).report (232 + n) kTrainLost 0
        if fails = 3 then s.fenceDram n 1 else s

/-! ## Self-refresh (R257) -/

/-- Whether a deep allocation has a granule in an eighth that is not kept. -/
def State.inLostEighth (s : State) (a : DeepAlloc) : Bool :=
  let e := s.capacity / 8
  (List.range 8).any fun j => !bitOf (s.fld F.DRM_PASR.KEEP) j && rangesOverlap a.lbase a.span (j * e) e

/-- Self-refresh entry: queued writes are served, eighths not kept are lost. -/
def State.selfRefresh (s : State) : State :=
  let s := s.inService.foldl (fun (s : State) n => iter 64 (fun s => s.serveOldest n) s) s
  let e := s.capacity / 8
  let lost := (List.range 8).filter fun j => !bitOf (s.fld F.DRM_PASR.KEEP) j
  let s := (s.deepAllocs.filter s.inLostEighth).foldl State.markLost s
  let s := s.inService.foldl (fun (s : State) n =>
    lost.foldl (fun (s : State) j => s.deepForget n (j * e) ((j + 1) * e)) s) s
  s.inService.foldl (fun (s : State) n => s.setFld (F.DRM_DC_STAT.STATE n) 2) s

/-- Self-refresh exit: each controller in service is TRAINING until one retraining has run, and until then serves no access. -/
def State.selfRefreshExit (s : State) : State :=
  ((List.range 8).filter fun n => s.fld (F.DRM_DC_STAT.STATE n) == 2).foldl (fun (s : State) n =>
    s.setFld (F.DRM_DC_STAT.STATE n) 1) s

end Sys2Proof.Machine
end

