-- ==== Sys2Proof/Machine/Reset.lean ====
section
/-! DEFINITION. Chip reset: what it keeps, and entry into a boot state (R445, R448, R454–R456). -/
namespace Sys2Proof.Machine

/-- SYS_BOOT_STATE.STATE (R445): 0 RESET, 1 ROM, 2 FIRMWARE, 3 MICROCODE, 4 SELFTEST, 5 CALIBRATION, 6 MEMORY, 7 LINKS, 8 SERVICE,
9 TEST, 10 RECOVERY, 15 FAILED. -/
def State.bootState (s : State) : Nat := s.fld F.SYS_BOOT_STATE.STATE

/-- Enter a boot state; REACHED shows the highest of 1 to 8 of this start. -/
def State.enterBoot (s : State) (v : Nat) : State :=
  let s := s.setFld F.SYS_BOOT_STATE.STATE v
  let s := if v ≤ 8 then s.setFld F.SYS_BOOT_STATE.REACHED (max v (s.fld F.SYS_BOOT_STATE.REACHED)) else s
  { s with boot := { s.boot with enteredAt := s.clk } }

/-- A sequencer that has not started. -/
def Boot.off : Boot := ⟨true, false, 0, 0, none, false, none, 0, false, 0, 0, [], none, false, 0, [], 0⟩

/-- Shroud before a start. -/
def Shroud.off : Shroud := ⟨none, false, 0, 0, none, 0, 0⟩

/-- The chip with every register and block at its reset value; what no reset of the device touches stands (R455). Pool bytes stand
until SELFTEST zeroes them; deep memory cannot be read any more. -/
def State.chipFresh (s : State) : State where
  part := s.part
  clk := 0
  now := 0
  regs := []
  captured := []
  readData := []
  bankA := ⟨false, []⟩
  bankB := ⟨false, []⟩
  tables := []
  pool := s.pool
  poolBad := s.poolBad
  poolStuck := s.poolStuck
  deep := []
  host := s.host
  flash := s.flash
  keep := s.keep
  messages := s.messages
  bulk := []
  rings := []
  slots := []
  fetched := 0
  cancels := []
  cascades := []
  releasedAt := []
  tack := none
  groupPend := []
  reefQueue := []
  resv := []
  faultIn := []
  sources := []
  reactions := []
  nmiWait := []
  released := 0
  journal := []
  compFence := []
  engines := []
  micros := []
  chans := []
  strobes := []
  quads := []
  logs := []
  cvs := []
  srcs := []
  mods := []
  acqs := []
  tdcs := []
  cpxs := []
  drams := []
  dramTempAt := 0
  poolWait := []
  poolLast := []
  poolReplies := []
  bist := ⟨0, 0, 0⟩
  ports := []
  clock := Clock.off
  i3cs := []
  frameSeq := []
  recentSync := []
  syncPend := []
  pairs := []
  pselHeld := 0
  trims := []
  cal := Cal.off
  cnsStopped := []
  cnsLast := [none, none, none, none, none, none, none, none]
  bwNow := [0, 0, 0, 0, 0, 0, 0, 0, 0, 0, 0, 0]
  bwStart := 0
  fuses := s.fuses
  kept := s.kept
  shroud := Shroud.off
  boot := { Boot.off with pwrgood := s.boot.pwrgood, resetN := s.boot.resetN, catrain := s.boot.catrain, flashHigh := s.boot.flashHigh - s.clk }
  pins := { s.pins with ttoutEnd := [none, none, none, none] }
  free := s.free
  pending := s.pending

/-- SYS_RESETCAUSE as a word: cause, boot state at the reset, source. -/
def causeWord (cause state src : Nat) : Nat := cause * 2 ^ 28 + state * 2 ^ 24 + src

/-- ROM begins: the fuses are read, a lifecycle move applies, ATTEMPTS as found decides between a start and RECOVERY and is then
incremented (R448). SYS_BOOT_STATE.ATTEMPTS shows it. -/
def State.enterRom (s : State) : State :=
  let s := { s with fuses := { s.fuses with lifecycle := s.fuses.lcNext.getD s.fuses.lifecycle, lcNext := none } }
  let s := { s with kept := { s.kept with attempts := s.kept.attempts + 1, starts := s.kept.starts + 1 } }
  let s := (s.setReg R.SYS_RESETCAUSE s.kept.cause.toNat).enterBoot 1
  let s := s.setReg R.SYS_PART_ID (0x92560000 + (if s.part.grade16 then 2 else 1) * 0x1000 + s.part.stepping % 256)
  let s := (s.setReg R.SEQ_ROM_VERSION s.part.romVersion).setReg64 R.LNK_UID_LO R.LNK_UID_HI s.part.uid
  s.setFld F.SYS_BOOT_STATE.ATTEMPTS (min 255 s.kept.attempts)

/-- A chip reset (R454, R455): cause 2 HOST, 3 FAULT with its source, 4 BOOT_TIMEOUT. The first-fault record and the cause go to the
boot record, the link stays up, and the device restarts at ROM. -/
def State.chipReset (s : State) (cause src : Nat) : State :=
  let link := s.regN R.HIF_LINK
  let d3 := s.boot.d3hot
  let first := (List.range 4).map fun w => s.reg (R.FLT_FIRST w)
  let s := { s with kept := { s.kept with cause := BitVec.ofNat 32 (causeWord cause s.bootState src), first := first } }
  let s := s.chipFresh.setReg R.HIF_LINK link
  { s with boot := { s.boot with d3hot := d3 } }.enterRom

end Sys2Proof.Machine
end

