-- ==== Sys2Proof/Machine/Stream.lean ====
section
/-! DEFINITION. Deep streams (R53–R58) and micro-traps, check errors and save areas of an engine (R77–R84). -/
namespace Sys2Proof.Machine

/-! ## Deep streams -/

/-- The lines a stream has produced while a block is decoded: new ones latest first, the history latest first, their number. -/
structure Produced where
  fresh : List (List Byte)
  history : List (List Byte)
  count : Nat
deriving DecidableEq, Repr

/-- Produce one line (R56). -/
def Produced.add (p : Produced) (l : List Byte) : Produced := ⟨l :: p.fresh, (l :: p.history).take 256, p.count + 1⟩

/-- Produce n copies of the latest line. -/
def Produced.rep (p : Produced) (n : Nat) : Produced := iter n (fun q => q.add (q.history.headD [])) p

/-- Copy n lines in order, starting back lines back in the history. -/
def Produced.copy (p : Produced) (back n : Nat) : Produced := iter n (fun q => q.add (nth q.history (back - 1) [])) p

/-- Produce n literal lines of size bytes. -/
def Produced.lit (size : Nat) : Nat → List Byte → Produced → Produced
  | 0, _, p => p
  | n + 1, bs, p => Produced.lit size n (bs.drop size) (p.add (bs.take size))

/-- Replace nibble i of a line. -/
def patchNibble (l : List Byte) (i code : Nat) : List Byte :=
  setAt l (i / 2) (BitVec.ofNat 8 (putBits (nth l (i / 2) 0).toNat (4 * (i % 2)) 4 code))

/-- Apply PATCH changes; none when one is malformed (R56, R57). -/
def patchLine (w : Nat) : List Byte → List Byte → Option (List Byte)
  | a :: b :: t, l =>
    let c := ofBytes [a, b]
    if bitOf c 15 ∨ w ≤ bitsOf c 4 11 then none else patchLine w t (patchNibble l (bitsOf c 4 11) (c % 16))
  | _, l => some l

/-- Decode the tokens of a payload: the lines they produce, and whether every token could be carried out (R56, R57). w is the
number of codes of a line and size its bytes. -/
def decodeTokens (w size : Nat) : Nat → List Byte → Produced → Produced × Bool
  | 0, _, p => (p, true)
  | _, [], p => (p, true)
  | fuel + 1, t :: rest, p =>
    let k := t.toNat % 64
    match t.toNat / 64 with
    | 0 =>
      if rest.length < (k + 1) * size then (p, false)
      else decodeTokens w size fuel (rest.drop ((k + 1) * size)) (Produced.lit size (k + 1) rest p)
    | 1 => if p.count = 0 then (p, false) else decodeTokens w size fuel rest (p.rep (k + 1))
    | 2 =>
      match rest with
      | [] => (p, false)
      | e :: rest =>
        if p.count < e.toNat + 1 then (p, false) else decodeTokens w size fuel rest (p.copy (e.toNat + 1) (k + 1))
    | _ =>
      if rest.length < (k + 1) * 2 ∨ p.count = 0 then (p, false)
      else match patchLine w (rest.take ((k + 1) * 2)) (p.history.headD []) with
        | none => (p, false)
        | some l => decodeTokens w size fuel (rest.drop ((k + 1) * 2)) (p.add l)

/-- Codes of a line: positions times M (R36). -/
def State.lineCodes (s : State) (sg : Nat) : Nat := s.nPositions sg * s.mult sg

/-- A block's lines join the staging ring; a failing line is noted. -/
def Stream.take (t : Stream) (p : Produced) (lines : List (List Byte)) (next : Nat) (fail : Option Nat) : Stream :=
  { t with staged := t.staged ++ lines, produced := t.produced + lines.length, history := p.history, pos := next,
           seq := t.seq + 1, failAt := fail }

/-- Check and decode a compressed block at the stream's position (R55–R57). -/
def State.fetchBlock (s : State) (sg : Nat) (d : DeepAlloc) (t : Stream) : Stream :=
  let size := s.lineBytes sg
  let base := s.streamEntry sg t.entry 0 8 + t.pos
  let left := s.streamEntry sg t.entry 8 8 - t.pos
  let failed := { t with failAt := some t.produced }
  if left < 16 then failed
  else
    let h := ofBytes (s.deepReadAt d base 16)
    let len := bitsOf h 0 32
    let count := bitsOf h 32 32
    if len = 0 ∨ 4096 < len ∨ left < 16 + len ∨ bitsOf h 96 32 ≠ t.seq then failed
    else
      let payload := s.deepReadAt d (base + 16) len
      if crc32c payload ≠ bitsOf h 64 32 then failed
      else
        let r := decodeTokens (s.lineCodes sg) size len payload ⟨[], t.history, t.produced⟩
        let lines := r.1.fresh.reverse
        if count < lines.length then t.take r.1 (lines.take count) (t.pos + 16 + len) (some (t.produced + count))
        else if lines.length < count ∨ !r.2 then
          t.take r.1 lines (t.pos + 16 + len) (some (t.produced + lines.length))
        else t.take r.1 lines (t.pos + 16 + len) none

/-- Fetch the next lines of an uncompressed entry: up to 4,096 bytes of them (R37, R57). One whose bytes hold fewer lines than LINE_COUNT
fails its check at the first line past them (DESIGN CHOICE, log 98). -/
def State.fetchPlain (s : State) (sg : Nat) (d : DeepAlloc) (t : Stream) : Stream :=
  let size := s.lineBytes sg
  let left := s.streamEntry sg t.entry 8 8 - t.pos
  let want := s.streamEntry sg t.entry 0x10 8 - t.produced
  let n := min (4096 / size) (min (left / size) want)
  if n = 0 then (if want = 0 then t else { t with failAt := some t.produced })
  else
    let p := Produced.lit size n (s.deepReadAt d (s.streamEntry sg t.entry 0 8 + t.pos) (n * size)) ⟨[], t.history, t.produced⟩
    t.take p p.fresh.reverse (t.pos + n * size) none

/-- The streamer receives one block of an engine's stream, if its deep memory answers (R53, R57, R253, R255). A read that fails for good
(bad, R247) delivers no further line (DEDUCED, log 116). -/
def State.streamFetch (s : State) (sg : Nat) (bad : Bool) : State :=
  let e := s.engine sg
  match e.stream, e.sec with
  | some t, some c =>
    match c.da.bind s.deepAlloc with
    | none => s
    | some d =>
      if !s.busySg sg || (s.source 240).resetting.isSome || t.failAt.isSome || (controllers d.chmask).any s.dramFenced || s.deepWaits d ||
          decide (s.streamEntry sg t.entry 0x10 8 ≤ t.produced) then s
      else if bad then
        (s.setEngine sg { e with stream := some { t with failAt := some t.produced } }).readFails d (s.streamEntry sg t.entry 0 8 + t.pos)
      else
        let t' := if bitOf (s.streamEntry sg t.entry 0x18 4) 0 then s.fetchBlock sg d t else s.fetchPlain sg d t
        (s.setEngine sg { e with stream := some t' }).countRead d (s.streamEntry sg t.entry 0 8 + t.pos) (t'.pos - t.pos)
  | _, _ => s

/-! ## Micro-traps -/

/-- Where the microsequencer of an engine waits: the address of the instruction it carries out, and its pattern stacks (R78, R82, R83). -/
structure Wait where
  ia : Nat
  loops : List LoopLevel
  calls : List Nat
deriving DecidableEq, Repr

/-- The wait that the microsequencer reaches ahead of issue: that of a HALT or a MATCH on the path from here, within 48 line commands and
without another conditional instruction before it, if there is one; general registers are as the path's SETGs leave them (R74, R78, R83). -/
def State.waitAhead (s : State) (sg : Nat) : Nat → SMap Nat → Wait → Option Wait
  | 0, _, _ => none
  | n + 1, grs, p =>
    let w := s.instrWord sg p.ia
    let gr (k : Nat) : Nat := (Sparse.find? grs k).getD (s.gr sg k)
    match iOp w with
    | 0x12 => some p
    | 0x09 => some p
    | 0x03 => s.waitAhead sg n grs { p with ia := iA w }
    | 0x04 => none
    | 0x0A => none
    | 0x05 =>
      s.waitAhead sg n grs { p with
        ia := p.ia + 1, loops := ⟨if iX w = 0 then iA w else gr (iA w % 16), p.calls.length⟩ :: p.loops }
    | 0x06 =>
      match p.loops with
      | [] => none
      | l :: t =>
        if l.remaining = 1 then s.waitAhead sg n grs { p with ia := p.ia + 1, loops := t }
        else s.waitAhead sg n grs { p with ia := iA w, loops := { l with remaining := l.remaining - 1 } :: t }
    | 0x07 => s.waitAhead sg n grs { p with ia := iA w, calls := (p.ia + 1) :: p.calls }
    | 0x08 => s.waitAhead sg n grs { p with ia := p.calls.headD 0, calls := p.calls.tail }
    | 0x0E => if iX w = 0 then s.waitAhead sg n grs { p with ia := p.ia + 1 } else none
    | 0x10 => s.waitAhead sg n (Sparse.insert grs (iX w) (iA w)) { p with ia := p.ia + 1 }
    | _ => s.waitAhead sg n grs { p with ia := p.ia + 1 }

/-- The trap-safe point an engine is at; none when it is at none (R78). The microcode sets TRAPPT exactly at these waits. In IDLE and ARMED no instruction is carried out: the one that a
burst begins with, or would, stands there (DESIGN CHOICE, log 119). -/
def State.trapPoint (s : State) (sg : Nat) : Option Wait :=
  let e := s.engine sg
  let at' (ia : Nat) : Wait := ⟨ia, e.loops, e.calls⟩
  match s.eState sg with
  | 0 => some (at' e.pc)
  | 1 =>
    match e.start with
    | none => some (at' e.pc)
    | some t => if toTick s.now + 8192000 ≤ t then some (at' e.pc) else none
  | 2 =>
    match e.cur with
    | some c =>
      if iOp c.word = 0x09 ∨ iOp c.word = 0x12 then some (at' c.ia)
      else if iOp c.word = 0x0A ∨ iOp c.word = 0x04 ∨ (iOp c.word = 0x0E ∧ iX c.word = 1) then none
      else s.waitAhead sg 48 [] (at' c.next)
    | none => s.waitAhead sg 48 [] (at' e.pc)
  | 3 => some (at' (s.fld (F.SE_STATE.IA sg)))
  | _ => none

/-- Whether the exit of the MATCH in progress is decided in this pattern cycle (R79). -/
def State.exitDecided (s : State) (sg : Nat) : Bool :=
  match (s.engine sg).cur with
  | none => false
  | some c =>
    let t := s.advance sg
    iOp c.word == 0x09 && s.issueDue sg && !t.lineOpen sg && ((t.atBoundary sg).engine sg).cur.isNone

/-- Show the pending causes in SE_TRAPST. -/
def State.showTraps (s : State) (sg : Nat) : State :=
  s.setFld (F.SE_TRAPST.PENDING sg) ((s.engine sg).traps.foldl (fun a t => setBit a t.kind) 0)

/-- A trap request is raised; one already pending stays one (R77, R84). -/
def State.requestTrap (s : State) (sg kind : Nat) : State :=
  let e := s.engine sg
  if e.traps.any fun t => t.kind == kind then s
  else (s.setEngine sg { e with traps := e.traps ++ [⟨kind, s.cycle⟩] }).showTraps sg

/-- Write values to consecutive registers, filling n of them. -/
def State.setRegs (s : State) (reg : Nat → Nat) (n : Nat) (vals : List Nat) : State :=
  (List.range n).foldl (fun (s : State) k => s.setReg (reg k) (nth vals k 0)) s

/-- A SNAPSHOT trap copies the stacks and their depths, lowest level first (R83). -/
def State.snapshot (s : State) (sg : Nat) (ls : List LoopLevel) (cs : List Nat) : State :=
  let s := s.setRegs (R.SE_SNAPLOOP sg) 8 (ls.reverse.map fun l => l.remaining)
  let s := s.setRegs (R.SE_SNAPCALL sg) 16 cs.reverse
  (s.setFld (F.SE_SNAPDEPTH.LOOP sg) ls.length).setFld (F.SE_SNAPDEPTH.CALL sg) cs.length

/-- The save area of R82, for the instruction at an address. -/
def State.saveArea (s : State) (sg cause ia : Nat) : Nat :=
  let e := s.engine sg
  let body := s.instrWord sg ia % 2 ^ 64 * 2 ^ 448 + ia % 2 ^ 24 * 2 ^ 424 + b2n e.mf * 2 ^ 409 + b2n e.rf * 2 ^ 410 +
    (s.micro sg).saved + cause * 2 ^ 177 + s.ns % 2 ^ 64 * 2 ^ 113
  body + crc32c (toBytes 60 (body / 2 ^ 32))

/-- The cause whose trap is entered: the lowest of those requested in an earlier cycle (R79). -/
def State.trapDue (s : State) (sg : Nat) : Option Nat :=
  (List.range 4).find? fun k => (s.engine sg).traps.any fun t => t.kind == k && decide (t.since < s.cycle)

/-- What the routine of a cause does: SCRUB rewrites the corrected word, SNAPSHOT copies the stacks of the wait (R83, R84). -/
def State.trapWork (s : State) (sg cause : Nat) (p : Wait) : State :=
  if cause = 0 then s.scrub sg else if cause = 1 then s.snapshot sg p.loops p.calls else s

/-- Enter the lowest pending trap at a trap-safe point, unless the exit of a MATCH is decided there: the save area is written and the routine
runs (R79, R80, R82). -/
def State.trapEntry (s : State) (sg : Nat) : State :=
  let e := s.engine sg
  match s.trapPoint sg, s.trapDue sg with
  | some p, some cause =>
    if e.trapActive.isSome ∨ s.exitDecided sg then s
    else
      let area := s.saveArea sg cause p.ia
      let s := s.setRegs (R.SE_SAVE sg) 16 ((List.range 16).map fun w => area / 2 ^ (32 * w))
      let s := s.setEngine sg { e with traps := e.traps.filter fun t => t.kind != cause, trapActive := some cause }
      let s := ((s.showTraps sg).setFld (F.SE_TRAPST.ACTIVE sg) 1).setFld (F.SE_TRAPST.LASTCAUSE sg) cause
      let s := (s.addSat (F.SE_TRAPST.TAKEN sg) 1).count (128 + sg) 1
      (s.trapRuns sg cause).trapWork sg cause p
  | _, _ => s

/-- The save area in SE_SAVE0–SE_SAVE15. -/
def State.savedArea (s : State) (sg : Nat) : Nat :=
  (List.range 16).foldl (fun a w => a + s.regN (R.SE_SAVE sg w) * 2 ^ (32 * w)) 0

/-- A trap ends: the save area is read back, an upset bit, if one, flipped, and its CRC checked; the microsequencer goes on from the saved
state (R80, R82). A mismatch is reported with SE_STATE.IA as its address (DESIGN CHOICE, log 119). -/
def State.trapResume (s : State) (sg : Nat) (flip : Option Nat) : State :=
  let e := s.engine sg
  if e.trapActive.isNone then s
  else
    let s := match flip with
      | none => s
      | some b => s.setReg (R.SE_SAVE sg (b / 32)) (s.regN (R.SE_SAVE sg (b / 32)) ^^^ 2 ^ (b % 32))
    let s := (s.setEngine sg { e with trapActive := none }).setFld (F.SE_TRAPST.ACTIVE sg) 0
    let a := s.savedArea sg
    let s := s.setMicro sg ((s.micro sg).restored a)
    if crc32c (toBytes 60 (a / 2 ^ 32)) = a % 2 ^ 32 then s
    else (s.fenceEngine sg).report sg kCheck (s.fld (F.SE_STATE.IA sg))

/-- A request has been deferred for LIMIT µs during a burst (R81). -/
def State.trapLimit (s : State) (sg : Nat) : State :=
  let limit := s.fld (F.SE_TRAPLIM.LIMIT sg)
  if limit ≠ 0 ∧ s.eState sg = 2 ∧ (s.trapPoint sg).isNone ∧
      (s.engine sg).traps.any (fun t => decide (t.since + usCycles limit ≤ s.cycle)) then
    (s.report sg kDeadline (s.fld (F.SE_STATE.IA sg))).abortCause sg cTrap
  else s

/-- A local-store word read with a bit upset keeps it until it is rewritten. -/
def State.noteUpset (s : State) (sg addr : Nat) : State :=
  let m := s.micro sg
  if m.upsets.contains addr then s else s.setMicro sg { m with upsets := m.upsets ++ [addr] }

/-- A check error of a local-store word (R84). -/
def State.storeError (s : State) (sg addr : Nat) (correctable : Bool) : State :=
  if correctable then
    (((s.noteUpset sg addr).addSat (F.SE_UCERR.CORRECTED sg) 1).setFld (F.SE_UCERR.LASTADDR sg) addr).requestTrap sg 0
  else (s.fenceEngine sg).report sg kUncorrectable addr

end Sys2Proof.Machine
end

