-- ==== Sys2Proof/Machine/Faults.lean ====
section
/-! DEFINITION. The fault collector: registration, reactions, block resets, fences and replay (R381–R395). -/
namespace Sys2Proof.Machine

/-! ## Registration (R381, R388–R390) -/

/-- A message as stored (R381). -/
def faultWord (time addr kind src : Nat) : Nat :=
  time % 2 ^ 64 * 2 ^ 64 + addr % 2 ^ 48 * 2 ^ 16 + kind % 64 * 2 ^ 10 + src % 1024

/-- Sticky bit of a source. -/
def stickyBit (src : Nat) : Field := ⟨R.FLT_STICKY (src / 32), src % 32, 1⟩

/-- The device first-fault record (R389). -/
def State.firstFault (s : State) : Nat :=
  (List.range 4).foldl (fun (n : Nat) w => n + s.regN (R.FLT_FIRST w) * 2 ^ (32 * w)) 0
def State.setFirstFault (s : State) (n : Nat) : State :=
  (List.range 4).foldl (fun (s : State) w => s.setReg (R.FLT_FIRST w) (bitsOf n (32 * w) 32)) s

/-- The first record takes a message when it is empty, and of those of the core cycle that fills it the lowest source. -/
def State.fillFirst (s : State) (src word : Nat) : State :=
  let old := s.firstFault
  let of' := old % 1024
  if bitsOf old 10 6 = 0 ∨ (src < of' ∧ (s.source of').latest = some (old, s.cycle)) then s.setFirstFault word else s

/-- A reaction is due in the core cycle after registration. -/
def State.pushReaction (s : State) (r : Reaction) : State := { s with reactions := s.reactions ++ [r] }

/-- FAULT_N is driven low. -/
def State.faultOut (s : State) : State := s.setFld F.FLT_STAT.FAULTOUT 1

/-- A FAULTOUT fault of the core cycle of a RELEASE leaves FAULT_N low (R386). -/
def State.faultOutMeets (s : State) (cfg : Nat) : State :=
  if bitOf cfg 5 && s.released == s.cycle + 1 then s.faultOut else s

/-- Register one message in this core cycle. -/
def State.register (s : State) (m : FaultMsg) : State :=
  let f := s.source m.src
  let word := faultWord s.ns m.addr m.kind m.src
  let again := s.flag (stickyBit m.src)
  let s := if f.count = 0xFFFF then
      let s := s.addSat F.FLT_STAT.FAILED 1
      if m.src = 271 then s else s.report 271 m.kind m.src
    else s
  let s := s.fillFirst m.src word
  let s := s.setSource m.src { f with
    count := min 0xFFFF (f.count + 1), record := if again then f.record else word, latest := some (word, s.cycle) }
  let s := s.setFld (stickyBit m.src) 1
  let s := (s.pushReaction ⟨s.cycle, m.src, f.cfg, again⟩).faultOutMeets f.cfg
  if 64 ≤ m.src ∧ m.src < 80 then
    ((List.range 64).filter fun g => s.eState g == 2 && (s.banksOf g).contains (m.src - 64)).foldl State.takeover s
  else s

/-- Whether a message is received now: the collector receives one per source per core cycle. -/
def State.receives (s : State) (m : FaultMsg) : Bool :=
  decide (m.cycle ≤ s.cycle) &&
  match (s.source m.src).latest with
  | some (_, c) => c != s.cycle
  | none => true

/-- The collector receives the next message; it is not active in RECOVERY and FAILED (R449). -/
def State.faultRegister (s : State) : State :=
  if s.bootState = 10 ∨ s.bootState = 15 then s
  else
    match s.faultIn.find? s.receives with
    | none => s
    | some m => { s with faultIn := s.faultIn.erase m }.register m

/-! ## Blocks (R382–R387) -/

/-- Whether the block of a source supports RESET, and FENCE (Table — Fault sources). -/
def hasReset (n : Nat) : Bool :=
  decide (n < 64) || (decide (144 ≤ n) && decide (n ≤ 240)) || (decide (243 ≤ n) && decide (n ≤ 246)) ||
  (decide (252 ≤ n) && decide (n ≤ 259)) || n == 262 || n == 265
def hasFence (n : Nat) : Bool :=
  decide (n < 240) || (decide (243 ≤ n) && decide (n ≤ 246)) || (decide (252 ≤ n) && decide (n ≤ 255))

/-- The RUNNING task that a move engine or the section loader works on. -/
def State.runningOn (s : State) (src : Nat) : Option Nat :=
  (s.slots.find? fun p => p.2.state == .running && p.2.done.isNone && p.2.source == src).map (·.1)

/-- A capture whose unit stops: its record closes with TRUNC and the task completes TESTER_FAULT (R392). The spec gives the header no
instant: a free value. -/
def State.captureFails (s : State) (u : Nat) : State :=
  if s.aqState u = 0 then s
  else
    let f := Config.freeValue s.free
    ((s.drawn).aqTruncate u (s.aqIndex u) (f % 2 ^ 64) (f / 2 ^ 64 % 2 ^ 32)).aqEnd u stTesterFault

/-- The sets that claim a time-interval unit complete TESTER_FAULT. -/
def State.measureFails (s : State) (u : Nat) : State :=
  (List.range 64).foldl (fun (s : State) v =>
    if (s.tdc v).slot.isSome && (s.tdcClaims v).contains u then s.tdcEnd v stTesterFault else s) s

/-- The RUNNING job of a capture processor, one that waits for its replay included. -/
def State.jobOn (s : State) (p : Nat) : Option Nat :=
  (s.slots.find? fun q => q.2.state == .running && q.2.done.isNone && dOpcode q.2.desc == 0x08 && dsCpx q.2.desc == p).map (·.1)

/-- The job of a capture processor is interrupted, and replayed or failed (R230, R392). -/
def State.jobStops (s : State) (p : Nat) (fail : Bool) : State :=
  match s.jobOn p with
  | none => s
  | some k =>
    let j := s.job (dsJob (s.slot k).desc)
    if fail then s.jobFail p k j false else s.jobInterrupt p k j false

/-- ARMED and RUNNING bursts of the groups that satisfy a test are aborted with cause FENCED. -/
def State.abortWhere (s : State) (p : Nat → Bool) : State :=
  ((List.range 64).filter p).foldl (fun (s : State) g => if s.busySg g then s.abortCause g cFenced else s) s

/-- A block reset starts (R383, R385, R390): the block stops, its window opens, and its work is replayed or fails (R392). -/
def State.blockReset (s : State) (src : Nat) : State :=
  let f := s.source src
  if f.resetting.isSome then s
  else
    let s := s.setSource src { f with resetting := some s.cycle, window := true }
    if src < 64 then
      let s := if s.busySg src then s.abortCause src cFenced else s
      (s.setEngine src { s.engine src with traps := [], trapActive := none }).showTraps src
    else if 144 ≤ src ∧ src < 160 then s.captureFails (src - 144)
    else if 160 ≤ src ∧ src < 224 then s.measureFails (src - 160)
    else if 224 ≤ src ∧ src < 232 then s.jobStops (src - 224) false
    else if (243 ≤ src ∧ src < 247) ∨ src = 262 then
      match s.runningOn src with
      | some k => s.interrupt k (s.slot k).moved
      | none => s
    else if 252 ≤ src ∧ src < 256 then
      let p := src - 252
      if s.portState p = 0 then s
      else (((s.flushPort p).detach p).acquire p).addSat (F.LNK_P_STAT.RETRAINS p) 1
    else if 256 ≤ src ∧ src < 260 then s.setI3c (src - 256) { s.i3c (src - 256) with due := true }
    else s

/-- A fenced move engine's task goes to another engine that is in service, or completes TESTER_FAULT (R393). -/
def State.moveElsewhere (s : State) (src : Nat) (fail : Bool) : State :=
  match s.runningOn src with
  | none => s
  | some k =>
    let left := (List.range 4).filter fun e => !(s.source (243 + e)).fenced
    match fail, s.idleEngines ++ left with
    | false, e :: _ =>
      let s := s.interrupt k (s.slot k).moved
      s.setSlot k { s.slot k with engine := e }
    | _, _ => s.workDone k stTesterFault 0 (s.slot k).moved

/-- The work of a block ends when the block leaves service (R7, R383, R393). -/
def State.endWork (s : State) (src : Nat) (fail : Bool) : State :=
  if src < 64 then s.fenceEngine src
  else if src < 80 then s.loseChannels ((List.range 16).map (16 * (src - 64) + ·))
  else if src < 112 then s.abortWhere fun g => s.cvServes (src - 80) g
  else if src < 128 then s.abortWhere fun g => s.srcServes (src - 112) g
  else if src < 144 then s.abortWhere fun g => s.modServes (src - 128) g
  else if src < 160 then s.captureFails (src - 144)
  else if src < 224 then s.measureFails (src - 160)
  else if src < 232 then (s.jobStops (src - 224) true).setFld (F.CPX_STAT.STATE (src - 224)) 2
  else if src < 240 then if s.dramFenced (src - 232) then s else s.fenceDram (src - 232) 0
  else if 243 ≤ src ∧ src < 247 then s.moveElsewhere src fail
  else if 252 ≤ src ∧ src < 256 then s.portDown (src - 252)
  else if src = 262 then
    match s.runningOn src with
    | some k => s.workDone k stTesterFault 0 0
    | none => s
  else s

/-- Fence a block (R383); one that cannot be fenced only loses its work. -/
def State.fenceSource (s : State) (src : Nat) (fail : Bool) : State :=
  let s := if hasFence src then s.setSource src { s.source src with fenced := true } else s
  s.endWork src fail

/-! ## Reactions (R383, R390) -/

/-- The event source of a fault source (R383). -/
def faultEvent (src : Nat) : Nat := if src = 270 then 211 else 194

/-- EVENT, NMI and FAULTOUT of a configuration. A handler waits while the housekeeping processor is in reset (R385). -/
def State.signalFault (s : State) (src cfg : Nat) : State :=
  let s := if bitOf cfg 0 then s.signal (faultEvent src) else s
  let s := if bitOf cfg 1 ∧ (s.source 265).resetting.isSome then { s with nmiWait := s.nmiWait ++ [src] } else s
  if bitOf cfg 5 then s.faultOut else s

/-- Apply the reactions to a registered fault: a fault within the block's window escalates (R390), a repeat of a sticky fault
re-issues only FAULTOUT and CHIP. -/
def State.react (s : State) (r : Reaction) : State :=
  let reset := bitOf r.cfg 2
  let fence := bitOf r.cfg 3
  if bitOf r.cfg 4 then s.chipReset 3 r.src
  else if (s.source r.src).window && (reset || fence) then
    if (fence || (s.source r.src).fenced) && bitOf r.cfg 6 then s.chipReset 3 r.src
    else ((if r.again then (if bitOf r.cfg 5 then s.faultOut else s) else s.signalFault r.src r.cfg).fenceSource r.src true).signal 194
  else if r.again then (if bitOf r.cfg 5 then s.faultOut else s)
  else
    let s := s.signalFault r.src r.cfg
    if fence then s.fenceSource r.src false
    else if reset then s.blockReset r.src
    else s

/-- Whether the collector's reactions are armed (R445, R449). -/
def State.armedReactions (s : State) : Bool := decide (7 ≤ s.bootState) && decide (s.bootState ≤ 9)

/-- The reactions to the oldest fault registered in an earlier core cycle. -/
def State.faultReaction (s : State) : State :=
  match s.reactions with
  | [] => s
  | r :: t => if !s.armedReactions || decide (s.cycle ≤ r.cycle) then s else { s with reactions := t }.react r

/-! ## The end of resets and self-checks (R387, R392) -/

/-- The fence of a block is cleared, but for a controller's (R256, R387); a port that is enabled trains again, a fenced engine whose burst
has not completed is ENDING. -/
def State.backInService (s : State) (src : Nat) : State :=
  let s := s.setSource src { s.source src with fenced := (s.source src).fenced && decide (232 ≤ src) && decide (src < 240) }
  if src < 64 then
    if s.eState src = 4 then s.setFld (F.SE_STATE.STATE src) (if (s.engine src).slot.isSome then 3 else 0) else s
  else if 224 ≤ src ∧ src < 232 then
    if s.fld (F.CPX_STAT.STATE (src - 224)) = 2 then s.setFld (F.CPX_STAT.STATE (src - 224)) 0 else s
  else if 252 ≤ src ∧ src < 256 then
    if s.flag (F.LNK_P_CFG.EN (src - 252)) then s.portUpFromDown (src - 252) else s
  else s

/-- A self-check fails: a fault of kind CHECK registers at the source, at an address the spec does not give. -/
def State.checkFails (s : State) (src : Nat) : State :=
  (s.report src kCheck (Config.freeValue s.free % 2 ^ 48)).drawn

/-- The reset of an engine loads its local store again (R69). -/
def State.reloadStore (s : State) (src : Nat) : State := if src < 64 then s.loadStore src s.sourceImage else s

/-- A block reset ends. A block that passes its self-check is in service and its replayed tasks go on; one that fails it is fenced. An engine
whose reload meets a master word that cannot be corrected stays fenced (R84). -/
def State.blockResetDone (s : State) (src : Nat) (passed masterError : Bool) : State :=
  if (s.source src).resetting.isNone then s
  else
    let s := (s.setSource src { s.source src with resetting := none }).reloadStore src
    let s := if src = 265 then { s with nmiWait := [] } else s
    let s := if masterError && decide (src < 64) then s.fenceSource src true
      else if passed then s.backInService src
      else
        let s := s.checkFails src
        if hasFence src then s.fenceSource src true else s
    s.closeWindows

/-- Whether the block of a source is fenced, by the collector or by its own chapter. -/
def State.blockFenced (s : State) (src : Nat) : Bool :=
  (s.source src).fenced || (decide (src < 64) && s.eState src == 4) ||
  (decide (224 ≤ src) && decide (src < 232) && s.fld (F.CPX_STAT.STATE (src - 224)) == 2)

/-- FLT_CTRL.UNFENCE (R387): a controller's fence is not cleared here. -/
def State.unfence (s : State) : State :=
  let src := s.fld F.FLT_SRCSEL.SOURCE
  if 272 ≤ src ∨ (232 ≤ src ∧ src < 240) ∨ !s.blockFenced src then s
  else if hasReset src then s.blockReset src
  else if hasFence src ∧ (s.source src).checking.isNone then s.setSource src { s.source src with checking := some s.cycle }
  else s

/-- The self-check of a source with F and without R ends. -/
def State.selfCheckDone (s : State) (src : Nat) (passed : Bool) : State :=
  if (s.source src).checking.isNone then s
  else
    let s := s.setSource src { s.source src with checking := none }
    if passed then s.setSource src { s.source src with fenced := false } else s.checkFails src

/-! ## Host controls (R386–R389) -/

/-- FLT_CTRL.CLRFIRST. -/
def State.clearFirst (s : State) : State := s.setFirstFault 0

/-- FLT_CTRL.RELEASE: a FAULTOUT fault registered in this core cycle, before or after it, leaves FAULT_N low (R386). -/
def State.releaseFault (s : State) : State :=
  if s.reactions.any fun r => r.cycle == s.cycle && bitOf r.cfg 5 then s
  else { s.setFld F.FLT_STAT.FAULTOUT 0 with released := s.cycle + 1 }

/-- FLT_INJECT: an injected fault of a source below 272. -/
def State.inject (s : State) (v : Nat) : State :=
  if v % 1024 < 272 then s.report (v % 1024) kInjected (2 ^ 48 - 1) else s

/-- Clear one sticky bit and empty its record; a fault registered in this core cycle leaves the bit set with its own message. -/
def State.stickyClear (s : State) (src : Nat) : State :=
  match (s.source src).latest with
  | some (word, c) =>
    if c = s.cycle then s.setSource src { s.source src with record := word }
    else (s.setFld (stickyBit src) 0).setSource src { s.source src with record := 0 }
  | none => (s.setFld (stickyBit src) 0).setSource src { s.source src with record := 0 }

/-- A write of FLT_STICKYw. -/
def State.stickyWrite (s : State) (w v : Nat) : State :=
  ((bitsSet 32 v).filter fun j => decide (32 * w + j < 320)).foldl (fun (s : State) j => s.stickyClear (32 * w + j)) s

/-- The bits of FLT_SRCCFG that a source supports. -/
def cfgMask (src : Nat) : Nat := 0b1110011 + (if hasFence src then 8 else 0) + (if hasReset src then 4 else 0)

/-- A write of FLT_SRCCFG for the selected source. -/
def State.srcCfgWrite (s : State) (v : Nat) : State :=
  let src := s.fld F.FLT_SRCSEL.SOURCE
  if src < 272 then s.setSource src { s.source src with cfg := v &&& cfgMask src } else s

/-- FLT_SRCSTAT of the selected source. -/
def State.srcStat (s : State) : Nat :=
  let src := s.fld F.FLT_SRCSEL.SOURCE
  let f := s.source src
  if 272 ≤ src then 0
  else b2n (s.flag (stickyBit src)) * 2 ^ 31 + b2n f.window * 2 ^ 30 + b2n f.fenced * 2 ^ 29 + f.count

end Sys2Proof.Machine
end

