-- ==== Sys2Proof/Machine/Backstay.lean ====
section
/-! DEFINITION. Backstay pairs: matching, digests, disagreements, takeover and degraded pairs (R396–R405). -/
namespace Sys2Proof.Machine

/-- The PSEL pins as BKS_STAT shows them (R396): asserted in service while the role drives the DUT and no takeover holds the bank. -/
def State.psel (s : State) : Nat :=
  if (s.bootState = 8 ∨ s.bootState = 9) ∧ s.fld F.BKS_CFG.ROLE ≤ 1 then andNot 16 0xFFFF s.pselHeld else 0

/-- A pair frame of a TYPE that has come on the pair port for a paired group (R398): its burst number is recorded and it is taken.
Another type is not this row's. -/
def State.pairRx (s : State) (p : Nat) (a : Arrival) (type : Nat → Bool) (take : Nat → State → State) : State :=
  let sg := dget a.payload 0 1 % 64
  if !type (dget a.payload 0 1 / 64) then s
  else
    s.receive p a (dget a.payload 1 1 == 0 && dget a.payload 20 4 == 0) fun s =>
      if !s.carries p ∨ p ≠ s.fld F.BKS_CFG.PORT ∨ !s.paired sg then s
      else take sg (s.setFld (F.BKS_SGSTAT.PBURST sg) (dget a.payload 2 2))

/-- ARM (R399): held for matching. -/
def State.armRx (s : State) (p : Nat) (a : Arrival) : State :=
  s.pairRx p a (· == 1) fun sg s =>
    let d := dget a.payload 12 8
    (s.setPair sg { s.pair sg with arm := some (dget a.payload 4 8, d % 2 ^ 62, d / 2 ^ 62) }).pairMatch sg

/-- 2 µs before its start instant an unmatched paired burst leaves ARMED and completes DEADLINE (R399). -/
def State.matchDeadline (s : State) (sg : Nat) : State :=
  let e := s.engine sg
  match e.slot, e.start with
  | some k, some t =>
    if s.eState sg = 1 ∧ s.paired sg ∧ !(s.pair sg).matched ∧ t ≤ toTick s.now + 2000 * 8192 then
      let s := ((s.dropCommits sg).setFld (F.SE_STATE.STATE sg) 0).setFld (F.BKS_SGSTAT.NOARM sg) 1
      (s.setEngine sg { e with slot := none, start := none, trigger := none, stream := none }).workDone k stDeadline 0 0
    else s
  | _, _ => s

/-! ## Digests (R400, R401) -/

/-- The running digest after a count of further vector cycles (R400). -/
def digestOver (fails : SMap Nat) : Nat → Nat → Nat → Nat
  | _, 0, reg => reg
  | m, n + 1, reg => digestOver fails (m + 1) n (crc64From reg (toBytes 2 (Sparse.get (fun _ => 0) fails m)))

/-- A disagreement (R401): counted; the first of a burst is recorded and reported. -/
def State.disagree (s : State) (sg cycle : Nat) : State :=
  let s := ((s.addSat F.BKS_STAT.DISAGREE 1).setFld F.BKS_STAT.LASTSG sg).setReg64 R.BKS_LASTDIS_LO R.BKS_LASTDIS_HI cycle
  if (s.pair sg).disagreed then s
  else ((s.setPair sg { s.pair sg with disagreed := true }).setFld (F.BKS_SGSTAT.DISAGREE sg) 1).report 270 kDigest sg

/-- Whether two frames of one kind that meet disagree: digests of the same last cycle that differ, or END frames that name different
last cycles or causes, neither of them a tester cause. -/
def framesDiffer (own : Bool × Nat × Nat × Nat) (their : Bool × Nat × Nat) : Bool :=
  let tester := testerCause (own.2.1 / 2 ^ 56) || testerCause (their.2.1 / 2 ^ 56)
  (own.2.1 % 2 ^ 56 == their.2.1 % 2 ^ 56 && own.2.2.1 != their.2.2) || (own.1 && !tester && own.2.1 != their.2.1)

/-- Compare every frame of the partner with the device's own for the same cycle, both END frames with each other. -/
def State.comparePairs (s : State) (sg : Nat) : State :=
  let v := s.pair sg
  let meets (o : Bool × Nat × Nat × Nat) (t : Bool × Nat × Nat) : Bool := o.1 == t.1 && (o.1 || o.2.1 == t.2.1)
  let met := v.own.filterMap fun o => (v.theirs.find? (meets o)).map fun t => (o, t)
  let s := s.setPair sg { v with
    own := v.own.filter fun o => !v.theirs.any (meets o)
    theirs := v.theirs.filter fun t => !v.own.any fun o => meets o t }
  met.foldl (fun (s : State) m => if framesDiffer m.1 m.2 then s.disagree sg (m.2.2.1 % 2 ^ 56) else s) s

/-- Whether a strobe of a group still waits for its samples. -/
def State.strobesPending (s : State) (sg : Nat) : Bool := s.strobes.any fun t => t.sg == sg

/-- DIGEST after each 4,096 cycles, FLAT cycles later, and END after the last line (R400). -/
def State.digestSend (s : State) (sg : Nat) : State :=
  let v := s.pair sg
  let e := s.engine sg
  let ending := (s.eState sg == 3 || (s.eState sg == 4 && e.slot.isSome)) && !s.strobesPending sg
  let issued := if e.begun then s.seCycle sg else 0
  let at' := v.taken + 4095 + s.flat sg
  let begun := decide (at' ≤ issued) && decide (e.nextStart ≤ toTick s.now + (issued - at') * s.period sg)
  if !v.matched ∨ v.silent ∨ v.ended then s
  else if (s.eState sg = 2 ∧ begun) ∨ (ending ∧ v.taken + 4096 ≤ issued) then
    let d := digestOver e.fails v.taken 4096 v.digest
    let last := v.taken + 4095
    let s := s.setPair sg { v with digest := d, taken := v.taken + 4096, own := v.own ++ [(false, last, d, s.clk)] }
    (s.sendPair 0 sg last d).comparePairs sg
  else if ending then
    let d := digestOver e.fails v.taken (issued - v.taken) v.digest
    let q : Nat × State := if issued = 0 then (Config.freeValue s.free % 2 ^ 56, s.drawn) else (issued - 1, s)
    let cycle := q.1 + s.fld (F.SE_CAUSE.CAUSE sg) * 2 ^ 56
    let s := q.2.setPair sg { v with digest := d, taken := issued, ended := true, own := v.own ++ [(true, cycle, d, s.clk)] }
    (s.sendPair 3 sg cycle d).comparePairs sg
  else s

/-- DIGEST or END of the partner (R401, R404). A Backstay that has carried the burst takes none; an END with a tester cause leaves the
primary SINGLE. -/
def State.digestRx (s : State) (p : Nat) (a : Arrival) : State :=
  s.pairRx p a (fun t => t == 0 || t == 3) fun sg s =>
    let isEnd := dget a.payload 0 1 / 64 == 3
    let v := s.pair sg
    if !v.matched ∨ s.flag (F.BKS_SGSTAT.CARRIED sg) then s
    else
      let cycle := dget a.payload 4 8
      let s := (s.setPair sg { v with theirs := v.theirs ++ [(isEnd, cycle, dget a.payload 12 8)] }).comparePairs sg
      if isEnd && testerCause (cycle / 2 ^ 56) && s.fld F.BKS_CFG.ROLE == 1 && !s.flag (F.BKS_SGSTAT.HANDED sg) then s.setFld (F.BKS_SGSTAT.SINGLE sg) 1 else s

/-- Whether a group still expects its partner's frames. -/
def State.expectsPartner (s : State) (sg : Nat) : Bool :=
  !(s.pair sg).silent && !s.flag (F.BKS_SGSTAT.HANDED sg) && !s.flag (F.BKS_SGSTAT.CARRIED sg) && !s.flag (F.BKS_SGSTAT.SINGLE sg)

/-- The partner's frame has not come 4 µs after the device's own (R400, R404). -/
def State.partnerLost (s : State) (sg : Nat) : State :=
  let v := s.pair sg
  if s.expectsPartner sg && v.own.any fun o => decide (o.2.2.2 + 4000 ≤ s.clk) then
    ((s.setPair sg { v with silent := true, own := [] }).setFld (F.BKS_SGSTAT.PLOST sg) 1).report 270 kPartner sg
  else s

/-! ## Takeover (R402, R403) -/

/-- TAKEOVER (R403): the Backstay has carried the burst and expects no further frames for it. -/
def State.takeoverRx (s : State) (p : Nat) (a : Arrival) : State :=
  s.pairRx p a (· == 2) fun sg s =>
    if s.fld F.BKS_CFG.ROLE = 2 then
      (s.setFld (F.BKS_SGSTAT.CARRIED sg) 1).setPair sg { s.pair sg with own := [], theirs := [] }
    else s

/-- Whether RESTORE of a bank is honoured. -/
def State.mayRestore (s : State) (b : Nat) : Bool :=
  s.fld F.BKS_CFG.ROLE == 1 &&
  !(List.range 64).any fun g => s.paired g && s.busySg g && (s.banksOf g).contains b

/-- BKS_CTRL.RESTORE (R403): a bit that is not honoured is discarded with a fault. -/
def State.pselRestore (s : State) (v : Nat) : State :=
  let bits := bitsSet 16 v
  let s := (bits.filter s.mayRestore).foldl (fun (s : State) b => { s with pselHeld := clearBit s.pselHeld b }) s
  if bits.all s.mayRestore then s else s.regFault R.BKS_CTRL

/-! ## The end of a paired burst -/

/-- Whether a paired burst's results are settled: its END has been sent and compared, or no partner is expected any more. -/
def State.pairSettled (s : State) (sg : Nat) : Bool :=
  let v := s.pair sg
  !v.matched || v.silent ||
  (v.ended && (!(v.own.any fun o => o.1) || !s.expectsPartner sg || testerCause (s.fld (F.SE_CAUSE.CAUSE sg))))

/-- Status of a burst that ended with its cause, after what its pair has seen (R401, R402). -/
def State.burstStatus (s : State) (sg : Nat) : Nat :=
  let cause := s.fld (F.SE_CAUSE.CAUSE sg)
  if testerCause cause ∨ ((s.pair sg).matched ∧ s.flag (F.BKS_SGSTAT.HANDED sg)) then stTesterFault
  else if (s.pair sg).matched ∧ (s.pair sg).disagreed then stDisagree
  else causeStatus cause

end Sys2Proof.Machine
end

