-- ==== Sys2Proof/Machine/Bursts.lean ====
section
/-! DEFINITION. The start and the completion of a burst (R27, R60–R64, R136, R399). -/
namespace Sys2Proof.Machine

/-- A burst enters RUNNING 6.0 ns before its start instant (R60); a paired one only if it is matched (R399). -/
def State.burstStart (s : State) (sg : Nat) : State :=
  match (s.engine sg).start with
  | some t =>
    if s.eState sg = 1 ∧ t ≤ toTick s.now + 49152 ∧ (!s.paired sg ∨ (s.pair sg).matched) then (s.meetTack sg t).startBurst sg t
    else s
  | none => s

/-- Whether FAIL records of a group's burst still wait in a quadrant's queue. -/
def State.failsQueued (s : State) (sg : Nat) : Bool :=
  (List.range 4).any fun q => (s.quad q).queue.any fun e =>
    recSg e.record == sg && recBurst e.record == s.fld (F.CMP_SGBURST.NUMBER sg)

/-- After the last line the group's units stop, check-value units drop an open frame, and the END record is offered to the stream
behind every FAIL record (R130, R136). A burst that never ran, or a group with LOGMODE OFF, has none; that of a burst that ran and issued
no vector cycle gives CYCLE 0 (DESIGN CHOICE, log 97). -/
def State.offerEnd (s : State) (sg : Nat) : State :=
  let e := s.engine sg
  if e.endOffered ∨ s.failsQueued sg then s
  else
    let s := s.setEngine sg { e with endOffered := true }
    if !e.begun then s
    else
      let s := ((List.range 32).filter fun u => s.cvServes u sg).foldl (fun (s : State) u => s.cvEnd u) (s.stopUnits sg)
      if s.fld (F.CMP_SGCFG.LOGMODE sg) = 0 then s
      else
        let place := recPlace sg (s.fld (F.CMP_SGBURST.NUMBER sg)) (s.seCycle sg - 1)
        s.stageRecord (s.fld (F.CMP_SGCFG.LOGSTREAM sg)) (countRecord 2 (s.regN (R.CMP_SGLOGGED sg)) place) false

/-- DETAIL of a burst's completion: SE_CAUSE and ABORT_SEEN. -/
def State.burstDetail (s : State) (sg : Nat) : Nat := s.fld (F.SE_CAUSE.CAUSE sg) + 256 * s.fld (F.SE_CAUSE.ABORT_SEEN sg)

/-- A burst whose last line has issued completes when its strobes have been judged, its records stored and its pair settled; the
engine returns to IDLE, a fenced one stays FENCED (R60, R136). -/
def State.burstComplete (s : State) (sg : Nat) : State :=
  let e := s.engine sg
  match e.slot with
  | none => s
  | some k =>
    if s.eState sg ≠ 3 ∧ s.eState sg ≠ 4 then s
    else
      let s := s.advance sg
      if s.lineOpen sg || s.strobesPending sg then s
      else
        let s := s.offerEnd sg
        if !(s.engine sg).endOffered ∨ s.recordsPending sg ∨ !s.pairSettled sg then s
        else
          let n := if e.begun then s.seCycle sg else 0
          let s := s.workDone k (s.burstStatus sg) (s.burstDetail sg) n
          let s := if s.eState sg = 3 then s.setFld (F.SE_STATE.STATE sg) 0 else s
          let s := s.setPair sg PairSg.off
          s.setEngine sg { s.engine sg with
            slot := none, start := none, trigger := none, cur := none, stream := none, streamOpen := false, loops := [], calls := []
            part := none, fire := none }

end Sys2Proof.Machine
end

