-- ==== Sys2Proof/Machine/Thermal.lean ====
section
/-! DEFINITION. Sensors, the thermal alarm and the calibration values in effect (R318, R371, R372). -/
namespace Sys2Proof.Machine

/-! ## THERM_N (R318) -/

/-- Whether THERM_N reads low: driven by this device or from outside. -/
def State.thermLow (s : State) : Bool := s.pins.thermLow || s.flag F.REEF_ALARM.DRIVING

/-- Reef's alarm follows the ball; a change sets SEEN and signals the Reef event. -/
def State.followTherm (s : State) : State :=
  if s.flag F.REEF_ALARM.ACTIVE = s.thermLow then s
  else ((s.setFld F.REEF_ALARM.ACTIVE (b2n s.thermLow)).setFld F.REEF_ALARM.SEEN 1).signal 208

/-- Whether the housekeeping controllers are active: from CALIBRATION on, and not in RECOVERY or FAILED (R445, R449). -/
def State.housekeeping (s : State) : Bool := decide (5 ≤ s.bootState) && decide (s.bootState ≤ 9)

/-- The outside drive of THERM_N changes. -/
def State.thermChange (s : State) (low : Bool) : State :=
  let s : State := { s with pins := { s.pins with thermLow := low } }
  if s.housekeeping then s.followTherm else s

/-- Sensor reading b of 16, in quarter degrees. -/
def reading (temps : List Int) (b : Nat) : Int := nth temps b 0

/-- This device drives THERM_N from TEMP until every sensor is 5 °C below it. -/
def State.driveTherm (s : State) (temps : List Int) : State :=
  let limit : Int := 4 * s.fld F.REEF_ALARM.TEMP
  let all := (List.range 16).map (reading temps)
  let s := if all.any fun t => decide (limit ≤ t) then s.setFld F.REEF_ALARM.DRIVING 1
    else if all.all fun t => decide (t ≤ limit - 20) then s.setFld F.REEF_ALARM.DRIVING 0 else s
  s.followTherm

/-- REEF_TEMP: the sensor reading highest and its reading in whole degrees. -/
def State.showTemp (s : State) (temps : List Int) : State :=
  let top := (List.range 16).foldl (fun (b : Nat) i => if reading temps b < reading temps i then i else b) 0
  s.setReg R.REEF_TEMP (top * 256 + unsigned 8 (reading temps top / 4))

/-! ## Corrections (R371, R372) -/

/-- Lowest and highest of a list. -/
def lowest (l : List Int) : Int := l.foldl min (l.headD 0)
def highest (l : List Int) : Int := l.foldl max (l.headD 0)

/-- CAL_BANKSTAT of a bank at its sensor temperature. A bank that loses its last valid set reports a calibration fault. -/
def State.bankStat (s : State) (sets : List (Nat × Nat × Nat × Bool)) (first : Bool) (b : Nat) (t : Int) : State :=
  let cover := (setsOf sets b false).map fun base => s.setTemp base b
  let s := s.setFld (F.CAL_BANKSTAT.TEMP b) (unsigned 16 t)
  let outside := !cover.isEmpty && (decide (t < lowest cover - 40) || decide (highest cover + 40 < t))
  let s := s.setFld (F.CAL_BANKSTAT.OUTSIDE b) (b2n outside)
  let s := if cover.isEmpty && (first || !s.flag (F.CAL_BANKSTAT.NOCAL b)) then s.report 261 kCalibration b else s
  s.setFld (F.CAL_BANKSTAT.NOCAL b) (b2n cover.isEmpty)

/-- The interpolated value of a channel's quantity at its bank's temperature. -/
def State.channelValue (s : State) (sets : List (Nat × Nat × Nat × Bool)) (t : Int) (ch q : Nat) : Int :=
  let b := ch / 16
  (interpolate ((setsOf sets b false).map fun base => (s.setTemp base b, s.setValue base ch q)) t).getD (trimDefault (ch * 8 + q))

/-- The phase-step trim of a quadrant at the mean of its four sensors, from the sets valid for all four of its banks. -/
def State.stepValue (s : State) (sets : List (Nat × Nat × Nat × Bool)) (temps : List Int) (quad step : Nat) : Int :=
  let sum (f : Nat → Int) : Int := (List.range 4).foldl (fun a i => a + f (4 * quad + i)) 0
  let valid := (sets.filter fun x => bitsOf x.2.2.1 (4 * quad) 4 == 15).map fun x => x.2.1
  (interpolate (valid.map fun base => (sum (s.setTemp base), s.setStep base quad step)) (sum (reading temps))).getD 0

/-- Give a calibration value effect at once. -/
def State.setTrim (s : State) (key : Nat) (v : Int) : State := { s with trims := Sparse.set trimDefault s.trims key v }

/-- The new edge trims of a group's channels wait for its first vector cycle that begins at the balls 7.5 ns after the computation. -/
def State.groupTrims (s : State) (sets : List (Nat × Nat × Nat × Bool)) (temps : List Int) (sg : Nat) : State :=
  let vals : SMap Word := (s.members sg).foldl (fun (m : SMap Word) ch =>
    (List.range 6).foldl (fun (m : SMap Word) e =>
      let v := s.channelValue sets (reading temps (ch / 16)) ch e
      Sparse.insert m (spaceKey trimSpace (ch * 8 + e)) (BitVec.ofInt 32 v)) m) []
  if vals.isEmpty then s
  else if !s.flag (F.PG_CFG.EN sg) then s.applyValues (s.seCycle sg) vals
  else { s with groupPend := s.groupPend ++ [⟨sg, none, toTick s.now + 61440, vals⟩] }

/-- Every correction is computed anew from the readings (R371). -/
def State.computeTrims (s : State) (temps : List Int) (first : Bool) : State :=
  let sets := s.calSets
  let s := (List.range 16).foldl (fun (s : State) b => s.bankStat sets first b (reading temps b)) s
  let s := (List.range 256).foldl (fun (s : State) ch =>
    let t := reading temps (ch / 16)
    let qs := if (s.groupOf ch).isSome then [6, 7] else [0, 1, 2, 3, 4, 5, 6, 7]
    qs.foldl (fun (s : State) q => s.setTrim (ch * 8 + q) (s.channelValue sets t ch q)) s) s
  let s := (List.range 256).foldl (fun (s : State) i =>
    s.setTrim (4096 + i) (s.stepValue sets temps (i / 64) (i % 64))) s
  (List.range 64).foldl (fun (s : State) sg => s.groupTrims sets temps sg) s

/-- A sensor at 105 °C or more is a thermal fault. -/
def State.thermalFaults (s : State) (temps : List Int) : State :=
  (List.range 16).foldl (fun (s : State) b => if 420 ≤ reading temps b then s.report 268 kThermal b else s) s

/-- All 16 sensors are read (R371, R318). -/
def State.readSensors (s : State) (temps : List Int) (first : Bool) : State :=
  let s : State := { s with cal := { s.cal with readAt := s.clk } }
  (((s.computeTrims temps first).showTemp temps).thermalFaults temps).driveTherm temps

/-- Every 1 ms the sensors are read. -/
def State.sensorRead (s : State) (temps : List Int) : State :=
  if s.housekeeping && decide (s.cal.readAt + 1000000 ≤ s.clk) then s.readSensors temps false else s

end Sys2Proof.Machine
end

