-- ==== Sys2Proof/Machine/Shroud.lean ====
section
/-! DEFINITION. Shroud: identity, attestation, fuses, lifecycle and debug (R408–R431). -/
namespace Sys2Proof.Machine

/-! ## Identity (R410, R411) -/

/-- The identity seed and key-agreement scalar that a PUF response and the fused seed give. -/
def derivedKeys (response seed : Nat) : Nat × Nat :=
  let key (tag : Nat) : Nat := Config.sha512 (toBytes 1 tag ++ toBytes 32 response ++ toBytes 32 seed) % 2 ^ 256
  (key 1, key 2)

/-- The keys are derived at a start; without them a device past MANUFACTURING has no identity and raises kind AUTH. -/
def State.deriveIdentity (s : State) : State :=
  let response := if s.kept.helper.isEmpty then none else Config.puf s.part.uid s.kept.helper
  let keys := match response, s.fuses.seed with
    | some r, some seed => some (derivedKeys r seed)
    | _, _ => none
  let s := { s with shroud := { s.shroud with keys := keys } }.setFld F.SHR_STAT.LIFECYCLE s.fuses.lifecycle
  let s := s.setFld F.SHR_STAT.IDENT (b2n (keys.isSome && s.fuses.lifecycle != 0))
  if keys.isNone ∧ s.fuses.lifecycle ≠ 0 then s.report 264 kAuth 0 else s

/-- A fresh debug nonce is drawn (R427). -/
def State.drawNonce (s : State) : State :=
  let n := Config.freeValue s.free
  (List.range 8).foldl (fun (s : State) w => s.setReg (R.SHR_DBG_NONCE w) (bitsOf n (32 * w) 32)) s.drawn

/-! ## Fused minimum SVNs (R89, R408) -/

/-- SHR_CTRL.COMMIT_FWSVN: honoured only for a running SVN above the fused minimum and at most 64. -/
def State.commitFwSvn (s : State) : State :=
  let svn := s.fld F.SHR_FWSVN.RUNNING
  if s.fld F.SHR_FWSVN.FUSED_MIN < svn ∧ svn ≤ 64 then
    { s with fuses := { s.fuses with fwWrite := some svn } }.setFld F.SHR_FWSVN.COMMIT_BUSY 1
  else s

/-- SEQ_UCODE_CTRL.COMMIT_SVN: honoured only while a patch runs. -/
def State.commitUcSvn (s : State) : State :=
  let svn := s.fld F.SEQ_UCODE_SVN.RUNNING
  if s.flag F.SEQ_UCODE_STATUS.SOURCE && decide (s.fld F.SEQ_UCODE_SVN.FUSED_MIN < svn) && decide (svn ≤ 64) then
    { s with fuses := { s.fuses with ucWrite := some svn } }.setFld F.SEQ_UCODE_SVN.COMMIT_BUSY 1
  else s

/-- A fuse write ends; the new minimum applies from the next start. -/
def State.fuseDone (s : State) (firmware : Bool) : State :=
  if firmware then
    match s.fuses.fwWrite with
    | some v => { s with fuses := { s.fuses with fwMin := v, fwWrite := none } }.setFld F.SHR_FWSVN.COMMIT_BUSY 0
    | none => s
  else
    match s.fuses.ucWrite with
    | some v => { s with fuses := { s.fuses with ucMin := v, ucWrite := none } }.setFld F.SEQ_UCODE_SVN.COMMIT_BUSY 0
    | none => s

/-! ## Lifecycle (R425) -/

/-- The state that the fuses hold: the one in effect, or the one that awaits the next start. -/
def State.fusedState (s : State) : Nat := s.fuses.lcNext.getD s.fuses.lifecycle

/-- A transition is written to the fuses. -/
def State.moveLifecycle (s : State) (v : Nat) : State :=
  { s with fuses := { s.fuses with lcNext := some v } }.setFld F.SHR_STAT.LCPEND 1

/-- A write of SHR_CTRL. -/
def State.shrCtrlWrite (s : State) (v : Nat) : State :=
  let deploy := bitOf v 1
  let ret := bitOf v 2
  let bad := (deploy && ret) || ((deploy || ret) && bitsOf v 16 16 != 0xA5C3) ||
    (deploy && s.fusedState != 1) || (ret && s.fusedState != 1 && s.fusedState != 2)
  if bad then s.regFault R.SHR_CTRL
  else
    let s := if bitOf v 0 then s.commitFwSvn else s
    if deploy then s.moveLifecycle 2 else if ret then s.moveLifecycle 3 else s

/-- Oluhal provisions a blank device during vendor-debug: seed, helper data, certificate and FACTORY set copies, and the lifecycle moves
to PROVISIONED at the next start. -/
def State.provision (s : State) (seed : Nat) (helper certificate : List Byte) (sets : List (Nat × List Byte)) : State :=
  if s.fusedState ≠ 0 ∨ s.debug ≠ 2 then s
  else
    let s : State := { s with fuses := { s.fuses with seed := some seed }, kept := { s.kept with helper := helper, certificate := certificate } }
    let s := sets.foldl (fun (s : State) x =>
      let to' := s.copyToWrite (slotAt x.1 0) (slotAt x.1 1) 0x50 slotLen
      (s.keepWrite to'.1 (x.2.take slotLen)).closeRecord to'.1 slotLen to'.2) s
    s.moveLifecycle 1

/-! ## Attestation (R413, R414) -/

/-- A write of SHR_ATT_CTRL. -/
def State.attStart (s : State) (v : Nat) : State :=
  if !bitOf v 31 then s
  else if s.flag F.SHR_ATT_CTRL.BUSY then s.regFault R.SHR_ATT_CTRL
  else s.setFld F.SHR_ATT_CTRL.BUSY 1

/-- Bytes 0x000 to 0x0FF of the report (Table — Attestation report). -/
def State.reportHead (s : State) : List Byte :=
  let loaded := (List.range 64).foldl (fun (n : Nat) g => if (s.engine g).sec.isSome then setBit n g else n) 0
  toBytes 4 0x70 ++ toBytes 2 1 ++ toBytes 1 s.lifecycle ++ toBytes 1 s.debug ++ toBytes 8 s.part.uid ++
  toBytes 4 (s.regN R.SYS_PART_ID) ++ toBytes 4 s.part.romVersion ++ toBytes 4 (s.regN R.SEQ_UCODE_VERSION) ++
  toBytes 2 (s.fld F.SEQ_UCODE_SVN.RUNNING) ++ toBytes 1 (s.fld F.SEQ_UCODE_SVN.FUSED_MIN) ++
  toBytes 1 (s.fld F.SEQ_UCODE_STATUS.RESULT) ++ toBytes 4 (s.regN R.SHR_FWVERSION) ++ toBytes 2 (s.fld F.SHR_FWSVN.RUNNING) ++
  toBytes 1 (s.fld F.SHR_FWSVN.FUSED_MIN) ++ toBytes 1 (s.fld F.SHR_STAT.FWCOPY) ++ toBytes 8 s.ns ++
  (List.range 8).flatMap (fun w => toBytes 4 (s.regN (R.SHR_ATT_NONCE w))) ++ toBytes 32 s.idPub ++ toBytes 32 s.kaPub ++
  toBytes 64 s.shroud.fwDigest ++ toBytes 8 loaded ++ toBytes 40 0

/-- Whether the report buffer at an offset is valid. -/
def State.reportBuffer (s : State) (a : Nat) : Bool :=
  a % 64 == 0 && match s.poolHolding a 512 with | some p => !p.prot | none => false

/-- Shroud ends a requested report: refused without identity or buffer, else signed and written with the certificate. -/
def State.attDone (s : State) : State :=
  if !s.flag F.SHR_ATT_CTRL.BUSY then s
  else
    let a := s.regN R.SHR_ATT_ADDR
    let s := s.setFld F.SHR_ATT_CTRL.BUSY 0
    match s.shroud.keys with
    | none => s.setFld F.SHR_ATT_CTRL.RESULT 1
    | some keys =>
      if !s.flag F.SHR_STAT.IDENT ∨ s.lifecycle = 0 ∨ s.debug = 2 then s.setFld F.SHR_ATT_CTRL.RESULT 1
      else if !s.reportBuffer a then s.setFld F.SHR_ATT_CTRL.RESULT 2
      else
        let head := s.reportHead
        let report := head ++ toBytes 64 (Config.ed25519Sign keys.1 head)
        (s.poolWrite a (report ++ s.kept.certificate.take 160)).setFld F.SHR_ATT_CTRL.RESULT 0

/-! ## Debug sessions (R427–R430) -/

/-- A field of the debug request in SHR_DBG_REQ0 to 39. -/
def State.dbgReq (s : State) (off size : Nat) : Nat :=
  bitsOf ((List.range 40).foldl (fun (n : Nat) w => n + s.regN (R.SHR_DBG_REQ w) * 2 ^ (32 * w)) 0) (8 * off) (8 * size)

/-- The current nonce. -/
def State.dbgNonce (s : State) : Nat :=
  (List.range 8).foldl (fun (n : Nat) w => n + s.regN (R.SHR_DBG_NONCE w) * 2 ^ (32 * w)) 0

/-- Whether the matrix permits a level in the lifecycle state (R431). -/
def levelPermitted (lifecycle level : Nat) : Bool :=
  if level = 1 then lifecycle == 1 || lifecycle == 2 else lifecycle != 2

/-- The first check of R428 that an OPEN fails, as RESULT. -/
def State.openFails (s : State) : Option Nat :=
  let level := s.dbgReq 4 1
  let key := s.dbgReq 0x30 32
  let busy := s.anyBusy || (s.slots.any fun p => (p.2.state == .running || p.2.state == .checking) && dOpcode p.2.desc == 0x03) || s.debug != 0 ||
    s.fld F.SYS_PWR.STATE != 0
  if busy then some 6
  else if s.dbgReq 0 4 ≠ 0x60 ∨ (level ≠ 1 ∧ level ≠ 2) ∨ s.dbgReq 5 3 ≠ 0 ∨ s.dbgReq 8 8 ≠ s.part.uid ∨ s.dbgReq 0x50 16 ≠ 0 then some 2
  else if s.dbgReq 0x10 32 ≠ s.dbgNonce then some 3
  else if !levelPermitted s.lifecycle level then some 5
  else if s.lifecycle = 0 then none
  else if level = 2 ∧ Config.sha512 (toBytes 32 key) % 2 ^ 256 ≠ s.fuses.dbgKey then some 4
  else if Config.ed25519 key (toBytes 96 (s.dbgReq 0 96)) (s.dbgReq 0x60 64) then none else some 4

/-- The erase of R429: session chunks are sealed and sessions end, sections are unloaded, protected pool allocations are zeroed, and
the pattern keys are drawn afresh, which leaves no protected deep byte readable. It goes on to open or close a level. -/
def State.eraseSecrets (s : State) (level : Nat) : State :=
  let s := (List.range 4).foldl (fun (s : State) st =>
    if s.flag (F.CMP_LOG_CFG.EN st) && s.logEncrypts st then
      let s := s.sealChunk st
      s.setLog st { s.log st with dead := true }
    else s) s
  let s := (List.range 64).foldl State.unloadSection s
  let s := (s.poolAllocs.filter fun p => p.prot).foldl (fun (s : State) p => (s.poolErase p.base p.bytes).setPoolProt p.k false) s
  let s := (s.deepAllocs.filter fun d => d.prot).foldl (fun (s : State) d => s.deepErase d) s
  let s : State := { s with shroud := { s.shroud with erase := some level, patternKeys := s.free } }.drawn
  (s.setFld F.SHR_STAT.ERASING 1).setFld F.SHR_DBG_CTRL.BUSY 1

/-- SHR_DBG_CTRL.OPEN: discarded while BUSY; checked, and the erase starts. -/
def State.debugOpen (s : State) : State :=
  if s.flag F.SHR_DBG_CTRL.BUSY then s
  else
    let result := s.openFails
    let key := s.dbgReq 0x30 32
    let level := s.dbgReq 4 1
    let s := s.drawNonce
    match result with
    | some r => ((s.setFld F.SHR_DBG_CTRL.RESULT r).report 264 kAuth 0).addSat F.SHR_AUTHFAIL.DEBUG 1
    | none => { s with shroud := { s.shroud with dbgKey := key } }.eraseSecrets level

/-- SHR_DBG_CTRL.CLOSE: only of an open owner-debug session. -/
def State.debugClose (s : State) : State :=
  if s.debug = 1 then (if s.flag F.SHR_DBG_CTRL.BUSY then s else s.eraseSecrets 0) else s.regFault R.SHR_DBG_CTRL

/-- A write of SHR_DBG_CTRL. -/
def State.dbgCtrlWrite (s : State) (v : Nat) : State :=
  let s := if bitOf v 31 then s.debugOpen else s
  if bitOf v 30 then s.debugClose else s

/-- The erase ends: the level opens, or the session is closed. Vendor-debug withholds the identity until the next start. -/
def State.eraseDone (s : State) : State :=
  match s.shroud.erase with
  | none => s
  | some level =>
    let s : State := { s with shroud := { s.shroud with erase := none } }
    let s := ((s.setFld F.SHR_STAT.ERASING 0).setFld F.SHR_DBG_CTRL.BUSY 0).setFld F.SHR_STAT.DEBUG level
    let s := s.setFld F.SHR_DBG_CTRL.RESULT (if level = 0 then 7 else 1)
    if level = 2 then { s with shroud := { s.shroud with keys := none, withheld := true } }.setFld F.SHR_STAT.IDENT 0 else s

/-! ## Boundary scan (R426) -/

/-- Whether every engine is IDLE or FENCED. -/
def State.enginesQuiet (s : State) : Bool := (List.range 64).all fun g => s.eState g == 0 || s.eState g == 4

/-- An EXTEST instruction (1), EXTEST_PULSE (2) or EXTEST_TRAIN (3): BYPASS (0) in its place while an engine is busy. -/
def State.extest (s : State) (code : Nat) : State :=
  { s with pins := { s.pins with scan := if s.enginesQuiet then code else 0 } }

/-- The boundary-scan instruction in effect. -/
def State.scanInEffect (s : State) : Nat := if s.enginesQuiet then s.pins.scan else 0

end Sys2Proof.Machine
end

