-- ==== Sys2Proof/Machine/CrowsNest.lean ====
section
/-! DEFINITION. Crow's Nest's commands (R434–R443). -/
namespace Sys2Proof.Machine

/-- Occurrences of counter k's event in this core cycle that make it wrap (R435, R440). -/
def State.cnsWrap (s : State) (k n : Nat) : State :=
  let ev := s.fld (F.CNS_CTR_CFG.EVENT k)
  let step := if s.flag (F.CNS_CTR_CFG.MODE k) then 1 else n
  if s.cnsCounts k ev && decide (2 ^ 48 ≤ s.cns k + step) then s.cnsSee k ev n else s

/-- Give counter k a value. -/
def State.setCns (s : State) (k v : Nat) : State :=
  (s.setReg (R.CNS_CTR_LO k) v).setFld (F.CNS_CTR_HI.COUNT k) (v / 2 ^ 32)

/-- CNS_GCTRL.CLRALL (R435). -/
def State.cnsClearAll (s : State) : State :=
  if s.flag F.CNS_GCTRL.RUN then s.regFault R.CNS_GCTRL
  else (List.range 8).foldl (fun (s : State) k => s.setCns k 0) s

/-- A write of CNS_GCTRL: CLRALL is judged against RUN before the write. -/
def State.cnsCtrlWrite (s : State) (v : Nat) : State :=
  (if bitOf v 1 then s.cnsClearAll else s).setFld F.CNS_GCTRL.RUN v

/-- A write of a counter's LO or HI register: only while its EN = 0; it starts a counter that a check error stopped (R435, R438). -/
def State.cnsWrite (s : State) (k : Nat) (hi : Bool) (v : Nat) : State :=
  if s.flag (F.CNS_CTR_CFG.EN k) then s.regFault (if hi then R.CNS_CTR_HI k else R.CNS_CTR_LO k)
  else
    let s := if hi then s.setFld (F.CNS_CTR_HI.COUNT k) v else s.setReg (R.CNS_CTR_LO k) v
    { s with cnsStopped := s.cnsStopped.filter (· != k) }

/-- A check error in a counter's state (R438). -/
def State.cnsCheckError (s : State) (k : Nat) : State :=
  let s := (s.setCns k 0).report 269 kCheck 0
  { s with cnsStopped := if s.cnsStopped.contains k then s.cnsStopped else s.cnsStopped ++ [k] }

/-- A write of CNS_BWCFG (R442): only while EN = 0; EN = 1 starts the first window. -/
def State.bwCfgWrite (s : State) (v : Nat) : State :=
  if s.flag F.CNS_BWCFG.EN then s.regFault R.CNS_BWCFG
  else
    let s := s.setReg R.CNS_BWCFG (v &&& 0x8000FFFF)
    if bitOf v 31 then
      { s with bwNow := [0, 0, 0, 0, 0, 0, 0, 0, 0, 0, 0, 0], bwStart := s.clk }.setReg R.CNS_BWSTAT 0
    else s

/-- Window length in ns. -/
def State.bwWindow (s : State) : Nat := max 1 (s.fld F.CNS_BWCFG.WIN) * 1000

/-- The end of a window (R442). -/
def State.bwWindowEnd (s : State) : State :=
  if s.flag F.CNS_BWCFG.EN && decide (s.bwStart + s.bwWindow ≤ s.clk) then
    let s := (List.range 12).foldl (fun (s : State) p => s.setReg64 (R.CNS_BW_LO p) (R.CNS_BW_HI p) (nth s.bwNow p 0)) s
    { s with bwNow := [0, 0, 0, 0, 0, 0, 0, 0, 0, 0, 0, 0], bwStart := s.bwStart + s.bwWindow }.setReg R.CNS_BWSTAT
      (s.regN R.CNS_BWSTAT + 1)
  else s

end Sys2Proof.Machine
end

