-- ==== Sys2Proof/Machine/Boot.lean ====
section
/-! DEFINITION. The boot states (R407, R445–R450), microwords and the patch image (R71, R72, R85–R88). -/
namespace Sys2Proof.Machine

/-- Bytes of the boot flash, and a little-endian number in it. -/
def State.flashRead (s : State) (a n : Nat) : List Byte := Sparse.getMany erasedDefault s.flash a n
def State.flashNum (s : State) (a n : Nat) : Nat := ofBytes (s.flashRead a n)

/-- Bytes programmed into the boot flash, and a range of it erased. -/
def State.flashPut (s : State) (a : Nat) (bs : List Byte) : State := { s with flash := Sparse.setMany erasedDefault s.flash a bs }
def State.flashGone (s : State) (lo hi : Nat) : State := { s with flash := Sparse.eraseRange s.flash lo hi }

/-- A boot state that has ended its work: the device is in the state and within its bound (Table — Boot states), in ns. -/
def bootBound (state : Nat) : Nat :=
  match state with
  | 1 => 25000000
  | 2 => 5000000
  | 3 => 2000000
  | 4 => 15000000
  | 5 => 10000000
  | 6 => 150000000
  | 7 => 2000000
  | 9 => 15000000
  | _ => 0
def State.working (s : State) (state : Nat) : Bool :=
  s.bootState == state && decide (s.clk ≤ s.boot.enteredAt + bootBound state)

/-- A fault whose address the spec does not give. -/
def State.reportOpen (s : State) (src kind : Nat) : State := (s.report src kind (Config.freeValue s.free % 2 ^ 48)).drawn

/-! ## ROM (R407–R411, R448) -/

/-- Offsets of the two firmware copies (Table — Boot flash map). -/
def fwCopy (copy : Nat) : Nat := if copy = 0 then 0x100000 else 0x600000

/-- Whether a firmware copy passes (R407). -/
def State.firmwareGood (s : State) (base : Nat) : Bool :=
  let code := s.flashNum (base + 0x10) 4
  s.flashNum base 4 == 0x11 && decide (4 ≤ code) && decide (code ≤ 4194304) && s.flashNum (base + 4) 4 == 128 + code &&
  s.flashNum (base + 0x0F) 1 == 0 && s.flashNum (base + 0x18) 40 == 0 &&
  decide (s.flashNum (base + 0x0E) 1 ≤ s.fld F.SYS_PART_ID.STEPPING) && decide (s.fuses.fwMin ≤ s.flashNum (base + 0x0C) 2) &&
  Config.sha512 (toBytes 32 Config.firmwareKey) == s.fuses.fwKey &&
  Config.ed25519 Config.firmwareKey (s.flashRead base (64 + code)) (s.flashNum (base + 64 + code) 64)

/-- A copy runs: Shroud shows it, and its digest is recorded (R408, R409). -/
def State.runFirmware (s : State) (copy : Nat) : State :=
  let base := fwCopy copy
  let s := (s.setFld F.SHR_STAT.FWCOPY copy).setReg R.SHR_FWVERSION (s.flashNum (base + 8) 4)
  let s := s.setFld F.SHR_FWSVN.RUNNING (s.flashNum (base + 0x0C) 2)
  let digest := Config.sha512 (s.flashRead base (64 + s.flashNum (base + 0x10) 4))
  { s with boot := { s.boot with copy := some copy }, shroud := { s.shroud with fwDigest := digest % 2 ^ 512 } }.enterBoot 2

/-- ROM's work: identity, nonce, fused minimums, then the first copy that passes runs, unless three starts have failed. -/
def State.bootRom (s : State) : State :=
  if !s.working 1 then s
  else
    let s := s.deriveIdentity.drawNonce
    let s := (s.setFld F.SHR_FWSVN.FUSED_MIN s.fuses.fwMin).setFld F.SEQ_UCODE_SVN.FUSED_MIN s.fuses.ucMin
    let a := s.firmwareGood (fwCopy 0)
    let b := s.firmwareGood (fwCopy 1)
    let s := if a then s else s.reportOpen 265 kAuth
    let s := if a || b then s else s.reportOpen 265 kAuth
    if !(a || b) then s.faultOut.enterBoot 15
    else if 4 ≤ s.kept.attempts then s.faultOut.enterBoot 10
    else s.runFirmware (if a then 0 else 1)

/-- FIRMWARE's work: the directory and the boot records of the keeping store are read. -/
def State.bootFirmware (s : State) : State := if s.working 2 then s.enterBoot 3 else s

/-! ## MICROCODE (R71, R72, R85–R88) -/

/-- The code positions of the functional bits of a microword, in order (R72). -/
def codePositions : List Nat := (List.range 256).filter fun n => !([0, 1, 2, 4, 8, 16, 32, 64, 128].contains n)

/-- The check bits that the functional bits of a microword take (R72). -/
def checkBits (w : Nat) : Nat :=
  let c := ((List.range 247).zip codePositions).foldl (fun c p => if bitOf w p.1 then c ^^^ p.2 else c) 0
  c + (popCount 247 w + popCount 8 c) % 2 * 256

/-- A microword is valid: no reserved value, RSVD 0, check bits right. -/
def microValid (w : Nat) : Bool :=
  decide (bitsOf w 244 3 < 7) && decide (bitsOf w 223 3 < 7) && decide (bitsOf w 220 3 < 6) && decide (bitsOf w 214 4 < 13) &&
  decide (bitsOf w 210 4 < 6) && decide (bitsOf w 207 3 < 5) && decide (bitsOf w 205 2 < 3) && decide (bitsOf w 96 2 < 3) &&
  bitsOf w 0 90 == 0 && bitsOf w 247 9 == checkBits w

/-- Put count microwords of a byte string at consecutive local addresses; none: one overlaps or is invalid. -/
def putWords : Nat → Nat → List Byte → SMap Nat → Option (SMap Nat)
  | 0, _, _, m => some m
  | n + 1, a, bs, m =>
    let w := ofBytes (bs.take 32)
    if (Sparse.find? m a).isSome || !microValid w then none else putWords n (a + 1) (bs.drop 32) (Sparse.insert m a w)

/-- The records of a payload (R86), as words by local address; none: R86 broken. -/
def patchRecords : Nat → List Byte → SMap Nat → Option (SMap Nat)
  | 0, bs, m => if bs.isEmpty then some m else none
  | n + 1, bs, m =>
    let a := ofBytes (bs.take 2)
    let count := ofBytes ((bs.drop 2).take 2)
    if decide (bs.length < 8 + 32 * count) || count == 0 || ofBytes ((bs.drop 4).take 4) != 0 || decide (2048 < a + count) then none
    else
      match putWords count a (bs.drop 8) m with
      | some m => patchRecords n (bs.drop (8 + 32 * count)) m
      | none => none

/-- The patch image's payload, decrypted under the stepping's key (R85). -/
def State.patchPayload (s : State) : List Byte :=
  let len := s.flashNum 0xB00014 4
  toBytes len (Config.gcmPlain Config.patchKey (s.flashNum 0xB00018 12) (s.flashRead 0xB00040 len))

/-- Bytes as 256-bit words from a number on. -/
def wordsFrom : Nat → Nat → List Byte → SMap Nat → SMap Nat
  | 0, _, _, m => m
  | n + 1, a, bs, m => wordsFrom n (a + 1) (bs.drop 32) (Sparse.set (fun _ => 0) m a (ofBytes (bs.take 32)))

/-- The payload stands in the master store's patch staging while it is verified (R68). -/
def State.stagePatch (s : State) : State :=
  { s with boot := { s.boot with staging := wordsFrom (ceilDiv s.patchPayload.length 32) 0x2800 s.patchPayload [] } }

/-- The bytes of the patch staging. -/
def State.stagedPatch (s : State) (len : Nat) : List Byte :=
  ((List.range (ceilDiv len 32)).flatMap fun i => toBytes 32 (s.masterWord (0x2800 + i))).take len

/-- The result of the patch image's checks (Table — Patch results) and, when LOADED, its words. No patch is present where the region does
not hold the KIND of one (R451; DEDUCED, log 33). -/
def State.patchCheck (s : State) : Nat × SMap Nat :=
  let base := 0xB00000
  let f (off size : Nat) : Nat := s.flashNum (base + off) size
  let len := f 0x14 4
  if f 0 4 ≠ 0x10 then (0, [])
  else if f 4 4 ≠ 128 + len ∨ f 0x0F 1 ≠ 0 ∨ f 0x10 4 = 0 ∨ 2048 < f 0x10 4 ∨ len < 40 ∨ 196608 < len ∨ f 0x24 4 ≠ 0 ∨
      f 0x38 8 ≠ 0 then (2, [])
  else if f 0x0E 1 ≠ s.fld F.SYS_PART_ID.STEPPING then (3, [])
  else if f 0x0C 2 < s.fuses.ucMin then (4, [])
  else if !Config.ed25519 Config.patchSigner (s.flashRead base (64 + len)) (f (64 + len) 64) then (5, [])
  else
    let cipher := s.flashRead (base + 64) len
    if !Config.gcmTag Config.patchKey (f 0x18 12) (s.flashRead base 0x18) cipher (f 0x28 16) then (6, [])
    else
      match patchRecords (f 0x10 4) (s.stagePatch.stagedPatch len) [] with
      | none => (7, [])
      | some m => (1, m)

/-- MICROCODE's work: the patch image is checked and the local stores take the patched or the ROM image. A master word that cannot be
corrected, met while either is loaded, leaves the ROM image with RESULT = MASTER_ERROR (R84; log 33). -/
def State.bootMicrocode (s : State) (masterError : Bool) : State :=
  if !s.working 3 then s
  else
    let r := if masterError then (8, []) else s.patchCheck
    let on := r.1 == 1
    let s := (s.setFld F.SEQ_UCODE_STATUS.RESULT r.1).setFld F.SEQ_UCODE_STATUS.SOURCE (b2n on)
    let s := s.setReg R.SEQ_UCODE_VERSION (if on then s.flashNum 0xB00008 4 else 0)
    let s := s.setFld F.SEQ_UCODE_SVN.RUNNING (if on then s.flashNum 0xB0000C 2 else 0)
    let s : State := { s with boot := { s.boot with patch := r.2, staging := [] } }
    ((if r.1 ≤ 1 then s else s.signal 193).loadStores s.sourceImage).enterBoot 4

/-! ## SELFTEST (R450, R459) -/

/-- The pool is zeroed; words that fail their check are poisoned; engines that fail are fenced. An engine that is fenced already is
neither tested nor reloaded; every other one runs the diagnostic routines and takes its own image again (R459). -/
def State.selfTest (s : State) (failed : Nat) (words : List Nat) : State :=
  let s := (s.poolZero.loadStores diagnosticImage).loadStores s.sourceImage
  let s := words.foldl (fun (s : State) w =>
    let quarters := [4 * w, 4 * w + 1, 4 * w + 2, 4 * w + 3]
    { s with poolBad := s.poolBad ++ quarters.filter fun q => !s.poolBad.contains q }.report 242 kPoolTest (32 * w)) s
  (bitsSet 64 failed).foldl (fun (s : State) g =>
    if s.eState g = 4 then s else (s.fenceSource g true).reportOpen g kCheck) s

def State.bootSelfTest (s : State) (failed : Nat) (words : List Nat) : State :=
  if s.working 4 then (s.selfTest failed words).enterBoot 5 else s

/-! ## CALIBRATION (R371, R379) -/

/-- CALIBRATION's work: each slot shows its set, a slot whose copies both fail is invalid, and the corrections are computed. -/
def State.bootCalibration (s : State) (temps : List Int) : State :=
  if !s.working 5 then s
  else
    let s := (List.range 8).foldl (fun (s : State) k =>
      match s.slotCopy k with
      | some base =>
        (s.setFld (F.CAL_SET_INFO.SOURCE k) (s.keepNum (base + 4) 1)).setFld (F.CAL_SET_INFO.BANKS k) (s.keepNum (base + 6) 2)
      | none => s.reportOpen 261 kCalibration) s
    (s.readSensors temps true).enterBoot 6

/-! ## MEMORY (R248, R252, R258, R450, R453) -/

/-- MEMORY's work: with each controller's delays from its board record, or trained anew where CATRAIN asked for it, data is trained; the
first controller that trains gives the density; both key sets are drawn. -/
def State.bootMemory (s : State) (rate : Nat) (temp : Int) (found : List DramStart) : State :=
  if !s.working 6 then s
  else
    let at' (n : Nat) : DramStart := nth found n ⟨false, false, 0, false⟩
    let hasCa (n : Nat) : Bool := if s.boot.catrain then (at' n).caTrained else bitOf s.kept.board n && (at' n).record
    let trains (n : Nat) : Bool := hasCa n && (at' n).trained
    let density := ((List.range 8).find? trains).elim 0 fun n => (at' n).density.val
    let board := if s.boot.catrain then ((List.range 8).filter hasCa).foldl setBit 0 else s.kept.board
    let s : State := { s with kept := { s.kept with board := board }, boot := { s.boot with catrain := false } }
    let s := (s.setFld F.DRM_CFG.RATE rate).setFld F.DRM_CFG.DENSITY density
    let s := (List.range 8).foldl (fun (s : State) n =>
      if !hasCa n then s.fenceDram n 2
      else if !trains n then s.fenceDram n 1
      else if (at' n).density.val ≠ density then s.fenceDram n 3
      else s.setDram n { Dram.idle with trainedAt := temp, lastSlot := s.dramSlot n }) s
    let s := s.setFld F.SYS_BOOT_STATE.DCFENCED (s.fld F.DRM_CFG.FENCED)
    let s : State := { s.deepZero with shroud := { s.shroud with patternKeys := s.free, dataKeys := s.free + 1 } }
    s.drawn.drawn.enterBoot 7

/-! ## LINKS, SERVICE and the bounds (R445, R448) -/

/-- LINKS' work: enabled ports and I3C controllers begin. -/
def State.bootLinks (s : State) : State :=
  if !s.working 7 ∨ s.boot.linksDone then s
  else
    let s := (List.range 4).foldl (fun (s : State) p =>
      if s.flag (F.LNK_P_CFG.EN p) && !s.srcFenced (252 + p) then s.portUpFromDown p else s) s
    let s := (List.range 4).foldl (fun (s : State) q =>
      if s.flag (F.PEM_Q_CFG.EN q) then s.setI3c q { s.i3c q with due := true } else s) s
    { s with boot := { s.boot with linksDone := true } }

/-- A start reaches SERVICE. -/
def State.bootService (s : State) : State :=
  if s.bootState = 7 ∧ s.boot.linksDone ∧ s.boot.leaving.isNone then
    let s : State := { s with kept := { s.kept with attempts := 0 } }
    let s := (s.setFld F.SYS_BOOT_STATE.ATTEMPTS 0).setFld F.SYS_BOOT_STATE.BOOTMS (min 255 ((s.clk - s.boot.releasedAt) / 1000000))
    s.enterBoot 8
  else s

/-- A boot state has exceeded its bound. -/
def State.bootTimeout (s : State) : State :=
  let v := s.bootState
  if ((1 ≤ v ∧ v ≤ 7) ∨ v = 9) ∧ s.boot.enteredAt + bootBound v < s.clk then s.chipReset 4 0 else s

end Sys2Proof.Machine
end

