-- ==== Sys2Proof/Machine/Power.lean ====
section
/-! DEFINITION. Reset lines, SYS_CTRL, TEST, power states, the function reset, the PCI Express link and the boot flash (R446,
R452–R459, R469). -/
namespace Sys2Proof.Machine

/-! ## Reset lines (R446, R454, R469) -/

/-- A fuse write that power loss interrupts leaves the fuses as before it or as after it: a free choice (R469). -/
def State.settleFuses (s : State) : State :=
  let f := s.fuses
  let pick (i : Nat) : Bool := bitOf (Config.freeValue s.free) i
  let fw := if pick 0 then f.fwWrite.getD f.fwMin else f.fwMin
  let uc := if pick 1 then f.ucWrite.getD f.ucMin else f.ucMin
  { s.drawn with fuses := { f with fwMin := fw, ucMin := uc, fwWrite := none, ucWrite := none } }

/-- The device is held in RESET for a cause. -/
def State.holdReset (s : State) (cause : Nat) : State :=
  { s with kept := { s.kept with cause := BitVec.ofNat 32 (causeWord cause s.bootState 0) } }.chipFresh

/-- PWRGOOD rises (cause POWER), or RESET_N goes low (cause PIN; in RESET already, the cause stands). -/
def State.powerOn (s : State) (pin : Bool) : State :=
  if pin then
    let s : State := { s with boot := { s.boot with resetN := false } }
    if s.bootState = 0 then s else s.holdReset 1
  else if s.boot.pwrgood then s
  else { s with boot := { s.boot with pwrgood := true } }.holdReset 0

/-- PWRGOOD falls: as a power-on reset. -/
def State.powerFall (s : State) : State :=
  if s.boot.pwrgood then { s.settleFuses with boot := { s.boot with pwrgood := false } }.holdReset 0 else s

/-- RESET_N is high; with PWRGOOD high the device leaves RESET. -/
def State.resetRelease (s : State) : State :=
  let high := if s.boot.resetN then s.boot.flashHigh else s.clk + 10000
  let s : State := { s with boot := { s.boot with resetN := true, flashHigh := high } }
  if s.boot.pwrgood ∧ s.bootState = 0 then { s with boot := { s.boot with releasedAt := s.clk } }.enterRom else s

/-! ## SYS_CTRL and TEST (R453, R454, R458, R459) -/

/-- The entry needs of P2 and P3: no task RUNNING, no engine ARMED or RUNNING. -/
def State.restful (s : State) : Bool := !(s.slots.any fun p => p.2.state == .running) && !s.anyBusy

/-- SYS_CTRL.TEST: from SERVICE, with no section loaded, no pool allocation protected and no stream encrypting; CNS_ACCESS.USER clears
as the device leaves service, and its engines take the diagnostic routines. -/
def State.testEntry (s : State) : State :=
  let ready := s.bootState == 8 && s.restful && (List.range 64).all (fun g => (s.engine g).sec.isNone) &&
    s.poolAllocs.all (fun p => !p.prot) && (List.range 4).all fun st => !s.logEncrypts st
  if ready then ((s.setFld F.CNS_ACCESS.USER 0).loadStores diagnosticImage).enterBoot 9 else s.regFault R.SYS_CTRL

/-- The TEST self-test ends. -/
def State.testDone (s : State) (failed : Nat) (words : List Nat) : State :=
  if s.working 9 then (s.selfTest failed words).enterBoot 8 else s

/-- A write of SYS_CTRL. A chip reset it asks for comes last, after CATRAIN and in place of TEST; CLRATT clears ATTEMPTS first. -/
def State.sysCtrlWrite (s : State) (v : Nat) : State :=
  let confirm := bitsOf v 16 16 == 0x5A3C
  let chip := bitOf v 0 && confirm
  let s := if !bitOf v 2 then s
    else if confirm && decide (s.lifecycle ≤ 1) then { s with boot := { s.boot with catrain := true } }
    else s.regFault R.SYS_CTRL
  let s := if bitOf v 1 && !chip then s.testEntry else s
  if chip then (if bitOf v 3 then { s with kept := { s.kept with attempts := 0 } } else s).chipReset 2 0
  else if bitOf v 0 then s.regFault R.SYS_CTRL
  else s

/-! ## Power states (R457, R458) -/

/-- Whether the entry needs of a power state hold. -/
def State.mayEnter (s : State) (v : Nat) : Bool :=
  if v = 0 then true
  else if v = 1 then
    s.enginesQuiet && (List.range 16).all (fun u => s.aqState u == 0) && (List.range 64).all fun u => (s.tdc u).slot.isNone
  else s.restful

/-- The registers that P3 keeps: of the SYS, TIM and FLT windows, and those whose values a start, the fuses or the link gave. -/
def retained (off : Nat) : Bool :=
  off < 0x100000 || (decide (0x500000 ≤ off) && decide (off < 0x600000)) || (decide (0xB00000 ≤ off) && decide (off < 0xC00000)) ||
  off == R.HIF_LINK || off == R.SHR_STAT || off == R.SHR_FWVERSION || off == R.SHR_FWSVN ||
  (List.range 8).any (fun w => off == R.SHR_DBG_NONCE w) || (decide (R.SEQ_UCODE_STATUS ≤ off) && decide (off ≤ R.SEQ_ROM_VERSION)) ||
  off == R.LNK_UID_LO || off == R.LNK_UID_HI

/-- The registers of a list that P3 keeps take the place of those of a state. -/
def State.keepRegs (s : State) (regs : SMap Word) : State := { s with regs := regs.filter fun p => retained p.1 }

/-- What P3 keeps beside registers: fault records, device time, CNS_CYCLE and identity. -/
def State.standsBy (f s : State) : State := { f with
  clk := s.clk, now := s.now, clock := s.clock, faultIn := s.faultIn, reactions := s.reactions, kept := s.kept, pins := s.pins
  sources := s.sources.map fun p => (p.1, { p.2 with window := false, fenced := false, resetting := none, checking := none })
  boot := { s.boot with linksDone := false }
  shroud := { s.shroud with dbgKey := 0, erase := none } }

/-- P3 entry (R457, R423): the links go down, everything but fault records, device time, CNS_CYCLE and identity takes its reset value;
sections, sessions and debug end; the boot states will rebuild the fences. -/
def State.standby (s : State) : State :=
  let s := (List.range 4).foldl State.portDown s
  let f := s.chipFresh.keepRegs s.regs
  (((f.standsBy s).setFld F.SHR_STAT.DEBUG 0).setFld F.SHR_STAT.ERASING 0).setFld F.FLT_STAT.JOURNAL 0

/-- A power state is entered. From P1 down the pattern clock stands and the channels are at R99 levels. -/
def State.enterPower (s : State) (v : Nat) : State :=
  let s : State := { s with chans := [] }
  let s := if v = 2 then s.selfRefresh else if v = 3 then s.standby else s
  (s.setFld F.SYS_PWR.STATE v).setFld F.SYS_PWR.RESULT 0

/-- A transition back to P0 begins; from P3 it passes SELFTEST to LINKS. -/
def State.leavePower (s : State) (then' : Nat) : State :=
  let from' := s.fld F.SYS_PWR.STATE
  let s := (s.setFld F.SYS_PWR.PENDING 1).setFld F.SYS_PWR.RESULT 0
  let s : State := { s with boot := { s.boot with leaving := some from', leavingAt := s.clk, leaveTo := then' } }
  if from' = 3 then s.enterBoot 4 else s

/-- SYS_PWR.REQ (R458): refused with BUSY outside SERVICE, during a transition or a debug OPEN or erase, or when the entry needs do not
hold. A request for a shallower low-power state goes by way of P0. -/
def State.powerRequest (s : State) (v : Nat) : State :=
  let cur := s.fld F.SYS_PWR.STATE
  let busy := s.bootState != 8 || s.flag F.SYS_PWR.PENDING || s.flag F.SHR_DBG_CTRL.BUSY || (decide (cur < v) && !s.mayEnter v)
  if busy then s.setFld F.SYS_PWR.RESULT 1
  else if v = cur then s.setFld F.SYS_PWR.RESULT 0
  else if cur < v then s.enterPower v
  else s.leavePower v

/-- The time a return to P0 takes, in ns; from P3 it is that of the boot states. -/
def exitTime (from' : Nat) : Nat := if from' = 1 then 20000 else if from' = 2 then 1000000 else 0

/-- A transition back to P0 completes. -/
def State.exitDone (s : State) : State :=
  match s.boot.leaving with
  | none => s
  | some from' =>
    let ready := if from' = 3 then s.bootState == 7 && s.boot.linksDone else decide (s.boot.leavingAt + exitTime from' ≤ s.clk)
    if !ready then s
    else
      let then' := s.boot.leaveTo
      let s : State := { s with boot := { s.boot with leaving := none, leaveTo := 0 } }
      let s := if from' = 2 then s.selfRefreshExit else if from' = 3 then s.enterBoot 8 else s
      let s := (s.setFld F.SYS_PWR.STATE 0).setFld F.SYS_PWR.PENDING 0
      if then' = 0 then s else s.powerRequest then'

/-- Whether a READY task needs the pattern clock. -/
def State.wakes (s : State) : Bool :=
  s.slots.any fun p => p.2.state == .ready && [5, 6, 7].contains (dOpcode p.2.desc)

/-- In P1 a READY burst, capture or measurement brings the device back to P0 on its own (R457). -/
def State.wake (s : State) : State :=
  if s.fld F.SYS_PWR.STATE = 1 ∧ !s.flag F.SYS_PWR.PENDING ∧ s.bootState = 8 ∧ s.wakes then s.leavePower 0 else s

/-- The PCI Express device power state changes: D3hot requests P3, D0 requests P0. -/
def State.devicePower (s : State) (d3hot : Bool) : State :=
  if s.boot.d3hot = d3hot then s
  else
    let s : State := { s with boot := { s.boot with d3hot := d3hot, retryAt := s.clk } }
    s.powerRequest (if d3hot then 3 else 0)

/-- The P3 request of D3hot is repeated every 1 ms until it is accepted. -/
def State.d3Retry (s : State) : State :=
  if s.boot.d3hot ∧ s.fld F.SYS_PWR.STATE ≠ 3 ∧ s.boot.retryAt + 1000000 ≤ s.clk then
    { s with boot := { s.boot with retryAt := s.clk } }.powerRequest 3
  else s

/-! ## PCI Express (R261, R455, R456) -/

/-- The link trains at a RATE code (3 to 6) and width: HIF_LINK shows them and the host traffic cap in whole GB/s. -/
def State.linkTrained (s : State) (rate width : Nat) : State :=
  s.setReg R.HIF_LINK (2 ^ rate * width * 3 / 32 * 2 ^ 16 + width * 16 + rate)

/-- The slot number that an aborted burst of a function reset completes to: no slot has it, so nothing is posted. -/
def noSlot : Nat := 4096

/-- A function reset (R455): kind 0 function level reset, 1 hot reset, 2 link down. Bursts are aborted, every other task is stopped as
by a cancel, and the host interface, scheduler and Tack are reset; a function in D3hot returns to D0 and so requests P0 (R458). Before
SERVICE it has no effect here (R456). -/
def State.functionReset (s : State) (kind : Nat) : State :=
  let asleep := s.boot.d3hot
  let s : State := { s with boot := { s.boot with d3hot := false } }
  if s.bootState ≠ 8 ∧ s.bootState ≠ 9 then (if kind = 0 then s else s.setReg R.HIF_LINK 0)
  else
    let s := (List.range 64).foldl (fun (s : State) g =>
      if (s.engine g).slot.isSome then (s.setEngine g { s.engine g with slot := some noSlot }).hostAbort g else s) s
    let running := s.slots.filter fun p => p.2.state == .running && p.2.done.isNone && dOpcode p.2.desc != 0x05
    let s := running.foldl (fun (s : State) p => s.cancelRunning p.1) s
    let link := if kind = 0 then s.regN R.HIF_LINK else 0
    let s := ((s.resetRegs 0x100000 0x200000).resetRegs 0x200000 0x300000).resetRegs 0x300000 0x400000
    let s : State := { s with
      slots := [], rings := [], bulk := [], cancels := [], cascades := [], releasedAt := [], reefQueue := [], journal := [], tack := none, resv := []
      groupPend := s.groupPend.filter fun c => c.atCycle.isNone
      bankA := ⟨false, []⟩, bankB := ⟨false, []⟩, chans := [] }
    let s := (s.setReg R.HIF_LINK link).setFld F.REEF_GRANTED.UNITS 0
    let s := (s.setFld F.FLT_STAT.JOURNAL 0).setFld F.CNS_ACCESS.USER 0
    let s := (s.setReefQueue []).settleDrains
    if asleep then s.powerRequest 0 else s

/-! ## Boot flash (R452) -/

/-- Whether the flash registers work (R452). -/
def State.flashServed (s : State) : Bool := [8, 9, 10, 15].contains s.bootState

/-- A write of SYS_FLASH_CTRL. A GO that R452 excludes, or of the reserved OP, is discarded with a fault. -/
def State.flashCtrlWrite (s : State) (v : Nat) : State :=
  let op := bitsOf v 24 2
  let len := bitsOf v 0 9
  let addr := s.regN R.SYS_FLASH_ADDR
  if !bitOf v 31 then (s.setFld F.SYS_FLASH_CTRL.OP op).setFld F.SYS_FLASH_CTRL.LEN len
  else
    let crosses := decide (op < 2) && decide (256 < addr % 256 + len)
    if s.flag F.SYS_FLASH_CTRL.BUSY || decide (len < 4) || decide (256 < len) || len % 4 != 0 || crosses || op == 3 then
      s.regFault R.SYS_FLASH_CTRL
    else
      let s := ((s.setFld F.SYS_FLASH_CTRL.OP op).setFld F.SYS_FLASH_CTRL.LEN len).setFld F.SYS_FLASH_CTRL.BUSY 1
      { s with boot := { s.boot with flash := some ⟨op, addr, len⟩ } }

/-- The bytes of the flash buffer. -/
def State.flashBuffer (s : State) (n : Nat) : List Byte :=
  ((List.range 64).flatMap fun w => toBytes 4 (s.regN (R.SYS_FLASH_DATA w))).take n

/-- Fill the flash buffer from its start. -/
def State.fillBuffer (s : State) (bs : List Byte) : State :=
  let all := bs ++ (s.flashBuffer 256).drop bs.length
  (List.range 64).foldl (fun (s : State) w => s.setReg (R.SYS_FLASH_DATA w) (ofBytes ((all.drop (4 * w)).take 4))) s

/-- A flash operation ends; after an error the bytes it was to give or write are free values. -/
def State.flashDone (s : State) (error : Bool) : State :=
  match s.boot.flash with
  | none => s
  | some f =>
    let s : State := { s with boot := { s.boot with flash := none } }
    let s := (s.setFld F.SYS_FLASH_CTRL.BUSY 0).setFld F.SYS_FLASH_CTRL.RESULT (b2n error)
    let free (n : Nat) : List Byte := toBytes n (Config.freeValue s.free)
    if f.op = 0 then
      let bs := if error then free f.len else s.flashRead f.addr f.len
      (if error then s.drawn else s).fillBuffer bs
    else if f.op = 1 then
      let bs := if error then free f.len else s.flashBuffer f.len
      (if error then s.drawn else s).flashPut f.addr bs
    else
      let base := f.addr / 65536 * 65536
      if error then s.drawn.flashPut base (free 65536) else s.flashGone base (base + 65536)

end Sys2Proof.Machine
end

