-- ==== Sys2Proof/Machine/HostAccess.lean ====
section
/-! DEFINITION. Host accesses to BAR0, BAR2 and BAR4: when they are served, what a register shows, what a write does field by field,
RC fields, LO captures and the stage banks (R9–R13, R104, R139, R306, R307, R350, R422, R439, R443, R447, R449, R458). -/
namespace Sys2Proof.Machine

/-! ## Which accesses are served (R447, R449, R457) -/

/-- Whether the function answers memory accesses at all: from FIRMWARE on. -/
def State.answers (s : State) : Bool := decide (2 ≤ s.bootState)

/-- Whether the device is in SERVICE with its registers running: not in P3. -/
def State.inUse (s : State) : Bool := s.bootState == 8 && s.fld F.SYS_PWR.STATE != 3

/-- Whether a BAR0 offset is served: outside SERVICE, and in P3, the SYS window alone. -/
def State.serves (s : State) (off : Nat) : Bool := s.answers && (decide (off < 0x100000) || s.inUse)

/-- Whether an offset is a boot-flash register. -/
def flashReg (off : Nat) : Bool :=
  off == R.SYS_FLASH_ADDR || off == R.SYS_FLASH_CTRL || (decide (R.SYS_FLASH_DATA 0 ≤ off) && decide (off < R.SYS_FLASH_DATA 64))

/-- Whether an offset lies in the user page of Crow's Nest (R443). -/
def userPage (off : Nat) : Bool := decide (0x7F0000 ≤ off) && decide (off < 0x800000)

/-- The CNS offset that an offset of the user page mirrors, if any. -/
def mirrored (off : Nat) : Option Nat :=
  let m := off - 0xF0000
  let r := m - 0x700000
  let counter := decide (0x40 ≤ r) && decide (r < 0xC0) && (r % 16 == 4 || r % 16 == 8)
  let sample := decide (0x100 ≤ r) && decide (r ≤ 0x114)
  let port := decide (0x240 ≤ r) && decide (r < 0x2A0)
  if userPage off && (r == 0 || r == 4 || counter || sample || port) && (cardAt m).isSome then some m else none

/-! ## What a register shows -/

/-- The instance and the place within it of an offset among count instances a stride apart. -/
def instanceOf (base stride count off : Nat) : Option (Nat × Nat) :=
  if base ≤ off ∧ off < base + stride * count then some ((off - base) / stride, (off - base) % stride) else none

/-- A field laid over a register's value. -/
def shown (w : Nat) (f : Field) (v : Nat) : Nat := putBits w f.lo f.width v

/-- SCH_SLOTINFO of the selected slot (R304). -/
def State.slotInfo (s : State) : Nat :=
  let t := s.slot (s.fld F.SCH_SLOTSEL.SLOT)
  let code := match t.state with
    | .empty => 0 | .waiting => 1 | .ready => 2 | .checking => 3 | .running => 4 | .finished => 5
  let named := if t.state = .empty then 0 else dFlow t.desc % 32 * 2 ^ 24 + dOpcode t.desc * 2 ^ 16
  code * 2 ^ 29 + named + min t.count 65535

/-- The staged value that the stage-bank window selects (R307). A staged edge time stands in its TIMESET entry (R103). -/
def State.peeked (s : State) : Option Word :=
  let bank := s.bank (s.fld F.TCK_PEEK_ADDR.BANK)
  Sparse.find? bank.vals (canonKey (spaceKey (s.fld F.TCK_PEEK_ADDR.SPACE) (s.fld F.TCK_PEEK_ADDR.OFFSET / 4 * 4)))

/-- Whether a group's section hides its general registers from the host (R422). -/
def State.hidden (s : State) (sg : Nat) : Bool :=
  (match (s.engine sg).sec with | some c => c.encrypted | none => false) && s.debug != 1

/-- Whether a channel's group conceals its counts (R139). -/
def State.concealed (s : State) (ch : Nat) : Bool :=
  match s.groupOf ch with
  | some g => s.flag (F.CMP_SGCFG.CONCEAL g)
  | none => false

/-- The registers of the sequence engines as they show. -/
def State.viewSeq (s : State) (sg r : Nat) (w : Nat) : Nat :=
  if 0x100 ≤ r ∧ r < 0x140 then (if s.hidden sg then 0 else w)
  else if r = 0x478 ∨ r = 0x47C then (if s.hidden sg then 0 else w)
  else if r = 0x410 then (s.micro sg).upc
  else w

/-- The registers of compare and fail that a CONCEAL group hides (R139). -/
def State.viewCmp (s : State) (off w : Nat) : Nat :=
  match instanceOf (R.CMP_CHCFG 0) 0x100 256 off, instanceOf (R.CMP_SGCFG 0) 0x400 64 off with
  | some (c, r), _ =>
    if !s.concealed c then w else if r = 4 then 0 else if r = 8 then shown w (F.CMP_CHSTAT.SAT c) 0 else w
  | _, some (g, r) => if s.flag (F.CMP_SGCFG.CONCEAL g) && decide (0x100 ≤ r) && decide (r < 0x200) then 0 else w
  | _, _ => w

/-- What a register shows: its value, or what is computed where the register stands for state kept elsewhere. -/
def State.view (s : State) (off : Nat) : Nat :=
  let w := s.regN off
  if off < 0x200000 then w
  else if off = R.SCH_SLOTINFO then s.slotInfo
  else if off = R.TCK_PEEK_DATA then (s.peeked.getD 0).toNat
  else if off = R.TCK_PEEK_STAT then b2n s.peeked.isSome
  else if off = R.FLT_SRCCFG then (if s.fld F.FLT_SRCSEL.SOURCE < 272 then (s.source (s.fld F.FLT_SRCSEL.SOURCE)).cfg else 0)
  else if off = R.FLT_SRCSTAT then s.srcStat
  else if R.FLT_SRCREC 0 ≤ off ∧ off ≤ R.FLT_SRCREC 3 then
    (if s.fld F.FLT_SRCSEL.SOURCE < 272 then bitsOf (s.source (s.fld F.FLT_SRCSEL.SOURCE)).record (8 * (off - R.FLT_SRCREC 0)) 32 else 0)
  else if off = R.BKS_STAT then shown w F.BKS_STAT.PSEL s.psel
  else if off = R.SHR_SESSION_LO then s.kept.sessions % 2 ^ 32
  else if off = R.SHR_SESSION_HI then s.kept.sessions / 2 ^ 32 % 2 ^ 32
  else if off = R.CNS_CYCLE_LO then s.cnsCycle % 2 ^ 32
  else if off = R.CNS_CYCLE_HI then s.cnsCycle / 2 ^ 32 % 2 ^ 32
  else if off = R.CNS_ACCESS then shown w F.CNS_ACCESS.SERVICE (b2n (s.bootState == 8))
  else if off = R.TIM_NOW_NS_LO then s.ns % 2 ^ 32
  else if off = R.TIM_NOW_NS_HI then s.ns / 2 ^ 32 % 2 ^ 32
  else if off = R.TIM_NOW_FRAC then s.now % 2 ^ 32
  else if R.CAL_SETTEMP 0 ≤ off ∧ off ≤ R.CAL_SETTEMP 7 then s.setTempView ((off - R.CAL_SETTEMP 0) / 4)
  else if off = R.CAL_PEEKVAL then s.peekValue
  else if off = R.TMG_LIMITS then s.tmin * 2 ^ 16 + s.subMin
  else
    match instanceOf 0x801000 8 1024 off, instanceOf 0x910000 16 1024 off, instanceOf 0x1000000 0x4000 64 off,
        instanceOf 0x1400000 0x1000 256 off, instanceOf 0x2800000 0x1000 64 off with
    | some (k, r), _, _, _, _ =>
      if r = 4 then shown w (F.MEM_AT_SIZE.INUSE k) (b2n ((s.poolAlloc k).elim false s.poolInUse)) else w
    | _, some (k, r), _, _, _ => if r = 4 then shown w ⟨off, 29, 1⟩ (b2n ((s.deepAlloc k).elim false s.deepInUse)) else w
    | _, _, some (g, r), _, _ => s.viewSeq g r w
    | _, _, _, some (c, r), _ =>
      if 0x44 ≤ r ∧ r < 0x5C then s.tsEdge c (s.regN (R.CH_TSSEL c) % 256) ((r - 0x44) / 4) else w
    | _, _, _, _, some (u, r) => if r = 0x40 then shown w (F.TDC_STAT.FALLBACK u) (b2n (s.tdcFallback u)) else w
    | _, _, _, _, _ => s.viewCmp off w

/-! ## Reads (R11–R13, R350, R439) -/

/-- The registers that a LO register captures when it is read. -/
def captures (off : Nat) : List Nat :=
  let cns (o : Nat) : Bool := o == R.CNS_CYCLE_LO || (decide (R.CNS_CTR_LO 0 ≤ o) && decide (o ≤ R.CNS_CTR_LO 7) && o % 16 == 4) ||
    o == R.CNS_SAMP_CYC_LO || o == R.CNS_SAMP_VC_LO || (decide (R.CNS_BW_LO 0 ≤ o) && decide (o ≤ R.CNS_BW_LO 11) && o % 8 == 0)
  let unit (base stride count r : Nat) : Bool := match instanceOf base stride count off with
    | some (_, x) => x == r
    | none => false
  if off = R.TIM_NOW_NS_LO then [R.TIM_NOW_NS_HI, R.TIM_NOW_FRAC]
  else if cns off || (match mirrored off with | some m => cns m | none => false) || unit 0x1000000 0x4000 64 0x28 ||
      unit 0x2000000 0x1000 16 0x30 || unit 0x2400000 0x1000 16 0x110 || unit 0x2C00000 0x1000 8 0x0C then [off + 4]
  else []

/-- The value that a served offset shows, through the user page where it lies there. -/
def State.lookAt (s : State) (off : Nat) : Nat :=
  if userPage off then
    (match mirrored off with | some m => if s.flag F.CNS_ACCESS.USER && s.bootState == 8 then s.view m else 0 | none => 0)
  else if flashReg off && !s.flashServed then 0
  else s.view off

/-- The RC fields of an offset. -/
def rcFields (off : Nat) : List Field :=
  match cardAt off with
  | none => []
  | some c => (c.fields.filter fun f => f.acc == .rc).map fun f => ⟨off, f.lo, f.width⟩

/-- Whether a mask has a bit of a field. -/
def fieldMet (mask : Nat) (f : Field) : Bool := bitsOf mask f.lo f.width != 0

/-- The value of an RC field from before an event of this core cycle: one less, a bit clear. A counter that stood at its greatest value
before the event stayed there; the field's highest bit in the mask says so. -/
def beforeEvent (w mask : Nat) (f : Field) : Nat :=
  let v := bitsOf w f.lo f.width
  if 1 < f.width ∧ v = 2 ^ f.width - 1 ∧ bitOf mask (f.lo + f.width - 1) then v else v - 1

/-- The value a read of an offset returns when events of its core cycle have met the RC fields of a mask (R12, R13). -/
def State.readValue (s : State) (off met : Nat) : Nat :=
  ((rcFields off).filter (fieldMet met)).foldl (fun (w : Nat) f => shown w f (beforeEvent w met f)) (s.lookAt off)

/-- A read clears the RC fields of its register; one that an event of this core cycle met holds 1 after it. The count of a fault source
stands with the source. -/
def State.clearRc (s : State) (off met : Nat) : State :=
  let s := (rcFields off).foldl (fun (s : State) f => s.setFld f (b2n (fieldMet met f))) s
  let src := s.fld F.FLT_SRCSEL.SOURCE
  if off = R.FLT_SRCSTAT ∧ src < 272 then s.setSource src { s.source src with count := b2n (met % 2 ^ 16 != 0) } else s

/-- The value from a LO read stands for the next read of its HI register; that of TIM_NOW until the next LO read (R350). -/
def State.capture (s : State) (off : Nat) : State :=
  (captures off).foldl (fun (s : State) h =>
    { s with captured := Sparse.insert s.captured h (BitVec.ofNat 32 (s.lookAt h)) }) s

/-- A served read of a register. -/
def State.readServed (s : State) (off met : Nat) : State :=
  match Sparse.find? s.captured off with
  | some v =>
    let keep := off == R.TIM_NOW_NS_HI || off == R.TIM_NOW_FRAC
    { s with readData := [v], captured := if keep then s.captured else Sparse.erase s.captured off }
  | none =>
    let s : State := { s with readData := [BitVec.ofNat 32 (s.readValue off met)] }
    (s.capture off).clearRc off met

/-- A naturally aligned 32-bit BAR0 read. Until FIRMWARE none is answered; an offset that is not served reads 0. -/
def State.regRead (s : State) (off met : Nat) : State :=
  if !s.answers then { s with readData := [] }
  else if !s.serves off then { s with readData := [0] }
  else s.readServed off met

/-- Any other register access (R9): a read returns all ones, a write is discarded, and a register access fault is reported. -/
def State.misaligned (s : State) (off : Nat) (isRead : Bool) : State :=
  let put (s : State) (l : List Word) : State := if isRead then { s with readData := l } else s
  if !s.answers then put s []
  else if !s.serves off then put s [0]
  else (put s [0xFFFFFFFF]).regFault off

/-! ## Writes field by field (R11, R12, R306) -/

/-- Whether an enabled event source of a vector is pending. -/
def State.vectorPending (s : State) (vec : Nat) : Bool :=
  (List.range 256).any fun ev => s.flag (evPend ev) && s.flag (F.HIF_EVMAP.EN (ev / 4) (ev % 4)) &&
    s.fld (F.HIF_EVMAP.VEC (ev / 4) (ev % 4)) == vec

/-- An event source's pending bit has been cleared: a masked vector that no other source holds pending loses its pending-array bit, as PCI
Express MSI-X has it for an event that is satisfied (R286). -/
def State.eventServed (s : State) (ev : Nat) : State :=
  let vec := s.fld (F.HIF_EVMAP.VEC (ev / 4) (ev % 4))
  if s.flag (F.HIF_EVMAP.EN (ev / 4) (ev % 4)) && s.msixMasked vec && !s.vectorPending vec then
    s.setFld ⟨0x1F8000 + 4 * (vec / 32), vec % 32, 1⟩ 0
  else s

/-- The RW and W1C fields of a write. A W1C bit that an event of this core cycle sets stays set (R12), and an event source whose pending
bit is so met sends its message again (R286). -/
def State.writePlain (s : State) (off v met : Nat) : State :=
  let rw := accessMask .rw off
  let w1c := accessMask .w1c off
  let old := s.regN off
  let new := andNot 32 (andNot 32 old rw ||| (v &&& rw)) (andNot 32 (v &&& w1c) met)
  let s := s.setReg off new
  if R.HIF_EVPEND 0 ≤ off ∧ off ≤ R.HIF_EVPEND 7 then
    let s := (bitsSet 32 (old &&& v)).foldl (fun (s : State) j => s.eventServed ((off - R.HIF_EVPEND 0) * 8 + j)) s
    let again := (bitsSet 32 (old &&& v &&& met)).map fun j => (off - R.HIF_EVPEND 0) * 8 + j
    again.foldl (fun (s : State) ev =>
      if s.flag (F.HIF_EVMAP.EN (ev / 4) (ev % 4)) then s.sendMsix (s.fld (F.HIF_EVMAP.VEC (ev / 4) (ev % 4))) else s) s
  else s

/-- Stage a value into the bank that WBANK names, unless it is LOCKED (R306). -/
def State.stageHost (s : State) (key off v : Nat) : State :=
  let b := s.fld F.TCK_CTRL.WBANK
  if (s.bank b).locked then s.regFault off else s.stage b key (BitVec.ofNat 32 v)

/-- The ST fields of a write. -/
def State.writeStaged (s : State) (off v : Nat) : State :=
  let st := accessMask .st off
  if st = 0 then s else s.stageHost (spaceKey 0 off) off (v &&& st)

/-- A write without a meaning beyond its fields. -/
def State.writeFields (s : State) (off v met : Nat) : State := (s.writePlain off v met).writeStaged off v

/-- TS_EDGEe of a channel stages the TIMESET entry of the time set that CH_TSSEL selects (R103). -/
def State.tsEdgeWrite (s : State) (c e v : Nat) : State :=
  let off := R.TS_EDGE c e
  s.stageHost (spaceKey 1 ((c * 256 + s.regN (R.CH_TSSEL c) % 256) * 32 + 4 * e)) off (v &&& accessMask .st off)

/-! ## Writes with a meaning of their own -/

/-- SE_GR (R65, R422). -/
def State.seGrWrite (s : State) (sg k v : Nat) : State :=
  if s.eState sg ≠ 0 ∨ s.hidden sg then s.regFault (R.SE_GR sg k) else s.setReg (R.SE_GR sg k) v

/-- SE_CTRL and SE_TRAPREQ. -/
def State.seCtrlWrite (s : State) (sg v : Nat) : State := if bitOf v 0 then s.hostAbort sg else s
def State.seTrapWrite (s : State) (sg v : Nat) : State := if bitOf v 0 then s.requestTrap sg 1 else s
def State.ucodeCtrlWrite (s : State) (v : Nat) : State := if bitOf v 0 then s.commitUcSvn else s

/-- CMP_SGCTRL (R127). -/
def State.cmpCtrlWrite (s : State) (sg v : Nat) : State :=
  if !bitOf v 0 then s
  else if s.eState sg ≠ 0 then s.regFault (R.CMP_SGCTRL sg)
  else (s.setReg (R.CMP_SITEFAIL sg) 0).clearCounts sg

/-- Whether a place lies in the span from a read pointer to a write pointer of a ring [first, size). -/
def inSpan (first size rd wr v : Nat) : Bool :=
  let n := size - first
  decide (first ≤ v) && decide (v < size) && decide ((v + n - rd) % n ≤ (wr + n - rd) % n)

/-- Whether a LOG_UPLOAD of a stream is outstanding: until its completion is written (R265, R276). -/
def State.uploadOpen (s : State) (st : Nat) : Bool :=
  s.slots.any fun p => p.2.state != .empty && dOpcode p.2.desc == 0x0A && luStream p.2.desc == st

/-- CMP_LOG_RDPTR (R134, R138, R276); a due LOST record enters the room it makes (R133). -/
def State.logRdptrWrite (s : State) (st v : Nat) : State :=
  let off := R.CMP_LOG_RDPTR st
  let ok := inSpan (s.regionFirst st) (s.regionSize st) (s.regN off) (s.regN (R.CMP_LOG_WRPTR st)) v
  if !ok || s.uploadOpen st || (s.logEncrypts st && v % 4096 != 0) then s.regFault off
  else (((s.setReg off v).retryDenied st).showFull st).writeLost st

/-- CV_BUF_RDPTR (R157). -/
def State.cvRdptrWrite (s : State) (u v : Nat) : State :=
  let off := R.CV_BUF_RDPTR u
  if inSpan 0 (s.regN (R.CV_BUF_SIZE u) * 4096) (s.regN off) (s.regN (R.CV_BUF_WRPTR u)) v then s.setReg off v else s.regFault off

/-- SRC_RING_WRPTR (R167). -/
def State.srcWrptrWrite (s : State) (u v : Nat) : State :=
  let off := R.SRC_RING_WRPTR u
  let size := s.ringSize u
  let moved := (v + size - s.regN off) % size
  if v % 32 ≠ 0 ∨ size ≤ v ∨ size - 32 < s.ringFilled u + moved then s.regFault off
  else s.setReg off v

/-- AQ_CTRL: the requests act at the unit's next word (R188). -/
def State.aqCtrlWrite (s : State) (u v : Nat) : State :=
  let a := s.acq u
  s.setAcq u { a with reqArm := a.reqArm || bitOf v 0, reqForce := a.reqForce || bitOf v 1, reqStop := a.reqStop || bitOf v 2 }

/-- TCK_CTRL (R306): the clears act with the bank selection. -/
def State.tckCtrlWrite (s : State) (v : Nat) : State :=
  let s := s.setFld F.TCK_CTRL.WBANK v
  let s := if bitOf v 8 then s.bankClear 0 else s
  if bitOf v 9 then s.bankClear 1 else s

/-- REEF_BUDGET and REEF_ALARM: a budget outside 390 to 1,800 units discards the write (R313, R317). -/
def State.reefWrite (s : State) (off v met : Nat) : State :=
  if v % 65536 < 390 ∨ 1800 < v % 65536 then s.regFault off else s.writeFields off v met

/-- SCH_FLOW_CFG: a LIMIT of 0 or above 4,096 discards the write. -/
def State.flowCfgWrite (s : State) (off v : Nat) : State :=
  if v % 2 ^ 13 = 0 ∨ 4096 < v % 2 ^ 13 then s.regFault off else s.writeFields off v 0

/-- FLT_CTRL: CLRFIRST, UNFENCE and RELEASE. -/
def State.fltCtrlWrite (s : State) (v : Nat) : State :=
  let s := if bitOf v 1 then s.clearFirst else s
  let s := if bitOf v 2 then s.unfence else s
  if bitOf v 0 then s.releaseFault else s

/-- TIM_CTRL. -/
def State.timCtrlWrite (s : State) (v : Nat) : State :=
  let s := if bitOf v 0 then s.timeSet else s
  if bitOf v 1 then s.timeAccept else s

/-- LNK_Pp_CFG: RW fields at once, staged fields into a bank; EN takes the port down or up, RETRAIN sends it back. -/
def State.linkCfgWrite (s : State) (p v : Nat) : State :=
  let s := s.writeFields (R.LNK_P_CFG p) v 0
  let s := if !bitOf v 31 then s.portDown p
    else if s.srcFenced (252 + p) then s else s.portUpFromDown p
  if bitOf v 29 then s.retrain p else s

/-- PEM_Qq: CFG, XCTL, and each slot's PID and CTRL. -/
def State.pemWrite (s : State) (q r off v met : Nat) : State :=
  let k := (r - 0x100) / 16
  if r = 0 then s.pemCfgWrite q v
  else if r = 0xC0 then s.xctlWrite q v
  else if 0x100 ≤ r ∧ r < 0x1F0 then
    if r % 16 < 8 then (if r % 4 = 0 then s.pidWrite q k off v else s)
    else if r % 16 = 12 then (if bitOf v 0 then s.companionRelease q k else s)
    else s.writeFields off v met
  else s.writeFields off v met

/-- TTn. -/
def State.ttWrite (s : State) (n r off v met : Nat) : State :=
  if r = 0 then s.ttCfgWrite n v
  else if r < 0x1C ∧ r % 4 = 0 then s.ttRegWrite n off v
  else s.writeFields off v met

/-- HIF: rings, bulk ports, and the MSI-X vector control, whose unmasking sends a pending message. -/
def State.hifWrite (s : State) (off v met : Nat) : State :=
  match instanceOf 0x101000 0x20 64 off, instanceOf 0x102000 0x10 16 off, instanceOf 0x1F0000 0x10 64 off with
  | some (k, r), _, _ =>
    if r < 0x10 then (if r % 4 = 0 then s.ringBaseWrite k off v else s)
    else if r = 0x10 then s.ringCfgWrite k v
    else s.writeFields off v met
  | _, some (n, r), _ => if r < 0x0C then (s.writeFields off v met).bulkAim n else s.writeFields off v met
  | _, _, some (vec, r) =>
    let s := s.writeFields off v met
    let pba : Field := ⟨0x1F8000 + 4 * (vec / 32), vec % 32, 1⟩
    if r = 0x0C ∧ !s.msixMasked vec ∧ s.flag pba then (s.setFld pba 0).sendMsix vec else s
  | _, _, _ => s.writeFields off v met

/-- SYS. -/
def State.sysWrite (s : State) (off v met : Nat) : State :=
  if flashReg off && !s.flashServed then s
  else if off = R.SYS_CTRL then s.sysCtrlWrite v
  else if off = R.SYS_PWR then s.powerRequest (v % 4)
  else if off = R.SYS_FLASH_CTRL then s.flashCtrlWrite v
  else s.writeFields off v met

/-- SCH, TCK and REEF. -/
def State.schWrite (s : State) (off v met : Nat) : State :=
  if off = R.SCH_SLOTCTRL then (if bitOf v 0 then s.clearCredit else s)
  else if R.SCH_FLOW_CFG 0 ≤ off ∧ off ≤ R.SCH_FLOW_CFG 31 ∧ off % 4 = 0 then s.flowCfgWrite off v
  else if off = R.TCK_CTRL then s.tckCtrlWrite v
  else if off = R.REEF_BUDGET ∨ off = R.REEF_ALARM then s.reefWrite off v met
  else s.writeFields off v met

/-- FLT, the Backstay and SHR. -/
def State.fltWrite (s : State) (off v met : Nat) : State :=
  if off = R.FLT_SRCCFG then s.srcCfgWrite v
  else if off = R.FLT_CTRL then s.fltCtrlWrite v
  else if off = R.FLT_INJECT then s.inject v
  else if R.FLT_STICKY 0 ≤ off ∧ off ≤ R.FLT_STICKY 9 ∧ off % 4 = 0 then s.stickyWrite ((off - R.FLT_STICKY 0) / 4) v
  else if off = R.BKS_CTRL then s.pselRestore v
  else if off = R.SHR_CTRL then s.shrCtrlWrite v
  else if off = R.SHR_ATT_CTRL then s.attStart v
  else if off = R.SHR_DBG_CTRL then s.dbgCtrlWrite v
  else s.writeFields off v met

/-- CNS, whose user page discards writes (R443). -/
def State.cnsRegWrite (s : State) (off v met : Nat) : State :=
  if userPage off then s
  else if off = R.CNS_GCTRL then s.cnsCtrlWrite v
  else if off = R.CNS_BWCFG then s.bwCfgWrite v
  else match instanceOf 0x700040 0x10 8 off with
    | some (k, r) => if r = 4 then s.cnsWrite k false v else if r = 8 then s.cnsWrite k true v else s.writeFields off v met
    | none => s.writeFields off v met

/-- MEM, DRM, LNK, TIM, CAL and PEM. -/
def State.peripheralWrite (s : State) (off v met : Nat) : State :=
  if off = R.MEM_ACMD then (s.writeFields off v met).poolCommand v
  else if off = R.DRM_ACMD then (s.writeFields off v met).deepCommand v
  else if off = R.LNK_ID then s.linkIdWrite v
  else if off = R.TIM_CFG then s.timCfgWrite v
  else if off = R.TIM_ADJ then s.timAdjWrite v
  else if off = R.TIM_CTRL then s.timCtrlWrite v
  else if off = R.CAL_RUN then s.calRunWrite v
  else match instanceOf 0x901000 0x100 8 off, instanceOf 0xA00000 0x1000 4 off, instanceOf 0xB01000 0x40 4 off,
      instanceOf 0xD00000 0x1000 4 off with
    | some (n, r), _, _, _ => if r = 8 then s.dramCtrlWrite n v else s.writeFields off v met
    | _, some (p, r), _, _ => if r = 0 then s.linkCfgWrite p v else if r = 0x20 then s.eyeWrite p v else s.writeFields off v met
    | _, _, some (n, r), _ => s.ttWrite n r off v met
    | _, _, _, some (q, r) => s.pemWrite q r off v met
    | _, _, _, _ => s.writeFields off v met

/-- SE_HFLAG: while a burst's start instant is still to come, its HF is the one held there (R42). -/
def State.seHflagWrite (s : State) (sg v : Nat) : State :=
  let s := s.writeFields (R.SE_HFLAG sg) v 0
  let e := s.engine sg
  if e.begun && e.start.any fun t => decide (toTick s.now < t) then
    s.setEngine sg { e with hfStart := s.flag (F.SE_HFLAG.HF sg) }
  else s

/-- SEQ and TMG. -/
def State.patternWrite (s : State) (off v met : Nat) : State :=
  if off = R.SEQ_UCODE_CTRL then s.ucodeCtrlWrite v
  else match instanceOf 0x1000000 0x4000 64 off, instanceOf 0x1400000 0x1000 256 off with
    | some (g, r), _ =>
      if r = 0x1C then s.seCtrlWrite g v
      else if r = 0x18 then s.seHflagWrite g v
      else if r = 0x408 then s.seTrapWrite g v
      else if 0x100 ≤ r ∧ r < 0x140 ∧ r % 4 = 0 then s.seGrWrite g ((r - 0x100) / 4) v
      else s.writeFields off v met
    | _, some (c, r) =>
      if 0x44 ≤ r ∧ r < 0x5C ∧ r % 4 = 0 then s.tsEdgeWrite c ((r - 0x44) / 4) v else s.writeFields off v met
    | _, _ => s.writeFields off v met

/-- CMP, RCT, SRC, ACQ, TDC and CPX. -/
def State.channelWrite (s : State) (off v met : Nat) : State :=
  match instanceOf 0x1820000 0x400 64 off, instanceOf 0x1840000 0x100 4 off, instanceOf 0x1E00000 0x100 32 off,
      instanceOf 0x2000000 0x1000 16 off, instanceOf 0x2400000 0x1000 16 off, instanceOf 0x2C00000 0x1000 8 off with
  | some (g, r), _, _, _, _, _ => if r = 8 then s.cmpCtrlWrite g v else s.writeFields off v met
  | _, some (st, r), _, _, _, _ => if r = 0x18 then s.logRdptrWrite st v else s.writeFields off v met
  | _, _, some (u, r), _, _, _ => if r = 0x38 then s.cvRdptrWrite u v else s.writeFields off v met
  | _, _, _, some (u, r), _, _ => if r = 0x18 then s.srcWrptrWrite u v else s.writeFields off v met
  | _, _, _, _, some (u, r), _ => if r = 0x100 then s.aqCtrlWrite u v else s.writeFields off v met
  | _, _, _, _, _, some (p, r) =>
    if 0x40 ≤ r ∧ r < 0xC0 ∧ r % 16 < 12 ∧ r % 4 = 0 then s.cbWrite p ((r - 0x40) / 16) (r % 16 / 4) v else s.writeFields off v met
  | _, _, _, _, _, _ => s.writeFields off v met

/-- A served write of a register, by its window (R14). -/
def State.writeServed (s : State) (off v met : Nat) : State :=
  if off < 0x100000 then s.sysWrite off v met
  else if off < 0x200000 then s.hifWrite off v met
  else if off < 0x500000 then s.schWrite off v met
  else if off < 0x700000 then s.fltWrite off v met
  else if off < 0x800000 then s.cnsRegWrite off v met
  else if off < 0xE00000 then s.peripheralWrite off v met
  else if off < 0x1000000 then s
  else if off < 0x1800000 then s.patternWrite off v met
  else s.channelWrite off v met

/-- A naturally aligned 32-bit BAR0 write: discarded where its offset is not served. -/
def State.regWrite (s : State) (off v met : Nat) : State := if s.serves off then s.writeServed off v met else s

/-! ## BAR2 and BAR4 -/

/-- Whether an access of n bytes is one that a port takes: whole dwords, up to a limit (R281). -/
def bulkSized (limit n : Nat) : Bool := n % 4 == 0 && n != 0 && decide (n ≤ limit)

/-- A BAR2 write of bytes to a port; lost names the pool words it loses to other writes. One of another size than R281 gives is not
performed (DESIGN CHOICE, log 111). -/
def State.bar2Write (s : State) (n : Nat) (bytes : List Byte) (lost : List Nat) : State :=
  if s.inUse && bulkSized 512 bytes.length then s.bulkWrite n bytes lost else s

/-- A BAR2 read of len bytes from a port: all ones where it is not served, or not performed. -/
def State.bar2Read (s : State) (n len : Nat) (bad : Bool) : State :=
  if s.inUse && bulkSized 4096 len then s.bulkRead n len bad
  else { s with readData := if s.answers then List.replicate (len / 4) 0xFFFFFFFF else [] }

/-- BAR4 doorbells. -/
def State.sqDoorbell (s : State) (k v : Nat) : State := if s.inUse then s.doorbellWrite k 0 v else s
def State.cqDoorbell (s : State) (k v : Nat) : State := if s.inUse then s.doorbellWrite k 4 v else s

end Sys2Proof.Machine
end

