-- ==== Sys2Proof/Machine/Clocking.lean ====
section
/-! DEFINITION. One time-clock edge: what the clock alone does (R276, R324, R349, R356, R362, R433, R434, R457). -/
namespace Sys2Proof.Machine

/-- Device time counts up by INCR, modulo its 96 bits, and a slew loses what it has gained (R349, R356). -/
def State.countTime (s : State) : State :=
  let gained := s.slewTerm
  { s with clk := s.clk + 1, now := ((s.now : Int) + s.incr).toNat % 2 ^ 96, clock := { s.clock with slew := s.clock.slew - gained } }

/-- The core clock stands still in P2 and P3 (R433, R457): the core cycles of this edge. -/
def State.countHalted (s : State) : State :=
  if 2 ≤ s.fld F.SYS_PWR.STATE then
    { s with boot := { s.boot with halted := s.boot.halted + ((s.clk + 1) * 8 / 5 - s.clk * 8 / 5) } }
  else s

/-- Each capture processor that runs counts once per core cycle, in either MODE (R434, Table — Events, 256–263). -/
def State.countRunning (s : State) : State :=
  let n := (s.clk + 1) * 8 / 5 - s.clk * 8 / 5
  (List.range 8).foldl (fun (s : State) p =>
    if s.fld (F.CPX_STAT.STATE p) = 1 then
      (List.range 8).foldl (fun (s : State) k => if s.cnsCounts k (256 + p) then s.cnsAdd k n else s) s
    else s) s

/-- One time-clock edge. In RESET the clocks do not run. -/
def State.tick (s : State) : State :=
  if s.bootState = 0 then s
  else
    let s := s.countRunning.countHalted.countTime
    let s := (List.range 4).foldl (fun (s : State) n => (s.ttCommit n 16).sendIdle n) s
    s.idleBoundaries.ringsCatchUp.tdcLapses.postCancels.microClock.wake

end Sys2Proof.Machine
end

