-- ==== Sys2Proof/Machine/Rows.lean ====
section
/-! DEFINITION. What the rows share: the answer of a command, and the small operations that only one row has. -/
namespace Sys2Proof.Machine

/-- A command answers its effect t on everything but the queue; what the part is, no command changes. -/
def State.answer (s t : State) : Host.Outcome State Fault Refusal := .next { t with pending := s.pending, part := s.part }

/-- The head of its resource's ready list, if it is the task of a slot with an opcode, passes through its dispatch (R276, R295). -/
def State.dispatchRow (s : State) (slot op : Nat) : State :=
  let d := (s.slot slot).desc
  let r := taskResource d
  if dOpcode d = op ∧ s.readyHead r = some slot then s.enterChecking r else s

/-- The boundary before an engine's next vector cycle, if the instruction in progress has the opcode and its lines run out there with
nothing else that ends it (R47, R49, R146). -/
def State.timeoutRow (s : State) (sg op : Nat) : State :=
  let t := s.advance sg
  match (t.engine sg).cur with
  | some c =>
    if t.eState sg = 2 ∧ t.issueDue sg ∧ !t.lineOpen sg ∧ iOp c.word = op ∧ t.timesOut sg (t.seCycle sg) c then t.atBoundary sg
    else s
  | none => s

/-- The fail writer moves the head of a quadrant's queue into its stream's staging, or loses it there (R133). -/
def State.stageHead (s : State) (q : Nat) : State :=
  match (s.quad q).queue with
  | [] => s
  | e :: t => (s.setQuad q { s.quad q with queue := t }).stageRecord e.stream e.record true

/-- One core cycle of the fail writer: one record of each quadrant, and the LOST records for which there is room again (R133). -/
def State.stageQuadrants (s : State) : State :=
  (List.range 4).foldl (fun (s : State) st => s.writeLost st) ((List.range 4).foldl (fun (s : State) q => s.stageHead q) s)

/-- A chunk is sealed 1 ms after its first record (R138). -/
def State.sealDue (s : State) (st : Nat) : State :=
  if (s.log st).chunkSince + 1000000 ≤ s.clk then s.sealChunk st else s

/-- A unit reads its next ring word, at most 205 ns before its first sample plays; behind an under-run it reads no further. -/
def State.ringReadAhead (s : State) (u : Nat) : State := if s.mayReadWord u 205 then s.srcReadWord u else s

/-- A read of a LO register; of any other offset it is not this row's. -/
def State.loRead (s : State) (off : Nat) : State := if captures off = [] then s else s.regRead off 0

end Sys2Proof.Machine
end

