-- ==== Sys2Proof/Machine/Access.lean ====
section
/-! DEFINITION. Register accesses: REGISTER_WRITE, MISALIGNED_REGISTER_ACCESS, RC_FIELD_READ, LO_READ_CAPTURE. -/
namespace Sys2Proof.Machine

/-- REGISTER_WRITE (R10–R12, R306): an aligned 32-bit write; met names the W1C bits that an event of the same core cycle sets. -/
def execRegisterWrite (off : Fin 67108864) (value met : Word) (s : State) : Host.Outcome State Fault Refusal :=
  s.answer (if off.val % 4 = 0 then s.regWrite off.val value.toNat met.toNat else s.misaligned off.val false)

/-- MISALIGNED_REGISTER_ACCESS (R9): any other access than an aligned 32-bit one. -/
def execMisalignedRegisterAccess (off : Fin 67108864) (isRead : Bool) (s : State) : Host.Outcome State Fault Refusal :=
  s.answer (s.misaligned off.val isRead)

/-- RC_FIELD_READ (R11–R13): an aligned 32-bit read; met names the RC fields that an event of the same core cycle has met. -/
def execRcFieldRead (off : Fin 67108864) (met : Word) (s : State) : Host.Outcome State Fault Refusal :=
  s.answer (if off.val % 4 = 0 then s.regRead off.val met.toNat else s.misaligned off.val true)

/-- LO_READ_CAPTURE (R350, R439): a read of a LO register. -/
def execLoReadCapture (off : Fin 67108864) (s : State) : Host.Outcome State Fault Refusal :=
  s.answer (s.loRead off.val)

end Sys2Proof.Machine
end

