-- ==== Sys2Proof/Machine/Acquisition.lean ====
section
/-! DEFINITION. Acquisition units. -/
namespace Sys2Proof.Machine

/-- CAPTURE_WORD (R180–R193, R198–R200): the place of a word in a sub-cycle of a vector cycle. -/
def execCaptureWord (u : Fin 16) (cycle : Nat) (sub : Fin 8) (s : State) : Host.Outcome State Fault Refusal :=
  s.answer (s.captureWord u.val cycle sub.val)

/-- ACQ_PREFILL_DONE (R187). -/
def execAcqPrefillDone (u : Fin 16) (s : State) : Host.Outcome State Fault Refusal :=
  s.answer (s.aqPrefillDone u.val)

/-- ACQ_RECORD_CLOSE (R190, R196, R197). -/
def execAcqRecordClose (u : Fin 16) (s : State) : Host.Outcome State Fault Refusal :=
  s.answer (s.aqRecordDone u.val)

/-- ACQ_REARM_END (R190). -/
def execAcqRearmEnd (u : Fin 16) (s : State) : Host.Outcome State Fault Refusal :=
  s.answer (s.aqRearmDone u.val)

/-- AQ_ARM (R188). -/
def execAqArm (u : Fin 16) (s : State) : Host.Outcome State Fault Refusal :=
  s.answer (s.regWrite (R.AQ_CTRL u.val) 1 0)

/-- AQ_FORCE (R188). -/
def execAqForce (u : Fin 16) (s : State) : Host.Outcome State Fault Refusal :=
  s.answer (s.regWrite (R.AQ_CTRL u.val) 2 0)

/-- AQ_STOP (R188). -/
def execAqStop (u : Fin 16) (s : State) : Host.Outcome State Fault Refusal :=
  s.answer (s.regWrite (R.AQ_CTRL u.val) 4 0)

/-- LOCATOR_TRANSITION (R195): the transition's phase step of 64 ticks, counted from device time 0. -/
def execLocatorTransition (u : Fin 16) (phase : Nat) (s : State) : Host.Outcome State Fault Refusal :=
  s.answer (s.locate u.val phase)

/-- CAPTURE_SPILL_DRAIN (R199): one word. -/
def execCaptureSpillDrain (u : Fin 16) (s : State) : Host.Outcome State Fault Refusal :=
  s.answer (s.spillDrain u.val)

end Sys2Proof.Machine
end

