-- ==== Sys2Proof/Machine/BootFlash.lean ====
section
/-! DEFINITION. The boot flash. -/
namespace Sys2Proof.Machine

/-- FLASH_READ (R452): GO with OP READ. -/
def execFlashRead (len : Fin 512) (s : State) : Host.Outcome State Fault Refusal :=
  s.answer (s.regWrite R.SYS_FLASH_CTRL (2 ^ 31 + len.val) 0)

/-- FLASH_PROGRAM (R452): GO with OP PROGRAM. -/
def execFlashProgram (len : Fin 512) (s : State) : Host.Outcome State Fault Refusal :=
  s.answer (s.regWrite R.SYS_FLASH_CTRL (2 ^ 31 + 2 ^ 24 + len.val) 0)

/-- FLASH_ERASE (R452): GO with OP ERASE. -/
def execFlashErase (len : Fin 512) (s : State) : Host.Outcome State Fault Refusal :=
  s.answer (s.regWrite R.SYS_FLASH_CTRL (2 ^ 31 + 2 * 2 ^ 24 + len.val) 0)

/-- FLASH_OP_DONE (R452). -/
def execFlashOpDone (error : Bool) (s : State) : Host.Outcome State Fault Refusal :=
  s.answer (s.flashDone error)

end Sys2Proof.Machine
end

