-- ==== Sys2Proof/Machine/Bulk.lean ====
section
/-! DEFINITION. The bulk data ports. -/
namespace Sys2Proof.Machine

/-- BULK_PORT_WRITE (R281–R283). -/
def execBulkPortWrite (n : Fin 16) (data : PortBytes) (s : State) : Host.Outcome State Fault Refusal :=
  s.answer (s.bar2Write n.val data.bytes (data.lost.map Fin.val))

/-- BULK_PORT_READ (R281–R283). -/
def execBulkPortRead (n : Fin 16) (part : DeepPart) (s : State) : Host.Outcome State Fault Refusal :=
  s.answer (s.bar2Read n.val part.n part.bad)

end Sys2Proof.Machine
end

