-- ==== Sys2Proof/Machine/Calibrate.lean ====
section
/-! DEFINITION. Calibration runs. -/
namespace Sys2Proof.Machine

/-- CAL_RUN_START (R374). -/
def execCalRunStart (banks : Fin 65536) (s : State) : Host.Outcome State Fault Refusal :=
  s.answer (s.regWrite R.CAL_RUN (2 ^ 31 + banks.val) 0)

/-- CAL_RUN_ABORT (R374). -/
def execCalRunAbort (banks : Fin 65536) (s : State) : Host.Outcome State Fault Refusal :=
  s.answer (s.regWrite R.CAL_RUN (2 ^ 30 + banks.val) 0)

/-- CAL_BANK_COMPLETE (R375–R379): what the bank's measurement found, and whether the keeping store takes the write that ends the
run. -/
def execCalBankComplete (b : Fin 16) (r : BankReadings) (stored : Bool) (s : State) : Host.Outcome State Fault Refusal :=
  s.answer (s.calBankDone b.val r stored)

end Sys2Proof.Machine
end

