-- ==== Sys2Proof/Machine/Collector.lean ====
section
/-! DEFINITION. The fault collector. -/
namespace Sys2Proof.Machine

/-- FAULT_REGISTER (R381, R382, R388–R390). -/
def execFaultRegister (s : State) : Host.Outcome State Fault Refusal :=
  s.answer (s.faultRegister)

/-- FAULT_REACTION (R383–R386, R391, R393). -/
def execFaultReaction (s : State) : Host.Outcome State Fault Refusal :=
  s.answer (s.faultReaction)

/-- BLOCK_RESET_DONE (R385, R392). -/
def execBlockResetDone (src : Fin 272) (ended : ResetEnd) (s : State) : Host.Outcome State Fault Refusal :=
  s.answer (s.blockResetDone src.val ended.passed ended.masterError)

/-- FAULT_UNFENCE (R387). -/
def execFaultUnfence (s : State) : Host.Outcome State Fault Refusal :=
  s.answer (s.regWrite R.FLT_CTRL 4 0)

/-- SELF_CHECK_DONE (R387). -/
def execSelfCheckDone (src : Fin 272) (passed : Bool) (s : State) : Host.Outcome State Fault Refusal :=
  s.answer (s.selfCheckDone src.val passed)

/-- FAULT_CLEAR_FIRST (R389). -/
def execFaultClearFirst (s : State) : Host.Outcome State Fault Refusal :=
  s.answer (s.regWrite R.FLT_CTRL 2 0)

/-- FAULT_OUT_RELEASE (R386). -/
def execFaultOutRelease (s : State) : Host.Outcome State Fault Refusal :=
  s.answer (s.regWrite R.FLT_CTRL 1 0)

/-- FAULT_INJECT (R382). -/
def execFaultInject (src : Fin 1024) (kind : Fin 64) (s : State) : Host.Outcome State Fault Refusal :=
  s.answer (s.regWrite R.FLT_INJECT (kind.val * 2 ^ 10 + src.val) 0)

/-- STICKY_CLEAR (R388). -/
def execStickyClear (src : Fin 320) (s : State) : Host.Outcome State Fault Refusal :=
  s.answer (s.regWrite (R.FLT_STICKY (src.val / 32)) (2 ^ (src.val % 32)) 0)

end Sys2Proof.Machine
end

