-- ==== Sys2Proof/Machine/Companions.lean ====
section
/-! DEFINITION. PE companions on I3C. -/
namespace Sys2Proof.Machine

/-- I3C_DAA (R343): the devices that answer ENTDAA, each with PID, BCR and DCR. -/
def execI3cDaa (q : Fin 4) (devices : List (Nat × Nat × Nat)) (s : State) : Host.Outcome State Fault Refusal :=
  s.answer (s.daa q.val devices)

/-- I3C_HOT_JOIN (R346). -/
def execI3cHotJoin (q : Fin 4) (pid bcr dcr : Nat) (s : State) : Host.Outcome State Fault Refusal :=
  s.answer (s.hotJoin q.val pid bcr dcr)

/-- I3C_POLL (R345): bit k: slot k acknowledges. -/
def execI3cPoll (q : Fin 4) (acks : Nat) (s : State) : Host.Outcome State Fault Refusal :=
  s.answer (s.poll q.val acks)

/-- COMPANION_RELEASE (R346). -/
def execCompanionRelease (q : Fin 4) (k : Fin 15) (s : State) : Host.Outcome State Fault Refusal :=
  s.answer (s.regWrite (R.PEM_Q_SLOT_CTRL q.val k.val) 1 0)

/-- I3C_IBI (R347). -/
def execI3cIbi (q : Fin 4) (da : Fin 128) (mdb : Fin 256) (s : State) : Host.Outcome State Fault Refusal :=
  s.answer (s.ibi q.val da.val mdb.val)

/-- I3C_PRIVATE_TRANSFER (R347). -/
def execI3cPrivateTransfer (q : Fin 4) (da : Fin 128) (reads : Bool) (len : Fin 64) (s : State) : Host.Outcome State Fault Refusal :=
  s.answer (s.regWrite (R.PEM_Q_XCTL q.val) (2 ^ 31 + b2n reads * 2 ^ 24 + len.val * 2 ^ 16 + da.val) 0)

/-- I3C_TRANSFER_DONE (R347). -/
def execI3cTransferDone (q : Fin 4) (nack : Bool) (bytes : List Byte) (s : State) : Host.Outcome State Fault Refusal :=
  s.answer (s.xferDone q.val nack bytes)

end Sys2Proof.Machine
end

