-- ==== Sys2Proof/Machine/Counters.lean ====
section
/-! DEFINITION. Crow's Nest. -/
namespace Sys2Proof.Machine

/-- CNS_COUNTER_WRAP (R435, R440): n events that carry a counter past 2^48 - 1. -/
def execCnsCounterWrap (k : Fin 8) (n : Nat) (s : State) : Host.Outcome State Fault Refusal :=
  s.answer (s.cnsWrap k.val n)

/-- CNS_CLEAR_ALL (R435): the write gives RUN a value too. -/
def execCnsClearAll (run : Bool) (s : State) : Host.Outcome State Fault Refusal :=
  s.answer (s.regWrite R.CNS_GCTRL (2 + b2n run) 0)

/-- CNS_COUNTER_WRITE (R435, R438). -/
def execCnsCounterWrite (k : Fin 8) (hi : Bool) (value : Word) (s : State) : Host.Outcome State Fault Refusal :=
  s.answer (s.regWrite (if hi then R.CNS_CTR_HI k.val else R.CNS_CTR_LO k.val) value.toNat 0)

/-- CNS_COUNTER_CHECK_ERROR (R438). -/
def execCnsCounterCheckError (k : Fin 8) (s : State) : Host.Outcome State Fault Refusal :=
  s.answer (s.cnsCheckError k.val)

/-- CNS_BW_WINDOW_END (R442). -/
def execCnsBwWindowEnd (s : State) : Host.Outcome State Fault Refusal :=
  s.answer (s.bwWindowEnd)

end Sys2Proof.Machine
end

