-- ==== Sys2Proof/Machine/Intervals.lean ====
section
/-! DEFINITION. Time-interval units. -/
namespace Sys2Proof.Machine

/-- TDC_INPUT_EDGE (R202, R206, R209): phase step of 64 ticks, ring count to the next step, direction. -/
def execTdcInputEdge (u : Fin 64) (onB : Bool) (phase rings : Nat) (rising : Bool) (s : State) : Host.Outcome State Fault Refusal :=
  s.answer (s.tdcEdge u.val onB (s.tdcArrival u.val onB phase rings rising))

/-- TDC_MINW_DECISION (R207). -/
def execTdcMinwDecision (u : Fin 64) (onB : Bool) (s : State) : Host.Outcome State Fault Refusal :=
  s.answer (s.widthDecision u.val onB)

/-- TDC_CONVERSION_DONE (R203, R204, R210–R212). -/
def execTdcConversionDone (u : Fin 64) (s : State) : Host.Outcome State Fault Refusal :=
  s.answer (s.conversionDone u.val)

/-- TDC_RING_UPDATE (R205): the ring periods measured, in 2^-24 ns. -/
def execTdcRingUpdate (u : Fin 64) (slow fast : Word) (s : State) : Host.Outcome State Fault Refusal :=
  s.answer (s.ringUpdate u.val slow.toNat fast.toNat)

/-- TDC_STUCK_TIMEOUT (R208). -/
def execTdcStuckTimeout (u : Fin 64) (onB : Bool) (s : State) : Host.Outcome State Fault Refusal :=
  s.answer (s.stuckTimeout u.val onB)

/-- TDC_GATE_END (R210). -/
def execTdcGateEnd (u : Fin 64) (s : State) : Host.Outcome State Fault Refusal :=
  s.answer (if s.gateDue u.val then s.gateEnd u.val else s)

/-- TDC_SET_ARM (R214). -/
def execTdcSetArm (u : Fin 64) (s : State) : Host.Outcome State Fault Refusal :=
  s.answer (s.tdcArmDue u.val)

/-- TDC_SET_TIMEOUT (R214, R215). -/
def execTdcSetTimeout (u : Fin 64) (s : State) : Host.Outcome State Fault Refusal :=
  s.answer (s.tdcTimeout u.val)

end Sys2Proof.Machine
end

