-- ==== Sys2Proof/Machine/Judging.lean ====
section
/-! DEFINITION. Edge-time staging, compare and the fail log. -/
namespace Sys2Proof.Machine

/-- TS_EDGE_WRITE (R103). -/
def execTsEdgeWrite (c : Fin 256) (e : Fin 6) (value : Word) (s : State) : Host.Outcome State Fault Refusal :=
  s.answer (s.regWrite (R.TS_EDGE c.val e.val) value.toNat 0)

/-- STROBE_JUDGEMENT (R115–R126): the channel's placed strobe or window that comes next, with the samples CML + 2 CMH at its
instant (for a window, at its start and end, and another value seen between, if one was). -/
def execStrobeJudgement (c : Fin 256) (before after : Fin 4) (between : Option (Fin 4)) (s : State) : Host.Outcome State Fault Refusal :=
  s.answer (s.judge c.val before.val after.val (between.map Fin.val))

/-- CMP_CLEAR (R127). -/
def execCmpClear (sg : Fin 64) (s : State) : Host.Outcome State Fault Refusal :=
  s.answer (s.regWrite (R.CMP_SGCTRL sg.val) 1 0)

/-- FAIL_RECORD_STAGE (R133). -/
def execFailRecordStage (s : State) : Host.Outcome State Fault Refusal :=
  s.answer (s.stageQuadrants)

/-- FAIL_LOG_DRAIN (R133, R135): one record. -/
def execFailLogDrain (st : Fin 4) (s : State) : Host.Outcome State Fault Refusal :=
  s.answer (s.drainNext st.val)

/-- CHUNK_SEAL_TIMEOUT (R138). -/
def execChunkSealTimeout (st : Fin 4) (s : State) : Host.Outcome State Fault Refusal :=
  s.answer (s.sealDue st.val)

/-- CMP_LOG_RDPTR_WRITE (R134). -/
def execCmpLogRdptrWrite (st : Fin 4) (value : Word) (s : State) : Host.Outcome State Fault Refusal :=
  s.answer (s.regWrite (R.CMP_LOG_RDPTR st.val) value.toNat 0)

end Sys2Proof.Machine
end

