-- ==== Sys2Proof/Machine/LinkRows.lean ====
section
/-! DEFINITION. Alapel links. -/
namespace Sys2Proof.Machine

/-- TRAINING_SEQUENCE_RX (R328, R329): skew between the lanes in UI. -/
def execTrainingSequenceRx (p : Fin 4) (lane : Fin 4) (t : Training) (valid : Bool) (skew : Nat) (s : State) : Host.Outcome State Fault Refusal :=
  s.answer (s.trainingRx p.val lane.val t valid skew)

/-- LINK_TRAIN_TIMEOUT (R329). -/
def execLinkTrainTimeout (p : Fin 4) (s : State) : Host.Outcome State Fault Refusal :=
  s.answer (s.trainTimeout p.val)

/-- TUNE_PRESET_STEP (R330): the eye height of each lane. -/
def execTunePresetStep (p : Fin 4) (eyes : List Nat) (s : State) : Host.Outcome State Fault Refusal :=
  s.answer (s.tuneStep p.val eyes)

/-- LINK_FAILURE (R331). -/
def execLinkFailure (p : Fin 4) (loss : LinkLoss) (s : State) : Host.Outcome State Fault Refusal :=
  s.answer (s.linkLoss p.val loss)

/-- LINK_RETRAIN (R331): a write of LNK_Pp_CFG with RETRAIN = 1; value gives its other fields. -/
def execLinkRetrain (p : Fin 4) (value : Word) (s : State) : Host.Outcome State Fault Refusal :=
  s.answer (s.regWrite (R.LNK_P_CFG p.val) (value.toNat ||| 2 ^ 29) 0)

/-- FRAME_TX (R327, R350, R353): phase of its SOF in ticks. -/
def execFrameTx (p : Fin 4) (phase : Fin 8192) (s : State) : Host.Outcome State Fault Refusal :=
  s.answer (s.frameTx p.val phase.val)

/-- DISCOVER_TIMER (R333). -/
def execDiscoverTimer (p : Fin 4) (s : State) : Host.Outcome State Fault Refusal :=
  s.answer (s.discoverTimer p.val)

/-- DISCOVER_RX (R326, R333, R334). -/
def execDiscoverRx (p : Fin 4) (a : Arrival) (s : State) : Host.Outcome State Fault Refusal :=
  s.answer (s.discoverRx p.val a)

/-- SYNC_FRAME_RX (R326, R336–R338). -/
def execSyncFrameRx (p : Fin 4) (a : Arrival) (s : State) : Host.Outcome State Fault Refusal :=
  s.answer (s.syncRx p.val a)

/-- SYNC_EVENT_DELIVERY (R336): the events whose RELEASE has come. -/
def execSyncEventDelivery (s : State) : Host.Outcome State Fault Refusal :=
  s.answer (s.deliverDue)

/-- LINK_FRAME_RX (R340). -/
def execLinkFrameRx (p : Fin 4) (a : Arrival) (s : State) : Host.Outcome State Fault Refusal :=
  s.answer (s.linkRx p.val a)

/-- LINK_CREDIT_TIMER (R340). -/
def execLinkCreditTimer (p : Fin 4) (s : State) : Host.Outcome State Fault Refusal :=
  s.answer (s.creditTimer p.val)

/-- FAIL_FRAME_TIMER (R339). -/
def execFailFrameTimer (p : Fin 4) (s : State) : Host.Outcome State Fault Refusal :=
  s.answer (s.failFrameTimer p.val)

/-- FAIL_FRAME_RX (R341). -/
def execFailFrameRx (p : Fin 4) (a : Arrival) (s : State) : Host.Outcome State Fault Refusal :=
  s.answer (s.failRx p.val a)

/-- EYE_SCAN_START (R332). -/
def execEyeScanStart (p : Fin 4) (lane : Fin 4) (dwell voff poff : Fin 64) (s : State) : Host.Outcome State Fault Refusal :=
  s.answer (s.regWrite (R.LNK_P_EYE_CTRL p.val) (2 ^ 31 + lane.val * 2 ^ 28 + dwell.val * 2 ^ 22 + voff.val * 2 ^ 8 + poff.val) 0)

/-- EYE_SCAN_DONE (R332). -/
def execEyeScanDone (p : Fin 4) (errs : Nat) (s : State) : Host.Outcome State Fault Refusal :=
  s.answer (s.eyeDone p.val errs)

/-- TRAINING_SEQUENCE_TX (R328–R330). -/
def execTrainingSequenceTx (p : Fin 4) (s : State) : Host.Outcome State Fault Refusal :=
  s.answer (s.trainingTx p.val)

end Sys2Proof.Machine
end

