-- ==== Sys2Proof/Machine/MemoryRows.lean ====
section
/-! DEFINITION. The pool, its background test, allocations and GDDR7. -/
namespace Sys2Proof.Machine

/-- POOL_ACCESS (R232–R237): one core cycle of a bank. -/
def execPoolAccess (bank : Fin 512) (arrivals : List PoolArrival) (ecc : EccResult) (s : State) : Host.Outcome State Fault Refusal :=
  s.answer (s.poolCycle bank.val arrivals ecc)

/-- POOL_STALL_PROMOTION (R236). -/
def execPoolStallPromotion (bank : Fin 512) (s : State) : Host.Outcome State Fault Refusal :=
  s.answer (s.poolPromote bank.val)

/-- BIST_REGION_TEST (R238–R240). -/
def execBistRegionTest (yields : Bool) (finds : RegionFinds) (s : State) : Host.Outcome State Fault Refusal :=
  s.answer (s.regionTest yields finds.failing finds.ecc)

/-- MEM_ALLOC_CREATE (R244). -/
def execMemAllocCreate (index : Fin 1024) (s : State) : Host.Outcome State Fault Refusal :=
  s.answer (s.regWrite R.MEM_ACMD (0x10000 + index.val) 0)

/-- MEM_ALLOC_FREE (R244). -/
def execMemAllocFree (index : Fin 1024) (s : State) : Host.Outcome State Fault Refusal :=
  s.answer (s.regWrite R.MEM_ACMD (0x20000 + index.val) 0)

/-- DEEP_ALLOC_CREATE (R244). -/
def execDeepAllocCreate (index : Fin 1024) (s : State) : Host.Outcome State Fault Refusal :=
  s.answer (s.regWrite R.DRM_ACMD (0x10000 + index.val) 0)

/-- DEEP_ALLOC_FREE (R244). -/
def execDeepAllocFree (index : Fin 1024) (s : State) : Host.Outcome State Fault Refusal :=
  s.answer (s.regWrite R.DRM_ACMD (0x20000 + index.val) 0)

/-- ALLOC_CMD_RESERVED (R244). -/
def execAllocCmdReserved (isDeep : Bool) (index : Fin 1024) (s : State) : Host.Outcome State Fault Refusal :=
  s.answer (s.regWrite (if isDeep then R.DRM_ACMD else R.MEM_ACMD) (0x30000 + index.val) 0)

/-- DRAM_WRITE_DRAIN (R249). -/
def execDramWriteDrain (drain : DramDrain) (s : State) : Host.Outcome State Fault Refusal :=
  s.answer (s.writeDrain drain.controller.val drain.failed)

/-- DRAM_TEMP_CHECK (R253): the device temperature in quarter degrees. -/
def execDramTempCheck (temp : Int) (s : State) : Host.Outcome State Fault Refusal :=
  s.answer (s.tempCheck temp)

/-- DRAM_RETRAIN (R253, R254): whether a working setting was found. -/
def execDramRetrain (n : Fin 8) (found : Bool) (temp : Int) (s : State) : Host.Outcome State Fault Refusal :=
  s.answer (s.dramRetrain n.val found temp)

/-- DRAM_CTRL_FENCE (R255, R256). -/
def execDramCtrlFence (n : Fin 8) (s : State) : Host.Outcome State Fault Refusal :=
  s.answer (s.regWrite (R.DRM_DC_CTRL n.val) 2 0)

/-- DRAM_CTRL_RESET (R256). -/
def execDramCtrlReset (n : Fin 8) (s : State) : Host.Outcome State Fault Refusal :=
  s.answer (s.regWrite (R.DRM_DC_CTRL n.val) 1 0)

/-- DRAM_CTRL_RESET_DONE (R256). -/
def execDramCtrlResetDone (n : Fin 8) (trained : Bool) (temp : Int) (s : State) : Host.Outcome State Fault Refusal :=
  s.answer (s.dramResetDone n.val trained temp)

end Sys2Proof.Machine
end

