-- ==== Sys2Proof/Machine/Microcode.lean ====
section
/-! DEFINITION. Micro-traps, local stores, fused minimum SVNs. -/
namespace Sys2Proof.Machine

/-- SNAPSHOT_REQUEST (R77): a write of SE_TRAPREQ.SNAPSHOT. -/
def execSnapshotRequest (sg : Fin 64) (s : State) : Host.Outcome State Fault Refusal :=
  s.answer (s.regWrite (R.SE_TRAPREQ sg.val) 1 0)

/-- HKREQ_TRAP_REQUEST (R77). -/
def execHkreqTrapRequest (sg : Fin 64) (s : State) : Host.Outcome State Fault Refusal :=
  s.answer (s.requestTrap sg.val 2)

/-- MICRO_TRAP_ENTRY (R78–R83). -/
def execMicroTrapEntry (sg : Fin 64) (s : State) : Host.Outcome State Fault Refusal :=
  s.answer (s.trapEntry sg.val)

/-- MICRO_TRAP_RESUME (R82): upset names a bit of the save area that has changed since entry, if one has. -/
def execMicroTrapResume (sg : Fin 64) (upset : Option (Fin 512)) (s : State) : Host.Outcome State Fault Refusal :=
  s.answer (s.trapResume sg.val (upset.map Fin.val))

/-- TRAP_DEFERRAL_LIMIT (R81). -/
def execTrapDeferralLimit (sg : Fin 64) (s : State) : Host.Outcome State Fault Refusal :=
  s.answer (s.trapLimit sg.val)

/-- LOCAL_STORE_CHECK_ERROR (R72, R84). -/
def execLocalStoreCheckError (sg : Fin 64) (addr : Fin 2048) (correctable : Bool) (s : State) : Host.Outcome State Fault Refusal :=
  s.answer (s.storeError sg.val addr.val correctable)

/-- UCODE_COMMIT_SVN (R89). -/
def execUcodeCommitSvn (s : State) : Host.Outcome State Fault Refusal :=
  s.answer (s.regWrite R.SEQ_UCODE_CTRL 1 0)

/-- FUSE_WRITE_DONE (R89, R408). -/
def execFuseWriteDone (firmware : Bool) (s : State) : Host.Outcome State Fault Refusal :=
  s.answer (s.fuseDone firmware)

end Sys2Proof.Machine
end

