-- ==== Sys2Proof/Machine/Pairs.lean ====
section
/-! DEFINITION. Backstay pairs. -/
namespace Sys2Proof.Machine

/-- PAIR_ARM_RX (R398, R399). -/
def execPairArmRx (p : Fin 4) (a : Arrival) (s : State) : Host.Outcome State Fault Refusal :=
  s.answer (s.armRx p.val a)

/-- BACKSTAY_MATCH_DEADLINE (R399). -/
def execBackstayMatchDeadline (sg : Fin 64) (s : State) : Host.Outcome State Fault Refusal :=
  s.answer (s.matchDeadline sg.val)

/-- DIGEST_SEND (R400). -/
def execDigestSend (sg : Fin 64) (s : State) : Host.Outcome State Fault Refusal :=
  s.answer (s.digestSend sg.val)

/-- PAIR_DIGEST_RX (R401). -/
def execPairDigestRx (p : Fin 4) (a : Arrival) (s : State) : Host.Outcome State Fault Refusal :=
  s.answer (s.digestRx p.val a)

/-- PARTNER_LOST_TIMEOUT (R400). -/
def execPartnerLostTimeout (sg : Fin 64) (s : State) : Host.Outcome State Fault Refusal :=
  s.answer (s.partnerLost sg.val)

/-- PAIR_TAKEOVER_RX (R403). -/
def execPairTakeoverRx (p : Fin 4) (a : Arrival) (s : State) : Host.Outcome State Fault Refusal :=
  s.answer (s.takeoverRx p.val a)

/-- PSEL_RESTORE (R403). -/
def execPselRestore (banks : Fin 65536) (s : State) : Host.Outcome State Fault Refusal :=
  s.answer (s.regWrite R.BKS_CTRL banks.val 0)

end Sys2Proof.Machine
end

