-- ==== Sys2Proof/Machine/Pattern.lean ====
section
/-! DEFINITION. The sequence engines: bursts, vector cycles, instructions, deep streams. -/
namespace Sys2Proof.Machine

/-- BURST_START (R60, R127). -/
def execBurstStart (sg : Fin 64) (s : State) : Host.Outcome State Fault Refusal :=
  s.answer (s.burstStart sg.val)

/-- VECTOR_CYCLE_ISSUE (R39, R61, R93, R108, R109). -/
def execVectorCycleIssue (sg : Fin 64) (s : State) : Host.Outcome State Fault Refusal :=
  s.answer (s.vectorCycle sg.val)

/-- VEC (R39): the engine begins the instruction with its first line. -/
def execVec (sg : Fin 64) (s : State) : Host.Outcome State Fault Refusal :=
  s.answer (s.runInstr sg.val 0x01 none)

/-- RPT (R39): the engine begins the instruction with its first line. -/
def execRpt (sg : Fin 64) (s : State) : Host.Outcome State Fault Refusal :=
  s.answer (s.runInstr sg.val 0x02 none)

/-- JMP (R39): the engine begins the instruction with its first line. -/
def execJmp (sg : Fin 64) (s : State) : Host.Outcome State Fault Refusal :=
  s.answer (s.runInstr sg.val 0x03 none)

/-- JCF (R42): the engine begins the instruction with its first line. -/
def execJcf (sg : Fin 64) (s : State) : Host.Outcome State Fault Refusal :=
  s.answer (s.runInstr sg.val 0x04 none)

/-- LBEG (R44): the engine begins the instruction with its first line. -/
def execLbeg (sg : Fin 64) (s : State) : Host.Outcome State Fault Refusal :=
  s.answer (s.runInstr sg.val 0x05 none)

/-- LEND (R44): the engine begins the instruction with its first line. -/
def execLend (sg : Fin 64) (s : State) : Host.Outcome State Fault Refusal :=
  s.answer (s.runInstr sg.val 0x06 none)

/-- CALL (R45): the engine begins the instruction with its first line. -/
def execCall (sg : Fin 64) (s : State) : Host.Outcome State Fault Refusal :=
  s.answer (s.runInstr sg.val 0x07 none)

/-- RET (R45): the engine begins the instruction with its first line. -/
def execRet (sg : Fin 64) (s : State) : Host.Outcome State Fault Refusal :=
  s.answer (s.runInstr sg.val 0x08 none)

/-- MATCH (R46, R47): the engine begins the instruction with its first line. -/
def execMatchLoop (sg : Fin 64) (s : State) : Host.Outcome State Fault Refusal :=
  s.answer (s.runInstr sg.val 0x09 none)

/-- MATCH_TIMEOUT (R47). -/
def execMatchTimeout (sg : Fin 64) (s : State) : Host.Outcome State Fault Refusal :=
  s.answer (s.timeoutRow sg.val 0x09)

/-- REACT (R50): the engine begins the instruction with its first line. -/
def execReact (sg : Fin 64) (s : State) : Host.Outcome State Fault Refusal :=
  s.answer (s.runInstr sg.val 0x0A none)

/-- REACT_RULE_FIRE (R144–R148): the decisions that the samples taken so far allow, and the sub-cycles they govern. -/
def execReactRuleFire (sg : Fin 64) (s : State) : Host.Outcome State Fault Refusal :=
  s.answer (s.advance sg.val)

/-- REACT_WINDOW_END (R146). -/
def execReactWindowEnd (sg : Fin 64) (s : State) : Host.Outcome State Fault Refusal :=
  s.answer (s.timeoutRow sg.val 0x0A)

/-- TSET (R51): the engine begins the instruction with its first line. -/
def execTset (sg : Fin 64) (s : State) : Host.Outcome State Fault Refusal :=
  s.answer (s.runInstr sg.val 0x0B none)

/-- SRC START (R165): the engine begins the instruction with its first line. -/
def execSrcStart (sg : Fin 64) (s : State) : Host.Outcome State Fault Refusal :=
  s.answer (s.runInstr sg.val 0x0C (some 0))

/-- SRC STOP (R165): the engine begins the instruction with its first line. -/
def execSrcStop (sg : Fin 64) (s : State) : Host.Outcome State Fault Refusal :=
  s.answer (s.runInstr sg.val 0x0C (some 1))

/-- SRC JUMP (R165, R166): the engine begins the instruction with its first line. -/
def execSrcJump (sg : Fin 64) (s : State) : Host.Outcome State Fault Refusal :=
  s.answer (s.runInstr sg.val 0x0C (some 2))

/-- TRIG ARM (R52, R188): the engine begins the instruction with its first line. -/
def execTrigArm (sg : Fin 64) (s : State) : Host.Outcome State Fault Refusal :=
  s.answer (s.runInstr sg.val 0x0D (some 0))

/-- TRIG FORCE (R52, R188): the engine begins the instruction with its first line. -/
def execTrigForce (sg : Fin 64) (s : State) : Host.Outcome State Fault Refusal :=
  s.answer (s.runInstr sg.val 0x0D (some 1))

/-- TRIG STOP (R52, R188): the engine begins the instruction with its first line. -/
def execTrigStop (sg : Fin 64) (s : State) : Host.Outcome State Fault Refusal :=
  s.answer (s.runInstr sg.val 0x0D (some 2))

/-- SYNC SEND (R48, R335): the engine begins the instruction with its first line. -/
def execSyncSend (sg : Fin 64) (s : State) : Host.Outcome State Fault Refusal :=
  s.answer (s.runInstr sg.val 0x0E (some 0))

/-- SYNC WAIT (R49): the engine begins the instruction with its first line. -/
def execSyncWait (sg : Fin 64) (s : State) : Host.Outcome State Fault Refusal :=
  s.answer (s.runInstr sg.val 0x0E (some 1))

/-- SYNC_WAIT_TIMEOUT (R49). -/
def execSyncWaitTimeout (sg : Fin 64) (s : State) : Host.Outcome State Fault Refusal :=
  s.answer (s.timeoutRow sg.val 0x0E)

/-- STREAM OPEN (R53): the engine begins the instruction with its first line. -/
def execStreamOpen (sg : Fin 64) (s : State) : Host.Outcome State Fault Refusal :=
  s.answer (s.runInstr sg.val 0x0F (some 0))

/-- STREAM CLOSE (R53): the engine begins the instruction with its first line. -/
def execStreamClose (sg : Fin 64) (s : State) : Host.Outcome State Fault Refusal :=
  s.answer (s.runInstr sg.val 0x0F (some 1))

/-- SETG (R39): the engine begins the instruction with its first line. -/
def execSetg (sg : Fin 64) (s : State) : Host.Outcome State Fault Refusal :=
  s.answer (s.runInstr sg.val 0x10 none)

/-- CLF (R54): the engine begins the instruction with its first line. -/
def execClf (sg : Fin 64) (s : State) : Host.Outcome State Fault Refusal :=
  s.answer (s.runInstr sg.val 0x11 none)

/-- HALT (R60): the engine begins the instruction with its first line. -/
def execHalt (sg : Fin 64) (s : State) : Host.Outcome State Fault Refusal :=
  s.answer (s.runInstr sg.val 0x12 none)

/-- ENGINE_ABORT (R62): a write of SE_CTRL.ABORT. -/
def execEngineAbort (sg : Fin 64) (s : State) : Host.Outcome State Fault Refusal :=
  s.answer (s.regWrite (R.SE_CTRL sg.val) 1 0)

/-- BURST_COMPLETE (R60, R63, R136). -/
def execBurstComplete (sg : Fin 64) (s : State) : Host.Outcome State Fault Refusal :=
  s.answer (s.burstComplete sg.val)

/-- SE_GR_WRITE (R65, R422). -/
def execSeGrWrite (sg : Fin 64) (g : Fin 16) (value : Word) (s : State) : Host.Outcome State Fault Refusal :=
  s.answer (s.regWrite (R.SE_GR sg.val g.val) value.toNat 0)

/-- DEEP_STREAM_BLOCK_FETCH (R53, R55–R58). -/
def execDeepStreamBlockFetch (read : DeepRead (Fin 64)) (s : State) : Host.Outcome State Fault Refusal :=
  s.answer (s.streamFetch read.who.val read.bad)

end Sys2Proof.Machine
end

