-- ==== Sys2Proof/Machine/PowerRows.lean ====
section
/-! DEFINITION. Power states and the PCI Express link. -/
namespace Sys2Proof.Machine

/-- POWER_STATE_REQUEST (R257, R457, R458). -/
def execPowerStateRequest (state : Fin 4) (s : State) : Host.Outcome State Fault Refusal :=
  s.answer (s.regWrite R.SYS_PWR state.val 0)

/-- POWER_STATE_EXIT_DONE (R457). -/
def execPowerStateExitDone (s : State) : Host.Outcome State Fault Refusal :=
  s.answer (s.exitDone)

/-- D3HOT_RETRY (R458). -/
def execD3hotRetry (s : State) : Host.Outcome State Fault Refusal :=
  s.answer (s.d3Retry)

/-- PCIE_POWER_STATE_CHANGE (R458). -/
def execPciePowerStateChange (d3hot : Bool) (s : State) : Host.Outcome State Fault Refusal :=
  s.answer (s.devicePower d3hot)

/-- PCIE_LINK_TRAINED (R261): RATE code and width. -/
def execPcieLinkTrained (rate : Fin 7) (width : Fin 9) (s : State) : Host.Outcome State Fault Refusal :=
  s.answer (s.linkTrained rate.val width.val)

end Sys2Proof.Machine
end

