-- ==== Sys2Proof/Machine/Processors.lean ====
section
/-! DEFINITION. Capture processors. -/
namespace Sys2Proof.Machine

/-- DSP_JOB_COMPLETE (R221, R222, R229). -/
def execDspJobComplete (slot : Fin 4096) (s : State) : Host.Outcome State Fault Refusal :=
  s.answer (s.dspComplete slot.val)

/-- CPX_CB_WRITE (R222): register 0 BASE, 1 LEN, 2 PTR of a circular buffer. -/
def execCpxCbWrite (p : Fin 8) (b : Fin 8) (which : Fin 3) (value : Word) (s : State) : Host.Outcome State Fault Refusal :=
  s.answer (s.regWrite (cbReg p.val b.val which.val) value.toNat 0)

end Sys2Proof.Machine
end

