-- ==== Sys2Proof/Machine/Queue.lean ====
section
/-! DEFINITION. Rings: fetch, errors, control, doorbells, coalescing. -/
namespace Sys2Proof.Machine

/-- DESCRIPTOR_FETCH (R268, R274). -/
def execDescriptorFetch (k : Fin 64) (s : State) : Host.Outcome State Fault Refusal :=
  s.answer (s.fetchRequest k.val)

/-- FETCH_ERROR (R270). -/
def execFetchError (k : Fin 64) (s : State) : Host.Outcome State Fault Refusal :=
  s.answer (s.fetchFails k.val)

/-- CQ_WRITE_ERROR (R270). -/
def execCqWriteError (k : Fin 64) (s : State) : Host.Outcome State Fault Refusal :=
  s.answer (s.cqWriteFails k.val)

/-- IRQ_COALESCE_TIMEOUT (R285). -/
def execIrqCoalesceTimeout (k : Fin 64) (s : State) : Host.Outcome State Fault Refusal :=
  s.answer (s.coalesceTimeout k.val)

/-- RING_ENABLE (R265): a write of HIF_RINGk_CFG with EN = 1. -/
def execRingEnable (k : Fin 64) (sqlog2 cqlog2 : Fin 32) (s : State) : Host.Outcome State Fault Refusal :=
  s.answer (s.regWrite (R.HIF_RING_CFG k.val) (2 ^ 31 + cqlog2.val * 2 ^ 8 + sqlog2.val) 0)

/-- RING_DISABLE (R265): a write of HIF_RINGk_CFG with EN = 0. -/
def execRingDisable (k : Fin 64) (sqlog2 cqlog2 : Fin 32) (s : State) : Host.Outcome State Fault Refusal :=
  s.answer (s.regWrite (R.HIF_RING_CFG k.val) (cqlog2.val * 2 ^ 8 + sqlog2.val) 0)

/-- SQ_TAIL_DOORBELL (R266, R267). -/
def execSqTailDoorbell (k : Fin 64) (value : Word) (s : State) : Host.Outcome State Fault Refusal :=
  s.answer (s.sqDoorbell k.val value.toNat)

/-- CQ_HEAD_DOORBELL (R266, R267). -/
def execCqHeadDoorbell (k : Fin 64) (value : Word) (s : State) : Host.Outcome State Fault Refusal :=
  s.answer (s.cqDoorbell k.val value.toNat)

end Sys2Proof.Machine
end

