-- ==== Sys2Proof/Machine/Restart.lean ====
section
/-! DEFINITION. Resets and TEST. -/
namespace Sys2Proof.Machine

/-- FUNCTION_RESET (R455, R456): 0 function level reset, 1 hot reset, 2 link down. -/
def execFunctionReset (kind : Fin 3) (s : State) : Host.Outcome State Fault Refusal :=
  s.answer (s.functionReset kind.val)

/-- POWER_ON_RESET (R446, R454): RESET_N goes low, or PWRGOOD rises. -/
def execPowerOnReset (pin : Bool) (s : State) : Host.Outcome State Fault Refusal :=
  s.answer (s.powerOn pin)

/-- PWRGOOD_FALL (R446, R469). -/
def execPwrgoodFall (s : State) : Host.Outcome State Fault Refusal :=
  s.answer (s.powerFall)

/-- RESET_RELEASE (R445). -/
def execResetRelease (s : State) : Host.Outcome State Fault Refusal :=
  s.answer (s.resetRelease)

/-- CHIP_RESET (R449, R454): a confirmed write of SYS_CTRL.CHIP; a CHIP reaction and a boot timeout come about in FAULT_REACTION
and BOOT_TIMEOUT. -/
def execChipReset (clratt : Bool) (s : State) : Host.Outcome State Fault Refusal :=
  s.answer (s.regWrite R.SYS_CTRL (0x5A3C0001 + b2n clratt * 8) 0)

/-- CATRAIN_REQUEST (R453). -/
def execCatrainRequest (s : State) : Host.Outcome State Fault Refusal :=
  s.answer (s.regWrite R.SYS_CTRL 0x5A3C0004 0)

/-- TEST_ENTRY (R458, R459). -/
def execTestEntry (s : State) : Host.Outcome State Fault Refusal :=
  s.answer (s.regWrite R.SYS_CTRL 2 0)

/-- TEST_DONE (R459): the engines that fail, by bit, and the pool words that fail. -/
def execTestDone (failed : Nat) (words : List Nat) (s : State) : Host.Outcome State Fault Refusal :=
  s.answer (s.testDone failed words)

end Sys2Proof.Machine
end

