-- ==== Sys2Proof/Machine/Scheduling.lean ====
section
/-! DEFINITION. The flow scheduler and Reef. -/
namespace Sys2Proof.Machine

/-- TASK_ENTER_CHECKING (R24, R289, R295). -/
def execTaskEnterChecking (r : Resource) (s : State) : Host.Outcome State Fault Refusal :=
  s.answer (s.enterChecking r)

/-- REEF_GRANT (R315, R316). -/
def execReefGrant (s : State) : Host.Outcome State Fault Refusal :=
  s.answer (s.reefGrant)

/-- REEF_QUEUE_TIMEOUT (R315). -/
def execReefQueueTimeout (slot : Fin 4096) (s : State) : Host.Outcome State Fault Refusal :=
  s.answer (s.reefTimeout slot.val)

/-- TASK_FINISH (R290, R291). -/
def execTaskFinish (slot : Fin 4096) (s : State) : Host.Outcome State Fault Refusal :=
  s.answer (s.taskFinish slot.val)

/-- CASCADE_CANCEL (R293). -/
def execCascadeCancel (s : State) : Host.Outcome State Fault Refusal :=
  s.answer (s.cascade)

/-- TASK_DEADLINE_EXPIRY (R301). -/
def execTaskDeadlineExpiry (slot : Fin 4096) (s : State) : Host.Outcome State Fault Refusal :=
  s.answer (s.deadlineExpiry slot.val)

/-- TASK_RELEASE (R278, R285, R296). -/
def execTaskRelease (flow : Fin 32) (s : State) : Host.Outcome State Fault Refusal :=
  s.answer (s.flowRelease flow.val)

/-- SLOT_CLEAR_CREDIT (R304). -/
def execSlotClearCredit (s : State) : Host.Outcome State Fault Refusal :=
  s.answer (s.regWrite R.SCH_SLOTCTRL 1 0)

end Sys2Proof.Machine
end

