-- ==== Sys2Proof/Machine/Security.lean ====
section
/-! DEFINITION. Shroud: SVN commits, attestation, lifecycle, debug, boundary scan. -/
namespace Sys2Proof.Machine

/-- FW_COMMIT_SVN (R408). -/
def execFwCommitSvn (s : State) : Host.Outcome State Fault Refusal :=
  s.answer (s.regWrite R.SHR_CTRL 1 0)

/-- ATTESTATION_START (R413). -/
def execAttestationStart (s : State) : Host.Outcome State Fault Refusal :=
  s.answer (s.regWrite R.SHR_ATT_CTRL (2 ^ 31) 0)

/-- ATTESTATION_DONE (R412, R414). -/
def execAttestationDone (s : State) : Host.Outcome State Fault Refusal :=
  s.answer (s.attDone)

/-- LIFECYCLE_DEPLOY (R425): the write carries CONFIRM. -/
def execLifecycleDeploy (s : State) : Host.Outcome State Fault Refusal :=
  s.answer (s.regWrite R.SHR_CTRL 0xA5C30002 0)

/-- LIFECYCLE_RETURN (R425): the write carries CONFIRM. -/
def execLifecycleReturn (s : State) : Host.Outcome State Fault Refusal :=
  s.answer (s.regWrite R.SHR_CTRL 0xA5C30004 0)

/-- DEBUG_OPEN (R427–R429). -/
def execDebugOpen (s : State) : Host.Outcome State Fault Refusal :=
  s.answer (s.regWrite R.SHR_DBG_CTRL (2 ^ 31) 0)

/-- DEBUG_ERASE_DONE (R429, R430). -/
def execDebugEraseDone (s : State) : Host.Outcome State Fault Refusal :=
  s.answer (s.eraseDone)

/-- DEBUG_CLOSE (R430). -/
def execDebugClose (s : State) : Host.Outcome State Fault Refusal :=
  s.answer (s.regWrite R.SHR_DBG_CTRL (2 ^ 30) 0)

/-- EXTEST_INSTRUCTION (R426): 0 BYPASS, 1 EXTEST, 2 EXTEST_PULSE, 3 EXTEST_TRAIN. -/
def execExtestInstruction (code : Fin 4) (s : State) : Host.Outcome State Fault Refusal :=
  s.answer (s.extest code.val)

/-- LIFECYCLE_PROVISION (R425): fused seed, helper data, certificate and FACTORY set copies by slot. -/
def execLifecycleProvision (seed : Nat) (helper certificate : List Byte) (sets : List (Fin 2 × List Byte)) (s : State) : Host.Outcome State Fault Refusal :=
  s.answer (s.provision seed helper certificate (sets.map fun x => (x.1.val, x.2)))

end Sys2Proof.Machine
end

