-- ==== Sys2Proof/Machine/Sensors.lean ====
section
/-! DEFINITION. THERM_N and the temperature sensors. -/
namespace Sys2Proof.Machine

/-- THERM_N_CHANGE (R318): the level that the other devices give THERM_N. -/
def execThermNChange (low : Bool) (s : State) : Host.Outcome State Fault Refusal :=
  s.answer (s.thermChange low)

/-- SENSOR_READ (R318, R371): the 16 sensors in quarter degrees. -/
def execSensorRead (temps : List Int) (s : State) : Host.Outcome State Fault Refusal :=
  s.answer (s.sensorRead temps)

end Sys2Proof.Machine
end

