-- ==== Sys2Proof/Machine/Sources.lean ====
section
/-! DEFINITION. Source units. -/
namespace Sys2Proof.Machine

/-- SRC_BOUNDARY (R163, R166). -/
def execSrcBoundary (u : Fin 16) (s : State) : Host.Outcome State Fault Refusal :=
  s.answer (s.srcPass u.val)

/-- SRC_RING_READ (R167, R169). -/
def execSrcRingRead (u : Fin 16) (s : State) : Host.Outcome State Fault Refusal :=
  s.answer (s.ringReadAhead u.val)

/-- SRC_RING_WRPTR_WRITE (R167). -/
def execSrcRingWrptrWrite (u : Fin 16) (value : Word) (s : State) : Host.Outcome State Fault Refusal :=
  s.answer (s.regWrite (R.SRC_RING_WRPTR u.val) value.toNat 0)

end Sys2Proof.Machine
end

