-- ==== Sys2Proof/Machine/Staging.lean ====
section
/-! DEFINITION. Tack commit and the stage banks. -/
namespace Sys2Proof.Machine

/-- TACK_COMMIT (R96, R137, R175, R311, R424). -/
def execTackCommit (slot : Fin 4096) (s : State) : Host.Outcome State Fault Refusal :=
  s.answer (s.tackCommit slot.val)

/-- BANK_A_CLEAR (R306): WBANK is written with the value it has. -/
def execBankAClear (s : State) : Host.Outcome State Fault Refusal :=
  s.answer (s.regWrite R.TCK_CTRL (2 ^ 8 + s.fld F.TCK_CTRL.WBANK) 0)

/-- BANK_B_CLEAR (R306): WBANK is written with the value it has. -/
def execBankBClear (s : State) : Host.Outcome State Fault Refusal :=
  s.answer (s.regWrite R.TCK_CTRL (2 ^ 9 + s.fld F.TCK_CTRL.WBANK) 0)

/-- WBANK_SELECT (R306). -/
def execWbankSelect (bank : Fin 2) (s : State) : Host.Outcome State Fault Refusal :=
  s.answer (s.regWrite R.TCK_CTRL bank.val 0)

end Sys2Proof.Machine
end

