-- ==== Sys2Proof/Machine/Start.lean ====
section
/-! DEFINITION. The boot states. -/
namespace Sys2Proof.Machine

/-- BOOT_ROM (R407–R411, R445, R448). -/
def execBootRom (s : State) : Host.Outcome State Fault Refusal :=
  s.answer (s.bootRom)

/-- BOOT_FIRMWARE (R445). -/
def execBootFirmware (s : State) : Host.Outcome State Fault Refusal :=
  s.answer (s.bootFirmware)

/-- BOOT_MICROCODE (R68, R69, R85–R88): whether the master store shows an uncorrectable error. -/
def execBootMicrocode (masterError : Bool) (s : State) : Host.Outcome State Fault Refusal :=
  s.answer (s.bootMicrocode masterError)

/-- BOOT_SELFTEST (R445, R450): the engines that fail, by bit, and the pool words that fail. -/
def execBootSelftest (failed : Nat) (words : List Nat) (s : State) : Host.Outcome State Fault Refusal :=
  s.answer (s.bootSelfTest failed words)

/-- BOOT_CALIBRATION (R445, R450). -/
def execBootCalibration (temps : List Int) (s : State) : Host.Outcome State Fault Refusal :=
  s.answer (s.bootCalibration temps)

/-- BOOT_MEMORY (R248, R252, R445, R450, R453): the data rate that the board record gives, the device temperature, what each
controller finds. -/
def execBootMemory (rate : Fin 64) (temp : Int) (found : List DramStart) (s : State) : Host.Outcome State Fault Refusal :=
  s.answer (s.bootMemory rate.val temp found)

/-- BOOT_LINKS (R445). -/
def execBootLinks (s : State) : Host.Outcome State Fault Refusal :=
  s.answer (s.bootLinks)

/-- BOOT_SERVICE (R448). -/
def execBootService (s : State) : Host.Outcome State Fault Refusal :=
  s.answer (s.bootService)

/-- BOOT_TIMEOUT (R445). -/
def execBootTimeout (s : State) : Host.Outcome State Fault Refusal :=
  s.answer (s.bootTimeout)

end Sys2Proof.Machine
end

