-- ==== Sys2Proof/Machine/Tasks.lean ====
section
/-! DEFINITION. The descriptor opcodes: the work of the tasks. -/
namespace Sys2Proof.Machine

/-- MOVE (R273, R276): n further bytes of the move in a slot. -/
def execMove (slot : Fin 4096) (part : DeepPart) (s : State) : Host.Outcome State Fault Refusal :=
  s.answer (s.moveStep slot.val part.n part.bad)

/-- TABLE_WRITE (R104, R276): n further bytes. -/
def execTableWrite (slot : Fin 4096) (n : Nat) (s : State) : Host.Outcome State Fault Refusal :=
  s.answer (s.tableStep slot.val n)

/-- LOAD (R418, R419). -/
def execLoad (read : DeepRead (Fin 4096)) (s : State) : Host.Outcome State Fault Refusal :=
  s.answer (s.loadStep read.who.val read.bad)

/-- UNLOAD (R276). -/
def execUnload (slot : Fin 4096) (s : State) : Host.Outcome State Fault Refusal :=
  s.answer (s.unloadStep slot.val)

/-- BURST (R24, R276): the burst at the head of its engine's ready list is checked and armed. -/
def execBurst (slot : Fin 4096) (s : State) : Host.Outcome State Fault Refusal :=
  s.answer (s.dispatchRow slot.val 0x05)

/-- CAPTURE (R186): the capture at the head of its unit's ready list is checked and opens the unit. -/
def execCapture (slot : Fin 4096) (s : State) : Host.Outcome State Fault Refusal :=
  s.answer (s.dispatchRow slot.val 0x06)

/-- MEASURE (R213): the set at the head of its unit's ready list is checked and opens the unit. -/
def execMeasure (slot : Fin 4096) (s : State) : Host.Outcome State Fault Refusal :=
  s.answer (s.dispatchRow slot.val 0x07)

/-- DSP (R223–R228): n further steps of the job in a slot. -/
def execDsp (slot : Fin 4096) (n : Nat) (s : State) : Host.Outcome State Fault Refusal :=
  s.answer (s.dspStep slot.val n)

/-- REFILL (R168): n further bytes. -/
def execRefill (slot : Fin 4096) (n : Nat) (s : State) : Host.Outcome State Fault Refusal :=
  s.answer (s.refillStep slot.val n)

/-- LOG_UPLOAD (R276): n further records or chunks. -/
def execLogUpload (slot : Fin 4096) (part : DeepPart) (s : State) : Host.Outcome State Fault Refusal :=
  s.answer (s.uploadStep slot.val part.n part.bad)

/-- TACK (R106, R309, R310): the checks of the TACK in CHECKING. -/
def execTack (slot : Fin 4096) (s : State) : Host.Outcome State Fault Refusal :=
  s.answer (s.tackRun slot.val)

/-- CANCEL (R276, R298): acts on the task in the target slot. -/
def execCancel (slot : Fin 4096) (s : State) : Host.Outcome State Fault Refusal :=
  s.answer (s.cancelActs slot.val)

/-- NOP (R295). -/
def execNop (slot : Fin 4096) (s : State) : Host.Outcome State Fault Refusal :=
  s.answer (s.nopDone slot.val)

end Sys2Proof.Machine
end

