-- ==== Sys2Proof/Machine/TimeRows.lean ====
section
/-! DEFINITION. Device time and time triggers. -/
namespace Sys2Proof.Machine

/-- ANNOUNCE_TIMER (R352). -/
def execAnnounceTimer (p : Fin 4) (s : State) : Host.Outcome State Fault Refusal :=
  s.answer (s.announceTimer p.val)

/-- TIME_REQUEST_TIMER (R352, R353). -/
def execTimeRequestTimer (p : Fin 4) (s : State) : Host.Outcome State Fault Refusal :=
  s.answer (s.requestTimer p.val)

/-- TIME_REQUEST_RX (R352): phase of the SOF in ticks. -/
def execTimeRequestRx (p : Fin 4) (a : Arrival) (phase : Fin 8192) (s : State) : Host.Outcome State Fault Refusal :=
  s.answer (s.requestRx p.val a phase.val)

/-- TIME_RESPONSE_RX (R354–R356). -/
def execTimeResponseRx (p : Fin 4) (a : Arrival) (phase : Fin 8192) (s : State) : Host.Outcome State Fault Refusal :=
  s.answer (s.responseRx p.val a phase.val)

/-- TIME_ANNOUNCE_RX (R358, R359). -/
def execTimeAnnounceRx (p : Fin 4) (a : Arrival) (s : State) : Host.Outcome State Fault Refusal :=
  s.answer (s.announceRx p.val a)

/-- ANNOUNCE_EXPIRY (R358, R361). -/
def execAnnounceExpiry (p : Fin 4) (s : State) : Host.Outcome State Fault Refusal :=
  s.answer (s.announceExpires p.val)

/-- TXQ_ENTRY_EXPIRY (R353). -/
def execTxqEntryExpiry (p : Fin 4) (s : State) : Host.Outcome State Fault Refusal :=
  s.answer (s.stampExpires p.val)

/-- TIME_STEP_APPLY (R357, R362). -/
def execTimeStepApply (s : State) : Host.Outcome State Fault Refusal :=
  s.answer (s.stepApply)

/-- SLEW_COMPLETE (R356). -/
def execSlewComplete (s : State) : Host.Outcome State Fault Refusal :=
  s.answer (s.slewDone)

/-- ADJ_EFFECTIVE (R359). -/
def execAdjEffective (s : State) : Host.Outcome State Fault Refusal :=
  s.answer (s.adjEffective)

/-- TIM_ADJ_WRITE (R359). -/
def execTimAdjWrite (value : Word) (s : State) : Host.Outcome State Fault Refusal :=
  s.answer (s.regWrite R.TIM_ADJ value.toNat 0)

/-- TIME_SET (R357). -/
def execTimeSet (s : State) : Host.Outcome State Fault Refusal :=
  s.answer (s.regWrite R.TIM_CTRL 1 0)

/-- TIME_ACCEPT (R356). -/
def execTimeAccept (s : State) : Host.Outcome State Fault Refusal :=
  s.answer (s.regWrite R.TIM_CTRL 2 0)

/-- TT_ENABLE (R362, R364). -/
def execTtEnable (n : Fin 4) (periodic outen pol : Bool) (width : Fin 65536) (s : State) : Host.Outcome State Fault Refusal :=
  s.answer (s.regWrite (R.TT_CFG n.val) (2 ^ 31 + b2n periodic * 2 ^ 30 + b2n outen * 2 ^ 29 + b2n pol * 2 ^ 28 + width.val) 0)

/-- TT_DISABLE (R364): a write of TT_CFG with EN = 0; value gives its other fields. -/
def execTtDisable (n : Fin 4) (value : Word) (s : State) : Host.Outcome State Fault Refusal :=
  s.answer (s.regWrite (R.TT_CFG n.val) (value.toNat % 2 ^ 31) 0)

/-- TT_FIRE (R362, R363). -/
def execTtFire (n : Fin 4) (s : State) : Host.Outcome State Fault Refusal :=
  s.answer (s.ttFire n.val)

/-- TTOUT_PULSE_END (R363). -/
def execTtoutPulseEnd (n : Fin 4) (s : State) : Host.Outcome State Fault Refusal :=
  s.answer (s.ttoutEnds n.val)

/-- TTIN_EDGE (R365): whether it meets a time-clock edge. -/
def execTtinEdge (k : Fin 2) (onEdge : Bool) (s : State) : Host.Outcome State Fault Refusal :=
  s.answer (s.ttinEdge k.val onEdge)

end Sys2Proof.Machine
end

