-- ==== Sys2Proof/Machine/Dispatch.lean ====
section
/-! DEFINITION. Each command has its meaning. -/
namespace Sys2Proof.Machine

/-- The effect of a command on everything but the queue. -/
def exec (i : Instr) (s : State) : Host.Outcome State Fault Refusal :=
  match i with
  | .registerWrite off value met => Sys2Proof.Machine.execRegisterWrite off value met s
  | .misalignedRegisterAccess off isRead => Sys2Proof.Machine.execMisalignedRegisterAccess off isRead s
  | .rcFieldRead off met => Sys2Proof.Machine.execRcFieldRead off met s
  | .descriptorFetch k => Sys2Proof.Machine.execDescriptorFetch k s
  | .fetchError k => Sys2Proof.Machine.execFetchError k s
  | .cqWriteError k => Sys2Proof.Machine.execCqWriteError k s
  | .move slot part => Sys2Proof.Machine.execMove slot part s
  | .tableWrite slot n => Sys2Proof.Machine.execTableWrite slot n s
  | .load read => Sys2Proof.Machine.execLoad read s
  | .unload slot => Sys2Proof.Machine.execUnload slot s
  | .burst slot => Sys2Proof.Machine.execBurst slot s
  | .capture slot => Sys2Proof.Machine.execCapture slot s
  | .measure slot => Sys2Proof.Machine.execMeasure slot s
  | .dsp slot n => Sys2Proof.Machine.execDsp slot n s
  | .refill slot n => Sys2Proof.Machine.execRefill slot n s
  | .logUpload slot part => Sys2Proof.Machine.execLogUpload slot part s
  | .tack slot => Sys2Proof.Machine.execTack slot s
  | .cancel slot => Sys2Proof.Machine.execCancel slot s
  | .nop slot => Sys2Proof.Machine.execNop slot s
  | .taskEnterChecking r => Sys2Proof.Machine.execTaskEnterChecking r s
  | .reefGrant => Sys2Proof.Machine.execReefGrant s
  | .reefQueueTimeout slot => Sys2Proof.Machine.execReefQueueTimeout slot s
  | .taskFinish slot => Sys2Proof.Machine.execTaskFinish slot s
  | .cascadeCancel => Sys2Proof.Machine.execCascadeCancel s
  | .taskDeadlineExpiry slot => Sys2Proof.Machine.execTaskDeadlineExpiry slot s
  | .taskRelease flow => Sys2Proof.Machine.execTaskRelease flow s
  | .irqCoalesceTimeout k => Sys2Proof.Machine.execIrqCoalesceTimeout k s
  | .slotClearCredit => Sys2Proof.Machine.execSlotClearCredit s
  | .ringEnable k sqlog2 cqlog2 => Sys2Proof.Machine.execRingEnable k sqlog2 cqlog2 s
  | .ringDisable k sqlog2 cqlog2 => Sys2Proof.Machine.execRingDisable k sqlog2 cqlog2 s
  | .sqTailDoorbell k value => Sys2Proof.Machine.execSqTailDoorbell k value s
  | .cqHeadDoorbell k value => Sys2Proof.Machine.execCqHeadDoorbell k value s
  | .bulkPortWrite n data => Sys2Proof.Machine.execBulkPortWrite n data s
  | .bulkPortRead n part => Sys2Proof.Machine.execBulkPortRead n part s
  | .functionReset kind => Sys2Proof.Machine.execFunctionReset kind s
  | .burstStart sg => Sys2Proof.Machine.execBurstStart sg s
  | .vectorCycleIssue sg => Sys2Proof.Machine.execVectorCycleIssue sg s
  | .vec sg => Sys2Proof.Machine.execVec sg s
  | .rpt sg => Sys2Proof.Machine.execRpt sg s
  | .jmp sg => Sys2Proof.Machine.execJmp sg s
  | .jcf sg => Sys2Proof.Machine.execJcf sg s
  | .lbeg sg => Sys2Proof.Machine.execLbeg sg s
  | .lend sg => Sys2Proof.Machine.execLend sg s
  | .call sg => Sys2Proof.Machine.execCall sg s
  | .ret sg => Sys2Proof.Machine.execRet sg s
  | .matchLoop sg => Sys2Proof.Machine.execMatchLoop sg s
  | .matchTimeout sg => Sys2Proof.Machine.execMatchTimeout sg s
  | .react sg => Sys2Proof.Machine.execReact sg s
  | .reactRuleFire sg => Sys2Proof.Machine.execReactRuleFire sg s
  | .reactWindowEnd sg => Sys2Proof.Machine.execReactWindowEnd sg s
  | .tset sg => Sys2Proof.Machine.execTset sg s
  | .srcStart sg => Sys2Proof.Machine.execSrcStart sg s
  | .srcStop sg => Sys2Proof.Machine.execSrcStop sg s
  | .srcJump sg => Sys2Proof.Machine.execSrcJump sg s
  | .trigArm sg => Sys2Proof.Machine.execTrigArm sg s
  | .trigForce sg => Sys2Proof.Machine.execTrigForce sg s
  | .trigStop sg => Sys2Proof.Machine.execTrigStop sg s
  | .syncSend sg => Sys2Proof.Machine.execSyncSend sg s
  | .syncWait sg => Sys2Proof.Machine.execSyncWait sg s
  | .syncWaitTimeout sg => Sys2Proof.Machine.execSyncWaitTimeout sg s
  | .streamOpen sg => Sys2Proof.Machine.execStreamOpen sg s
  | .streamClose sg => Sys2Proof.Machine.execStreamClose sg s
  | .setg sg => Sys2Proof.Machine.execSetg sg s
  | .clf sg => Sys2Proof.Machine.execClf sg s
  | .halt sg => Sys2Proof.Machine.execHalt sg s
  | .engineAbort sg => Sys2Proof.Machine.execEngineAbort sg s
  | .burstComplete sg => Sys2Proof.Machine.execBurstComplete sg s
  | .seGrWrite sg g value => Sys2Proof.Machine.execSeGrWrite sg g value s
  | .deepStreamBlockFetch read => Sys2Proof.Machine.execDeepStreamBlockFetch read s
  | .snapshotRequest sg => Sys2Proof.Machine.execSnapshotRequest sg s
  | .hkreqTrapRequest sg => Sys2Proof.Machine.execHkreqTrapRequest sg s
  | .microTrapEntry sg => Sys2Proof.Machine.execMicroTrapEntry sg s
  | .microTrapResume sg upset => Sys2Proof.Machine.execMicroTrapResume sg upset s
  | .trapDeferralLimit sg => Sys2Proof.Machine.execTrapDeferralLimit sg s
  | .localStoreCheckError sg addr correctable => Sys2Proof.Machine.execLocalStoreCheckError sg addr correctable s
  | .ucodeCommitSvn => Sys2Proof.Machine.execUcodeCommitSvn s
  | .fuseWriteDone firmware => Sys2Proof.Machine.execFuseWriteDone firmware s
  | .tsEdgeWrite c e value => Sys2Proof.Machine.execTsEdgeWrite c e value s
  | .strobeJudgement c before after between => Sys2Proof.Machine.execStrobeJudgement c before after between s
  | .cmpClear sg => Sys2Proof.Machine.execCmpClear sg s
  | .failRecordStage => Sys2Proof.Machine.execFailRecordStage s
  | .failLogDrain st => Sys2Proof.Machine.execFailLogDrain st s
  | .chunkSealTimeout st => Sys2Proof.Machine.execChunkSealTimeout st s
  | .cmpLogRdptrWrite st value => Sys2Proof.Machine.execCmpLogRdptrWrite st value s
  | .srcBoundary u => Sys2Proof.Machine.execSrcBoundary u s
  | .srcRingRead u => Sys2Proof.Machine.execSrcRingRead u s
  | .srcRingWrptrWrite u value => Sys2Proof.Machine.execSrcRingWrptrWrite u value s
  | .captureWord u cycle sub => Sys2Proof.Machine.execCaptureWord u cycle sub s
  | .acqPrefillDone u => Sys2Proof.Machine.execAcqPrefillDone u s
  | .acqRecordClose u => Sys2Proof.Machine.execAcqRecordClose u s
  | .acqRearmEnd u => Sys2Proof.Machine.execAcqRearmEnd u s
  | .aqArm u => Sys2Proof.Machine.execAqArm u s
  | .aqForce u => Sys2Proof.Machine.execAqForce u s
  | .aqStop u => Sys2Proof.Machine.execAqStop u s
  | .locatorTransition u phase => Sys2Proof.Machine.execLocatorTransition u phase s
  | .tdcInputEdge u onB phase rings rising => Sys2Proof.Machine.execTdcInputEdge u onB phase rings rising s
  | .tdcMinwDecision u onB => Sys2Proof.Machine.execTdcMinwDecision u onB s
  | .tdcConversionDone u => Sys2Proof.Machine.execTdcConversionDone u s
  | .tdcRingUpdate u slow fast => Sys2Proof.Machine.execTdcRingUpdate u slow fast s
  | .tdcStuckTimeout u onB => Sys2Proof.Machine.execTdcStuckTimeout u onB s
  | .tdcGateEnd u => Sys2Proof.Machine.execTdcGateEnd u s
  | .tdcSetArm u => Sys2Proof.Machine.execTdcSetArm u s
  | .tdcSetTimeout u => Sys2Proof.Machine.execTdcSetTimeout u s
  | .dspJobComplete slot => Sys2Proof.Machine.execDspJobComplete slot s
  | .cpxCbWrite p b which value => Sys2Proof.Machine.execCpxCbWrite p b which value s
  | .poolAccess bank arrivals ecc => Sys2Proof.Machine.execPoolAccess bank arrivals ecc s
  | .poolStallPromotion bank => Sys2Proof.Machine.execPoolStallPromotion bank s
  | .bistRegionTest yields finds => Sys2Proof.Machine.execBistRegionTest yields finds s
  | .memAllocCreate index => Sys2Proof.Machine.execMemAllocCreate index s
  | .memAllocFree index => Sys2Proof.Machine.execMemAllocFree index s
  | .deepAllocCreate index => Sys2Proof.Machine.execDeepAllocCreate index s
  | .deepAllocFree index => Sys2Proof.Machine.execDeepAllocFree index s
  | .allocCmdReserved isDeep index => Sys2Proof.Machine.execAllocCmdReserved isDeep index s
  | .dramWriteDrain drain => Sys2Proof.Machine.execDramWriteDrain drain s
  | .dramTempCheck temp => Sys2Proof.Machine.execDramTempCheck temp s
  | .dramRetrain n found temp => Sys2Proof.Machine.execDramRetrain n found temp s
  | .dramCtrlFence n => Sys2Proof.Machine.execDramCtrlFence n s
  | .dramCtrlReset n => Sys2Proof.Machine.execDramCtrlReset n s
  | .dramCtrlResetDone n trained temp => Sys2Proof.Machine.execDramCtrlResetDone n trained temp s
  | .tackCommit slot => Sys2Proof.Machine.execTackCommit slot s
  | .bankAClear => Sys2Proof.Machine.execBankAClear s
  | .bankBClear => Sys2Proof.Machine.execBankBClear s
  | .wbankSelect bank => Sys2Proof.Machine.execWbankSelect bank s
  | .thermNChange low => Sys2Proof.Machine.execThermNChange low s
  | .sensorRead temps => Sys2Proof.Machine.execSensorRead temps s
  | .trainingSequenceRx p lane t valid skew => Sys2Proof.Machine.execTrainingSequenceRx p lane t valid skew s
  | .linkTrainTimeout p => Sys2Proof.Machine.execLinkTrainTimeout p s
  | .tunePresetStep p eyes => Sys2Proof.Machine.execTunePresetStep p eyes s
  | .linkFailure p loss => Sys2Proof.Machine.execLinkFailure p loss s
  | .linkRetrain p value => Sys2Proof.Machine.execLinkRetrain p value s
  | .frameTx p phase => Sys2Proof.Machine.execFrameTx p phase s
  | .discoverTimer p => Sys2Proof.Machine.execDiscoverTimer p s
  | .discoverRx p a => Sys2Proof.Machine.execDiscoverRx p a s
  | .syncFrameRx p a => Sys2Proof.Machine.execSyncFrameRx p a s
  | .syncEventDelivery => Sys2Proof.Machine.execSyncEventDelivery s
  | .linkFrameRx p a => Sys2Proof.Machine.execLinkFrameRx p a s
  | .linkCreditTimer p => Sys2Proof.Machine.execLinkCreditTimer p s
  | .failFrameTimer p => Sys2Proof.Machine.execFailFrameTimer p s
  | .failFrameRx p a => Sys2Proof.Machine.execFailFrameRx p a s
  | .eyeScanStart p lane dwell voff poff => Sys2Proof.Machine.execEyeScanStart p lane dwell voff poff s
  | .eyeScanDone p errs => Sys2Proof.Machine.execEyeScanDone p errs s
  | .i3cDaa q devices => Sys2Proof.Machine.execI3cDaa q devices s
  | .i3cHotJoin q pid bcr dcr => Sys2Proof.Machine.execI3cHotJoin q pid bcr dcr s
  | .i3cPoll q acks => Sys2Proof.Machine.execI3cPoll q acks s
  | .companionRelease q k => Sys2Proof.Machine.execCompanionRelease q k s
  | .i3cIbi q da mdb => Sys2Proof.Machine.execI3cIbi q da mdb s
  | .i3cPrivateTransfer q da reads len => Sys2Proof.Machine.execI3cPrivateTransfer q da reads len s
  | .i3cTransferDone q nack bytes => Sys2Proof.Machine.execI3cTransferDone q nack bytes s
  | .announceTimer p => Sys2Proof.Machine.execAnnounceTimer p s
  | .timeRequestTimer p => Sys2Proof.Machine.execTimeRequestTimer p s
  | .timeRequestRx p a phase => Sys2Proof.Machine.execTimeRequestRx p a phase s
  | .timeResponseRx p a phase => Sys2Proof.Machine.execTimeResponseRx p a phase s
  | .timeAnnounceRx p a => Sys2Proof.Machine.execTimeAnnounceRx p a s
  | .announceExpiry p => Sys2Proof.Machine.execAnnounceExpiry p s
  | .txqEntryExpiry p => Sys2Proof.Machine.execTxqEntryExpiry p s
  | .timeStepApply => Sys2Proof.Machine.execTimeStepApply s
  | .slewComplete => Sys2Proof.Machine.execSlewComplete s
  | .adjEffective => Sys2Proof.Machine.execAdjEffective s
  | .timAdjWrite value => Sys2Proof.Machine.execTimAdjWrite value s
  | .timeSet => Sys2Proof.Machine.execTimeSet s
  | .timeAccept => Sys2Proof.Machine.execTimeAccept s
  | .ttEnable n periodic outen pol width => Sys2Proof.Machine.execTtEnable n periodic outen pol width s
  | .ttDisable n value => Sys2Proof.Machine.execTtDisable n value s
  | .ttFire n => Sys2Proof.Machine.execTtFire n s
  | .ttoutPulseEnd n => Sys2Proof.Machine.execTtoutPulseEnd n s
  | .ttinEdge k onEdge => Sys2Proof.Machine.execTtinEdge k onEdge s
  | .calRunStart banks => Sys2Proof.Machine.execCalRunStart banks s
  | .calRunAbort banks => Sys2Proof.Machine.execCalRunAbort banks s
  | .calBankComplete b r stored => Sys2Proof.Machine.execCalBankComplete b r stored s
  | .faultRegister => Sys2Proof.Machine.execFaultRegister s
  | .faultReaction => Sys2Proof.Machine.execFaultReaction s
  | .blockResetDone src ended => Sys2Proof.Machine.execBlockResetDone src ended s
  | .faultUnfence => Sys2Proof.Machine.execFaultUnfence s
  | .selfCheckDone src passed => Sys2Proof.Machine.execSelfCheckDone src passed s
  | .faultClearFirst => Sys2Proof.Machine.execFaultClearFirst s
  | .faultOutRelease => Sys2Proof.Machine.execFaultOutRelease s
  | .faultInject src kind => Sys2Proof.Machine.execFaultInject src kind s
  | .stickyClear src => Sys2Proof.Machine.execStickyClear src s
  | .pairArmRx p a => Sys2Proof.Machine.execPairArmRx p a s
  | .backstayMatchDeadline sg => Sys2Proof.Machine.execBackstayMatchDeadline sg s
  | .digestSend sg => Sys2Proof.Machine.execDigestSend sg s
  | .pairDigestRx p a => Sys2Proof.Machine.execPairDigestRx p a s
  | .partnerLostTimeout sg => Sys2Proof.Machine.execPartnerLostTimeout sg s
  | .pairTakeoverRx p a => Sys2Proof.Machine.execPairTakeoverRx p a s
  | .pselRestore banks => Sys2Proof.Machine.execPselRestore banks s
  | .bootRom => Sys2Proof.Machine.execBootRom s
  | .bootFirmware => Sys2Proof.Machine.execBootFirmware s
  | .bootMicrocode masterError => Sys2Proof.Machine.execBootMicrocode masterError s
  | .bootSelftest failed words => Sys2Proof.Machine.execBootSelftest failed words s
  | .bootCalibration temps => Sys2Proof.Machine.execBootCalibration temps s
  | .bootMemory rate temp found => Sys2Proof.Machine.execBootMemory rate temp found s
  | .bootLinks => Sys2Proof.Machine.execBootLinks s
  | .bootService => Sys2Proof.Machine.execBootService s
  | .bootTimeout => Sys2Proof.Machine.execBootTimeout s
  | .fwCommitSvn => Sys2Proof.Machine.execFwCommitSvn s
  | .attestationStart => Sys2Proof.Machine.execAttestationStart s
  | .attestationDone => Sys2Proof.Machine.execAttestationDone s
  | .lifecycleDeploy => Sys2Proof.Machine.execLifecycleDeploy s
  | .lifecycleReturn => Sys2Proof.Machine.execLifecycleReturn s
  | .debugOpen => Sys2Proof.Machine.execDebugOpen s
  | .debugEraseDone => Sys2Proof.Machine.execDebugEraseDone s
  | .debugClose => Sys2Proof.Machine.execDebugClose s
  | .extestInstruction code => Sys2Proof.Machine.execExtestInstruction code s
  | .cnsCounterWrap k n => Sys2Proof.Machine.execCnsCounterWrap k n s
  | .cnsClearAll run => Sys2Proof.Machine.execCnsClearAll run s
  | .cnsCounterWrite k hi value => Sys2Proof.Machine.execCnsCounterWrite k hi value s
  | .cnsCounterCheckError k => Sys2Proof.Machine.execCnsCounterCheckError k s
  | .cnsBwWindowEnd => Sys2Proof.Machine.execCnsBwWindowEnd s
  | .powerOnReset pin => Sys2Proof.Machine.execPowerOnReset pin s
  | .pwrgoodFall => Sys2Proof.Machine.execPwrgoodFall s
  | .resetRelease => Sys2Proof.Machine.execResetRelease s
  | .chipReset clratt => Sys2Proof.Machine.execChipReset clratt s
  | .catrainRequest => Sys2Proof.Machine.execCatrainRequest s
  | .testEntry => Sys2Proof.Machine.execTestEntry s
  | .testDone failed words => Sys2Proof.Machine.execTestDone failed words s
  | .powerStateRequest state => Sys2Proof.Machine.execPowerStateRequest state s
  | .powerStateExitDone => Sys2Proof.Machine.execPowerStateExitDone s
  | .d3hotRetry => Sys2Proof.Machine.execD3hotRetry s
  | .flashRead len => Sys2Proof.Machine.execFlashRead len s
  | .flashProgram len => Sys2Proof.Machine.execFlashProgram len s
  | .flashErase len => Sys2Proof.Machine.execFlashErase len s
  | .flashOpDone error => Sys2Proof.Machine.execFlashOpDone error s
  | .loReadCapture off => Sys2Proof.Machine.execLoReadCapture off s
  | .pciePowerStateChange d3hot => Sys2Proof.Machine.execPciePowerStateChange d3hot s
  | .pcieLinkTrained rate width => Sys2Proof.Machine.execPcieLinkTrained rate width s
  | .trainingSequenceTx p => Sys2Proof.Machine.execTrainingSequenceTx p s
  | .captureSpillDrain u => Sys2Proof.Machine.execCaptureSpillDrain u s
  | .lifecycleProvision seed helper certificate sets => Sys2Proof.Machine.execLifecycleProvision seed helper certificate sets s

end Sys2Proof.Machine
end

