-- ==== Sys2Proof/Machine/Step.lean ====
section
/-! DEFINITION. The step: the waiting command at the front of the queue, or a time-clock edge. -/
namespace Sys2Proof.Machine

/-- One step: take the command at the front of the queue and answer its outcome with the queue's rest. On an empty queue one time-clock
edge passes (DESIGN CHOICE, log 1). -/
def step (s : State) : Host.Outcome State Fault Refusal :=
  match s.pending with
  | [] => .next s.tick
  | c :: rest => exec c { s with pending := rest }

/-- The state with the command that a word spells in front of its queue. The table gives its rows no bits, so no word spells one. -/
def State.withFetchWord (s : State) (nbits w : Nat) : State :=
  match decodeTableWord nbits w with
  | none => s
  | some c => { s with pending := c :: s.pending }

end Sys2Proof.Machine
end

