-- ==== Sys2Proof/Machine/Balls.lean ====
section
/-! DEFINITION. The balls: where a channel's lie (R465), and the levels that the device's outputs show (R99, R363, R374, R386, R396, R449,
R475, R478, R480). -/
namespace Sys2Proof.Machine

/-- Position (row, column) of ball m (0 _P, 1 _N, 2 VSS) of row k (0 DRV, 1 DEN, 2 CMH, 3 CML) of channel c's cell (R465). -/
def ballOf (c k m : Nat) : Nat × Nat :=
  let q := c / 64
  let j := c % 64
  let lr := 4 * (j % 8) + k
  let lc := 3 * (j / 8) + m
  (if q ≤ 1 then 1 + lr else 74 - lr, if q = 0 ∨ q = 3 then 1 + lc else 74 - lc)

/-- FAULT_N as the device drives it: low while FAULTOUT, and in FAILED and RECOVERY. -/
def State.faultN (s : State) : Bool := !(s.flag F.FLT_STAT.FAULTOUT || s.bootState == 10 || s.bootState == 15)

/-- THERM_N as the board sees it: low while a device drives it. -/
def State.thermN (s : State) : Bool := !s.thermLow

/-- FLASH_RST_N: low while RESET_N is low and for 10 µs after its release (R480). -/
def State.flashRstN (s : State) : Bool := s.boot.resetN && decide (s.boot.flashHigh ≤ s.clk)

/-- Whether a PSEL pair is driven, and to what: undriven while RESET_N is low. -/
def State.pselPair (s : State) (b : Nat) : Option Bool := if s.boot.resetN then some (bitOf s.psel b) else none

/-- The levels of a channel's DRV and DEN outputs. While a calibration run measures its bank, DEN stays deasserted and DRV carries a
pattern that the spec does not give (R374). -/
def State.channelLevels (s : State) (ch : Nat) : Option Bool × Bool :=
  if bitOf s.cal.measuring (ch / 16) then (none, false) else (some (s.chan ch).drv, (s.chan ch).den)

end Sys2Proof.Machine
end

