-- ==== Sys2Proof/Safety.lean ====
section
/-! DEFINITION. What a sound state of the model is, and the words that statements about it share. A sound state has every addressed
store in its one canonical form, so that equal contents are equal data. No command faults and none is refused, so a safe run is one
that keeps this. -/
namespace Sys2Proof.Machine

/-- The canonical form of the addressed stores, from their lists: registers, tables, calibration values, pool, deep memory, host
memory, boot flash and keeping store list keys in strictly rising order and no entry that equals what an unlisted place reads as. -/
def StoresWf (regs tables : SMap Word) (trims : SMap Int) (pool deep host flash keep : List Host.Cell) : Prop :=
  Sparse.wf regReset regs = true ∧ Sparse.wf (fun _ => 0) tables = true ∧ Sparse.wf trimDefault trims = true ∧
  Sparse.wf poolDefault pool = true ∧ Sparse.wf deepDefault deep = true ∧ Sparse.wf hostDefault host = true ∧
  Sparse.wf erasedDefault flash = true ∧ Sparse.wf erasedDefault keep = true

/-- The stores of a state are in canonical form. -/
def Stored (s : State) : Prop := StoresWf s.regs s.tables s.trims s.pool s.deep s.host s.flash s.keep

/-- A group's engine is RUNNING and about to begin an instruction (R39): its next vector cycle is due, no earlier line waits for a decision,
b is the state after the boundary before that cycle, e its engine there, w the instruction word at its address, which can be read. -/
def Begins (s b : State) (sg : Nat) (e : Engine) (w : Nat) : Prop :=
  (s.advance sg).issueDue sg = true ∧ (s.advance sg).lineOpen sg = false ∧ b = (s.advance sg).atBoundary sg ∧ e = b.engine sg ∧
  b.eState sg = 2 ∧ e.cur = none ∧ w = b.instrWord sg e.pc ∧ b.poisoned (b.pcAddr sg) 8 = false

/-- A one-line instruction in progress, before its line has issued: it begins in vector cycle m and continues at next. -/
def oneLine (e : Engine) (w m next : Nat) : Option Current := some ⟨e.pc, w, m, 0, 1, next, 0, none, []⟩

/-- Nothing waits at a group's boundary: no line waits for a decision and no committed value is due. -/
def Settled (s : State) (sg : Nat) : Prop :=
  s.lineOpen sg = false ∧
  ∀ c ∈ s.groupPend, c.due (decide (2 ≤ s.eState sg)) sg (s.seCycle sg) (s.engine sg).nextStart = false

/-- A TACK in RUNNING with WHEN = 2 commits at the start instant of a burst (R25). -/
def MeetsTack (s : State) (job : TackJob) (start : Nat) : Prop :=
  s.tack = some job ∧ job.passed = true ∧ tkWhen (s.slot job.slot).desc = 2 ∧
  toTick (tkAt (s.slot job.slot).desc * 2 ^ 32 + tkFrac (s.slot job.slot).desc) = start

/-- t with the queue and the part of s: what a command answers (it acts on everything but the queue). -/
def Answered (s t : State) : State := { t with pending := s.pending, part := s.part }

end Sys2Proof.Machine
end

