-- ==== Sys2Proof/Certificates/Slice0/Obligations.lean ====
section
/-! DEFINITION. The statements for the provers. -/
open Sys2Proof Sys2Proof.Machine

/-! ### Sequence engines (02_sequence_engines.md) -/

/-- R39, R51, R54, R60 (Table — Pattern instructions): VEC, RPT, JMP, TSET, SETG, CLF and HALT begin with the line count, the continuation
and the effect of their row, and issue their first line; a row whose opcode is not the one the engine is about to begin leaves
everything unchanged. R44, R45: loops and calls. LBEG takes its count from A or a general register and pushes a level with the call
depth; LEND counts its level down and returns to the body start, or pops it; CALL pushes the next address; RET pops one. A ninth level,
a count of 0, an LEND without a level of its own call depth, a seventeenth call and a RET with an empty stack end the burst with
LOOP_DEPTH, ZERO_COUNT, LOOP_DEPTH, STACK and STACK. -/
def Obligations.StraightAndLoops : Prop :=
  (
  ∀ (sg : Fin 64) (s b : State) (e : Engine) (w : Nat), Begins s b sg e w →
    let m := b.seCycle sg
    let go (t : State) : Host.Outcome State Fault Refusal := .next (Answered s (t.issueCurrent sg m e.nextStart))
    (iOp w = 0x01 → exec (.vec sg) s =
      go (b.setEngine sg { e with cur := some ⟨e.pc, w, m, 0, iA w, e.pc + 1, 0, none, []⟩ })) ∧
    (iOp w = 0x02 → exec (.rpt sg) s =
      go (b.setEngine sg { e with cur := some ⟨e.pc, w, m, 0, iA w, e.pc + 1, 0, none, []⟩ })) ∧
    (iOp w = 0x03 → exec (.jmp sg) s = go (b.setEngine sg { e with cur := oneLine e w m (iA w) })) ∧
    (iOp w = 0x0B → exec (.tset sg) s =
      go (b.setEngine sg { e with ts := iA w % 256, cur := oneLine e w m (e.pc + 1) })) ∧
    (iOp w = 0x10 → exec (.setg sg) s =
      go ((b.setEngine sg { e with cur := oneLine e w m (e.pc + 1) }).setReg (R.SE_GR sg (iX w)) (iA w))) ∧
    (iOp w = 0x11 → exec (.clf sg) s =
      go (b.setEngine sg { e with clf := m, cur := oneLine e w m (e.pc + 1) })) ∧
    (iOp w = 0x12 → exec (.halt sg) s = go (b.setEngine sg { e with cur := oneLine e w m (e.pc + 1) })) ∧
    (iOp w ≠ 0x01 → exec (.vec sg) s = .next s) ∧ (iOp w ≠ 0x02 → exec (.rpt sg) s = .next s) ∧
    (iOp w ≠ 0x03 → exec (.jmp sg) s = .next s) ∧ (iOp w ≠ 0x0B → exec (.tset sg) s = .next s) ∧
    (iOp w ≠ 0x10 → exec (.setg sg) s = .next s) ∧ (iOp w ≠ 0x11 → exec (.clf sg) s = .next s) ∧
    (iOp w ≠ 0x12 → exec (.halt sg) s = .next s)) ∧
  (
  ∀ (sg : Fin 64) (s b : State) (e : Engine) (w : Nat), Begins s b sg e w →
    let m := b.seCycle sg
    let go (t : State) : Host.Outcome State Fault Refusal := .next (Answered s (t.issueCurrent sg m e.nextStart))
    let ends (cause : Nat) : Host.Outcome State Fault Refusal :=
      .next (Answered s ((b.setEngine sg { e with nextStart := e.nextStart + b.period sg }).stopLine sg m e.nextStart cause))
    let n := if iX w = 0 then iA w else b.gr sg (iA w % 16)
    (iOp w = 0x05 →
      (8 ≤ e.loops.length → exec (.lbeg sg) s = ends 0x07) ∧
      (e.loops.length < 8 → n = 0 → exec (.lbeg sg) s = ends 0x08) ∧
      (e.loops.length < 8 → n ≠ 0 → exec (.lbeg sg) s = go (b.setEngine sg { e with
        loops := ⟨n, e.calls.length⟩ :: e.loops, cur := oneLine e w m (e.pc + 1) }))) ∧
    (iOp w = 0x06 →
      (e.loops = [] → exec (.lend sg) s = ends 0x07) ∧
      (∀ l t, e.loops = l :: t →
        (l.level ≠ e.calls.length → exec (.lend sg) s = ends 0x07) ∧
        (l.level = e.calls.length → l.remaining = 1 → exec (.lend sg) s =
          go (b.setEngine sg { e with loops := t, cur := oneLine e w m (e.pc + 1) })) ∧
        (l.level = e.calls.length → l.remaining ≠ 1 → exec (.lend sg) s =
          go (b.setEngine sg { e with
            loops := { l with remaining := l.remaining - 1 } :: t, cur := oneLine e w m (iA w) })))) ∧
    (iOp w = 0x07 →
      (16 ≤ e.calls.length → exec (.call sg) s = ends 0x06) ∧
      (e.calls.length < 16 → exec (.call sg) s =
        go (b.setEngine sg { e with calls := (e.pc + 1) :: e.calls, cur := oneLine e w m (iA w) }))) ∧
    (iOp w = 0x08 →
      (e.calls = [] → exec (.ret sg) s = ends 0x06) ∧
      (∀ a t, e.calls = a :: t → exec (.ret sg) s = go (b.setEngine sg { e with calls := t, cur := oneLine e w m a }))))

/-- R42, R43, R46–R50: the conditional instructions. A first line closer than ceil(16 ns / vector cycle) cycles to that of the conditional
instruction before ends the burst with SPACING; MATCH and SYNC WAIT read their timeout and its target from general registers, a count of
0 ends it with ZERO_COUNT and a target outside the section with BAD_TARGET, the lowest cause of those that hold; else each begins with
its lines: one for JCF, B lines per iteration up to T iterations for MATCH, up to T repeats for SYNC WAIT, up to V for REACT. A SYNC
WAIT counts a frame heard for its cycles while an earlier line was still open. R48, R52, R53, R165, R188, R335: SRC and TRIG act on
units bound to the group, else the burst ends with UNBOUND; SYNC SEND queues its frame, stamped with the ball start of its line; STREAM
OPEN opens the next entry when none is open and 20 µs have passed since the last CLOSE, STREAM CLOSE closes the open entry it names,
else the burst ends with STREAM_ORDER. -/
def Obligations.ConditionalAndUnitInstructions : Prop :=
  (
  ∀ (sg : Fin 64) (s b : State) (e : Engine) (w : Nat), Begins s b sg e w →
    let m := b.seCycle sg
    let a := iA w
    let go (t : State) : Host.Outcome State Fault Refusal := .next (Answered s (t.issueCurrent sg m e.nextStart))
    let ends (cause : Nat) : Host.Outcome State Fault Refusal :=
      .next (Answered s ((b.setEngine sg { e with nextStart := e.nextStart + b.period sg }).stopLine sg m e.nextStart cause))
    let close : Prop := ∃ p, e.lastCond = some p ∧ m < p + ceilDiv 131072 (b.period sg)
    let count := b.instrCount sg
    let matchT := b.gr sg (bitsOf a 8 4)
    let matchTo := b.gr sg (bitsOf a 12 4)
    let waitT := b.gr sg (bitsOf a 12 4)
    let waitTo := b.gr sg (bitsOf a 16 4)
    (iOp w = 0x04 →
      (close → exec (.jcf sg) s = ends 0x09) ∧
      (¬ close → exec (.jcf sg) s =
        go (b.setEngine sg { e with lastCond := some m, cur := oneLine e w m (e.pc + 1) }))) ∧
    (iOp w = 0x09 →
      (matchT = 0 → exec (.matchLoop sg) s = ends 0x08) ∧
      (matchT ≠ 0 → close → exec (.matchLoop sg) s = ends 0x09) ∧
      (matchT ≠ 0 → ¬ close → count ≤ matchTo → exec (.matchLoop sg) s = ends 0x0D) ∧
      (matchT ≠ 0 → ¬ close → matchTo < count → exec (.matchLoop sg) s =
        go ((b.setReg (R.SE_MATCHST sg) 0).setEngine sg { e with
          lastCond := some m, iters := []
          cur := some ⟨e.pc, w, m, 0, bitsOf a 0 8 * matchT, e.pc + 1, matchTo, none, []⟩ }))) ∧
    (iOp w = 0x0A →
      (close → exec (.react sg) s = ends 0x09) ∧
      (¬ close → exec (.react sg) s = go (b.setEngine sg { e with
        lastCond := some m, rsamp := [], refs := [], fire := none
        cur := some ⟨e.pc, w, m, 0, a, e.pc + 1, 0, none, []⟩ }))) ∧
    (iOp w = 0x0E → iX w = 1 →
      (waitT = 0 → exec (.syncWait sg) s = ends 0x08) ∧
      (waitT ≠ 0 → close → exec (.syncWait sg) s = ends 0x09) ∧
      (waitT ≠ 0 → ¬ close → count ≤ waitTo → exec (.syncWait sg) s = ends 0x0D) ∧
      (waitT ≠ 0 → ¬ close → waitTo < count → exec (.syncWait sg) s =
        go (b.setEngine sg { e with
          lastCond := some m
          cur := some ⟨e.pc, w, m, 0, waitT, e.pc + 1, waitTo,
            (e.heard.find? fun h => h.1 == bitsOf a 0 12 && decide (m ≤ h.2)).map fun h => h.2 + b.flat sg, []⟩ })))) ∧
  (
  ∀ (sg : Fin 64) (s b : State) (e : Engine) (w : Nat), Begins s b sg e w →
    let m := b.seCycle sg
    let a := iA w
    let u := a % 16
    let one : State := b.setEngine sg { e with cur := oneLine e w m (e.pc + 1) }
    let go (t : State) : Host.Outcome State Fault Refusal := .next (Answered s (t.issueCurrent sg m e.nextStart))
    let ends (cause : Nat) : Host.Outcome State Fault Refusal :=
      .next (Answered s ((b.setEngine sg { e with nextStart := e.nextStart + b.period sg }).stopLine sg m e.nextStart cause))
    let bound : Bool := b.srcServes u sg
    let served : Bool := (bitsSet 16 a).all fun u => b.acqServes u sg
    let trig (x : Nat) : State := (bitsSet 16 a).foldl (fun (t : State) u =>
      t.setAcq u { t.acq u with trigs := (t.acq u).trigs ++ [(m, x)] }) one
    (iOp w = 0x0C → iX w = 0 → exec (.srcStart sg) s = if bound then go (one.srcStart u (bitsOf a 4 20)) else ends 0x0C) ∧
    (iOp w = 0x0C → iX w = 1 → exec (.srcStop sg) s = if bound then go (one.srcStop u) else ends 0x0C) ∧
    (iOp w = 0x0C → iX w = 2 → exec (.srcJump sg) s = if bound then go (one.srcJump u (bitsOf a 4 20)) else ends 0x0C) ∧
    (iOp w = 0x0D → iX w = 0 → exec (.trigArm sg) s = if served then go (trig 0) else ends 0x0C) ∧
    (iOp w = 0x0D → iX w = 1 → exec (.trigForce sg) s = if served then go (trig 1) else ends 0x0C) ∧
    (iOp w = 0x0D → iX w = 2 → exec (.trigStop sg) s = if served then go (trig 2) else ends 0x0C) ∧
    (iOp w = 0x0E → iX w = 0 → exec (.syncSend sg) s = go (one.syncSend (a % 4096) (bitsOf a 20 4) e.nextStart)) ∧
    (iOp w = 0x0F → iX w = 0 →
      let legal : Prop := e.streamOpen = false ∧ u = e.nextEntry ∧ ∀ t, e.closedAt = some t → t + 20000 * 8192 ≤ e.nextStart
      (legal → exec (.streamOpen sg) s = go (b.setEngine sg { e with
        streamOpen := true, nextEntry := e.nextEntry + 1
        stream := some ((e.stream.filter fun t => t.entry == u).getD (Stream.fresh u))
        cur := oneLine e w m (e.pc + 1) })) ∧
      (¬ legal → exec (.streamOpen sg) s = ends 0x0A)) ∧
    (iOp w = 0x0F → iX w = 1 →
      let legal : Prop := e.streamOpen = true ∧ ∃ t, e.stream = some t ∧ t.entry = u
      (legal → exec (.streamClose sg) s = go (b.setEngine sg { e with
        streamOpen := false, closedAt := some e.nextStart
        stream := if u + 1 < b.streamCount sg then some (Stream.fresh (u + 1)) else none
        cur := oneLine e w m (e.pc + 1) })) ∧
      (¬ legal → exec (.streamClose sg) s = ends 0x0A)))

/-- R36, R39, R233: the line that an instruction in progress issues next: line LINE + k of a resident VEC, always LINE of a resident RPT,
LINE + k mod B of a MATCH, LINE + k of a REACT, LINE of every one-line instruction and of SYNC WAIT, where k lines have issued before.
Taking a resident line changes nothing; one that lies in a pool word which cannot be corrected is not produced, and the word is
reported. R42, R47, R49, R76: what the boundary before vector cycle m makes of an instruction in progress whose lines allow it. JCF
continues at its target if its condition holds, else at the next instruction; MATCH_TIMEOUT and SYNC_WAIT_TIMEOUT clear MF and continue
at the timeout target; REACT_WINDOW_END writes RCT_RSTAT with cost V, clears RF and continues at the next instruction; no earlier REACT
that still awaits a late match is then its rule's latest. The microsequencer goes on with the arm of the path taken. -/
def Obligations.LinesContinueAndTimeOut : Prop :=
  (
  ∀ (sg : Fin 64) (s : State) (c : Current),
    let line (k : Nat) : Except Nat (List Byte) × State :=
      let a := s.secAddr sg (s.sec sg 0x24 4 + (iLine c.word + k) * s.lineBytes sg)
      if s.poisoned a (s.lineBytes sg) then (.error 0x03, s.reportPoison a (s.lineBytes sg))
      else (.ok (s.residentLine sg (iLine c.word + k)), s)
    (iOp c.word = 0x01 → iS c.word = false → s.takeLine sg c = line c.issued) ∧
    (iOp c.word = 0x02 → iS c.word = false → s.takeLine sg c = line 0) ∧
    (iOp c.word = 0x09 → s.takeLine sg c = line (c.issued % bitsOf (iA c.word) 0 8)) ∧
    (iOp c.word = 0x0A → s.takeLine sg c = line c.issued) ∧
    (iOp c.word ≠ 0x01 → iOp c.word ≠ 0x02 → iOp c.word ≠ 0x09 → iOp c.word ≠ 0x0A → s.takeLine sg c = line 0)) ∧
  (
  (∀ (sg : Fin 64) (s : State) (c : Current) (m : Nat), (s.engine sg).cur = some c → iOp c.word = 0x04 → c.issued ≠ 0 →
    s.boundary sg m = (s.setEngine sg { s.engine sg with
      pc := if s.condition sg m (iX c.word) then iA c.word else c.next, cur := none }).selectArm sg
        (if s.condition sg m (iX c.word) then takenArm else otherArm)) ∧
  (∀ (sg : Fin 64) (s t : State) (c : Current), t = s.advance sg → t.eState sg = 2 → t.issueDue sg = true → Settled t sg →
    (t.engine sg).cur = some c → c.total ≤ c.issued →
    (iOp c.word = 0x09 → c.issued ≠ 0 → c.issued % bitsOf (iA c.word) 0 8 = 0 → t.groupMatches sg (t.seCycle sg) c = false →
      exec (.matchTimeout sg) s = .next (Answered s (((t.setReg (R.SE_MATCHST sg) (t.matchSites sg c)).setEngine sg { t.engine sg with
        mf := false, pc := c.timeout, cur := none }).selectArm sg otherArm))) ∧
    (iOp c.word = 0x0E → iX c.word = 1 → c.exitAt = none →
      exec (.syncWaitTimeout sg) s = .next (Answered s ((t.setEngine sg { t.engine sg with
        mf := false, pc := c.timeout, cur := none }).selectArm sg otherArm))) ∧
    (iOp c.word = 0x0A → (t.engine sg).fire = none → (t.engine sg).refs = [] →
      let r := iX c.word % 8
      let bad : Bool := (List.range (t.fld (F.RCT_RCFG.NALT sg r) + 1)).any fun i => decide (t.instrCount sg ≤ t.ruleTarget sg r i)
      exec (.reactWindowEnd sg) s = .next (Answered s (((t.setReg (R.RCT_RSTAT sg r) (2 ^ 27 * b2n bad + iA c.word)).selectArm sg
        windowArm).setEngine sg { t.engine sg with
        rf := false, rsamp := [], watch := (t.engine sg).watch.map (LateReact.superseded r), pc := c.next, cur := none })))))

/-- R93: while a group's period generator does not run, a vector cycle of an engine with no burst leaves DEN deasserted and DRV low on every
member channel, places no strobe and issues no line. R20, R39, R60–R62: VECTOR_CYCLE_ISSUE does nothing before the next vector cycle is
6.0 ns ahead at the balls. Of a RUNNING engine with no line that waits for a decision it issues the next line of the instruction in
progress, or begins the one at the program counter, or ends the burst with the cause found there; behind a line that waits it issues the
next cycle, whose content is settled with that line. ENGINE_ABORT of an ARMED or RUNNING engine stops it with cause HOST_ABORT, of an
ENDING one sets ABORT_SEEN, and has no effect on an IDLE or FENCED one. R60, R63, R149: an aborting engine drops the Tack values that
name a cycle it will not reach, reads ENDING with the cause in SE_CAUSE, is no longer paired, and holds no instruction in progress but
that of a line which still waits for a decision. -/
def Obligations.VectorCyclesAndEndings : Prop :=
  (
  ∀ (sg : Fin 64) (s : State), s.eState sg ≠ 2 → s.issueDue sg = true → Settled s sg → s.flag (F.PG_CFG.EN sg) = false →
    ∃ t, exec (.vectorCycleIssue sg) s = .next t ∧ t.strobes = s.strobes ∧ t.seCycle sg = s.seCycle sg ∧
      ∀ ch, ch < 256 → s.isMember sg ch = true → (t.chan ch).drv = false ∧ (t.chan ch).den = false) ∧
  (
  (∀ (sg : Fin 64) (s : State), s.issueDue sg = false → exec (.vectorCycleIssue sg) s = .next s) ∧
  (∀ (sg : Fin 64) (s a b : State), s.issueDue sg = true → a = s.advance sg → b = a.atBoundary sg →
    let m := b.seCycle sg
    let start := (b.engine sg).nextStart
    (a.lineOpen sg = true → exec (.vectorCycleIssue sg) s = .next (Answered s (a.issueAhead sg))) ∧
    (a.lineOpen sg = false → a.eState sg = 2 →
      (∀ c, (b.engine sg).cur = some c → exec (.vectorCycleIssue sg) s = .next (Answered s (b.issueCurrent sg m start))) ∧
      ((b.engine sg).cur = none → ∀ cause, b.beginInstr sg m start = .error cause →
        exec (.vectorCycleIssue sg) s = .next (Answered s (((b.readInstr sg).setEngine sg { b.engine sg with
          nextStart := start + b.period sg }).stopLine sg m start cause))) ∧
      ((b.engine sg).cur = none → ∀ t, b.beginInstr sg m start = .ok t →
        exec (.vectorCycleIssue sg) s = .next (Answered s (t.issueCurrent sg m start))))) ∧
  (∀ (sg : Fin 64) (s : State), s.inUse = true →
    (s.eState sg = 1 ∨ s.eState sg = 2 → exec (.engineAbort sg) s = .next (Answered s (s.enterEnding sg 0x01))) ∧
    (s.eState sg = 3 → exec (.engineAbort sg) s = .next (s.setFld (F.SE_CAUSE.ABORT_SEEN sg) 1)) ∧
    (s.eState sg = 0 ∨ s.eState sg = 4 → exec (.engineAbort sg) s = .next s))) ∧
  (
  ∀ (sg : Fin 64) (s : State) (cause : Nat), cause < 256 →
    let t := s.enterEnding sg cause
    t.eState sg = 3 ∧ t.fld (F.SE_CAUSE.CAUSE sg) = cause ∧ t.flag (F.BKS_SGSTAT.PAIRED sg) = false ∧
    ((s.engine sg).part = none → (t.engine sg).cur = none) ∧ (t.engine sg).part = (s.engine sg).part ∧
    ((s.engine sg).part ≠ none → (t.engine sg).cur = (s.engine sg).cur ∧ (t.engine sg).fire = (s.engine sg).fire) ∧
    (t.engine sg).endedAt = s.cycle ∧ t.seCycle sg = s.seCycle sg ∧ t.pool = s.pool ∧ t.deep = s.deep ∧ t.host = s.host)

/-- R25, R60, R27, R127, R399: BURST_START acts on an ARMED engine whose start instant is at most 6.0 ns (49,152 ticks) ahead, and on a
paired one only when it is matched: the engine is RUNNING, its vector cycle count is 0, vector cycle 0 begins at the balls at the start
instant, no fail of the group is recorded, MF and RF read 0 and both stacks are empty. A Tack that commits at that instant gives the
group its values with the start. At any other time nothing changes. R60, R63, R136: a burst in ENDING whose strobes are judged, whose
END record has been offered and whose records are stored, and whose pair is settled, completes: its task's work has ended with the
status of its cause, SE_CAUSE and ABORT_SEEN as detail and the vector cycles issued as result, and the engine is IDLE. -/
def Obligations.BurstLife : Prop :=
  (
  ∀ (sg : Fin 64) (s : State) (t0 : Nat), (s.engine sg).start = some t0 →
    (s.eState sg = 1 → t0 ≤ toTick s.now + 49152 → (s.paired sg = true → (s.pair sg).matched = true) →
      (∀ job, MeetsTack s job t0 → exec (.burstStart sg) s =
        .next (Answered s ((s.takeAhead job sg none t0 (s.tackView job.bank)).startBurst sg t0)))) ∧
    (s.eState sg = 1 → t0 ≤ toTick s.now + 49152 → (s.paired sg = true → (s.pair sg).matched = true) →
      (∀ c ∈ s.groupPend, c.sg ≠ sg.val) → (∀ job, ¬ MeetsTack s job t0) →
      ∃ t, exec (.burstStart sg) s = .next t ∧ t.eState sg = 2 ∧ t.seCycle sg = 0 ∧ (t.engine sg).begun = true ∧
        (t.engine sg).nextStart = t0 ∧ t.regN (R.CMP_SITEFAIL sg) = 0 ∧ t.regN (R.SE_AUTOMASKED sg) = 0 ∧
        (t.engine sg).mf = false ∧ (t.engine sg).rf = false ∧ (t.engine sg).loops = [] ∧ (t.engine sg).calls = [] ∧
        (t.engine sg).pc = (s.engine sg).pc ∧ t.pool = s.pool ∧ t.deep = s.deep) ∧
    (s.eState sg ≠ 1 ∨ toTick s.now + 49152 < t0 ∨ (s.paired sg = true ∧ (s.pair sg).matched = false) →
      exec (.burstStart sg) s = .next s)) ∧
  (
  ∀ (sg : Fin 64) (s : State) (k : Nat), s.eState sg = 3 → (s.engine sg).slot = some k → s.lineOpen sg = false →
    s.strobesPending sg = false → (s.engine sg).endOffered = true → s.recordsPending sg = false → s.pairSettled sg = true →
    (s.slot k).state = .running →
    ∃ t, exec (.burstComplete sg) s = .next t ∧ t.eState sg = 0 ∧ (t.engine sg).slot = none ∧ (t.engine sg).start = none ∧
      (t.slot k).done = some (s.burstStatus sg, s.fld (F.SE_CAUSE.CAUSE sg) + 256 * s.fld (F.SE_CAUSE.ABORT_SEEN sg),
        if (s.engine sg).begun then s.seCycle sg else 0) ∧
      t.pool = s.pool ∧ t.deep = s.deep ∧ t.host = s.host)

/-- R65, R422: a host write to SE_GR sets the register while the engine is IDLE and the loaded section is not hidden; else the write is
discarded and a register access fault is reported. -/
def Obligations.GeneralRegisterWrite : Prop :=
  ∀ (sg : Fin 64) (g : Fin 16) (v : Word) (s : State), s.inUse = true →
    (s.eState sg = 0 → s.hidden sg = false → exec (.seGrWrite sg g v) s = .next (s.setReg (R.SE_GR sg g) v.toNat)) ∧
    (s.eState sg ≠ 0 ∨ s.hidden sg = true → exec (.seGrWrite sg g v) s = .next (s.report 249 kRegAccess (R.SE_GR sg g)))

/-- R53, R55–R57, R247, R253: a stream block received for a burst joins the engine's stream: what the streamer makes of it is the block of a
compressed entry, checked whole, or lines of an uncompressed one; one whose read fails for good delivers no further line and is reported
by its controller. While the streamer is being reset, a controller of the allocation is fenced or trains, a failing line is known or the
entry's lines are all produced, nothing is received. R57: a block that is not whole, or whose length, number or CRC-32C is wrong, puts
no line into the stream and fixes the failing line as the first of the block. R233: an instruction that lies in a pool word which cannot
be corrected is not begun: the word is reported and the burst ends with STREAM_CHECK at that line. -/
def Obligations.StreamBlocks : Prop :=
  (
  ∀ (sg : Fin 64) (s : State) (t : Stream) (c : Section) (d : DeepAlloc),
    (s.engine sg).stream = some t → (s.engine sg).sec = some c → c.da.bind s.deepAlloc = some d →
    let open' : Prop := s.busySg sg = true ∧ (s.source 240).resetting = none ∧ t.failAt = none ∧
      (controllers d.chmask).any s.dramFenced = false ∧ s.deepWaits d = false ∧ t.produced < s.streamEntry sg t.entry 0x10 8
    let at' := s.streamEntry sg t.entry 0 8 + t.pos
    (open' →
      let t' := if bitOf (s.streamEntry sg t.entry 0x18 4) 0 then s.fetchBlock sg d t else s.fetchPlain sg d t
      exec (.deepStreamBlockFetch ⟨sg, false⟩) s = .next (Answered s ((s.setEngine sg { s.engine sg with stream := some t' }).countRead d
        at' (t'.pos - t.pos)))) ∧
    (open' → exec (.deepStreamBlockFetch ⟨sg, true⟩) s = .next ((s.setEngine sg { s.engine sg with
        stream := some { t with failAt := some t.produced } }).report (232 + (d.locate at').1) kUncorrectable (d.locate at').2)) ∧
    (¬ open' → ∀ bad, exec (.deepStreamBlockFetch ⟨sg, bad⟩) s = .next s)) ∧
  (
  ∀ (sg : Fin 64) (s : State) (d : DeepAlloc) (t : Stream),
    let base := s.streamEntry sg t.entry 0 8 + t.pos
    let left := s.streamEntry sg t.entry 8 8 - t.pos
    let h := ofBytes (s.deepReadAt d base 16)
    let len := bitsOf h 0 32
    (left < 16 ∨ len = 0 ∨ 4096 < len ∨ left < 16 + len ∨ bitsOf h 96 32 ≠ t.seq ∨
      crc32c (s.deepReadAt d (base + 16) len) ≠ bitsOf h 64 32) →
    s.fetchBlock sg d t = { t with failAt := some t.produced }) ∧
  (
  ∀ (sg : Fin 64) (s a b : State), s.issueDue sg = true → a = s.advance sg → a.lineOpen sg = false → a.eState sg = 2 → b = a.atBoundary sg →
    (b.engine sg).cur = none → b.poisoned (b.pcAddr sg) 8 = true →
    let e := b.engine sg
    exec (.vectorCycleIssue sg) s = .next (Answered s (((b.reportPoison (b.pcAddr sg) 8).setEngine sg { e with
      nextStart := e.nextStart + b.period sg }).stopLine sg (b.seCycle sg) e.nextStart 0x03)))

/-! ### Reactive rules (06_reactive_vectors.md) -/

/-- R143, R144: the reference instant of a sub-cycle that a REACT's rule selects: the latest programmed time of its selected strobes that
have a sample in it, in the set that formats the sub-cycle; 40,960 ticks later the decision may take effect. A sub-cycle that SUBMASK
leaves out, or in which no selected strobe is placed, is not evaluated. R144, R146, R147: the rule evaluates the next selected sub-cycle
of the current REACT when its samples are in. Without a matching enabled term it goes on to the next; with one, the lowest-numbered, the
rule fires, from the first sub-cycle on that begins at its reference instant plus 40,960 ticks or later. R144–R149: REACT_RULE_FIRE
carries out the decisions that the samples allow, also of an engine in ENDING. A sub-cycle of the line in hand is formatted only when no
decision that could govern it is open; from the decision sub-cycle on it is the line of the alternative, spliced in there; with no line
in hand and none behind it, nothing changes but what a RUNNING engine has evaluated and the frames it has heard. -/
def Obligations.ReactionRules : Prop :=
  (
  ∀ (sg : Fin 64) (r : Fin 8) (s : State) (cycle sub start : Nat),
    let l := s.ruleStrobes sg r cycle sub
    let time (t : Strobe) : Nat := s.tsEdge t.ch t.ts (if t.second then 5 else 4)
    (bitOf (s.fld (F.RCT_RCFG.SUBMASK sg r)) sub = false ∨ l = [] → s.reference sg r cycle sub start = none) ∧
    (bitOf (s.fld (F.RCT_RCFG.SUBMASK sg r)) sub = true → l ≠ [] →
      ∃ x, s.reference sg r cycle sub start = some (start + x + 40960) ∧ (∃ t ∈ l, time t = x) ∧ ∀ t ∈ l, time t ≤ x)) ∧
  (
  ∀ (sg : Fin 64) (s : State) (c : Current) (pos from' : Nat) (rest : List (Nat × Nat)),
    let e := s.engine sg
    let r := iX c.word % 8
    (s.firstTerm sg r pos = none → s.evaluateOne sg c pos from' rest = s.setEngine sg { e with refs := rest }) ∧
    (∀ t, s.firstTerm sg r pos = some t →
      s.evaluateOne sg c pos from' rest = s.setEngine sg { e with refs := [], fire := some ⟨t, s.ruleTarget sg r t, from'⟩ } ∧
      s.ruleTarget sg r t < s.instrCount sg ∧ s.termMatches sg r t pos = true ∧
      (∀ i, i < t → ¬ (s.ruleTarget sg r i < s.instrCount sg ∧ s.termMatches sg r i pos = true)))) ∧
  (
  (∀ (sg : Fin 64) (s : State), exec (.reactRuleFire sg) s = .next (Answered s (s.advance sg))) ∧
  (∀ (sg : Fin 64) (s : State) (p : PartLine) (n : Nat), (s.engine sg).part = some p → s.evaluateNow sg = s →
    (s.held sg p = true → s.advanceLine sg (n + 1) = s) ∧
    (s.held sg p = false → (s.engine sg).prior = [] → (∀ c, (s.engine sg).cur = some c → ∀ f, (s.engine sg).fire = some f →
      f.from' ≤ p.subStart → s.advanceLine sg (n + 1) = (s.spliceLine sg c p f).advanceLine sg n)) ∧
    (s.held sg p = false → (s.engine sg).prior = [] → (∀ f, (s.engine sg).fire = some f → p.subStart < f.from') →
      s.advanceLine sg (n + 1) = (s.formatHere sg p).advanceLine sg n)) ∧
  (∀ (sg : Fin 64) (s : State), s.lineOpen sg = false → s.eState sg = 2 → s.evaluateNow sg = s →
    exec (.reactRuleFire sg) s = .next (s.setEngine sg { s.engine sg with heard := [] })))

/-! ### Microcode (03_control_store.md) -/

/-- R77, R84: a SNAPSHOT or HKREQ request that is not pending joins the engine's pending requests with the core cycle it is raised in and
shows in SE_TRAPST.PENDING; nothing else changes. One already pending stays one request. R78–R80, R82, R83: at a trap-safe point with a
request of an earlier core cycle pending, no trap running and no MATCH exit decided, the lowest such cause is entered: the save area
shows the instruction word and its address, the cause and the device time of entry and carries its own CRC-32C, SE_TRAPST shows the
trap, the cause leaves the pending requests, a SNAPSHOT shows the depths of both stacks, and no line and no byte of memory is touched.
In any other case nothing changes. R81, R82: a running trap ends: the save area is read back and the microsequencer goes on from it; one
whose area has changed fences the engine and reports kind CHECK (with SE_STATE.IA as its address, the model's choice, log 119). During a
burst a request deferred for LIMIT µs at no trap-safe point raises a deadline fault and aborts with TRAP_DEFERRAL; with LIMIT 0, at a
trap-safe point or before its time it does nothing. -/
def Obligations.MicroTraps : Prop :=
  (
  ∀ (sg : Fin 64) (s : State), s.inUse = true →
    ∀ kind c, (kind = 1 ∧ c = Instr.snapshotRequest sg) ∨ (kind = 2 ∧ c = Instr.hkreqTrapRequest sg) →
      ((s.engine sg).traps.any (fun t => t.kind == kind) = true → exec c s = .next s) ∧
      ((s.engine sg).traps.any (fun t => t.kind == kind) = false →
        ∃ v, bitOf v kind = true ∧ exec c s = .next ((s.setEngine sg { s.engine sg with
          traps := (s.engine sg).traps ++ [⟨kind, s.cycle⟩] }).setFld (F.SE_TRAPST.PENDING sg) v))) ∧
  (
  ∀ (sg : Fin 64) (s : State),
    let e := s.engine sg
    let due (k : Nat) : Bool := e.traps.any fun t => t.kind == k && decide (t.since < s.cycle)
    (∀ p cause, s.trapPoint sg = some p → e.trapActive = none → s.exitDecided sg = false → cause < 4 → due cause = true →
      (∀ k, k < cause → due k = false) →
      ∃ t, exec (.microTrapEntry sg) s = .next t ∧ (t.engine sg).trapActive = some cause ∧
        (t.engine sg).traps = e.traps.filter (fun t => t.kind != cause) ∧ (t.engine sg).cur = e.cur ∧
        t.fld (F.SE_TRAPST.ACTIVE sg) = 1 ∧ t.fld (F.SE_TRAPST.LASTCAUSE sg) = cause ∧
        (let a := t.savedArea sg
         bitsOf a 448 64 = s.instrWord sg p.ia % 2 ^ 64 ∧ bitsOf a 424 24 = p.ia % 2 ^ 24 ∧ bitsOf a 413 11 = (s.micro sg).upc % 2 ^ 11 ∧
         bitsOf a 177 8 = cause ∧ bitsOf a 113 64 = s.ns % 2 ^ 64 ∧ bitsOf a 32 81 = 0 ∧
         a % 2 ^ 32 = crc32c (toBytes 60 (a / 2 ^ 32))) ∧
        (cause = 1 → p.loops.length ≤ 8 → p.calls.length ≤ 16 →
          t.fld (F.SE_SNAPDEPTH.LOOP sg) = p.loops.length ∧ t.fld (F.SE_SNAPDEPTH.CALL sg) = p.calls.length) ∧
        t.seCycle sg = s.seCycle sg ∧ t.strobes = s.strobes ∧ t.pool = s.pool ∧ t.deep = s.deep ∧ t.host = s.host) ∧
    (s.trapPoint sg = none ∨ e.trapActive ≠ none ∨ s.exitDecided sg = true ∨ (∀ k, k < 4 → due k = false) →
      exec (.microTrapEntry sg) s = .next s)) ∧
  (
  ∀ (sg : Fin 64) (s : State),
    let e := s.engine sg
    let good (a : Nat) : Prop := crc32c (toBytes 60 (a / 2 ^ 32)) = a % 2 ^ 32
    let ended (t : State) : State :=
      ((t.setEngine sg { e with trapActive := none }).setFld (F.SE_TRAPST.ACTIVE sg) 0).setMicro sg
        ((t.micro sg).restored (t.savedArea sg))
    (e.trapActive = none → ∀ b, exec (.microTrapResume sg b) s = .next s) ∧
    (e.trapActive ≠ none → good (s.savedArea sg) → exec (.microTrapResume sg none) s = .next (ended s)) ∧
    (∀ b : Fin 512, e.trapActive ≠ none →
      let flipped := s.setReg (R.SE_SAVE sg (b.val / 32)) (s.regN (R.SE_SAVE sg (b.val / 32)) ^^^ 2 ^ (b.val % 32))
      ¬ good (flipped.savedArea sg) → exec (.microTrapResume sg (some b)) s =
        .next (Answered s (((ended flipped).fenceEngine sg).report sg kCheck (s.fld (F.SE_STATE.IA sg))))) ∧
    (let limit := s.fld (F.SE_TRAPLIM.LIMIT sg)
     let late : Prop := limit ≠ 0 ∧ s.eState sg = 2 ∧ s.trapPoint sg = none ∧ ∃ t ∈ e.traps, t.since + 1600 * limit ≤ s.cycle
     (late → exec (.trapDeferralLimit sg) s =
       .next (Answered s ((s.report sg kDeadline (s.fld (F.SE_STATE.IA sg))).abortCause sg 0x04))) ∧
     (¬ late → exec (.trapDeferralLimit sg) s = .next s)))

/-- R71–R74: one microword w of an engine's microsequencer. A word whose queue holds 48 line commands is held. Any other goes to the
microword that its SEQ names, with a micro call stack of 4 entries: NEXT, JUMP, BRANCH on the micro-condition after UPOL, DISPATCH to
the entry of the next fetched instruction's opcode, CALL, RETURN, and LOOP while the micro loop counter is not zero; a line command for
the main queue joins it. A trap routine starts at word 0x020 plus its cause. -/
def Obligations.Microsequencing : Prop :=
  (∀ (sg : Fin 64) (s : State) (m : Micro) (w : Nat),
    let r := s.microResult sg m w
    let done := s.microWrites sg m w r
    let n := s.microRun sg m w
    let word := if mIfetch w = 0 then m.word else s.instrWord sg (m.fetchAddr w)
    let on := (m.upc + 1) % 2048
    (pushes w = true → 48 ≤ (m.queue (mLarm w)).length → n = { m with lrem := m.lines w r }) ∧
    (pushes w = false ∨ (m.queue (mLarm w)).length < 48 →
      n.word = word ∧ n.ia = m.fetchAddr w ∧ n.image = m.image ∧
      (mSeq w = 0 → n.upc = on ∧ n.stack = m.stack) ∧
      (mSeq w = 1 → n.upc = mNaddr w ∧ n.stack = m.stack) ∧
      (mSeq w = 2 → n.upc = (if Config.microCond (mUcond w) r done.ulc done.latches = mUpol w then on else mNaddr w) ∧ n.stack = m.stack) ∧
      (mSeq w = 3 → n.upc = iOp word % 32 ∧ n.stack = m.stack) ∧
      (mSeq w = 4 → n.upc = mNaddr w ∧ n.stack = (on :: m.stack).take 4) ∧
      (mSeq w = 5 → ∀ a t, m.stack = a :: t → n.upc = a ∧ n.stack = t) ∧
      (mSeq w = 6 → (done.ulc = 0 → n.upc = on ∧ n.ulc = 0) ∧ (done.ulc ≠ 0 → n.upc = m.upc ∧ n.ulc = done.ulc - 1)) ∧
      (mLarm w = 0 → mLcmd w ≠ 0 → ∃ c : LineCmd, n.main = m.main ++ [c] ∧ c.kind = mLcmd w ∧ c.count = m.lines w r))) ∧
  (∀ (sg : Fin 64) (s : State) (cause : Nat),
    (s.trapRuns sg cause).micro sg = s.runRoutine sg 12 { s.micro sg with upc := 0x020 + cause })

/-- R84: a corrected local-store error is counted with its address and raises SCRUB, whose routine rewrites the word; an uncorrectable one
fences the engine and reports kind UNCORRECTABLE with the address. Only the named engine changes state. R89, R408: COMMIT_SVN of the
microcode and of the firmware starts a fuse write where a verified image's SVN is above the fused minimum and at most 64 (for microcode,
only while a patch runs), and shows it busy; otherwise it has no effect. FUSE_WRITE_DONE ends the write: the fuses hold the new minimum,
and no register but COMMIT_BUSY changes. -/
def Obligations.ControlStore : Prop :=
  (
  ∀ (sg : Fin 64) (addr : Fin 2048) (s : State),
    (∃ t, exec (.localStoreCheckError sg addr true) s = .next t ∧ t.fld (F.SE_UCERR.LASTADDR sg) = addr ∧
      t.fld (F.SE_UCERR.CORRECTED sg) = min (s.fld (F.SE_UCERR.CORRECTED sg) + 1) 65535 ∧
      ((t.engine sg).traps.any fun r => r.kind == 0) = true ∧ t.eState sg = s.eState sg ∧
      addr.val ∈ (t.micro sg).upsets ∧ addr.val ∉ ((t.scrub sg).micro sg).upsets ∧
      ∀ g, g ≠ sg.val → t.engine g = s.engine g) ∧
    (∃ t, exec (.localStoreCheckError sg addr false) s = .next t ∧ t.eState sg = 4 ∧
      t = Answered s ((s.fenceEngine sg).report sg kUncorrectable addr) ∧
      (s.eState sg = 1 → t.fld (F.SE_CAUSE.CAUSE sg) = 0x05))) ∧
  (
  ∀ (s : State), s.inUse = true →
    (let svn := s.fld F.SEQ_UCODE_SVN.RUNNING
     let may : Prop := s.fld F.SEQ_UCODE_STATUS.SOURCE = 1 ∧ s.fld F.SEQ_UCODE_SVN.FUSED_MIN < svn ∧ svn ≤ 64
     (may → exec .ucodeCommitSvn s =
       .next ({ s with fuses := { s.fuses with ucWrite := some svn } }.setFld F.SEQ_UCODE_SVN.COMMIT_BUSY 1)) ∧
     (¬ may → exec .ucodeCommitSvn s = .next s)) ∧
    (let svn := s.fld F.SHR_FWSVN.RUNNING
     let may : Prop := s.fld F.SHR_FWSVN.FUSED_MIN < svn ∧ svn ≤ 64
     (may → exec .fwCommitSvn s =
       .next ({ s with fuses := { s.fuses with fwWrite := some svn } }.setFld F.SHR_FWSVN.COMMIT_BUSY 1)) ∧
     (¬ may → exec .fwCommitSvn s = .next s)) ∧
    (∀ v, s.fuses.ucWrite = some v → exec (.fuseWriteDone false) s = .next
      ({ s with fuses := { s.fuses with ucMin := v, ucWrite := none } }.setFld F.SEQ_UCODE_SVN.COMMIT_BUSY 0)) ∧
    (∀ v, s.fuses.fwWrite = some v → exec (.fuseWriteDone true) s = .next
      ({ s with fuses := { s.fuses with fwMin := v, fwWrite := none } }.setFld F.SHR_FWSVN.COMMIT_BUSY 0)))

/-! ### Timing, compare and the fail log (04_edge_timing.md, 05_compare_and_fail.md) -/

/-- R103, R306: a write of TS_EDGEe stages the time into the bank that WBANK names, in the TIMESET entry of the channel and of the time set
that CH_TSSEL selects, and leaves every value in effect; a LOCKED bank takes nothing and a register access fault is reported. -/
def Obligations.EdgeTimeStages : Prop :=
  ∀ (c : Fin 256) (e : Fin 6) (v : Word) (s : State), s.inUse = true →
    let b := s.fld F.TCK_CTRL.WBANK
    let key := 2 ^ 26 + (c.val * 256 + s.regN (R.CH_TSSEL c) % 256) * 32 + 4 * e.val
    ((s.bank b).locked = true → exec (.tsEdgeWrite c e v) s = .next (s.report 249 kRegAccess (R.TS_EDGE c e))) ∧
    ((s.bank b).locked = false →
      exec (.tsEdgeWrite c e v) s = .next (s.setBank b { s.bank b with vals := Sparse.insert (s.bank b).vals key v }))

/-- R116, R121, R124, R125 (Table — Judgement): the placed strobe of a channel that comes next is judged. In a group whose check-value units
take no sample and whose committed values have not changed since its cycle, a strobe that is not discarded and fails adds one to the
channel's saturating fail count and sets its site's fail bit; one that passes, or is discarded, leaves both. The strobe is taken, and no
byte of memory changes. R117: a crossed sample, CMH and CML both asserted, sets CROSSED, counts in CROSSCNT and signals the channel-
crossed event whatever the strobe's mode; any other sample does none of it. -/
def Obligations.Judgement : Prop :=
  (
  ∀ (c : Fin 256) (v after : Fin 4) (s : State) (t : Strobe),
    (s.strobes.find? fun t => t.ch == c.val) = some t → t.win = false → 1 ≤ t.mode → t.mode ≤ 4 → t.sg < 64 →
    (∀ p ∈ (s.engine t.sg).prior, p.1 ≤ t.cycle) →
    (∀ u, u < 32 → s.cvServes u t.sg = true → s.flag (F.CV_CFG.MODE u) = false) →
    let low : Prop := v = 1
    let high : Prop := v = 2
    let mid : Prop := v = 0
    let passes : Prop := (t.mode = 1 ∧ low) ∨ (t.mode = 2 ∧ high) ∨ (t.mode = 3 ∧ mid) ∨ (t.mode = 4 ∧ (low ∨ high))
    let site := s.siteOf t.sg c
    ∃ n, exec (.strobeJudgement c v after none) s = .next n ∧ n.strobes = s.strobes.erase t ∧
      n.pool = s.pool ∧ n.deep = s.deep ∧ n.host = s.host ∧
      (passes ∨ s.discards t = true →
        n.regN (R.CMP_FAILCNT c) = s.regN (R.CMP_FAILCNT c) ∧ n.regN (R.CMP_SITEFAIL t.sg) = s.regN (R.CMP_SITEFAIL t.sg)) ∧
      (¬ passes → s.discards t = false →
        n.regN (R.CMP_FAILCNT c) = min (s.regN (R.CMP_FAILCNT c) + 1) (2 ^ 32 - 1) ∧
        (site < 16 → bitOf (n.fld (F.CMP_SITEFAIL.FAIL t.sg)) site = true))) ∧
  (
  ∀ (ch v : Nat) (s : State), ch < 256 → v < 4 →
    (v ≠ 3 → s.crossed ch v = s) ∧
    (v = 3 → (s.crossed ch v).fld (F.CMP_CHSTAT.CROSSED ch) = 1 ∧
      (s.crossed ch v).fld (F.CMP_CHSTAT.CROSSCNT ch) = min (s.fld (F.CMP_CHSTAT.CROSSCNT ch) + 1) 65535 ∧
      (s.crossed ch v).flag (evPend (80 + ch / 16)) = true))

/-- R127: CMP_SGCTRL.CLEAR of an IDLE group clears its site fails, the fail count and SAT of every member and every first-fail record; in
any other state it is discarded and reported. A burst's start clears the site fails, and the rest unless KEEPCNT = 1. Neither clears
CROSSED or CROSSCNT. -/
def Obligations.CompareClear : Prop :=
  ∀ (sg : Fin 64) (s : State), s.inUse = true →
    (s.eState sg ≠ 0 → exec (.cmpClear sg) s = .next (s.report 249 kRegAccess (R.CMP_SGCTRL sg))) ∧
    (s.eState sg = 0 → ∃ t, exec (.cmpClear sg) s = .next t ∧ t.regN (R.CMP_SITEFAIL sg) = 0 ∧
      (∀ k, k < 16 → t.regN (R.CMP_FF_0 sg k) = 0 ∧ t.regN (R.CMP_FF_1 sg k) = 0 ∧ t.regN (R.CMP_FF_2 sg k) = 0 ∧
        t.regN (R.CMP_FF_3 sg k) = 0) ∧
      (∀ ch, ch < 256 → s.isMember sg ch = true → t.regN (R.CMP_FAILCNT ch) = 0 ∧ t.fld (F.CMP_CHSTAT.SAT ch) = 0 ∧
        t.fld (F.CMP_CHSTAT.CROSSED ch) = s.fld (F.CMP_CHSTAT.CROSSED ch) ∧
        t.fld (F.CMP_CHSTAT.CROSSCNT ch) = s.fld (F.CMP_CHSTAT.CROSSCNT ch)) ∧
      (∀ ch, ch < 256 → s.isMember sg ch = false → t.regN (R.CMP_FAILCNT ch) = s.regN (R.CMP_FAILCNT ch)) ∧
      t.pool = s.pool ∧ t.engines = s.engines) ∧
    (∀ t0, (s.engine sg).start = some t0 → s.eState sg = 1 → t0 ≤ toTick s.now + 49152 →
      (s.paired sg = true → (s.pair sg).matched = true) → (∀ c ∈ s.groupPend, c.sg ≠ sg.val) →
      (∀ job, ¬ MeetsTack s job t0) →
      let keeps := s.flag (F.CMP_SGCFG.KEEPCNT sg)
      ∃ t, exec (.burstStart sg) s = .next t ∧ t.eState sg = 2 ∧ t.regN (R.CMP_SITEFAIL sg) = 0 ∧
        (∀ k, k < 16 → t.regN (R.CMP_FF_0 sg k) = (if keeps = true then s.regN (R.CMP_FF_0 sg k) else 0) ∧
          t.regN (R.CMP_FF_1 sg k) = (if keeps = true then s.regN (R.CMP_FF_1 sg k) else 0) ∧
          t.regN (R.CMP_FF_2 sg k) = (if keeps = true then s.regN (R.CMP_FF_2 sg k) else 0) ∧
          t.regN (R.CMP_FF_3 sg k) = if keeps = true then s.regN (R.CMP_FF_3 sg k) else 0) ∧
        ∀ ch, ch < 256 → s.isMember sg ch = true →
          t.regN (R.CMP_FAILCNT ch) = (if keeps = true then s.regN (R.CMP_FAILCNT ch) else 0) ∧
          t.fld (F.CMP_CHSTAT.SAT ch) = (if keeps = true then s.fld (F.CMP_CHSTAT.SAT ch) else 0) ∧
          t.fld (F.CMP_CHSTAT.CROSSED ch) = s.fld (F.CMP_CHSTAT.CROSSED ch) ∧
          t.fld (F.CMP_CHSTAT.CROSSCNT ch) = s.fld (F.CMP_CHSTAT.CROSSCNT ch))

/-- R133, R134: in one core cycle the fail writer moves the head of every quadrant's queue into its stream's staging, the rest staying in
order, and then writes the LOST records there is room for. A record that finds room and no loss before it is accepted; one that finds
none is lost: counted in CMP_LOG_DROP and the stream's next LOST record, with LOST set. R133–R135, R138: the drain moves the oldest
record of deep staging to the region, or loses it where the region has no room; an empty staging changes nothing, and while a controller
of the region's allocation trains the drain waits. A chunk begun 1 ms ago is sealed with its records, a younger one waits. A write of
RDPTR inside the span from it to WRPTR, of whole units, with no LOG_UPLOAD of the stream outstanding, moves it, and what found the
region full in that core cycle is judged again; any other is discarded and reported. -/
def Obligations.FailLogging : Prop :=
  (
  (∀ s : State, exec .failRecordStage s =
    .next (Answered s ([0, 1, 2, 3].foldl State.writeLost ([0, 1, 2, 3].foldl State.stageHead s)))) ∧
  (∀ s : State, ∃ t, exec .failRecordStage s = .next t ∧ ∀ q, q < 4 → (t.quad q).queue = (s.quad q).queue.tail) ∧
  (∀ (s : State) (q : Nat) (e : LogEntry) (l : List LogEntry), (s.quad q).queue = e :: l →
    s.stageHead q = (s.setQuad q { s.quad q with queue := l }).stageRecord e.stream e.record true) ∧
  (∀ (s : State) (st rec : Nat) (own : Bool), s.stageRoom st = true → (s.log st).lost = 0 →
    s.stageRecord st rec own = s.accept st rec own) ∧
  (∀ (s : State) (st rec : Nat) (own : Bool), st < 4 → s.stageRoom st = false →
    ∃ l, s.stageRecord st rec own = ((s.setLog st l).addSat (whole (R.CMP_LOG_DROP st)) 1).setFld (F.CMP_LOG_STAT.LOST st) 1 ∧
      l.lost = min ((s.log st).lost + 1) (2 ^ 32 - 1) ∧ l.staged = (s.log st).staged ∧ l.chunk = (s.log st).chunk)) ∧
  (
  ∀ (st : Fin 4) (s : State),
    (s.regionWaits st = true → exec (.failLogDrain st) s = .next s) ∧
    (s.regionWaits st = false →
      let b := s.writeLost st
      (∀ r t, (b.log st).staged = r :: t →
        let d := b.setLog st { b.log st with staged := t }
        exec (.failLogDrain st) s =
          .next (Answered s (if d.regionRoom st then d.storeRecord st r else d.turnAway st r false))) ∧
      ((b.log st).staged = [] → exec (.failLogDrain st) s = .next (Answered s b))) ∧
    ((s.log st).chunkSince + 1000000 ≤ s.clk → (s.log st).chunk ≠ [] →
      ∃ t, exec (.chunkSealTimeout st) s = .next t ∧ (t.log st).chunk = [] ∧ (t.log st).seq = (s.log st).seq + 1 ∧
        t.regN (R.CMP_LOG_WRPTR st) = s.regionNext st % 2 ^ 32) ∧
    (s.clk < (s.log st).chunkSince + 1000000 → exec (.chunkSealTimeout st) s = .next s) ∧
    (∀ v : Word, s.inUse = true →
      let first := s.regionFirst st
      let size := s.regionSize st
      let rd := s.regN (R.CMP_LOG_RDPTR st)
      let wr := s.regN (R.CMP_LOG_WRPTR st)
      let legal : Prop := first ≤ v.toNat ∧ v.toNat < size ∧
        (v.toNat + (size - first) - rd) % (size - first) ≤ (wr + (size - first) - rd) % (size - first) ∧
        s.uploadOpen st = false ∧ (s.logEncrypts st = true → v.toNat % 4096 = 0)
      (legal → exec (.cmpLogRdptrWrite st v) s =
        .next (Answered s ((((s.setReg (R.CMP_LOG_RDPTR st) v.toNat).retryDenied st).showFull st).writeLost st))) ∧
      (¬ legal → exec (.cmpLogRdptrWrite st v) s = .next (s.report 249 kRegAccess (R.CMP_LOG_RDPTR st)))))

/-! ### Source units (07_source_and_modulation.md) -/

/-- R163, R166: at a boundary, with no jump pending, an entry with repeats left plays its segment again; one whose repeats are done stops
the unit if it has END, else NEXT plays. A pending jump that takes effect there plays its entry, whatever repeats are left and whatever
END says, and SRC_JSTAT records it; one for the following boundary waits for it, and is discarded if the unit stops. Where the unit does
not stand at a boundary nothing changes. R167–R169: a write of SRC_RING_WRPTR that is not a multiple of 32, lies outside the ring or
moves past its capacity is discarded and reported; any other sets WRPTR and nothing else. A PLAYING unit reads its next ring word no
earlier than 205 ns before its first sample plays: RDPTR moves 32 bytes on round the ring, and LOW is set if the filled bytes fall below
the low-water mark with it; or, where WRPTR covers no more, the word is an under-run and RDPTR stays; behind an under-run it reads no
further. -/
def Obligations.SourceUnits : Prop :=
  (
  ∀ (u : Fin 16) (s : State),
    let v := s.src u
    let q := s.seqEntry 4 u (s.fld (F.SRC_STAT.ENTRY u))
    let done := s.fld (F.SRC_STAT.REPDONE u) + 1
    let goes (e r : Nat) (j : Option PendingJump) : Prop :=
      ∃ t, exec (.srcBoundary u) s = .next t ∧ t.srcState u = 1 ∧ t.fld (F.SRC_STAT.ENTRY u) = e ∧
        t.fld (F.SRC_STAT.REPDONE u) = r ∧ (t.src u).k = 0 ∧ (t.src u).jump = j ∧ t.engines = s.engines ∧ t.pool = s.pool
    let stops : Prop := ∃ t, exec (.srcBoundary u) s = .next t ∧ t.srcState u = 0 ∧ (t.src u).jump = none ∧
      (v.jump.isSome = true → t.fld (F.SRC_JSTAT.DISCARDED u) = 1)
    let here : Prop := s.srcState u = 1 ∧ (s.segment 3 u q.seg).length ≤ v.k
    (¬ here → exec (.srcBoundary u) s = .next s) ∧
    (here → v.jump = none →
      (done < q.reps → goes (s.fld (F.SRC_STAT.ENTRY u)) done none) ∧
      (q.reps ≤ done → q.ends = true → stops) ∧
      (q.reps ≤ done → q.ends = false → goes q.next 0 none)) ∧
    (∀ j, here → v.jump = some j → j.skip = 0 → j.entry < 1024 → j.lead < 65536 →
      goes j.entry 0 none ∧ ∀ t, exec (.srcBoundary u) s = .next t →
        t.fld (F.SRC_JSTAT.VALID u) = 1 ∧ t.fld (F.SRC_JSTAT.ENTRY u) = j.entry ∧ t.fld (F.SRC_JSTAT.LEAD u) = j.lead ∧
        t.fld (F.SRC_JSTAT.FOLLOWING u) = if j.lead < 12 then 1 else 0) ∧
    (∀ j, here → v.jump = some j → 0 < j.skip →
      (done < q.reps → goes (s.fld (F.SRC_STAT.ENTRY u)) done (some { j with skip := j.skip - 1 })) ∧
      (q.reps ≤ done → q.ends = true → stops) ∧
      (q.reps ≤ done → q.ends = false → goes q.next 0 (some { j with skip := j.skip - 1 })))) ∧
  (
  ∀ (u : Fin 16) (value : Word) (s : State),
    let size := s.ringSize u
    let v := value.toNat
    let full : Prop := size < s.ringFilled u + (v + size - s.regN (R.SRC_RING_WRPTR u)) % size + 32
    let reads : Prop := s.srcState u = 1 ∧ (s.src u).words.getLast? ≠ some none ∧ ∃ d, s.wordDistance u = some d ∧ d ≤ 205 * 8192
    (s.inUse = true → v % 32 ≠ 0 ∨ size ≤ v ∨ full →
      exec (.srcRingWrptrWrite u value) s = .next (s.report 249 kRegAccess (R.SRC_RING_WRPTR u))) ∧
    (s.inUse = true → v % 32 = 0 → v < size → ¬ full →
      exec (.srcRingWrptrWrite u value) s = .next (s.setReg (R.SRC_RING_WRPTR u) v)) ∧
    (s.inUse = false → exec (.srcRingWrptrWrite u value) s = .next s) ∧
    (¬ reads → exec (.srcRingRead u) s = .next s) ∧
    (reads → size = 0 ∨ s.ringFilled u = 0 →
      exec (.srcRingRead u) s = .next (s.setSrc u { s.src u with words := (s.src u).words ++ [none] })) ∧
    (reads → 0 < size → s.ringFilled u ≠ 0 → s.regN (R.SRC_RING_RDPTR u) < 2 ^ 32 - 32 →
      ∃ t, exec (.srcRingRead u) s = .next t ∧ t.regN (R.SRC_RING_RDPTR u) = (s.regN (R.SRC_RING_RDPTR u) + 32) % size ∧
        (t.src u).words = (s.src u).words ++
          [some (s.poolNum (s.regN (R.SRC_RING_BASE u) + s.regN (R.SRC_RING_RDPTR u)) 32)] ∧
        t.regN (R.SRC_RING_WRPTR u) = s.regN (R.SRC_RING_WRPTR u) ∧ t.pool = s.pool ∧
        t.fld (F.SRC_FLAGS.LOW u) = if s.regN (R.SRC_RING_LOW u) ≤ s.ringFilled u ∧ t.ringFilled u < s.regN (R.SRC_RING_LOW u) then 1
          else s.fld (F.SRC_FLAGS.LOW u)))

/-! ### Acquisition (08_acquisition.md) -/

/-- R187, R190: a filling unit whose PRE words are stored is READY; a triggered unit whose POST words are stored closes its record, counts
it and enters REARM, or, after its last record, its task's work has ended OK and it is IDLE; after eight REARM words the next fill
begins. Before that each of these leaves the state as it is. R188, R195, R199: a write of AQ_CTRL.ARM, FORCE or STOP is kept for the
unit's next word and changes nothing else; a CMH transition of the locator's lane is kept while the unit is armed with the locator
enabled, at the trimmed instant of its phase step; a staged word of a spilling capture is copied to its place in the spill region,
unless a controller of it has still to train (R253). -/
def Obligations.AcquisitionTransitions : Prop :=
  (
  ∀ (u : Fin 16) (s : State),
    let a := s.acq u
    (s.aqState u = 2 → s.aqPre u ≤ a.fill → exec (.acqPrefillDone u) s = .next (s.setFld (F.AQ_STAT.STATE u) 3)) ∧
    (s.aqState u ≠ 2 ∨ a.fill < s.aqPre u → exec (.acqPrefillDone u) s = .next s) ∧
    (s.aqState u = 4 → s.aqPost u ≤ a.post → s.fld (F.AQ_STAT.RECORD u) + 1 < a.nrec → s.fld (F.AQ_STAT.RECORD u) < 65535 →
      ∃ t, exec (.acqRecordClose u) s = .next t ∧ t.aqState u = 5 ∧
        t.fld (F.AQ_STAT.RECORD u) = s.fld (F.AQ_STAT.RECORD u) + 1 ∧ (t.acq u).fill = 0 ∧ (t.acq u).rearm = 0 ∧
        (t.acq u).spill = [] ∧ t.engines = s.engines) ∧
    (∀ k, s.aqState u = 4 → s.aqPost u ≤ a.post → a.nrec ≤ s.fld (F.AQ_STAT.RECORD u) + 1 → s.fld (F.AQ_STAT.RECORD u) < 65535 →
      a.slot = some k → (s.slot k).state = .running →
      ∃ t, exec (.acqRecordClose u) s = .next t ∧ t.aqState u = 0 ∧
        (t.slot k).done = some (stOk, 0, s.fld (F.AQ_STAT.RECORD u) + 1)) ∧
    (s.aqState u ≠ 4 ∨ a.post < s.aqPost u → exec (.acqRecordClose u) s = .next s) ∧
    (s.aqState u = 5 → 8 ≤ a.rearm → exec (.acqRearmEnd u) s =
      .next ((s.setAcq u { a.newRecord with fresh := true }).setFld (F.AQ_STAT.STATE u) 2)) ∧
    (s.aqState u ≠ 5 ∨ a.rearm < 8 → exec (.acqRearmEnd u) s = .next s)) ∧
  (
  ∀ (u : Fin 16) (s : State), s.inUse = true →
    exec (.aqArm u) s = .next (s.setAcq u { s.acq u with reqArm := true }) ∧
    exec (.aqForce u) s = .next (s.setAcq u { s.acq u with reqForce := true }) ∧
    exec (.aqStop u) s = .next (s.setAcq u { s.acq u with reqStop := true }) ∧
    (∀ phase, s.flag (F.AQ_LOC.EN u) = true → 2 ≤ s.aqState u → exec (.locatorTransition u phase) s = .next
      (s.setAcq u { s.acq u with locs :=
        ((phase : Int) * 64 + s.trimAt (4096 + u.val / 4 * 64 + phase % 64) - s.skew) :: (s.acq u).locs })) ∧
    (∀ phase, s.flag (F.AQ_LOC.EN u) = false ∨ s.aqState u < 2 → exec (.locatorTransition u phase) s = .next s) ∧
    ((s.aqSpillAlloc u).any s.deepWaits = true → exec (.captureSpillDrain u) s = .next s) ∧
    (∀ w t, (s.aqSpillAlloc u).any s.deepWaits = false → (s.acq u).spill = w :: t → exec (.captureSpillDrain u) s =
      .next (Answered s ((s.spaceWrite 2 w.1 w.2).setAcq u { s.acq u with spill := t }))) ∧
    ((s.acq u).spill = [] → exec (.captureSpillDrain u) s = .next s))

/-- R182, R188–R193: a place that gives an armed unit no word changes nothing; one that gives a word to a unit without a task takes the
waiting requests, and an ARM among them sets NOTASK; one that gives a word to a FILLING or READY unit, with no request waiting and no
record at its end, indexes the word, and stores it in the record: READY with a trigger event becomes POST and signals the acquisition-
trigger event, FILLING with one counts an ignored event. -/
def Obligations.CaptureWords : Prop :=
  ∀ (u : Fin 16) (cycle : Nat) (sub : Fin 8) (s : State),
    let q := if s.fld (F.AQ_CFG.FORMAT u) = 2 then 7 else sub.val
    (s.aqProduces u cycle q = false → exec (.captureWord u cycle sub) s = .next s) ∧
    (s.aqProduces u cycle q = true → s.aqState u = 0 → (s.acq u).reqArm = true →
      ∃ t, exec (.captureWord u cycle sub) s = .next t ∧ t.fld (F.AQ_FLAGS.NOTASK u) = 1 ∧ (t.acq u).reqArm = false ∧
        t.aqState u = 0) ∧
    (s.aqProduces u cycle q = true → (s.aqState u = 2 ∨ s.aqState u = 3) →
      (s.aqState u = 2 → (s.acq u).fill < s.aqPre u) → (s.acq u).requests cycle = (false, false, false) →
      (s.acq u).idle = none → (∀ p ∈ (s.acq u).requal, cycle < p.1) → (∀ p ∈ (s.engine (s.aqSg u)).prior, p.1 ≤ cycle) → s.aqIndex u < 2 ^ 64 - 1 →
      let map := s.eventMap u (s.aqWord u cycle q).1 (s.aqFailed u cycle q) false
      ∃ t, exec (.captureWord u cycle sub) s = .next t ∧ t.aqIndex u = s.aqIndex u + 1 ∧
        (map = 0 → t.aqState u = s.aqState u ∧ (t.acq u).fill = (s.acq u).fill + 1) ∧
        (map ≠ 0 → s.aqState u = 3 → t.aqState u = 4 ∧ t.fld (F.AQ_FLAGS.TRIGD u) = 1 ∧ t.flag (evPend (112 + u.val)) = true ∧
          (t.acq u).trigMap = map ∧ (t.acq u).trigWord = s.aqIndex u ∧ (t.acq u).post = (s.acq u).post + 1) ∧
        (map ≠ 0 → s.aqState u = 2 → t.aqState u = 2 ∧
          t.fld (F.AQ_IGN.PREFILL u) = min (s.fld (F.AQ_IGN.PREFILL u) + 1) 65535))

/-! ### Time-interval units (09_interval_measurement.md) -/

/-- R205: a ring update, at most one in 4,096 pattern cycles (2,048 ns), stores the measured periods, plausible or not. Plausible ones (Δ
between 200 fs and 300 fs, the slow ring between 25 ps and 35 ps, neither more than 0.5 % from its value before, if there was one) are
used from then on, and the sixteenth in a row ends fallback; others leave the periods in use, start the row afresh and put the converter
in fallback, and where it was not in fallback that is recorded and signalled. -/
def Obligations.RingTracking : Prop :=
  ∀ (u : Fin 64) (slow fast : Word) (s : State),
    let d := s.tdc u
    let f := slow.toNat
    let g := fast.toNat
    let ok : Prop := g ≤ f ∧ 200 * 2 ^ 24 ≤ (f - g) * 10 ^ 6 ∧ (f - g) * 10 ^ 6 ≤ 300 * 2 ^ 24 ∧
      25 * 2 ^ 24 ≤ f * 1000 ∧ f * 1000 ≤ 35 * 2 ^ 24 ∧
      (d.updated.isSome = true → ∀ p ∈ [(f, s.regN (R.TDC_RINGS u)), (g, s.regN (R.TDC_RINGF u))],
        200 * p.1 ≤ 201 * p.2 ∧ 199 * p.2 ≤ 200 * p.1)
    let due : Prop := ∀ t, d.updated = some t → t + 2048 ≤ s.clk
    (¬ due → exec (.tdcRingUpdate u slow fast) s = .next s) ∧
    (due → ∃ t, exec (.tdcRingUpdate u slow fast) s = .next t ∧ t.regN (R.TDC_RINGS u) = f ∧ t.regN (R.TDC_RINGF u) = g ∧
      (t.tdc u).updated = some s.clk ∧ t.pool = s.pool ∧
      (ok → (t.tdc u).slow = f ∧ (t.tdc u).fast = g ∧ (t.tdc u).plausible = min (d.plausible + 1) 16 ∧
        t.flag (F.TDC_STAT.FALLBACK u) = (decide (d.plausible < 15) && s.flag (F.TDC_STAT.FALLBACK u)) ∧ t.messages = s.messages) ∧
      (¬ ok → (t.tdc u).slow = d.slow ∧ (t.tdc u).fast = d.fast ∧ (t.tdc u).plausible = 0 ∧
        t.flag (F.TDC_STAT.FALLBACK u) = true ∧
        (s.flag (F.TDC_STAT.FALLBACK u) = false → t.flag (F.TDC_STAT.FBSEEN u) = true ∧ t.flag (evPend (128 + u)) = true)))

/-- R206–R209: a transition at an input that an armed unit uses waits for its minimum-width decision, where MINW is not 0. With MINW = 0 it
restarts stuck detection at once; one of the other polarity goes no further; one within HOLDOFF of the latest edge that passed is
counted in HOLD; one the prescaler holds back is counted by it; an edge that comes within 205 steps of the previous converted one, by
phase step and ring count (log 107), is dropped and counted; any other starts a conversion at its time, with the mode and ring periods
of its arrival. An input that is not used, or of a unit that is not armed, measures nothing. R207, R208: the oldest waiting transition
of an input is decided MINW steps after it. Before that, and with none waiting, nothing changes. It and a next one less than MINW after
it vanish together and count in NARROW; otherwise it passes on, and one of the other polarity restarts stuck detection and goes no
further. While an armed unit's used input keeps its level for TIMEOUT µs, STUCK is set and signalled, once. -/
def Obligations.IntervalInputs : Prop :=
  (
  ∀ (u : Fin 64) (onB : Bool) (phase rings : Nat) (rising : Bool) (s : State),
    let e := s.tdcArrival u onB phase rings rising
    let i := s.tdcInput u onB
    let k := converterOf u onB
    let used : Prop := s.tdcArmed u = true ∧ onB ∈ s.tdcInputs u
    let pol : Prop := s.tdcPol u onB = 2 ∨ (s.tdcPol u onB = 0 ∧ rising = true) ∨ (s.tdcPol u onB = 1 ∧ rising = false)
    let held : Prop := ∃ l, i.lastPass = some l ∧ e.instant < l + (s.fld (F.TDC_COND.HOLDOFF u) * 64 : Nat) * 2 ^ 25
    let skips : Prop := 2 ≤ s.tdcMode u ∧ i.prescale ≠ s.fld (F.TDC_CFG.PRESCALE u)
    let busy : Prop := ∃ l, (s.tdc k).lastConv = some l ∧ e.instant < l + 205 * 2 ^ 25
    let i' := { i with stuckSince := s.clk, stuckSent := false }
    (¬ used → exec (.tdcInputEdge u onB phase rings rising) s = .next s) ∧
    (used → s.fld (F.TDC_COND.MINW u) ≠ 0 → exec (.tdcInputEdge u onB phase rings rising) s =
      .next (s.setTdcInput u onB { i with waiting := i.waiting ++ [e] })) ∧
    (used → s.fld (F.TDC_COND.MINW u) = 0 →
      (¬ pol → exec (.tdcInputEdge u onB phase rings rising) s = .next (s.setTdcInput u onB i')) ∧
      (pol → held → exec (.tdcInputEdge u onB phase rings rising) s =
        .next ((s.setTdcInput u onB i').addSat (F.TDC_IGN.HOLD u) 1)) ∧
      (pol → ¬ held → skips → ∃ t, exec (.tdcInputEdge u onB phase rings rising) s = .next t ∧
        t.tdcInput u onB = { i' with lastPass := some e.instant, prescale := i.prescale + 1 } ∧ (t.tdc u).conv = (s.tdc u).conv) ∧
      (pol → ¬ held → ¬ skips → busy → ∃ t, exec (.tdcInputEdge u onB phase rings rising) s = .next t ∧
        t.regN (R.TDC_DROP u) = min (s.regN (R.TDC_DROP u) + 1) (2 ^ 32 - 1) ∧ t.fld (F.TDC_STAT.OVERRUN u) = 1 ∧
        (t.tdc u).dropped = true ∧ (t.tdc u).conv = (s.tdc u).conv) ∧
      (pol → ¬ held → ¬ skips → ¬ busy → ∃ t, exec (.tdcInputEdge u onB phase rings rising) s = .next t ∧
        (t.tdc u).conv = (s.tdc u).conv ++
          [⟨s.edgeTime u onB e, onB, rising, s.tdcFallback k, (s.tdc u).accepted + 1⟩] ∧
        (t.tdc k).lastConv = some e.instant ∧ t.regN (R.TDC_DROP u) = s.regN (R.TDC_DROP u) ∧ t.pool = s.pool))) ∧
  (
  ∀ (u : Fin 64) (onB : Bool) (s : State),
    let i := s.tdcInput u onB
    let m := s.fld (F.TDC_COND.MINW u)
    let w := s.fld (F.TDC_STUCK.TIMEOUT u)
    let stuck : Prop := s.tdcArmed u = true ∧ onB ∈ s.tdcInputs u ∧ w ≠ 0 ∧ i.stuckSent = false ∧ i.stuckSince + w * 1000 ≤ s.clk
    (i.waiting = [] → exec (.tdcMinwDecision u onB) s = .next s) ∧
    (∀ e t, i.waiting = e :: t → (s.now : Int) < e.instant + m * 2 ^ 25 → exec (.tdcMinwDecision u onB) s = .next s) ∧
    (∀ e e' t, i.waiting = e :: e' :: t → e.instant + m * 2 ^ 25 ≤ s.now → e'.instant < e.instant + m * 2 ^ 25 →
      exec (.tdcMinwDecision u onB) s = .next ((s.setTdcInput u onB { i with waiting := t }).addSat (F.TDC_IGN.NARROW u) 1)) ∧
    (∀ e t, i.waiting = e :: t → e.instant + m * 2 ^ 25 ≤ s.now → (∀ e' ∈ t.head?, e.instant + m * 2 ^ 25 ≤ e'.instant) →
      s.tdcPol u onB = (if e.rising then 1 else 0) →
      exec (.tdcMinwDecision u onB) s =
        .next (s.setTdcInput u onB { i with waiting := t, stuckSince := s.clk, stuckSent := false })) ∧
    (¬ stuck → exec (.tdcStuckTimeout u onB) s = .next s) ∧
    (stuck → ∃ t, exec (.tdcStuckTimeout u onB) s = .next t ∧ t.fld (F.TDC_STAT.STUCK u) = 1 ∧
      (t.tdcInput u onB).stuckSent = true ∧ t.flag (evPend (128 + u)) = true ∧ t.pool = s.pool))

/-- R210–R212, R214: the unit's oldest conversion ends. In STAMP mode it is written as the next record; in INTERVAL mode an edge at A opens
a measurement, and one at B not before it writes the difference of the times, also where the B edge, later by its time, was converted
first; in PERIOD mode the edge PERIODS periods after the first writes the time between and opens the next measurement. Record n of 16
bytes stands at TDC_RES_BASE + 16 n, TDC_DONE counts it, and record NRES − 1 completes the task's work OK and leaves the unit IDLE.
Nothing else of the pool changes. R210, R214, R215: a FREQ gate closes when its instant has come and its conversions are complete: a
gate with two accepted edges or more writes the time between its first and last and its periods, and the next opens; before that nothing
changes. A waiting set arms at TDC_TSTART with TDC_DONE cleared; TIMEOUT µs after arming the set ends OK with TIMEOUT set and the
records written as its result; where a conversion is in progress it ends with the core cycle, so that its last record may still complete
it (the model's choice, log 109). -/
def Obligations.IntervalResults : Prop :=
  (
  ∀ (u : Fin 64) (s : State) (c : Conversion) (rest : List Conversion),
    let d := s.tdc u
    let n := s.regN (R.TDC_DONE u)
    let writes (value : Int) (count : Nat) (fallback rising : Bool) : Prop :=
      ∃ t, exec (.tdcConversionDone u) s = .next t ∧ t.regN (R.TDC_DONE u) = n + 1 ∧ (t.tdc u).dropped = false ∧
        t.pool = Sparse.setMany poolDefault s.pool (s.regN (R.TDC_RES_BASE u) + 16 * n)
          (tdcRecord (s.tdcMode u) fallback d.dropped rising count (unsigned 96 value)) ∧
        (n + 1 < d.nres → t.tdcArmed u = true ∧ (t.tdc u).conv = rest ∧ (t.tdc u).slot = d.slot ∧
          (t.tdc u).start = if s.tdcMode u = 2 then some c else if s.tdcMode u = 1 then none else d.start) ∧
        (d.nres ≤ n + 1 → ∀ k, d.slot = some k → (s.slot k).state = .running →
          t.fld (F.TDC_STAT.STATE u) = 0 ∧ (t.slot k).done = some (stOk, 0, n + 1))
    d.conv = c :: rest → n < 2 ^ 32 - 1 →
    (s.tdcArmed u = false → exec (.tdcConversionDone u) s = .next (s.setTdc u { d with conv := rest })) ∧
    (s.tdcArmed u = true →
      (s.tdcMode u = 0 → writes c.time 0 c.fallback c.rising) ∧
      (s.tdcMode u = 1 → d.start = none → c.onB = false → (∀ x, d.closedB = some x → x ≤ c.time) →
        (∀ b ∈ d.freeB, b.time < c.time) →
        exec (.tdcConversionDone u) s = .next (s.setTdc u { d with conv := rest, start := some c, freeB := [] })) ∧
      (∀ b l, s.tdcMode u = 1 → d.start = none → c.onB = false → (∀ x, d.closedB = some x → x ≤ c.time) →
        d.freeB.filter (fun b => decide (c.time ≤ b.time)) = b :: l →
        writes (b.time - c.time) 0 (c.fallback || b.fallback) b.rising) ∧
      (∀ x, s.tdcMode u = 1 → d.start = none → c.onB = false → d.closedB = some x → c.time < x →
        exec (.tdcConversionDone u) s = .next (s.setTdc u { d with conv := rest })) ∧
      (s.tdcMode u = 1 → d.start = none → c.onB = true →
        ∃ l, exec (.tdcConversionDone u) s = .next (s.setTdc u { d with conv := rest, freeB := l ++ [c] }) ∧ l.Sublist d.freeB) ∧
      (∀ a, s.tdcMode u = 1 → d.start = some a → c.onB = true → a.time ≤ c.time →
        writes (c.time - a.time) 0 (a.fallback || c.fallback) c.rising) ∧
      (∀ a, s.tdcMode u = 1 → d.start = some a → (c.onB = false ∨ c.time < a.time) →
        exec (.tdcConversionDone u) s = .next (s.setTdc u { d with conv := rest })) ∧
      (s.tdcMode u = 2 → d.start = none → exec (.tdcConversionDone u) s =
        .next (s.setTdc u { d with conv := rest, start := some c, fellBack := c.fallback })) ∧
      (∀ a, s.tdcMode u = 2 → d.start = some a → s.fld (F.TDC_PERIODS.PERIODS u) ≤ c.accepted - a.accepted →
        s.tdcPeriods u a.accepted c.accepted < 2 ^ 24 →
        writes (c.time - a.time) (s.tdcPeriods u a.accepted c.accepted) (d.fellBack || c.fallback) c.rising))) ∧
  (
  ∀ (u : Fin 64) (s : State),
    let d := s.tdc u
    let n := s.regN (R.TDC_DONE u)
    (s.gateDue u = false ∨ s.tdcArmed u = false ∨ s.tdcMode u ≠ 3 → exec (.tdcGateEnd u) s = .next s) ∧
    (∀ a b, s.gateDue u = true → s.tdcArmed u = true → s.tdcMode u = 3 → d.start = some a → d.lastEdge = some b →
      a.accepted ≠ b.accepted → s.tdcPeriods u a.accepted b.accepted < 2 ^ 24 → n + 1 < d.nres → n < 2 ^ 32 - 1 →
      ∃ t, exec (.tdcGateEnd u) s = .next t ∧ t.regN (R.TDC_DONE u) = n + 1 ∧
        t.pool = Sparse.setMany poolDefault s.pool (s.regN (R.TDC_RES_BASE u) + 16 * n)
          (tdcRecord 3 d.fellBack d.dropped b.rising (s.tdcPeriods u a.accepted b.accepted) (unsigned 96 (b.time - a.time))) ∧
        (t.tdc u).start = none ∧ (t.tdc u).gateStart = s.gateEndAt u) ∧
    (d.slot.isSome = true → d.armedAt = none → s.tdcStartNs u * 2 ^ 32 ≤ s.now →
      ∃ t, exec (.tdcSetArm u) s = .next t ∧ t.regN (R.TDC_DONE u) = 0 ∧ t.tdcArmed u = true ∧ (t.tdc u).armedAt = some s.clk ∧
        (t.tdc u).conv = [] ∧ (t.tdc u).start = none ∧ t.pool = s.pool) ∧
    (d.slot = none ∨ d.armedAt.isSome = true ∨ s.now < s.tdcStartNs u * 2 ^ 32 → exec (.tdcSetArm u) s = .next s) ∧
    (∀ a k, d.armedAt = some a → s.regN (R.TDC_TIMEOUT u) ≠ 0 → a + s.regN (R.TDC_TIMEOUT u) * 1000 ≤ s.clk →
      d.slot = some k → (s.slot k).state = .running → d.lapsed = none → d.conv = [] →
      ∃ t, exec (.tdcSetTimeout u) s = .next t ∧ t.fld (F.TDC_STAT.TIMEOUT u) = 1 ∧ t.fld (F.TDC_STAT.STATE u) = 0 ∧
        (t.slot k).done = some (stOk, 0, n) ∧ t.pool = s.pool) ∧
    (∀ a, d.armedAt = some a → s.regN (R.TDC_TIMEOUT u) ≠ 0 → a + s.regN (R.TDC_TIMEOUT u) * 1000 ≤ s.clk → d.lapsed = none →
      d.conv ≠ [] → exec (.tdcSetTimeout u) s = .next (s.setTdc u { d with lapsed := some s.cycle })) ∧
    (d.armedAt = none ∨ s.regN (R.TDC_TIMEOUT u) = 0 ∨ (∃ a, d.armedAt = some a ∧ s.clk < a + s.regN (R.TDC_TIMEOUT u) * 1000) →
      exec (.tdcSetTimeout u) s = .next s))

/-! ### Capture processors (10_capture_processors.md) -/

/-- R224–R228: one element of a running job whose operands hold no error. A MAC adds the product to each used lane's accumulator, limited to
80 bits, and a lane that is limited sets its AOV bit and holds from then on; a HIST counts the element below, above, or in its bin,
whose number comes of a shift that rounds half up (DEDUCED, log 110) and which stays at 0xFFFF_FFFF; a MINMAX keeps the first least and
the first greatest value; a MOVE with a fixed shift writes the product, rounded half up and limited, as the element of generator D. The
element counts; MAC and MINMAX write nothing. R230, R233: an element whose operands lie in a pool word that cannot be corrected is not
processed. The first time the task is interrupted, to run again from its start; a task that has been replayed ends TESTER_FAULT without
a result block, the elements done as its result. R221, R222, R229: a job whose elements are all done writes its result block, counts,
leaves its processor idle and ends its task's work, OK_WITH_OVERFLOW with the mask of lanes where anything saturated, else OK; before
that nothing changes. A write of a buffer's BASE, LEN or PTR that breaks their alignment is discarded and reported; one while the
processor runs a job is held, and every register in effect reads as before; one while it is idle applies at once, with PTR reduced below
LEN. -/
def Obligations.CaptureJobs : Prop :=
  (
  ∀ (k : Fin 4096) (s : State),
    let d := (s.slot k).desc
    let p := dsCpx d
    let j := s.job (dsJob d)
    let c := s.cpx p
    let i := c.elems
    let a := s.genValue p j.a j.n i 0
    s.works k 0x08 = true → (s.slot k).replay = false → c.slot = some k.val → i < j.n → s.jobPoisoned p j i = false →
    (j.op = 0 → j.nlanes ≤ 16 →
      ∃ t, exec (.dsp k 1) s = .next t ∧ (t.cpx p).elems = i + 1 ∧ t.pool = s.pool ∧
        ∀ l, l < 16 →
          let x := nth c.acc l 0 + a * s.genValue p j.b j.n i l
          (l < j.nlanes → bitOf (s.fld (F.CPX_AOV.LANES p)) l = false →
            nth (t.cpx p).acc l 0 = max (-(2 ^ 79)) (min (2 ^ 79 - 1) x) ∧
            bitOf (t.fld (F.CPX_AOV.LANES p)) l = decide (x < -(2 ^ 79) ∨ 2 ^ 79 ≤ x)) ∧
          (j.nlanes ≤ l ∨ bitOf (s.fld (F.CPX_AOV.LANES p)) l = true →
            nth (t.cpx p).acc l 0 = nth c.acc l 0 ∧
            bitOf (t.fld (F.CPX_AOV.LANES p)) l = bitOf (s.fld (F.CPX_AOV.LANES p)) l)) ∧
    (j.op = 1 →
      let b := rnd a j.bshift - j.boff
      let at' := s.genAddr p j.d j.n b.toNat 0
      let v := s.poolNum at' 4
      ∃ t, exec (.dsp k 1) s = .next t ∧ (t.cpx p).elems = i + 1 ∧
        (b < 0 → (t.cpx p).under = c.under + 1 ∧ t.pool = s.pool) ∧
        (j.bins ≤ b → 0 ≤ b → (t.cpx p).above = c.above + 1 ∧ t.pool = s.pool) ∧
        (0 ≤ b → b < j.bins → v ≠ 2 ^ 32 - 1 →
          t.pool = Sparse.setMany poolDefault s.pool at' (toBytes j.d.size (v + 1))) ∧
        (0 ≤ b → b < j.bins → v = 2 ^ 32 - 1 → (t.cpx p).bsat = true ∧ t.pool = s.pool)) ∧
    (j.op = 2 →
      ∃ t, exec (.dsp k 1) s = .next t ∧ (t.cpx p).elems = i + 1 ∧ t.pool = s.pool ∧
        (t.cpx p).low = (match c.low with | some m => if a < m.1 then some (a, i) else some m | none => some (a, i)) ∧
        (t.cpx p).high = (match c.high with | some m => if m.1 < a then some (a, i) else some m | none => some (a, i))) ∧
    (j.op = 3 → j.autoscale = false →
      let w := if j.owidth = 0 then 16 else 32
      let x := rnd (a * if j.nob then 1 else s.genValue p j.b j.n i 0) j.shift
      let y := max (-(2 ^ (w - 1))) (min (2 ^ (w - 1) - 1) x)
      ∃ t, exec (.dsp k 1) s = .next t ∧ (t.cpx p).elems = i + 1 ∧
        t.pool = Sparse.setMany poolDefault s.pool (s.genAddr p j.d j.n i 0) (toBytes j.d.size (unsigned (8 * j.d.size) y)) ∧
        (x ≠ y → (t.cpx p).esat = true ∧ t.fld (F.CPX_FLAGS.ESAT p) = 1) ∧ (x = y → (t.cpx p).esat = c.esat))) ∧
  (
  ∀ (k : Fin 4096) (s : State),
    let d := (s.slot k).desc
    let p := dsCpx d
    let j := s.job (dsJob d)
    let i := (s.cpx p).elems
    s.works k 0x08 = true → (s.slot k).replay = false → (s.cpx p).slot = some k.val → i < j.n → j.group i = [i] →
    s.jobPoisoned p j i = true →
    ((s.slot k).replayed = false →
      ∃ t, exec (.dsp k 1) s = .next t ∧ (t.cpx p).slot = none ∧ (t.cpx p).acc = (s.cpx p).acc ∧ (t.slot k).replay = true ∧
        (t.slot k).replayed = true ∧ (t.slot k).done = none ∧ t.pool = s.pool) ∧
    ((s.slot k).replayed = true →
      ∃ t, exec (.dsp k 1) s = .next t ∧ (t.cpx p).slot = none ∧ (t.slot k).done = some (stTesterFault, 0, i) ∧ t.pool = s.pool)) ∧
  (
  (∀ (k : Fin 4096) (s : State),
    let d := (s.slot k).desc
    let p := dsCpx d
    let j := s.job (dsJob d)
    let c := s.cpx p
    let aov := if j.op = 0 then s.fld (F.CPX_AOV.LANES p) else 0
    let past : Prop := aov ≠ 0 ∨ c.bsat = true ∨ c.esat = true
    (s.works k 0x08 = false ∨ c.slot ≠ some k.val ∨ c.elems < j.n → exec (.dspJobComplete k) s = .next s) ∧
    (s.works k 0x08 = true → c.slot = some k.val → j.n ≤ c.elems → s.fld (F.CPX_STAT.STATE p) = 1 →
      ∃ t, exec (.dspJobComplete k) s = .next t ∧
        t.pool = Sparse.setMany poolDefault s.pool j.result (s.resultBlock p j false) ∧
        t.fld (F.CPX_STAT.STATE p) = 0 ∧ t.fld (F.CPX_STAT.JOBS p) = min (s.fld (F.CPX_STAT.JOBS p) + 1) 65535 ∧
        (t.cpx p).slot = none ∧ (t.cpx p).acc = c.acc ∧ (t.cpx p).held = [] ∧
        (past → (t.slot k).done = some (stOverflow, aov, c.elems)) ∧ (¬ past → (t.slot k).done = some (stOk, 0, c.elems)))) ∧
  (∀ (p b : Fin 8) (which : Fin 3) (value : Word) (s : State), s.inUse = true →
    let v := value.toNat
    let bad : Prop := (which.val = 0 ∧ v % 64 ≠ 0) ∨ (which.val = 1 ∧ (v % 64 ≠ 0 ∨ v = 0))
    let runs : Prop := s.fld (F.CPX_STAT.STATE p) = 1
    let len := if which.val = 1 then v else s.regN (R.CPX_CB_LEN p b)
    let ptr := if which.val = 2 then v else s.regN (R.CPX_CB_PTR p b)
    (bad → exec (.cpxCbWrite p b which value) s = .next (s.report 249 kRegAccess (cbReg p b which))) ∧
    (¬ bad → runs → ∃ t, exec (.cpxCbWrite p b which value) s = .next t ∧
      (∀ w, w < 3 → t.regN (cbReg p b w) = s.regN (cbReg p b w)) ∧
      Sparse.find? (t.cpx p).held (3 * b + which) = some value ∧
      bitOf (t.regN (R.CPX_CB_PEND p b)) which = true ∧ t.pool = s.pool) ∧
    (¬ bad → ¬ runs → ∃ t, exec (.cpxCbWrite p b which value) s = .next t ∧
      t.regN (R.CPX_CB_BASE p b) = (if which.val = 0 then v else s.regN (R.CPX_CB_BASE p b)) ∧
      t.regN (R.CPX_CB_LEN p b) = len ∧ t.regN (R.CPX_CB_PTR p b) = (if ptr < len then ptr else ptr % len) ∧
      t.pool = s.pool ∧ t.cpxs = s.cpxs)))

/-! ### Memory (11_memory.md) -/

/-- R232–R234, R237: one core cycle of an idle bank. A write alone stores its enabled bytes and changes no other byte of the pool; a read
alone changes none, its data return 6 core cycles later, and one that meets an error it cannot correct is counted with its word and
reported. Of two requests of different words the lower rank wins and the other waits. A read that meets a write of its word returns what
the word held before, and neither waits. Of two writes of one word with overlapping enables the losing one is not performed and is
recorded, a bulk-port write as a register access fault, a task's for its status, a record's in COUNT; with disjoint enables both are
performed. R236, R238–R240: a request of rank 3 to 6 that has stalled for 1,024 core cycles is raised for one access, others are not. A
region is tested no sooner than INTERVAL µs after the one before, and only while EN is set. A region that yields is retried, and the
sixteenth time in a row skipped; otherwise the walk moves on. A region that fails is counted, whether it yields or not, and each word
that fails is reported. The region's words count what their check bits show and have fresh ones afterwards; no byte of the pool changes. -/
def Obligations.PoolService : Prop :=
  (
  ∀ (bank : Fin 512) (s : State), Sparse.get (fun _ => []) s.poolWait bank = [] →
    let byteOf (w : Nat × Nat) (i : Nat) (old : Byte) : Byte := if bitOf w.1 i then BitVec.ofNat 8 (w.2 / 2 ^ (8 * i)) else old
    let wrote (t : State) (word : Nat) (w : Nat × Nat) : Prop :=
      ∀ x, Sparse.get poolDefault t.pool x =
        if word * 32 ≤ x ∧ x < word * 32 + 32 then byteOf w (x - word * 32) (Sparse.get poolDefault s.pool x)
        else Sparse.get poolDefault s.pool x
    let replied (t : State) (who : Requester) (word : Nat) (poisoned : Bool) : Prop :=
      Sparse.find? t.poolReplies (requesterRank who * 8192 + s.requesterIndex who) =
        some ⟨word, s.poolNum (word * 32) 32, poisoned, s.cycle + 6⟩
    exec (.poolAccess bank [] .good) s = .next s ∧
    (∀ who word w, word % 512 = bank →
      ∃ t, exec (.poolAccess bank [⟨who, word, some w⟩] .good) s = .next t ∧ wrote t word w ∧
        Sparse.get (fun _ => []) t.poolWait bank = [] ∧ t.faultIn = s.faultIn) ∧
    (∀ who word, word % 512 = bank → word < 2 ^ 22 → s.poisoned (word * 32) 32 = false →
      (∃ t, exec (.poolAccess bank [⟨who, word, none⟩] .good) s = .next t ∧ t.pool = s.pool ∧ t.faultIn = s.faultIn ∧
        t.fld F.MEM_ECC.POISONED = s.fld F.MEM_ECC.POISONED ∧ replied t who word false) ∧
      (∃ t, exec (.poolAccess bank [⟨who, word, none⟩] .corrected) s = .next t ∧ t.pool = s.pool ∧ replied t who word false ∧
        t.fld F.MEM_ECC.CORRECTED = min (s.fld F.MEM_ECC.CORRECTED + 1) 65535) ∧
      (∀ q, who = .bulk 0 → ∃ t, exec (.poolAccess bank [⟨who, word, none⟩] (.uncorrectable q)) s = .next t ∧ t.pool = s.pool ∧
        t.fld F.MEM_ECC.POISONED = min (s.fld F.MEM_ECC.POISONED + 1) 65535 ∧ t.regN R.MEM_ECCADDR = word * 32 ∧
        replied t who word true ∧ ∃ m ∈ t.faultIn, m.src = 241 ∧ m.kind = kUncorrectable ∧ m.addr = word * 32)) ∧
    (∀ who who' word word' w w', word % 512 = bank → word' % 512 = bank → word ≠ word' →
      requesterRank who < requesterRank who' →
      ∃ t, exec (.poolAccess bank [⟨who, word, some w⟩, ⟨who', word', w'⟩] .good) s = .next t ∧ wrote t word w ∧
        Sparse.get (fun _ => []) t.poolWait bank =
          [⟨who', requesterRank who', s.requesterIndex who', word', s.cycle, false, w'⟩]) ∧
    (∀ who who' word w, word % 512 = bank → word < 2 ^ 22 → s.poisoned (word * 32) 32 = false →
      requesterRank who < requesterRank who' →
      ∃ t, exec (.poolAccess bank [⟨who, word, some w⟩, ⟨who', word, none⟩] .good) s = .next t ∧ wrote t word w ∧
        replied t who' word false ∧ Sparse.get (fun _ => []) t.poolWait bank = []) ∧
    (∀ who who' word w w', word % 512 = bank → word < 2 ^ 22 → requesterRank who < requesterRank who' → w.1 &&& w'.1 ≠ 0 →
      ∃ t, exec (.poolAccess bank [⟨who, word, some w⟩, ⟨who', word, some w'⟩] .good) s = .next t ∧ wrote t word w ∧
        Sparse.get (fun _ => []) t.poolWait bank = [] ∧
        t.fld F.MEM_COLL.CLASS = requesterRank who' - 1 ∧ t.regN R.MEM_COLLADDR = word * 32 ∧
        (∀ n, who' = .bulk n → ∃ m ∈ t.faultIn, m.src = 249 ∧ m.kind = kRegAccess) ∧
        (∀ k : Fin 4096, who' = .task k → (t.slot k).collided = true) ∧
        (∀ u, who' = .acquisition u → t.fld F.MEM_COLL.COUNT = min (s.fld F.MEM_COLL.COUNT + 1) 65535)) ∧
    (∀ who who' word w w', word % 512 = bank → requesterRank who < requesterRank who' → w.1 &&& w'.1 = 0 →
      ∃ t, exec (.poolAccess bank [⟨who, word, some w⟩, ⟨who', word, some w'⟩] .good) s = .next t ∧
        ∀ i, i < 32 → Sparse.get poolDefault t.pool (word * 32 + i) =
          byteOf w' i (byteOf w i (Sparse.get poolDefault s.pool (word * 32 + i))))) ∧
  (
  ∀ (bank : Fin 512) (yields : Bool) (failing : List (Fin 32 × Nat)) (ecc : List (Fin 32 × EccResult)) (s : State),
    let l := Sparse.get (fun _ => []) s.poolWait bank
    let b := s.bist
    let idle : Prop := s.flag F.MEM_BIST_CFG.EN = false ∨ s.clk < b.last + max 1 (s.fld F.MEM_BIST_CFG.INTERVAL) * 1000
    let fails : Prop := ∃ f ∈ failing, f.2 % 2 ^ 256 ≠ 0
    (∃ t, exec (.poolStallPromotion bank) s = .next t ∧ t.pool = s.pool ∧
      Sparse.get (fun _ => []) t.poolWait bank = l.map fun r : PoolReq =>
        if 3 ≤ r.rank ∧ r.since + 1024 ≤ s.cycle then { r with promoted := true } else r) ∧
    (idle → exec (.bistRegionTest yields ⟨failing, ecc⟩) s = .next s) ∧
    (¬ idle → ∃ t, exec (.bistRegionTest yields ⟨failing, ecc⟩) s = .next t ∧ t.pool = s.pool ∧ t.bist.last = s.clk ∧
      (yields = true → b.yields < 15 → t.bist.region = b.region ∧ t.bist.yields = b.yields + 1) ∧
      (yields = true → b.yields = 15 → t.bist.region = (b.region + 1) % 131072 ∧ t.bist.yields = 0 ∧
        t.fld F.MEM_BIST_STAT.SKIPS = min (s.fld F.MEM_BIST_STAT.SKIPS + 1) 255) ∧
      (yields = true → t.fld F.MEM_BIST_STAT.YIELDS = min (s.fld F.MEM_BIST_STAT.YIELDS + 1) 65535) ∧
      (yields = false → t.bist.region = (b.region + 1) % 131072 ∧ t.bist.yields = 0 ∧
        t.fld F.MEM_BIST_STAT.YIELDS = s.fld F.MEM_BIST_STAT.YIELDS) ∧
      (¬ fails → t.fld F.MEM_BIST_STAT.FAILS = s.fld F.MEM_BIST_STAT.FAILS) ∧
      (fails → t.fld F.MEM_BIST_STAT.FAILS = min (s.fld F.MEM_BIST_STAT.FAILS + 1) 255) ∧
      (∀ f ∈ failing, f.2 % 2 ^ 256 ≠ 0 →
        ∃ m ∈ t.faultIn, m.src = 242 ∧ m.kind = kPoolTest ∧ m.addr = (b.region * 32 + f.1) * 32) ∧
      (∀ i, ecc = [(i, .corrected)] → (∀ q ∈ s.poolStuck, q / 128 ≠ b.region) →
        t.fld F.MEM_ECC.CORRECTED = min (s.fld F.MEM_ECC.CORRECTED + 1) 65535) ∧
      (∀ i q, ecc = [(i, .uncorrectable q)] → s.poisoned (b.region * 1024) 1024 = false →
        t.fld F.MEM_ECC.POISONED = min (s.fld F.MEM_ECC.POISONED + 1) 65535) ∧
      t.poisoned (b.region * 1024) 1024 = false))

/-- R244: an allocation command shows its result, the first cause in the order BADARG, FENCED, BUSY, OVERLAP, and a refused one changes no
entry. CREATE makes the entry valid with the range its registers describe; FREE makes it invalid; the reserved OP 3 is refused with
BADARG. No byte of either memory changes. -/
def Obligations.AllocationCommands : Prop :=
  ∀ (i : Fin 1024) (s : State), Stored s → s.inUse = true →
    let base := s.regN R.MEM_AW_BASE
    let bytes := s.regN R.MEM_AW_SIZE * 4096
    let bad : Prop := base % 4096 ≠ 0 ∨ bytes = 0 ∨ 2 ^ 27 < base + bytes
    let hits : Prop := ∃ a ∈ s.poolAllocs, base < a.base + a.bytes ∧ a.base < base + bytes
    let d := s.deepWanted i
    let k := (controllers d.chmask).length
    let dbad : Prop := d.base % 4096 ≠ 0 ∨ d.bytes = 0 ∨ k = 0 ∨ 2 ^ 40 < d.base + d.bytes ∨ d.bytes / 4096 % k ≠ 0 ∨
      s.capacity < d.lbase + d.bytes / k
    let dfenced : Prop := ∃ n ∈ controllers d.chmask, s.dramFenced n = true
    let dhits : Prop := ∃ a ∈ s.deepAllocs, (0 < a.bytes ∧ d.base < a.base + a.bytes ∧ a.base < d.base + d.bytes) ∨
      ((∃ n ∈ controllers d.chmask, n ∈ controllers a.chmask) ∧ 0 < a.span ∧ d.lbase < a.lbase + a.span ∧ a.lbase < d.lbase + d.span)
    let shows (c : Instr) (deep : Bool) (r : Nat) : Prop := ∃ t, exec c s = .next t ∧
      t.fld (if deep then F.DRM_ARESULT.RESULT else F.MEM_ARESULT.RESULT) = r ∧ t.pool = s.pool ∧ t.deep = s.deep ∧
      (r ≠ 0 → t.poolAllocs = s.poolAllocs ∧ t.deepAllocs = s.deepAllocs)
    (bad → shows (.memAllocCreate i) false 3) ∧
    (¬ bad → (s.poolAlloc i).isSome = true → shows (.memAllocCreate i) false 2) ∧
    (¬ bad → s.poolAlloc i = none → hits → shows (.memAllocCreate i) false 1) ∧
    (¬ bad → s.poolAlloc i = none → ¬ hits → shows (.memAllocCreate i) false 0 ∧
      ∀ t, exec (.memAllocCreate i) s = .next t → t.poolAlloc i = some ⟨i, base, bytes, false⟩) ∧
    (s.poolAlloc i = none → shows (.memAllocFree i) false 3) ∧
    (∀ a, s.poolAlloc i = some a → (a.prot = true ∨ s.poolInUse a = true) → shows (.memAllocFree i) false 2) ∧
    (∀ a, s.poolAlloc i = some a → a.prot = false → s.poolInUse a = false → shows (.memAllocFree i) false 0 ∧
      ∀ t, exec (.memAllocFree i) s = .next t → t.poolAlloc i = none) ∧
    (dbad → shows (.deepAllocCreate i) true 3) ∧
    (¬ dbad → dfenced → shows (.deepAllocCreate i) true 4) ∧
    (¬ dbad → ¬ dfenced → (s.deepAlloc i).isSome = true → shows (.deepAllocCreate i) true 2) ∧
    (¬ dbad → ¬ dfenced → s.deepAlloc i = none → dhits → shows (.deepAllocCreate i) true 1) ∧
    (¬ dbad → ¬ dfenced → s.deepAlloc i = none → ¬ dhits → shows (.deepAllocCreate i) true 0 ∧
      ∀ t, exec (.deepAllocCreate i) s = .next t → t.deepAlloc i = some d) ∧
    (s.deepAlloc i = none → shows (.deepAllocFree i) true 3) ∧
    (∀ a, s.deepAlloc i = some a → (a.prot = true ∨ s.deepInUse a = true) → shows (.deepAllocFree i) true 2) ∧
    (∀ a, s.deepAlloc i = some a → a.prot = false → s.deepInUse a = false → shows (.deepAllocFree i) true 0 ∧
      ∀ t, exec (.deepAllocFree i) s = .next t → t.deepAlloc i = none) ∧
    (∀ isDeep, shows (.allocCmdReserved isDeep i) isDeep 3)

/-- R247, R249, R253, R254: a controller in service that has not to train drains its write queue at 48 entries, or when one has waited 4 µs,
until 16 or fewer are left and none has waited so long; a write whose data the link does not carry is reported. Every 1 ms a temperature
5 °C or more from a controller's last training makes it retrain. A due retraining with 16 or fewer queued writes puts the controller in
RUN and clears the failures in a row, or counts one more and reports it, and the third fences the controller; nothing is retrained
before it is due. R255, R256: a FENCE write fences a controller that was not FENCED, with CAUSE = HOST: its queued writes are discarded,
its reservations are returned and every allocation that touches it is LOST; on a FENCED one it changes nothing. RESET starts a reset on
a FENCED controller only. A reset that trains returns it to service empty, with no cause; one that does not leaves the fence. -/
def Obligations.Controllers : Prop :=
  (
  ∀ (n : Fin 8) (found : Bool) (temp : Int) (failed : List Bool) (s : State),
    let d := s.dram n
    let drains : Prop := s.dramFenced n = false ∧ s.training n = false ∧ (48 ≤ d.queue.length ∨ s.writeOld n = true)
    let due : Prop := s.dramFenced n = false ∧ s.fld (F.DRM_DC_STAT.STATE n) ≠ 2 ∧ s.retrainDue n = true
    let consec := s.fld (F.DRM_DC_TRAIN.CONSEC n)
    (¬ drains → exec (.dramWriteDrain ⟨n, failed⟩) s = .next s) ∧
    (drains → d.queue.length ≤ 64 → ∃ t, exec (.dramWriteDrain ⟨n, failed⟩) s = .next t ∧
      (∃ m, (t.dram n).queue = d.queue.drop m) ∧ (t.dram n).queue.length ≤ 16 ∧ t.writeOld n = false ∧
      t.fld (F.DRM_DC_WQ.DEPTH n) = (t.dram n).queue.length ∧
      t.fld (F.DRM_DC_WQ.DRAINS n) = min (s.fld (F.DRM_DC_WQ.DRAINS n) + 1) 65535 ∧ t.pool = s.pool ∧
      ((∀ b ∈ failed, b = false) → t.faultIn = s.faultIn) ∧
      (∀ rest, failed = true :: rest → ∃ w ∈ d.queue.head?, ∃ m ∈ t.faultIn,
        m.src = 232 + n ∧ m.kind = kDramWrite ∧ m.addr = w.unit * 64)) ∧
    (s.clk < s.dramTempAt + 1000000 → exec (.dramTempCheck temp) s = .next s) ∧
    (s.dramTempAt + 1000000 ≤ s.clk → ∃ t, exec (.dramTempCheck temp) s = .next t ∧ t.dramTempAt = s.clk ∧
      (t.dram n).trigger = if s.dramFenced n = false ∧ d.trigger = none ∧ (20 ≤ temp - d.trainedAt ∨ 20 ≤ d.trainedAt - temp)
        then some ((s.ns + 124999) / 125000 * 125000) else d.trigger) ∧
    (¬ due → exec (.dramRetrain n found temp) s = .next s) ∧
    (due → d.queue.length ≤ 16 → found = true → ∃ t, exec (.dramRetrain n found temp) s = .next t ∧
      t.fld (F.DRM_DC_TRAIN.CONSEC n) = 0 ∧ (t.dram n).trainedAt = temp ∧ (t.dram n).trigger = none ∧
      t.fld (F.DRM_DC_STAT.STATE n) = 0 ∧ (t.dram n).lastSlot = s.dramSlot n ∧ t.deep = s.deep) ∧
    (due → d.queue.length ≤ 16 → found = false → consec < 2 → ∃ t, exec (.dramRetrain n found temp) s = .next t ∧
      t.fld (F.DRM_DC_TRAIN.CONSEC n) = consec + 1 ∧ t.fld (F.DRM_DC_TRAIN.FAILS n) =
        min (s.fld (F.DRM_DC_TRAIN.FAILS n) + 1) 65535 ∧ t.fld (F.DRM_DC_STAT.STATE n) = 0 ∧
      (∃ m ∈ t.faultIn, m.src = 232 + n ∧ m.kind = kTrainLost) ∧ (t.dram n).trainedAt = d.trainedAt) ∧
    (due → d.queue.length ≤ 16 → found = false → consec = 2 → ∃ t, exec (.dramRetrain n found temp) s = .next t ∧
      t.dramFenced n = true ∧ t.fld (F.DRM_DC_STAT.CAUSE n) = 1)) ∧
  (
  ∀ (n : Fin 8) (trained : Bool) (temp : Int) (s : State),
    let d := s.dram n
    (s.inUse = true → s.dramFenced n = true → exec (.dramCtrlFence n) s = .next s) ∧
    (Stored s → s.inUse = true → s.dramFenced n = false → ∃ t, exec (.dramCtrlFence n) s = .next t ∧
      t.dramFenced n = true ∧ t.fld (F.DRM_DC_STAT.CAUSE n) = 4 ∧ bitOf (t.fld F.DRM_CFG.FENCED) n = true ∧
      (t.dram n).queue = [] ∧ (∀ r ∈ t.resv, bitOf r.chmask n = false) ∧
      (∀ a ∈ s.deepAllocs, bitOf a.chmask n = true → bitOf (t.regN (R.DRM_AT a.k 1)) 28 = true)) ∧
    (s.inUse = true → s.dramFenced n = true →
      exec (.dramCtrlReset n) s = .next (s.setDram n { d with resetting := true })) ∧
    (s.inUse = true → s.dramFenced n = false → exec (.dramCtrlReset n) s = .next s) ∧
    (d.resetting = false → exec (.dramCtrlResetDone n trained temp) s = .next s) ∧
    (d.resetting = true → trained = false →
      exec (.dramCtrlResetDone n trained temp) s = .next (s.setDram n { d with resetting := false })) ∧
    (d.resetting = true → trained = true → ∃ t, exec (.dramCtrlResetDone n trained temp) s = .next t ∧
      t.fld (F.DRM_DC_STAT.STATE n) = 0 ∧ t.fld (F.DRM_DC_STAT.CAUSE n) = 0 ∧ t.fld (F.DRM_DC_TRAIN.CONSEC n) = 0 ∧
      bitOf (t.fld F.DRM_CFG.FENCED) n = false ∧ (t.dram n).queue = [] ∧ (t.dram n).trainedAt = temp ∧
      (∀ x, x < 2 ^ 36 → t.deepGet n x = deepDefault x) ∧ t.pool = s.pool))

/-! ### Host interface (12_host_control.md; register accesses 00_scope.md, 14_tack_and_reef.md, 21_startup_and_register_map.md) -/

/-- R9–R12, R306, R449: an aligned write of a register by its access type, in a device that is in use: the RW bits take the value, a W1C bit
is cleared by a 1 unless an event of the same core cycle sets it, every other bit keeps its value, and the ST bits go into the bank that
WBANK names and show what they showed, or report a fault where the bank is LOCKED; no other register changes but the bank's state. It is
said of every offset of the timing, rule and interval windows, whose registers have no write of their own meaning, and of registers of
three others; what a write of the rest does stands with each. Reserved windows take nothing. Any other access than an aligned one is
discarded and reported, and one that is not served does nothing. R9–R13, R350, R449: reads. Until FIRMWARE none is answered; one that is
not served returns 0; one that is not aligned returns all ones and is reported. An aligned read of any served offset returns the value
the offset shows and clears its RC fields; each that an event of the same core cycle met returns its value from before the event and
holds 1. No other bit and no other register changes, and a register without an RC field and without a capture is only read. A read of
TIM_NOW_NS_LO keeps the rest of the instant for the reads of TIM_NOW_NS_HI and TIM_NOW_FRAC that follow. -/
def Obligations.RegisterAccess : Prop :=
  (
  ∀ (off : Fin 67108864) (value met : Word) (s : State),
    let v := value.toNat
    let b := s.fld F.TCK_CTRL.WBANK
    let rw := accessMask .rw off
    let w1c := accessMask .w1c off
    let st := accessMask .st off
    let plain : Prop := off.val % 4 = 0 ∧ ((0x1500000 ≤ off.val ∧ off.val < 0x1800000) ∨ (0x1C00000 ≤ off.val ∧ off.val < 0x1E00000) ∨
      (0x2800000 ≤ off.val ∧ off.val < 0x2C00000))
    (s.answers = false → exec (.registerWrite off value met) s = .next s ∧
      exec (.misalignedRegisterAccess off false) s = .next s) ∧
    (s.answers = true → s.serves off = true → exec (.misalignedRegisterAccess off false) s = .next (s.report 249 kRegAccess off) ∧
      (off.val % 4 ≠ 0 → exec (.registerWrite off value met) s = .next (s.report 249 kRegAccess off))) ∧
    (s.serves off = false → exec (.registerWrite off value met) s = .next s ∧
      exec (.misalignedRegisterAccess off false) s = .next s) ∧
    (s.inUse = true → plain → ∃ t, exec (.registerWrite off value met) s = .next t ∧
      (∀ i, i < 32 → bitOf (t.regN off) i =
        if bitOf rw i then bitOf v i
        else if bitOf w1c i then bitOf (s.regN off) i && (!bitOf v i || bitOf met.toNat i) else bitOf (s.regN off) i) ∧
      (∀ x, x ≠ off.val → x ≠ R.TCK_STAT → t.regN x = s.regN x) ∧
      (st = 0 → t.bankA = s.bankA ∧ t.bankB = s.bankB ∧ t.faultIn = s.faultIn) ∧
      (st ≠ 0 → (s.bank b).locked = true → t.bankA = s.bankA ∧ t.bankB = s.bankB ∧
        ∃ m ∈ t.faultIn, m.src = 249 ∧ m.kind = kRegAccess ∧ m.addr = off) ∧
      (st ≠ 0 → (s.bank b).locked = false → t.faultIn = s.faultIn ∧
        Sparse.find? (t.bank b).vals off = some (BitVec.ofNat 32 (v &&& st)) ∧
        ∀ key, key ≠ off.val → Sparse.find? (t.bank b).vals key = Sparse.find? (s.bank b).vals key) ∧
      t.tables = s.tables ∧ t.pool = s.pool ∧ t.deep = s.deep ∧ t.host = s.host ∧ t.engines = s.engines ∧ t.readData = s.readData) ∧
    (s.inUse = true → 0xE00000 ≤ off.val → off.val < 0x1000000 → off.val % 4 = 0 →
      exec (.registerWrite off value met) s = .next s) ∧
    (s.inUse = true → (∃ k, k < 64 ∧ off.val = R.HIF_RING_IRQ k) →
      exec (.registerWrite off value met) s = .next (s.setReg off v)) ∧
    (∀ w, s.inUse = true → w < 8 → off.val = R.HIF_EVPEND w → ∃ t, exec (.registerWrite off value met) s = .next t ∧
      t.pool = s.pool ∧ ∀ i, i < 32 →
        bitOf (t.regN off) i = (bitOf (s.regN off) i && (!bitOf v i || bitOf met.toNat i))) ∧
    (∀ u, Stored s → s.inUse = true → u < 16 → off.val = R.SRC_MEM_BASE u →
      ((s.bank b).locked = true → exec (.registerWrite off value met) s = .next (s.report 249 kRegAccess off)) ∧
      ((s.bank b).locked = false → ∃ t, exec (.registerWrite off value met) s = .next t ∧ t.regN off = s.regN off ∧
        Sparse.find? (t.bank b).vals off = some value ∧
        ∀ key, key ≠ off.val → Sparse.find? (t.bank b).vals key = Sparse.find? (s.bank b).vals key)) ∧
    (Stored s → s.inUse = true → (∃ u, u < 16 ∧ off.val = R.SRC_PLAYED_LO u) →
      exec (.registerWrite off value met) s = .next s)) ∧
  (
  ∀ (off : Fin 67108864) (met : Word) (s : State),
    (s.answers = false → exec (.rcFieldRead off met) s = .next { s with readData := [] } ∧
      exec (.misalignedRegisterAccess off true) s = .next { s with readData := [] }) ∧
    (s.answers = true → s.serves off = false → exec (.rcFieldRead off met) s = .next { s with readData := [0] } ∧
      exec (.misalignedRegisterAccess off true) s = .next { s with readData := [0] }) ∧
    (s.answers = true → s.serves off = true →
      exec (.misalignedRegisterAccess off true) s = .next { s.report 249 kRegAccess off with readData := [0xFFFFFFFF] } ∧
      (off.val % 4 ≠ 0 → exec (.rcFieldRead off met) s = .next { s.report 249 kRegAccess off with readData := [0xFFFFFFFF] })) ∧
    (s.answers = true → s.serves off = true → off.val % 4 = 0 → Sparse.find? s.captured off = none →
      ∃ t w, exec (.rcFieldRead off met) s = .next t ∧ t.readData = [BitVec.ofNat 32 w] ∧
        (∀ i, i < 32 → (∀ f ∈ rcFields off, fieldMet met.toNat f = true → i < f.lo ∨ f.lo + f.width ≤ i) →
          bitOf w i = bitOf (s.lookAt off) i) ∧
        (∀ f ∈ rcFields off, fieldMet met.toNat f = true → 0 < bitsOf (s.lookAt off) f.lo f.width →
          bitsOf (s.lookAt off) f.lo f.width < 2 ^ f.width - 1 →
          bitsOf w f.lo f.width = bitsOf (s.lookAt off) f.lo f.width - 1) ∧
        (∀ f ∈ rcFields off, t.fld f = if fieldMet met.toNat f = true then 1 else 0) ∧
        (∀ i, i < 32 → (∀ f ∈ rcFields off, i < f.lo ∨ f.lo + f.width ≤ i) → bitOf (t.regN off) i = bitOf (s.regN off) i) ∧
        (∀ x, x ≠ off.val → t.regN x = s.regN x) ∧ t.pool = s.pool ∧ t.faultIn = s.faultIn) ∧
    (s.answers = true → s.serves off = true → off.val % 4 = 0 → Sparse.find? s.captured off = none → rcFields off = [] →
      captures off = [] → exec (.rcFieldRead off met) s = .next { s with readData := [BitVec.ofNat 32 (s.lookAt off)] }) ∧
    (s.inUse = true → (∃ k, k < 64 ∧ off.val = R.HIF_RING_IRQ k) → s.lookAt off = s.regN off) ∧
    (s.inUse = true → off.val = R.MEM_COLL → Sparse.find? s.captured off = none →
      let n := s.fld F.MEM_COLL.COUNT
      (met = 0 → ∃ t, exec (.rcFieldRead off met) s = .next t ∧ t.readData = [s.reg off] ∧ t.fld F.MEM_COLL.COUNT = 0 ∧
        t.fld F.MEM_COLL.CLASS = s.fld F.MEM_COLL.CLASS ∧ t.pool = s.pool) ∧
      (met = 0xFFFF0000 → 0 < n → n < 65535 → ∃ t w, exec (.rcFieldRead off met) s = .next t ∧ t.readData = [w] ∧
        bitsOf w.toNat 16 16 = n - 1 ∧ t.fld F.MEM_COLL.COUNT = 1)) ∧
    (s.inUse = true → off.val = R.TIM_NOW_NS_LO → Sparse.find? s.captured off = none →
      ∃ t, exec (.loReadCapture off) s = .next t ∧ t.readData = [BitVec.ofNat 32 s.ns] ∧ t.regs = s.regs ∧
        Sparse.find? t.captured R.TIM_NOW_NS_HI = some (BitVec.ofNat 32 (s.ns / 2 ^ 32)) ∧
        Sparse.find? t.captured R.TIM_NOW_FRAC = some (BitVec.ofNat 32 s.now)) ∧
    (∀ w, s.inUse = true → off.val = R.TIM_NOW_NS_HI → Sparse.find? s.captured off = some w →
      exec (.rcFieldRead off met) s = .next { s with readData := [w] }) ∧
    (captures off = [] → exec (.loReadCapture off) s = .next s))

/-- R263–R265, R270: RING_ENABLE of a DISABLED ring sets its sizes, clears its pointers, sets the phase and enters RUN; a size outside 6 to
16 is discarded and reported, and so are other sizes than those in effect outside DISABLED, where EN = 1 does nothing. RING_DISABLE
enters DRAINING, or DISABLED at once with nothing outstanding. An error of a fetch request or of a completion write puts the ring into
ERROR with its cause; a completion lost so leaves its entry as it was, and its TAG is kept. -/
def Obligations.RingStates : Prop :=
  ∀ (k : Fin 64) (sq cq : Fin 32) (s : State),
    let state := s.fld (F.HIF_RING_STAT.STATE k)
    let bad : Prop := sq.val < 6 ∨ 16 < sq.val ∨ cq.val < 6 ∨ 16 < cq.val
    let other : Prop := sq.val ≠ s.fld (F.HIF_RING_CFG.SQLOG2 k) ∨ cq.val ≠ s.fld (F.HIF_RING_CFG.CQLOG2 k)
    (s.inUse = true →
      (bad → exec (.ringEnable k sq cq) s = .next (s.report 249 kRegAccess (R.HIF_RING_CFG k))) ∧
      (¬ bad → state = 0 → ∃ t, exec (.ringEnable k sq cq) s = .next t ∧ t.fld (F.HIF_RING_STAT.STATE k) = 1 ∧
        t.sqSize k = 2 ^ sq.val ∧ t.cqSize k = 2 ^ cq.val ∧ t.regN (R.HIF_RING_POS k) = 0 ∧ (t.ring k).sqTail = 0 ∧
        (t.ring k).cqHead = 0 ∧ (t.ring k).unreleased = 0 ∧ (t.ring k).phase = true ∧ t.host = s.host) ∧
      (¬ bad → state ≠ 0 → ¬ other → exec (.ringEnable k sq cq) s = .next s) ∧
      (¬ bad → state ≠ 0 → other → exec (.ringEnable k sq cq) s = .next (s.report 249 kRegAccess (R.HIF_RING_CFG k))) ∧
      (state ≠ 0 → other → exec (.ringDisable k sq cq) s = .next (s.report 249 kRegAccess (R.HIF_RING_CFG k))) ∧
      (state = 2 → ¬ other → exec (.ringDisable k sq cq) s = .next s) ∧
      (state = 1 ∨ state = 3 → ¬ other → ∃ t, exec (.ringDisable k sq cq) s = .next t ∧ t.flag (F.HIF_RING_CFG.EN k) = false ∧
        t.fld (F.HIF_RING_STAT.STATE k) = (if s.fld (F.HIF_RING_STAT.OUTSTANDING k) = 0 then 0 else 2) ∧ t.rings = s.rings) ∧
      (state = 0 → ∃ t, exec (.ringDisable k sq cq) s = .next t ∧ t.fld (F.HIF_RING_STAT.STATE k) = 0 ∧
        t.sqSize k = 2 ^ sq.val ∧ t.cqSize k = 2 ^ cq.val)) ∧
    (s.mayFetch k = false → exec (.fetchError k) s = .next s) ∧
    (s.mayFetch k = true → ∃ t, exec (.fetchError k) s = .next t ∧ t.fld (F.HIF_RING_STAT.STATE k) = 3 ∧
      t.fld (F.HIF_RING_STAT.ERRCAUSE k) = 2 ∧ t.flag (evPend 192) = true ∧ t.rings = s.rings ∧ t.slots = s.slots) ∧
    ((s.ring k).last = none → exec (.cqWriteError k) s = .next s) ∧
    (∀ w, (s.ring k).last = some w → w.tag < 2 ^ 32 → ∃ t, exec (.cqWriteError k) s = .next t ∧
      t.fld (F.HIF_RING_STAT.STATE k) = 3 ∧ t.fld (F.HIF_RING_STAT.ERRCAUSE k) = 3 ∧ t.regN (R.HIF_RING_LOSTTAG k) = w.tag ∧
      t.host = Sparse.setMany hostDefault s.host w.addr w.old ∧ t.flag (evPend 192) = true)

/-- R266, R267, R269, R285, R304: a doorbell of a DISABLED ring does nothing. Else an SQ_TAIL within the span up to head − 1 sets the tail,
which a fetch of the same core cycle does not see yet. A doorbell page reads 0, and a write to another offset of it is discarded. A
CQ_HEAD within the span of unreleased completions releases them, all of them where the CQ is full and the index is the head's own; any
other value puts the ring into ERROR with BAD_DOORBELL and moves neither pointer. The oldest unsignalled completion signals after USEC
µs. CLRCREDIT clears the credits of an EMPTY slot. -/
def Obligations.DoorbellsAndWaits : Prop :=
  ∀ (k : Fin 64) (value : Word) (s : State),
    let v := value.toNat
    let r := s.ring k
    let n := s.sqSize k
    let m := s.cqSize k
    let head := s.fld (F.HIF_RING_POS.SQHEAD k)
    let freed := if v = r.cqHead ∧ r.unreleased = m then m else (v + m - r.cqHead) % m
    let state := s.fld (F.HIF_RING_STAT.STATE k)
    let usec := s.fld (F.HIF_RING_IRQ.USEC k)
    let waited : Prop := usec ≠ 0 ∧ r.since ≠ 0 ∧ r.oldest + usec * 1000 ≤ s.clk
    let slot := s.fld F.SCH_SLOTSEL.SLOT
    let errs (c : Instr) : Prop := ∃ t, exec c s = .next t ∧ t.fld (F.HIF_RING_STAT.STATE k) = 3 ∧
      t.fld (F.HIF_RING_STAT.ERRCAUSE k) = 1 ∧ t.rings = s.rings ∧ t.flag (evPend 192) = true
    (s.inUse = true → state = 0 →
      exec (.sqTailDoorbell k value) s = .next s ∧ exec (.cqHeadDoorbell k value) s = .next s) ∧
    (s.inUse = true → state ≠ 0 → r.sqTail < n → head < n → r.cqHead < m →
      (v < n → (v + n - r.sqTail) % n ≤ (head + 2 * n - 1 - r.sqTail) % n →
        exec (.sqTailDoorbell k value) s = .next (s.setRing k { r with
          sqTail := v, tailAt := some s.cycle, tailWas := if r.tailAt = some s.cycle then r.tailWas else r.sqTail })) ∧
      (n ≤ v ∨ (head + 2 * n - 1 - r.sqTail) % n < (v + n - r.sqTail) % n → errs (.sqTailDoorbell k value)) ∧
      (v < m → freed ≤ r.unreleased →
        exec (.cqHeadDoorbell k value) s = .next (s.setRing k { r with cqHead := v, unreleased := r.unreleased - freed })) ∧
      (m ≤ v ∨ r.unreleased < freed → errs (.cqHeadDoorbell k value))) ∧
    (s.inUse = true → state ≠ 0 → r.sqTail < n → head < n → v < n → (v + n - r.sqTail) % n ≤ (head + 2 * n - 1 - r.sqTail) % n →
      r.tailAt ≠ some s.cycle → ∃ t, exec (.sqTailDoorbell k value) s = .next t ∧
        (t.ring k).fetchTail t.cycle = r.sqTail ∧ ∀ c, t.cycle < c → (t.ring k).fetchTail c = v) ∧
    (∀ off, doorbellRead off = 0 ∧ (off ≠ 0 → off ≠ 4 → s.doorbellWrite k off v = s)) ∧
    (¬ waited → exec (.irqCoalesceTimeout k) s = .next s) ∧
    (waited → ∃ t, exec (.irqCoalesceTimeout k) s = .next t ∧ t.flag (evPend k) = true ∧ (t.ring k).since = 0 ∧
      t.host = s.host) ∧
    (s.inUse = true → (s.slot slot).state = .empty → ∃ t, exec .slotClearCredit s = .next t ∧
      t.slot slot = { s.slot slot with count := 0 } ∧ ∀ j, j ≠ slot → t.slot j = s.slot j) ∧
    (s.inUse = true → (s.slot slot).state ≠ .empty → exec .slotClearCredit s = .next s)

/-- R268, R274, R277, R289–R291, R297: a read request takes the descriptor at the SQ head, which moves on. One whose header is bad posts
INCONSISTENT with DETAIL 0x0010 and FETCHREF at the CQ tail and becomes no task. A sound NOP in an EMPTY slot whose flow has room
becomes a task there, its count its WAITS less the slot's credits, READY at 0, and its flow holds one more. With nothing to fetch, or no
room for the completion, nothing changes. -/
def Obligations.DescriptorFetch : Prop :=
  ∀ (k : Fin 64) (s : State),
    let head := s.fld (F.HIF_RING_POS.SQHEAD k)
    let head' := (head + 1) % s.sqSize k
    let d := ofBytes (s.hostRead (s.sqEntry k head) 64)
    let j := dSlot d
    (s.mayFetch k = false → exec (.descriptorFetch k) s = .next s) ∧
    (s.mayFetch k = true → s.fetchCount k = 1 → headerOk d = false → head < s.sqSize k → s.sqSize k ≤ 65536 →
      s.fld (F.HIF_RING_STAT.OUTSTANDING k) < 131071 →
      ∃ t, exec (.descriptorFetch k) s = .next t ∧ t.fld (F.HIF_RING_POS.SQHEAD k) = head' ∧
        t.fld (F.HIF_RING_STAT.OUTSTANDING k) = s.fld (F.HIF_RING_STAT.OUTSTANDING k) ∧ t.slots = s.slots ∧
        t.host = Sparse.setMany hostDefault s.host (s.cqEntry k (s.fld (F.HIF_RING_POS.CQTAIL k)))
          (completionBytes d stInconsistent (b2n (s.ring k).phase + 2) 0x10 head' 0 s.ns) ∧
        (t.ring k).unreleased = (s.ring k).unreleased + 1 ∧ t.flag (evPend k) = true) ∧
    (s.mayFetch k = true → s.fetchCount k = 1 → headerOk d = true → dOpcode d = 0x0D → (s.slot j).state = .empty →
      s.fld (F.SCH_FLOW_STAT.HELD (dFlow d)) < s.fld (F.SCH_FLOW_CFG.LIMIT (dFlow d)) → (s.slot j).count ≤ dWaits d →
      dDeadline d = 0 → head < s.sqSize k → s.sqSize k ≤ 65536 → s.fld (F.HIF_RING_STAT.OUTSTANDING k) < 131071 →
      ∃ t, exec (.descriptorFetch k) s = .next t ∧ t.fld (F.HIF_RING_POS.SQHEAD k) = head' ∧
        t.fld (F.HIF_RING_STAT.OUTSTANDING k) = s.fld (F.HIF_RING_STAT.OUTSTANDING k) + 1 ∧ t.host = s.host ∧
        (t.slot j).desc = d ∧ (t.slot j).ring = k ∧ (t.slot j).count = dWaits d - (s.slot j).count ∧
        (t.slot j).state = (if dWaits d = (s.slot j).count then .ready else .waiting) ∧
        t.fld (F.SCH_FLOW_STAT.HELD (dFlow d)) = s.fld (F.SCH_FLOW_STAT.HELD (dFlow d)) + 1 ∧
        ∀ i, i ≠ j → t.slot i = s.slot i)

/-- R29, R178, R233, R237, R246, R247, R253, R281, R282: an access of a port is of whole dwords, at most 512 bytes written or 4,096 read.
One that would pass the end of the port's allocation is not performed: END is set, it is reported, and a read returns all ones. A port
without a valid address performs nothing, nor does one aimed at a LOST or fenced allocation (log 113). A write within an unprotected
pool allocation that no unit plays stores its bytes at the port's address but for those of the words it loses to other writes, each of
which is recorded and reported; a read there returns the bytes in order, each dword of a word that cannot be corrected all ones; a
failed read of deep memory returns all ones and is reported. Each advances the address, and no other byte changes. An access of another
size changes no memory (log 111), and one that needs a controller in training waits. -/
def Obligations.BulkPorts : Prop :=
  ∀ (n : Fin 16) (bytes : List Byte) (lost : List (Fin 17)) (len : Nat) (bad : Bool) (s : State), s.inUse = true →
    let a := s.bulkAddr n
    let k := bytes.length
    let p := s.bulkPort n
    let ones := List.replicate (len / 4) (0xFFFFFFFF : Word)
    let sizedW : Prop := k % 4 = 0 ∧ k ≠ 0 ∧ k ≤ 512
    let sizedR : Prop := len % 4 = 0 ∧ len ≠ 0 ∧ len ≤ 4096
    let taken (x : Nat) : Prop := ∃ j ∈ lost, x / 32 = a / 32 + j
    (¬ sizedW → exec (.bulkPortWrite n ⟨bytes, lost⟩) s = .next s) ∧
    (¬ sizedR → exec (.bulkPortRead n ⟨len, bad⟩) s = .next { s with readData := ones }) ∧
    (s.bulkWaits n = true → exec (.bulkPortWrite n ⟨bytes, lost⟩) s = .next s ∧
      (sizedR → exec (.bulkPortRead n ⟨len, bad⟩) s = .next s)) ∧
    (sizedW → s.bulkWaits n = false → p.valid = true → p.limit < a + k → ∃ t, exec (.bulkPortWrite n ⟨bytes, lost⟩) s = .next t ∧
      t.flag (F.HIF_BP_STAT.END n) = true ∧ t.pool = s.pool ∧ t.deep = s.deep ∧ t.bulkAddr n = a ∧
      ∃ m ∈ t.faultIn, m.src = 249 ∧ m.kind = kRegAccess) ∧
    (sizedR → s.bulkWaits n = false → p.valid = true → p.limit < a + len → ∃ t, exec (.bulkPortRead n ⟨len, bad⟩) s = .next t ∧
      t.flag (F.HIF_BP_STAT.END n) = true ∧ t.readData = ones ∧ t.bulkAddr n = a) ∧
    (s.bulkWaits n = false → p.valid = false ∨ (s.bulkPasses n k = false ∧ s.bulkGone n = true) →
      exec (.bulkPortWrite n ⟨bytes, lost⟩) s = .next s) ∧
    (sizedR → s.bulkWaits n = false → p.valid = false ∨ (s.bulkPasses n len = false ∧ s.bulkGone n = true) →
      exec (.bulkPortRead n ⟨len, bad⟩) s = .next { s with readData := ones }) ∧
    (sizedW → s.bulkPasses n k = false → s.bulkMay n k = true → s.bulkSpace n = 1 → s.playedRange a k = false → a + k < 2 ^ 64 →
      ∃ t, exec (.bulkPortWrite n ⟨bytes, lost⟩) s = .next t ∧
        (∀ i, i < k → ¬ taken (a + i) → Sparse.get poolDefault t.pool (a + i) = nth bytes i 0) ∧
        (∀ x, x < a ∨ a + k ≤ x ∨ taken x → Sparse.get poolDefault t.pool x = Sparse.get poolDefault s.pool x) ∧
        ((∃ j ∈ lost, (a / 32 + j) * 32 < a + k) → t.fld F.MEM_COLL.CLASS = 5 ∧ ∃ m ∈ t.faultIn, m.src = 249 ∧ m.kind = kRegAccess) ∧
        (lost = [] → t.faultIn = s.faultIn) ∧ t.bulkAddr n = a + k ∧ t.deep = s.deep ∧ t.readData = s.readData) ∧
    (sizedR → s.bulkPasses n len = false → s.bulkMay n len = true → s.bulkSpace n = 1 → a + len < 2 ^ 64 →
      ∃ t, exec (.bulkPortRead n ⟨len, bad⟩) s = .next t ∧ t.pool = s.pool ∧ t.bulkAddr n = a + len ∧ t.readData.length = len / 4 ∧
        ∀ i, i < len / 4 → nth t.readData i 0 =
          if s.poisoned (a + 4 * i) 4 then 0xFFFFFFFF else BitVec.ofNat 32 (s.poolNum (a + 4 * i) 4)) ∧
    (sizedR → bad = true → s.bulkWaits n = false → s.bulkPasses n len = false → s.bulkMay n len = true → s.bulkSpace n = 2 →
      a + len < 2 ^ 64 →
      ∃ t, exec (.bulkPortRead n ⟨len, bad⟩) s = .next t ∧ t.readData = ones ∧ t.bulkAddr n = a + len ∧ t.pool = s.pool ∧
        t.deep = s.deep ∧ ∃ m ∈ t.faultIn, m.kind = kUncorrectable)

/-! ### Flow scheduler (13_flow_scheduler.md) -/

/-- R104, R168, R178, R233, R247, R253, R273, R276, R392: the work of move engines, from the pool. A MOVE copies up to n further bytes, in
order, and is done at its length; into source memory of a unit whose group is ARMED or RUNNING it ends INCONSISTENT. A TABLE_WRITE
stages whole words in the bank of its dispatch, but for the last eight bytes of a TIMESET entry, and ends INCONSISTENT where that bank
is LOCKED. A REFILL writes whole 32-byte words at WRPTR, which advances. A LOG_UPLOAD copies one unit, or ends and advances RDPTR where
no further unit may be copied. A source word that cannot be corrected, and a read of deep memory that fails, interrupt a task: it is
replayed from its start, and the second time it ends TESTER_FAULT. A task that does not run on a free engine, or whose deep memory
trains, does nothing. R276, R392, R418, R419: a LOAD of a section without a deep part. A word of its image that cannot be corrected
interrupts it. Where it does not decrypt, its task ends AUTH_FAIL with DETAIL 8, counted, and its allocation is erased and unprotected;
where the bytes are not a section that fits the group, INCONSISTENT with DETAIL 9, erased as well; else the section is bound to its
group, whose general registers take the header's values, and the task ends OK. UNLOAD erases the section's allocation, and no other
byte, and unbinds it. -/
def Obligations.TaskWork : Prop :=
  (
  ∀ (k : Fin 4096) (n : Nat) (bad : Bool) (s : State),
    let t := s.slot k
    let d := t.desc
    let did (u : State) (m total : Nat) : Prop :=
      (u.slot k).moved = t.moved + m ∧ (u.slot k).state = .running ∧
      (u.slot k).done = if total ≤ t.moved + m then some (stOk, 0, t.moved + m) else none
    let ended (c : Instr) (status : Nat) : Prop := ∃ u, exec c s = .next u ∧ u.pool = s.pool ∧ u.host = s.host ∧ u.deep = s.deep ∧
      (u.slot k).done = some (status, 0, t.moved)
    let interrupted (c : Instr) (at' : Nat) : Prop := (t.replayed = true → ended c stTesterFault) ∧
      (t.replayed = false → ∃ u, exec c s = .next u ∧ u.pool = s.pool ∧ u.host = s.host ∧ u.deep = s.deep ∧
        u.slot k = { t with replay := true, replayed := true, moved := at' } ∧ ∃ m ∈ u.faultIn, m.kind = kUncorrectable)
    let mv := min n (mvLen d - t.moved)
    let tw := min (n / 4 * 4) (twLen d - t.moved)
    let bank := t.journal.headD 0
    let key (j : Nat) : Nat := spaceKey (twSpace d + 1) (twOffset d + t.moved + 4 * j)
    let skips (j : Nat) : Prop := twSpace d = 0 ∧ 24 ≤ (twOffset d + t.moved + 4 * j) % 32
    let rf := min (n / 32 * 32) (rfCount d - t.moved)
    let w := s.regN (R.SRC_RING_WRPTR (rfUnit d))
    let st := luStream d
    let unit := s.regionUnit st
    let at' := s.regionPlace st (s.regN (R.CMP_LOG_RDPTR st)) t.moved
    let span := s.regionSize st - s.regionFirst st
    let past : Prop := (s.regN (R.CMP_LOG_WRPTR st) + span - at') % span < unit ∨ luMax d < t.moved + unit
    (s.works k 0x01 = false → exec (.move k ⟨n, bad⟩) s = .next s) ∧ (s.works k 0x02 = false → exec (.tableWrite k n) s = .next s) ∧
    (s.works k 0x09 = false → exec (.refill k n) s = .next s) ∧ (s.works k 0x0A = false → exec (.logUpload k ⟨n, bad⟩) s = .next s) ∧
    (s.works k 0x01 = true → mvFrom d = 1 → s.poisoned (mvSrc d + t.moved) mv = false →
      (mvTo d = 1 → s.playedRange (mvDst d + t.moved) (mvLen d - t.moved) = true → ended (.move k ⟨n, bad⟩) stInconsistent) ∧
      (mvTo d = 1 → s.playedRange (mvDst d + t.moved) (mvLen d - t.moved) = false →
        ∃ u, exec (.move k ⟨n, bad⟩) s = .next u ∧ did u mv (mvLen d) ∧ u.host = s.host ∧ u.deep = s.deep ∧
          u.pool = Sparse.setMany poolDefault s.pool (mvDst d + t.moved) (s.poolRead (mvSrc d + t.moved) mv)) ∧
      (mvTo d = 0 → ∃ u, exec (.move k ⟨n, bad⟩) s = .next u ∧ did u mv (mvLen d) ∧ u.pool = s.pool ∧ u.deep = s.deep ∧
          u.host = Sparse.setMany hostDefault s.host (mvDst d + t.moved) (s.poolRead (mvSrc d + t.moved) mv))) ∧
    (s.works k 0x01 = true → (mvTo d = 1 → s.playedRange (mvDst d + t.moved) (mvLen d - t.moved) = false) →
      (mvFrom d = 1 → s.poisoned (mvSrc d + t.moved) mv = true → interrupted (.move k ⟨n, bad⟩) 0) ∧
      (mvFrom d = 2 → bad = true → (s.deepHolding (mvSrc d + t.moved) 1).isSome = true → interrupted (.move k ⟨n, bad⟩) 0)) ∧
    (s.works k 0x02 = true → twFrom d = 1 → (s.bank bank).locked = false → s.poisoned (twSrc d + t.moved) tw = true →
      interrupted (.tableWrite k n) 0) ∧
    (s.works k 0x09 = true → rfFrom d = 1 → s.poisoned (rfSrc d + t.moved) rf = true → interrupted (.refill k n) t.moved) ∧
    (s.works k 0x02 = true → twFrom d = 1 →
      ((s.bank bank).locked = true → ended (.tableWrite k n) stInconsistent) ∧
      ((s.bank bank).locked = false → s.poisoned (twSrc d + t.moved) tw = false →
        ∃ u, exec (.tableWrite k n) s = .next u ∧ did u tw (twLen d) ∧ u.pool = s.pool ∧ u.tables = s.tables ∧
          (∀ j, 4 * j + 4 ≤ tw → ¬ skips j → Sparse.find? (u.bank bank).vals (key j) =
            some (BitVec.ofNat 32 (s.poolNum (twSrc d + t.moved + 4 * j) 4))) ∧
          ∀ x, (∀ j, 4 * j + 4 ≤ tw → ¬ skips j → x ≠ key j) →
            Sparse.find? (u.bank bank).vals x = Sparse.find? (s.bank bank).vals x)) ∧
    (s.works k 0x09 = true → rfFrom d = 1 → s.poisoned (rfSrc d + t.moved) rf = false →
      ∃ u, exec (.refill k n) s = .next u ∧ did u rf (rfCount d) ∧ u.host = s.host ∧ u.deep = s.deep ∧
        (rf = 32 → u.pool = Sparse.setMany poolDefault s.pool (s.regN (R.SRC_RING_BASE (rfUnit d)) + w)
            (s.poolRead (rfSrc d + t.moved) 32) ∧
          u.reg (R.SRC_RING_WRPTR (rfUnit d)) = BitVec.ofNat 32 (if w + 32 < s.ringSize (rfUnit d) then w + 32 else 0))) ∧
    (s.works k 0x0A = true →
      (past → ∃ u, exec (.logUpload k ⟨n + 1, bad⟩) s = .next u ∧ (u.slot k).done = some (stOk, 0, t.moved) ∧ u.host = s.host ∧
        ((s.log st).lost = 0 → u.pool = s.pool) ∧ u.reg (R.CMP_LOG_RDPTR st) = BitVec.ofNat 32 at') ∧
      (¬ past → s.logDeep st = false → s.poisoned (s.regionBase st + at') unit = false →
        ∃ u, exec (.logUpload k ⟨1, bad⟩) s = .next u ∧ (u.slot k).done = none ∧ (u.slot k).moved = t.moved + unit ∧ u.pool = s.pool ∧
          u.regN (R.CMP_LOG_RDPTR st) = s.regN (R.CMP_LOG_RDPTR st) ∧
          u.host = Sparse.setMany hostDefault s.host (luDst d + t.moved) (s.poolRead (s.regionBase st + at') unit)) ∧
      (¬ past → s.logDeep st = false → s.poisoned (s.regionBase st + at') unit = true → interrupted (.logUpload k ⟨n + 1, bad⟩) 0) ∧
      (¬ past → s.logDeep st = true → bad = true → (s.deepHolding (s.regionBase st + at') 1).isSome = true →
        interrupted (.logUpload k ⟨n + 1, bad⟩) 0))) ∧
  (
  ∀ (k : Fin 4096) (a : PoolAlloc) (bad : Bool) (s : State),
    let d := (s.slot k).desc
    let sg := ldSg d
    let n := s.dirField (ldImage d) (ldSection d) 4 4
    let erased (u : State) (x : PoolAlloc) : Prop := ∀ b, Sparse.get poolDefault u.pool b =
      if x.base ≤ b ∧ b < x.base + x.bytes then 0 else Sparse.get poolDefault s.pool b
    let fails (status : Nat) (detail : Nat) (P : State → Prop) : Prop := ∃ u, exec (.load ⟨k, bad⟩) s = .next u ∧
      (u.slot k).done = some (status, detail, 0) ∧ u.engines = s.engines ∧ (Stored s → n ≤ a.bytes → erased u a) ∧ P u
    (s.works k 0x03 = false → exec (.load ⟨k, bad⟩) s = .next s) ∧ (s.works k 0x04 = false → exec (.unload k) s = .next s) ∧
    (s.works k 0x03 = true → (∃ r ∈ s.loadReads d, s.poisoned r.1 r.2 = true) → (s.slot k).replayed = false →
      ∃ u, exec (.load ⟨k, bad⟩) s = .next u ∧ (u.slot k).replay = true ∧ (u.slot k).done = none ∧ u.pool = s.pool ∧
        u.engines = s.engines ∧ ∃ m ∈ u.faultIn, m.kind = kUncorrectable) ∧
    (s.works k 0x03 = true → (∀ r ∈ s.loadReads d, s.poisoned r.1 r.2 = false) → ldDa d = none → sg < 64 → ldPa d < 1024 → s.poolAlloc (ldPa d) = some a →
      (s.decrypted d = none → fails stAuthFail 8 fun u =>
        u.fld F.SHR_AUTHFAIL.LOAD = min (s.fld F.SHR_AUTHFAIL.LOAD + 1) 65535) ∧
      (∀ plain, s.decrypted d = some plain →
        let l := (s.setPoolProt (ldPa d) true).poolWrite a.base (plain.take n)
        let fits : Prop := l.headerValid a.base n = true ∧ l.instrsValid a.base = true ∧ l.committed.sectionFits sg a.base = true
        (¬ fits → fails stInconsistent 9 fun u => ∀ i, i < 64 → u.flag (F.PG_CFG.EN i) = s.flag (F.PG_CFG.EN i)) ∧
        (fits → ∃ u c, exec (.load ⟨k, bad⟩) s = .next u ∧ (u.slot k).done = some (stOk, 0, plain.length) ∧
          (u.engine sg).sec = some c ∧ c.pa = ldPa d ∧ c.base = a.base ∧ c.len = n ∧
          u.pool = Sparse.setMany poolDefault s.pool a.base (plain.take n) ∧
          ∀ g, g < 16 → u.reg (R.SE_GR sg g) = BitVec.ofNat 32 (l.secField a.base (0x30 + 4 * g) 4)))) ∧
    (∀ g c, s.works k 0x04 = true → dget d 0x18 1 = g → g < 64 → (s.engine g).sec = some c → c.da = none → c.pa < 1024 →
      s.poolAlloc c.pa = some a →
      ∃ u, exec (.unload k) s = .next u ∧ (u.slot k).done = some (stOk, 0, 0) ∧ (u.engine g).sec = none ∧ erased u a ∧
        ∀ h, h ≠ g → u.engine h = s.engine h))

/-- R24, R186, R213, R276, R289, R295, R301, R305, R315: the head of a resource's ready list enters CHECKING when the resource is free and
no cancel waits for it. Its checks refuse it with their status and DETAIL, or ask Reef for its cost, where it queues, or dispatch it:
into RUNNING at this instant. A TACK locks its bank and shows in TCK_PEND. BURST, CAPTURE and MEASURE name that head by its slot. A NOP
that is READY finishes OK. Where no such task may enter, nothing changes. -/
def Obligations.EnteringChecking : Prop :=
  ∀ (r : Resource) (k : Fin 4096) (s : State),
    let t := s.slot k
    let d := t.desc
    let enters : Prop := s.readyHead r = some k.val ∧ s.isFree r t = true ∧ s.cancelDue k = false ∧ r ≠ .none
    let c := s.setSlot k { t with state := .checking, engine := s.idleEngines.headD 0 }
    let refused (i : Instr) (status detail : Nat) : Prop := ∃ u, exec i s = .next u ∧ (u.slot k).state = .finished ∧
      (u.slot k).status = finalStatus t status ∧ (u.slot k).detail = detail
    let queued (i : Instr) (cost : Nat) : Prop := ∃ u, exec i s = .next u ∧ (u.slot k).state = .checking ∧
      u.reefQueue = insertReef s.reefQueue ⟨k, cost, s.cycle⟩ ∧
      u.fld F.REEF_GRANTED.QUEUED = (s.reefQueue.length + 1) % 65536 ∧ u.fld F.REEF_GRANTED.UNITS = s.fld F.REEF_GRANTED.UNITS
    let asked (i : Instr) : Prop := ∀ cost, c.verdict k = .grant cost →
      (cost ≤ s.grantable → queued i cost) ∧ (s.grantable < cost → refused i stNoGrant (grantCheck (dOpcode d)))
    let idle : Prop := t.state = .ready ∧ dOpcode d = 0x0D ∧ s.cancelDue k = false
    (s.readyHead r = none → exec (.taskEnterChecking r) s = .next s) ∧
    (s.readyHead r = some k.val → ¬ enters → exec (.taskEnterChecking r) s = .next s) ∧
    (enters → taskResource d = r → r ≠ .tack →
      asked (.taskEnterChecking r) ∧
      (∀ status detail, c.verdict k = .refuse status detail → refused (.taskEnterChecking r) status detail) ∧
      (c.verdict k = .run → dDeadline d = 0 ∨ s.ns ≤ dDeadline d → r = .loader ∨ r = .moveEngine →
        ∃ u, exec (.taskEnterChecking r) s = .next u ∧ (u.slot k).state = .running ∧ (u.slot k).dispatch = s.now ∧
          (u.slot k).moved = 0 ∧ u.journal = s.journal ++ [k.val] ∧ u.pool = s.pool)) ∧
    (enters → r = .tack → ∃ u, exec (.taskEnterChecking r) s = .next u ∧ (u.slot k).state = .checking ∧
      u.tack = some ⟨k, tkBank d, false, 0, false, [], []⟩ ∧ u.bank (tkBank d) = { s.bank (tkBank d) with locked := true } ∧
      u.fld F.TCK_PEND.PENDING = 1 ∧ u.fld F.TCK_PEND.BANK = tkBank d % 2) ∧
    (dOpcode d = 0x05 → r = taskResource d → (enters → asked (.burst k)) ∧ (s.readyHead r ≠ some k.val → exec (.burst k) s = .next s)) ∧
    (dOpcode d = 0x06 → r = taskResource d → (enters → asked (.capture k)) ∧
      (s.readyHead r ≠ some k.val → exec (.capture k) s = .next s)) ∧
    (dOpcode d = 0x07 → r = taskResource d → (enters → asked (.measure k)) ∧
      (s.readyHead r ≠ some k.val → exec (.measure k) s = .next s)) ∧
    (¬ idle → exec (.nop k) s = .next s) ∧
    (idle → ∃ u, exec (.nop k) s = .next u ∧ (u.slot k).state = .finished ∧ (u.slot k).status = finalStatus t stOk ∧ u.pool = s.pool)

/-- R290–R293, R301, R315: a task whose work has ended becomes FINISHED with its status, its journal entry, grant and reservations go, and
the slot its NOTIFY names is decremented (an empty one gains a credit; a WAITING one becomes READY at 0) when it succeeded; otherwise a
flow with CASCADE names that slot, where a task is WAITING, for the next core cycle, in which that task is cancelled and counted if it
is WAITING still. A task not yet dispatched whose DEADLINE device time reaches finishes DEADLINE. Other tasks stay as they are.
R276–R279, R296, R298: a flow releases its oldest task when it is FINISHED, and one in a core cycle: the slot is empty, without credits,
the 32 bytes of its completion stand at the CQ tail of its ring, which advances, and the completions of the CANCELs aimed at it are due
in the next core cycle; else nothing happens. A cancel that is due takes a WAITING or READY task to FINISHED with CANCELLED and aborts a
RUNNING burst; one that is not due does nothing. -/
def Obligations.TaskEnds : Prop :=
  (
  (∀ (k : Fin 4096) (m status detail result : Nat) (s : State),
    let t := s.slot k
    let d := t.desc
    let final := finalStatus t status
    (t.done = none ∨ t.state ≠ .running → exec (.taskFinish k) s = .next s) ∧
    (t.state = .running → t.done = some (status, detail, result) → m ≠ k.val → dNotify d = [m] →
      ∃ u, exec (.taskFinish k) s = .next u ∧
        (u.slot k).state = .finished ∧ (u.slot k).status = final ∧ (u.slot k).detail = detail ∧ (u.slot k).result = result ∧
        (u.slot k).grant = 0 ∧ (u.slot k).done = none ∧ k.val ∉ u.journal ∧ (∀ r ∈ u.resv, r.owner ≠ k.val) ∧
        u.pool = s.pool ∧ u.host = s.host ∧
        (∀ j, j ≠ k.val → j ≠ m → u.slot j = s.slot j) ∧
        (succeeded final = false → u.slot m = s.slot m ∧ u.cascades =
          if dFlow d < 32 ∧ s.flag (F.SCH_FLOW_CFG.CASCADE (dFlow d)) = true ∧ (s.slot m).state = .waiting then
            s.cascades ++ [⟨s.cycle, [(m, (s.slot m).order)]⟩] else s.cascades) ∧
        (succeeded final = true → u.cascades = s.cascades ∧
          ((s.slot m).state = .empty → (u.slot m).state = .empty ∧ (u.slot m).count = min ((s.slot m).count + 1) 65535) ∧
          ((s.slot m).state = .waiting → (s.slot m).count = 1 →
            (u.slot m).state = .ready ∧ (u.slot m).count = 0 ∧ (u.slot m).readyAt = s.cycle) ∧
          ((s.slot m).state = .waiting → 1 < (s.slot m).count →
            (u.slot m).state = .waiting ∧ (u.slot m).count = (s.slot m).count - 1) ∧
          ((s.slot m).state = .finished → (s.slot m).waited = true → (s.slot m).readyAt = s.cycle →
            u.slot m = s.slot m ∧ u.regN R.SCH_UNDER = s.regN R.SCH_UNDER) ∧
          ((s.slot m).state = .waiting ∧ (s.slot m).count = 0 ∨ (s.slot m).state = .ready ∨ (s.slot m).state = .checking ∨
              (s.slot m).state = .running ∨
              ((s.slot m).state = .finished ∧ ((s.slot m).waited = false ∨ (s.slot m).readyAt ≠ s.cycle)) →
            u.slot m = s.slot m ∧ u.regN R.SCH_UNDER = min (s.regN R.SCH_UNDER + 1) (2 ^ 32 - 1))))) ∧
  (∀ (c : Cascade) (m : Fin 4096) (o : Nat) (s : State),
    let t := s.slot m
    let same : Prop := t.state = .waiting ∧ t.order = o
    ((∀ x ∈ s.cascades, s.cycle ≤ x.cycle) → exec .cascadeCancel s = .next s) ∧
    (s.cascades = [c] → c.cycle < s.cycle → c.slots = [(m.val, o)] →
      ∃ u, exec .cascadeCancel s = .next u ∧ (¬ same → u.slot m = t ∧ u.cascades = []) ∧
        (same → dFlow t.desc < 32 → (u.slot m).state = .finished ∧ (u.slot m).status = stCancelled ∧
          u.fld (F.SCH_FLOW_STAT.CASCADED (dFlow t.desc)) = min (s.fld (F.SCH_FLOW_STAT.CASCADED (dFlow t.desc)) + 1) 255))) ∧
  (∀ (k : Fin 4096) (s : State),
    let t := s.slot k
    let due : Prop := (t.state = .waiting ∨ t.state = .ready ∨ t.state = .checking) ∧ dDeadline t.desc ≠ 0 ∧
      dDeadline t.desc * 2 ^ 32 ≤ s.now ∧ s.cancelDue k = false
    (¬ due → exec (.taskDeadlineExpiry k) s = .next s) ∧
    (due → dFlow t.desc < 32 → ∃ u, exec (.taskDeadlineExpiry k) s = .next u ∧ (u.slot k).state = .finished ∧
      (u.slot k).status = stDeadline ∧
      u.fld (F.SCH_FLOW_STAT.DLMISS (dFlow t.desc)) = min (s.fld (F.SCH_FLOW_STAT.DLMISS (dFlow t.desc)) + 1) 255))) ∧
  (
  (∀ (flow : Fin 32) (k : Fin 4096) (s : State),
    let t := s.slot k
    let q := t.ring
    let tail := s.fld (F.HIF_RING_POS.CQTAIL q)
    (s.oldestOf flow = none → exec (.taskRelease flow) s = .next s) ∧
    (s.oldestOf flow = some k.val → t.state ≠ .finished → exec (.taskRelease flow) s = .next s) ∧
    (s.oldestOf flow = some k.val → Sparse.get (fun _ => 0) s.releasedAt flow = s.cycle + 1 →
      exec (.taskRelease flow) s = .next s) ∧
    (s.oldestOf flow = some k.val → t.state = .finished → Sparse.get (fun _ => 0) s.releasedAt flow ≠ s.cycle + 1 → q < 64 →
      dFlow t.desc = flow →
      ∃ u, exec (.taskRelease flow) s = .next u ∧ u.slot k = Task.none ∧ (∀ j, j ≠ k.val → u.slot j = s.slot j) ∧
        u.host = Sparse.setMany hostDefault s.host (s.cqEntry q tail)
          (completionBytes t.desc t.status (b2n (s.ring q).phase) t.detail (s.fld (F.HIF_RING_POS.SQHEAD q)) t.result s.ns) ∧
        u.fld (F.HIF_RING_POS.CQTAIL q) = (if tail + 1 = s.cqSize q then 0 else tail + 1) % 65536 ∧
        u.fld (F.SCH_FLOW_STAT.HELD flow) = s.fld (F.SCH_FLOW_STAT.HELD flow) - 1 ∧ u.pool = s.pool ∧
        Sparse.get (fun _ => 0) u.releasedAt flow = u.cycle + 1 ∧
        u.cancels = s.cancels.map fun c : CancelWait =>
          if c.target = k ∧ c.released = none then { c with released := some s.cycle } else c)) ∧
  (∀ (k : Fin 4096) (s : State),
    let t := s.slot k
    (s.cancelDue k = false → exec (.cancel k) s = .next s) ∧
    (s.cancelDue k = true → t.state = .waiting ∨ t.state = .ready →
      ∃ u, exec (.cancel k) s = .next u ∧ (u.slot k).state = .finished ∧ (u.slot k).status = stCancelled ∧ u.pool = s.pool) ∧
    (s.cancelDue k = true → t.state = .running → t.done = none → dOpcode t.desc = 0x05 → buSg t.desc < 64 →
      s.busySg (buSg t.desc) = true →
      ∃ u, exec (.cancel k) s = .next u ∧ u.eState (buSg t.desc) = 3 ∧ (u.slot k).state = .running ∧ u.pool = s.pool)))

/-! ### Tack and Reef (14_tack_and_reef.md) -/

/-- R7, R26, R59, R211, R289, R315: the head of Reef's queue is granted when the granted units and its cost lie within the grantable budget:
its units count, and the last checks follow. A job's, a capture's and a burst's task that passes them runs from this instant: its
processor runs, its unit arms, its engine is ARMED with the start instant one arm lead away and the address of its entry. A head that
does not fit, or whose set's partner is not free, waits (log 108); one whose engine, unit or processor was fenced meanwhile finishes
FENCED and returns its grant. A request that has waited QWAIT µs finishes NO_GRANT, counted and signalled, unless it is the head and
fits. -/
def Obligations.ReefGrants : Prop :=
  (∀ (q : ReefReq) (rest : List ReefReq) (s : State),
    let k := q.slot
    let d := (s.slot k).desc
    let sg := buSg d
    let onTime : Prop := dDeadline d = 0 ∨ s.ns ≤ dDeadline d
    let runs (P : State → Prop) : Prop := ∃ u, exec .reefGrant s = .next u ∧ u.reefQueue = rest ∧
      u.fld F.REEF_GRANTED.UNITS = s.fld F.REEF_GRANTED.UNITS + q.cost ∧ (u.slot k).grant = q.cost ∧ (u.slot k).state = .running ∧
      (u.slot k).dispatch = s.now ∧ P u
    (s.reefQueue = [] → exec .reefGrant s = .next s) ∧
    (s.reefQueue = q :: rest → s.reefFits q.cost = false → exec .reefGrant s = .next s) ∧
    (s.reefQueue = q :: rest → s.claimsFree k = false → exec .reefGrant s = .next s) ∧
    (∀ n, s.reefQueue = q :: rest → s.reefFits q.cost = true → s.claimsFree k = true → 0 < q.cost → s.fencedSince d = some n →
      ∃ u, exec .reefGrant s = .next u ∧ u.reefQueue = rest.filter (fun x => x.slot != k) ∧ (u.slot k).state = .finished ∧
        (u.slot k).status = stFenced ∧ (u.slot k).detail = n ∧ (u.slot k).grant = 0) ∧
    (s.reefQueue = q :: rest → s.reefFits q.cost = true → s.fencedSince d = none → onTime →
      (dOpcode d = 0x08 → dsCpx d < 8 → (s.job (dsJob d)).op ≠ 1 → runs fun u => u.fld (F.CPX_STAT.STATE (dsCpx d)) = 1 ∧
        (u.cpx (dsCpx d)).slot = some k ∧ (u.cpx (dsCpx d)).elems = 0 ∧ u.pool = s.pool) ∧
      (dOpcode d = 0x06 → duUnit d < 16 → s.flag (F.AQ_CFG.SPILL (duUnit d)) = false → runs fun u =>
        u.fld (F.AQ_STAT.STATE (duUnit d)) = 1 ∧ (u.acq (duUnit d)).slot = some k ∧ (u.acq (duUnit d)).nrec = duCount d) ∧
      (dOpcode d = 0x05 → sg < 64 → s.streamAlloc sg = none → buStart d = 0 → runs fun u =>
        u.eState sg = 1 ∧ (u.engine sg).slot = some k ∧ (u.engine sg).pc = s.entryAddr sg (buEntry d) ∧
        (u.engine sg).start = some (toTick (s.now + s.armLead sg * 2 ^ 32))))) ∧
  (∀ (k : Fin 4096) (q : ReefReq) (s : State),
    let wait := s.fld F.REEF_QWAIT.USEC
    let due : Prop := wait ≠ 0 ∧ q.joined + usCycles wait ≤ s.cycle ∧
      ¬ ((s.reefQueue.head?.map (·.slot)) = some k.val ∧ s.reefFits q.cost = true)
    (s.reefQueue.find? (fun x => x.slot == k.val) = none → exec (.reefQueueTimeout k) s = .next s) ∧
    (s.reefQueue.find? (fun x => x.slot == k.val) = some q →
      (¬ due → exec (.reefQueueTimeout k) s = .next s) ∧
      (due → ∃ u, exec (.reefQueueTimeout k) s = .next u ∧ (u.slot k).state = .finished ∧ (u.slot k).status = stNoGrant ∧
        (∀ x ∈ u.reefQueue, x.slot ≠ k.val) ∧ u.flag (evPend 208) = true ∧
        u.fld F.REEF_REFUSED.POWER = min (s.fld F.REEF_REFUSED.POWER + 1) 65535)))

/-- R107, R305, R309, R310: the checks of the TACK in CHECKING. An empty bank completes OK at once; WHEN = 1 with a group that is neither
ARMED nor RUNNING fails check 2; the first check that fails ends the task INCONSISTENT with its number in DETAIL and TCK_ERR and the
offset it names; each leaves the bank unlocked with its values. Every covered group's TMG_SG_ERR is written, whichever check fails
(R107). One that passes, without new drains, is RUNNING with its bank LOCKED. R96, R306, R310, R311: the commit of a TACK in RUNNING.
Before its instant nothing happens; a burst that ended before cycle b makes it end DEADLINE; else it completes OK, is counted, and its
bank is EMPTY. A value that acts in no group's cycles is in effect; one that acts in an enabled group's cycles waits for the first that
begins 7.5 ns after the instant, unless a burst of the group started at that instant with it. BANK_A_CLEAR and BANK_B_CLEAR empty a bank
unless it is LOCKED, which is reported; WBANK_SELECT changes where later writes are staged and neither bank. -/
def Obligations.StageCommits : Prop :=
  (
  ∀ (k : Fin 4096) (job : TackJob) (s : State),
    let d := (s.slot k).desc
    let b := job.bank
    let v := s.tackView b
    let past (status check off : Nat) : Prop := ∃ u, exec (.tack k) s = .next u ∧ u.tack = none ∧
      (u.slot k).state = .finished ∧ (u.slot k).status = finalStatus (s.slot k) status ∧ (u.slot k).detail = check ∧
      (check ≠ 0 → u.fld F.TCK_ERR.CHECK = check % 16 ∧ u.fld F.TCK_ERR.OFFSET = off % 2 ^ 26) ∧
      u.bank b = { s.bank b with locked := false } ∧ u.tables = s.tables
    let notLate : Prop := tkWhen d = 0 ∨ (tkWhen d = 2 ∧ s.now ≤ tkAt d * 2 ^ 32 + tkFrac d)
    (s.tack = none → exec (.tack k) s = .next s) ∧
    (s.tack = some job → job.slot ≠ k.val ∨ job.passed = true → exec (.tack k) s = .next s) ∧
    (s.tack = some job → job.slot = k.val → job.passed = false →
      ((s.bank b).vals = [] → past stOk 0 0) ∧
      ((s.bank b).vals ≠ [] → tkWhen d = 1 → s.busySg (tkSg d) = false → past stInconsistent 2 0) ∧
      ((s.bank b).vals ≠ [] → tkWhen d ≠ 1 ∨ s.busySg (tkSg d) = true → ∀ f, v.firstCheck = some f → past stInconsistent f.1 f.2) ∧
      ((s.bank b).vals ≠ [] → v.drains = [] → ∃ u, exec (.tack k) s = .next u ∧
        ∀ g ∈ v.groups, u.reg (R.TMG_SG_ERR g) = BitVec.ofNat 32 (v.n.timingWord v.s g)) ∧
      ((s.bank b).vals ≠ [] → notLate → v.firstCheck = none → v.drains = [] →
        ∃ u, exec (.tack k) s = .next u ∧ (u.slot k).state = .running ∧ u.tack = some { job with passed := true, checkEnd := s.now } ∧
          u.bank b = s.bank b ∧ u.tables = s.tables ∧ u.regN R.TCK_ERR = 0))) ∧
  (
  (∀ (k : Fin 4096) (job : TackJob) (key : Nat) (w : Word) (s : State),
    let d := (s.slot k).desc
    let b := job.bank
    let v := (s.overlay job.before).tackView b
    let past (status : Nat) (P : State → Prop) : Prop := ∃ u, exec (.tackCommit k) s = .next u ∧ u.tack = none ∧
      (u.slot k).state = .finished ∧ (u.slot k).status = finalStatus (s.slot k) status ∧ (u.slot k).detail = 0 ∧ P u
    (s.tack = none → exec (.tackCommit k) s = .next s) ∧
    (s.tack = some job → job.slot ≠ k.val ∨ job.passed = false → exec (.tackCommit k) s = .next s) ∧
    (s.tack = some job → job.slot = k.val → job.passed = true → s.commitState job d = .waits →
      exec (.tackCommit k) s = .next s) ∧
    (s.tack = some job → job.slot = k.val → job.passed = true → s.commitState job d = .fails →
      past stDeadline fun u => u.bank b = { s.bank b with locked := false } ∧ u.tables = s.tables ∧
        u.fld F.TCK_STAT.COMMITS = s.fld F.TCK_STAT.COMMITS) ∧
    (s.tack = some job → job.slot = k.val → job.passed = true → s.commitState job d = .commits →
      past stOk fun u => u.bank b = ⟨false, []⟩ ∧ u.fld F.TCK_STAT.COMMITS = min (s.fld F.TCK_STAT.COMMITS + 1) 65535 ∧
        ((s.bank b).vals = [(key, w)] → tkWhen d ≠ 1 →
          (key / 2 ^ 26 = 1 → v.actsIn d key = none → Sparse.get (fun _ => 0) u.tables key = w) ∧
          (∀ g, g < 64 → v.actsIn d key = some g → job.met.contains g = false → tkWhen d = 0 → s.flag (F.PG_CFG.EN g) = true →
            u.tables = s.tables ∧ ∃ p ∈ u.groupPend, p = ⟨g, none,
              if s.busySg g = true ∧ (s.engine g).start = some (toTick s.now) then toTick s.now else toTick s.now + 61440,
              [(key, w)]⟩)))) ∧
  (∀ (s : State), s.inUse = true →
    ((s.bankA.locked = true → ∃ t, exec .bankAClear s = .next t ∧ t.bankA = s.bankA ∧ t.bankB = s.bankB ∧
      ∃ m ∈ t.faultIn, m.src = 249 ∧ m.kind = kRegAccess ∧ m.addr = R.TCK_CTRL) ∧
    (s.bankA.locked = false → ∃ t, exec .bankAClear s = .next t ∧ t.bankA = ⟨false, []⟩ ∧ t.bankB = s.bankB ∧
      t.fld F.TCK_STAT.STATEA = 0 ∧ t.fld F.TCK_CTRL.WBANK = s.fld F.TCK_CTRL.WBANK ∧ t.faultIn = s.faultIn) ∧
    (s.bankB.locked = true → ∃ t, exec .bankBClear s = .next t ∧ t.bankA = s.bankA ∧ t.bankB = s.bankB ∧
      ∃ m ∈ t.faultIn, m.src = 249 ∧ m.kind = kRegAccess ∧ m.addr = R.TCK_CTRL) ∧
    (s.bankB.locked = false → ∃ t, exec .bankBClear s = .next t ∧ t.bankB = ⟨false, []⟩ ∧ t.bankA = s.bankA ∧
      t.fld F.TCK_STAT.STATEB = 0 ∧ t.fld F.TCK_CTRL.WBANK = s.fld F.TCK_CTRL.WBANK ∧ t.faultIn = s.faultIn)) ∧
    ∀ bank : Fin 2, ∃ t, exec (.wbankSelect bank) s = .next t ∧ t.fld F.TCK_CTRL.WBANK = bank ∧ t.bankA = s.bankA ∧
      t.bankB = s.bankB ∧ t.faultIn = s.faultIn ∧ t.tables = s.tables))

/-- R318, R371, R445: THERM_N and the sensors. Where the housekeeping controllers are active, the alarm follows the ball, driven by this
device or from outside, and a change sets SEEN and signals the Reef event; elsewhere only the pin changes. Every 1 ms the readings show
in CAL_BANKSTAT, one of 105 °C or more is a thermal fault of its bank, and this device drives THERM_N from TEMP until every reading is 5
°C below it; no reading is taken before it is due. -/
def Obligations.ThermalAlarm : Prop :=
  ∀ (low : Bool) (temps : List Int) (s : State),
    let now : Bool := low || s.flag F.REEF_ALARM.DRIVING
    let active := s.flag F.REEF_ALARM.ACTIVE
    let limit : Int := 4 * s.fld F.REEF_ALARM.TEMP
    (∃ t, exec (.thermNChange low) s = .next t ∧ t.pins = { s.pins with thermLow := low } ∧ t.pool = s.pool ∧
      (s.housekeeping = false → t.regs = s.regs) ∧
      (s.housekeeping = true → t.flag F.REEF_ALARM.ACTIVE = now ∧ (active = now → t.regs = s.regs) ∧
        (active ≠ now → t.flag F.REEF_ALARM.SEEN = true ∧ t.flag (evPend 208) = true))) ∧
    (s.housekeeping = false ∨ s.clk < s.cal.readAt + 1000000 → exec (.sensorRead temps) s = .next s) ∧
    (s.housekeeping = true → s.cal.readAt + 1000000 ≤ s.clk → ∃ t, exec (.sensorRead temps) s = .next t ∧ t.cal.readAt = s.clk ∧
      (∀ b, b < 16 → t.fld (F.CAL_BANKSTAT.TEMP b) = unsigned 16 (reading temps b)) ∧
      (∀ b, b < 16 → 420 ≤ reading temps b → ∃ m ∈ t.faultIn, m.src = 268 ∧ m.kind = kThermal ∧ m.addr = b) ∧
      (∀ b, b < 16 → limit ≤ reading temps b → t.flag F.REEF_ALARM.DRIVING = true ∧ t.flag F.REEF_ALARM.ACTIVE = true) ∧
      ((∀ b, b < 16 → reading temps b ≤ limit - 20) → t.flag F.REEF_ALARM.DRIVING = false ∧
        t.flag F.REEF_ALARM.ACTIVE = s.pins.thermLow) ∧
      t.pool = s.pool ∧ t.host = s.host)

/-! ### Links and companions (15_alapel_links.md) -/

/-- R328–R330: bring-up. Eight valid training sequences in a row on every lane take a port from ACQUIRE to ALIGN; from there a lane order of
0 to 3 or 3 to 0 with a skew of at most 32 UI leads to TUNE, or with AUTOTX = 0 to HANDSHAKE, another order back to ACQUIRE; 64 with
SEEN on every lane and 16 sent after them make it UP with 64 credits and a DISCOVER queued. In TUNE each preset is measured 10 µs after
it is requested, and of the eight the best is chosen. A port not UP within 2 ms of entering ACQUIRE goes back to it and counts. R321,
R324, R326, R329, R331, R333: how an UP port falls. A training sequence received, a lost clock, 256 columns without an alignment column,
4 ms without DISCOVER and a host's RETRAIN send it to ACQUIRE: counted, its queued frames discarded, its partner detached and a link
fault of the port reported. A code error is counted and fails the link as its lane's sixteenth within 1 ms; a bad frame is discarded and
counted, and fails it as the sixteenth. An alignment column whose lanes lie at most 32 UI apart gives column lock and their deskew,
another loses the lock, and frames count only with it. A port that is DOWN takes no notice. -/
def Obligations.LinkTraining : Prop :=
  (
  ∀ (p lane : Fin 4) (t : Training) (valid : Bool) (skew : Nat) (eyes : List Nat) (s : State),
    let v := s.port p
    let st := s.portState p
    let rx := Instr.trainingSequenceRx p lane t valid skew
    let back (c : Instr) : Prop := ∃ u, exec c s = .next u ∧ u.portState p = 1 ∧
      u.fld (F.LNK_P_STAT.RETRAINS p) = min (s.fld (F.LNK_P_STAT.RETRAINS p) + 1) 65535 ∧ u.flag (F.LNK_P_STAT.LANEREV p) = false
    let run := setAt v.tsRun lane (if valid = true then nth v.tsRun lane 0 + 1 else 0)
    let order := if valid = true then setAt v.laneNo lane t.lane else v.laneNo
    let seen := if valid = true ∧ t.seen = true then setAt v.tsSeen lane (nth v.tsSeen lane 0 + 1) else v.tsSeen
    let full (l : List Nat) : Prop := ∀ x ∈ l, 64 ≤ x
    let up (u : State) : Prop := u.portState p = 5 ∧ u.fld (F.LNK_P_FAIL.CREDITS p) = 64 ∧
      ∃ f ∈ (u.port p).txq, f.cls = 2 ∧ f.payload = ofBytes (s.discoverPayload p)
    let preset := if s.flag (F.LNK_P_CFG.AUTOTX p) = true then v.partnerReq else s.fld (F.LNK_P_CFG.PRESET p)
    let sent := if st = 4 ∧ full v.tsSeen then v.tsSent + 1 else v.tsSent
    let eye := eyes.foldl min (eyes.headD 0)
    let best := match v.tuneBest with
      | none => (v.tuneStep, eye)
      | some b => if b.2 < eye then (v.tuneStep, eye) else b
    (st = 0 → exec rx s = .next s ∧ exec (.trainingSequenceTx p) s = .next s ∧ exec (.linkTrainTimeout p) s = .next s) ∧
    (st = 1 → ∃ u, exec rx s = .next u ∧ u.portState p = (if ∀ x ∈ run, 8 ≤ x then 2 else 1) ∧ (u.port p).tsRun = run) ∧
    (st = 2 → order ≠ [0, 1, 2, 3] → order ≠ [3, 2, 1, 0] → back rx) ∧
    (st = 2 → order = [0, 1, 2, 3] ∨ order = [3, 2, 1, 0] → 32 < skew → ∃ u, exec rx s = .next u ∧ u.portState p = 2) ∧
    (st = 2 → order = [0, 1, 2, 3] ∨ order = [3, 2, 1, 0] → skew ≤ 32 → ∃ u, exec rx s = .next u ∧
      u.portState p = (if s.flag (F.LNK_P_CFG.AUTOTX p) = true then 3 else 4) ∧
      u.flag (F.LNK_P_STAT.LANEREV p) = decide (order = [3, 2, 1, 0])) ∧
    (st = 4 → ∃ u, exec rx s = .next u ∧ (full seen → 16 ≤ v.tsSent → up u) ∧
      (¬ full seen ∨ v.tsSent < 16 → u.portState p = 4 ∧ (u.port p).tsSeen = seen)) ∧
    (st ≠ 0 → st ≠ 5 → ∃ u, exec (.trainingSequenceTx p) s = .next u ∧ u.fld (F.LNK_P_STAT.TXPRESET p) = preset % 8 ∧
      (u.port p).tsOut = some ⟨0, p, decide (2 ≤ st), v.request.isSome, v.request.getD 0, preset⟩ ∧
      (st = 4 ∧ full v.tsSeen ∧ 16 ≤ sent → up u) ∧ (¬ (st = 4 ∧ full v.tsSeen ∧ 16 ≤ sent) → u.portState p = st)) ∧
    (st = 5 ∨ s.clk < v.acquireAt + 2000000 → exec (.linkTrainTimeout p) s = .next s) ∧
    (st ≠ 0 → st ≠ 5 → v.acquireAt + 2000000 ≤ s.clk → back (.linkTrainTimeout p)) ∧
    (st ≠ 3 ∨ s.clk < v.tuneAt + 10000 → exec (.tunePresetStep p eyes) s = .next s) ∧
    (st = 3 → v.tuneAt + 10000 ≤ s.clk → v.tuneStep < 7 → ∃ u, exec (.tunePresetStep p eyes) s = .next u ∧ u.portState p = 3 ∧
      (u.port p).request = some (v.tuneStep + 1) ∧ (u.port p).tuneBest = some best ∧ u.regs = s.regs) ∧
    (st = 3 → v.tuneAt + 10000 ≤ s.clk → 7 ≤ v.tuneStep → ∃ u, exec (.tunePresetStep p eyes) s = .next u ∧ u.portState p = 4 ∧
      u.fld (F.LNK_P_STAT.RXPRESET p) = best.1 % 8)) ∧
  (
  ∀ (p lane : Fin 4) (t : Training) (valid : Bool) (skew : Nat) (value : Word) (a : Arrival) (s : State),
    let v := s.port p
    let st := s.portState p
    let falls (c : Instr) : Prop := ∃ u, exec c s = .next u ∧ u.portState p = 1 ∧
      u.fld (F.LNK_P_STAT.RETRAINS p) = min (s.fld (F.LNK_P_STAT.RETRAINS p) + 1) 65535 ∧ (u.port p).acquireAt = s.clk ∧
      (st = 5 → u.flag (F.LNK_P_STAT.ATTACHED p) = false ∧ (u.port p).txq = [] ∧ ∃ m ∈ u.faultIn, m.src = 252 + p ∧ m.kind = kLink)
    let errs := (s.clk, lane.val) :: v.codeErrs.filter fun e => decide (s.clk < e.1 + 1000000)
    let bad := s.clk :: v.badFrames.filter fun t => decide (s.clk < t + 1000000)
    (∀ l, st = 0 → exec (.linkFailure p l) s = .next s) ∧
    (∀ l, l = .clockLost lane ∨ (l = .noAlignment ∧ v.rxAligned + 256 ≤ s.column) → st = 5 → falls (.linkFailure p l)) ∧
    (st ≠ 5 ∨ s.column < v.rxAligned + 256 → exec (.linkFailure p .noAlignment) s = .next s) ∧
    (st ≠ 5 → exec (.linkFailure p (.clockLost lane)) s = .next s) ∧
    (∀ a0 a1 a2 a3 : Nat, st = 5 →
      let last := max (max a0 a1) (max a2 a3)
      ∃ u, exec (.linkFailure p (.aligned [a0, a1, a2, a3])) s = .next u ∧ u.portState p = 5 ∧ (u.port p).rxAligned = s.column ∧
        (u.port p).locked = decide (last ≤ min (min a0 a1) (min a2 a3) + 32) ∧
        ((u.port p).locked = true → (u.port p).deskew = [last - a0, last - a1, last - a2, last - a3]) ∧ u.regs = s.regs) ∧
    (st = 5 → v.discRx + 4000000 ≤ s.clk → falls (.linkFailure p .noDiscover)) ∧
    (st ≠ 5 ∨ s.clk < v.discRx + 4000000 → exec (.linkFailure p .noDiscover) s = .next s) ∧
    (st ≠ 0 → ∃ u, exec (.linkFailure p (.codeError lane)) s = .next u ∧
      u.fld (F.LNK_P_ERR.CODE p) = min (s.fld (F.LNK_P_ERR.CODE p) + 1) 65535 ∧
      u.portState p = if st = 5 ∧ 16 ≤ (errs.filter fun e => e.2 == lane.val).length then 1 else st) ∧
    (st = 5 → 16 ≤ (errs.filter fun e => e.2 == lane.val).length → falls (.linkFailure p (.codeError lane))) ∧
    (st = 5 → falls (.trainingSequenceRx p lane t valid skew)) ∧
    (s.inUse = true → bitOf value.toNat 31 = true → st ≠ 0 → falls (.linkRetrain p value)) ∧
    (s.inUse = true → bitOf value.toNat 31 = false → ∃ u, exec (.linkRetrain p value) s = .next u ∧ u.portState p = 0 ∧
      u.flag (F.LNK_P_STAT.ATTACHED p) = false) ∧
    ∀ c ∈ [Instr.discoverRx p a, .linkFrameRx p a, .failFrameRx p a, .syncFrameRx p a],
      (st ≠ 5 ∨ v.locked = false → exec c s = .next s) ∧
      (st = 5 → v.locked = true → a.clean = false → ∃ u, exec c s = .next u ∧ u.fld (F.LNK_P_ERR.CRC p) = min (s.fld (F.LNK_P_ERR.CRC p) + 1) 65535 ∧
        u.portState p = (if 16 ≤ bad.length then 1 else 5) ∧ (16 ≤ bad.length → falls c)))

/-- R321, R324, R327, R333, R334, R339–R341: frames. An UP port whose transmitter is free sends, of the frames that may go, one of the
highest priority, the first of it in the queue; a FAIL frame needs a credit and takes one. A frame takes a column for each four of its
bytes and two more, behind an alignment column where the next would come more than 128 columns after the latest; the columns before it
were alignment columns. DISCOVER is queued every 1 ms, a LINK frame with the count of freed FAIL frames every 1 µs or after 16 of them,
a part-filled FAIL frame with PAD records 1 µs after its first record. A DISCOVER attaches the partner it names and shows it; a LINK
frame updates the credits; a FAIL frame is freed and what its SEQ skips is counted in GAPS. -/
def Obligations.LinkFrames : Prop :=
  ∀ (p : Fin 4) (phase : Fin 8192) (a : Arrival) (s : State),
    let v := s.port p
    let st := s.portState p
    let may (f : Frame) : Prop := f.cls ≠ 5 ∨ v.credits ≠ 0
    let good : Prop := st = 5 ∧ v.locked = true ∧ a.clean = true ∧ a.hops ≠ 0
    let aligned := if v.txFree < s.column then s.column - 1 else v.txAligned
    let d := a.payload
    let queues (c : Instr) (cls payload : Nat) : Prop := ∃ u f, exec c s = .next u ∧ (u.port p).txq = v.txq ++ [f] ∧ f.cls = cls ∧
      f.hops = 1 ∧ f.origin = s.fld F.LNK_ID.ID ∧ f.payload = payload ∧ ∀ q, q ≠ p.val → u.port q = s.port q
    let missing := 4 * (match v.failSeq with | none => 0 | some e => (a.seq + 65536 - e) % 65536)
    (st ≠ 5 ∨ s.column < v.txFree → exec (.frameTx p phase) s = .next s) ∧
    (st = 5 → v.txFree ≤ s.column → (∀ f ∈ v.txq, ¬ may f) → ∃ u, exec (.frameTx p phase) s = .next u ∧
      u.port p = { v with txFree := s.column, txAligned := aligned } ∧ u.regs = s.regs) ∧
    (st = 5 → v.txFree ≤ s.column → (∃ f ∈ v.txq, may f) → ∃ u f l r, exec (.frameTx p phase) s = .next u ∧ v.txq = l ++ f :: r ∧ may f ∧
      (∀ g ∈ v.txq, may g → framePriority f.cls ≤ framePriority g.cls) ∧
      (∀ g ∈ l, may g → framePriority f.cls < framePriority g.cls) ∧
      (u.port p).txq = v.txq.erase f ∧ (f.cls ≠ 4 → (u.port p).sent = some f) ∧
      (u.port p).failSent = (if f.cls = 5 then (v.failSent + 1) % 65536 else v.failSent) ∧
      (u.port p).txFree = s.column + frameColumns f.cls + (if aligned + 128 < s.column + frameColumns f.cls then 1 else 0)) ∧
    (st ≠ 5 ∨ s.clk < v.discTx + 1000000 → exec (.discoverTimer p) s = .next s) ∧
    (st = 5 → v.discTx + 1000000 ≤ s.clk → queues (.discoverTimer p) 2 (ofBytes (s.discoverPayload p))) ∧
    (let due : Prop := v.linkTx + 1000 ≤ s.clk ∨ v.rxReported + 16 ≤ v.rxFreed
     (st ≠ 5 ∨ ¬ due → exec (.linkCreditTimer p) s = .next s) ∧ (st = 5 → due → queues (.linkCreditTimer p) 1 (v.rxFreed % 65536))) ∧
    (v.packing = [] ∨ s.clk < v.packSince + 1000 → exec (.failFrameTimer p) s = .next s) ∧
    (v.packing ≠ [] → v.packSince + 1000 ≤ s.clk →
      (s.carries p = true → queues (.failFrameTimer p) 5 (ofBytes ((v.packing.take 4 ++
        List.replicate (4 - (v.packing.take 4).length) (15 * 2 ^ 124)).flatMap (toBytes 16)))) ∧
      (s.carries p = false → ∃ u, exec (.failFrameTimer p) s = .next u ∧ (u.port p).txq = v.txq ∧ (u.port p).packing = v.packing.drop 4)) ∧
    (good → dget d 13 3 = 0 → ∃ u, exec (.discoverRx p a) s = .next u ∧ u.portState p = 5 ∧ u.flag (F.LNK_P_STAT.ATTACHED p) = true ∧
      u.reg64 (R.LNK_P_PART_LO p) (R.LNK_P_PART_HI p) = dget d 0 8 ∧ u.fld (F.LNK_P_PART_ID.ID p) = dget d 8 2 ∧
      u.flag (F.LNK_P_STAT.IDCLASH p) = decide (dget d 8 2 = s.fld F.LNK_ID.ID) ∧ (u.port p).discRx = s.clk ∧
      (s.flag (F.LNK_P_STAT.ATTACHED p) = false ∨ s.reg64 (R.LNK_P_PART_LO p) (R.LNK_P_PART_HI p) ≠ dget d 0 8 →
        u.flag (evPend (200 + p)) = true)) ∧
    (good → dget d 2 6 = 0 → ∃ u, exec (.linkFrameRx p a) s = .next u ∧ u.port p = { v with failFreed := dget d 0 2 } ∧
      u.fld (F.LNK_P_FAIL.CREDITS p) = 64 - (v.failSent + 65536 - dget d 0 2) % 65536) ∧
    (good → s.carries p = false → exec (.failFrameRx p a) s = .next s) ∧
    (good → s.carries p = true → ∃ u, exec (.failFrameRx p a) s = .next u ∧ (u.port p).rxFreed = v.rxFreed + 1 ∧
      (u.port p).failSeq = some ((a.seq + 1) % 65536) ∧
      u.fld (F.LNK_P_FAIL.GAPS p) = min (s.fld (F.LNK_P_FAIL.GAPS p) + missing) 255 ∧
      (s.flag (F.LNK_P_CFG.FAILIN p) = false → u.logs = s.logs))

/-- R49, R336–R338: sync events. A SYNC frame is taken once: a repeat of one of the last 64 is counted in DUP and goes no further. One that
comes in time waits for RELEASE = STAMP + HOPS × 24 ns; a late one is counted and signalled. It is forwarded at once, HOPS increased, on
the ports of FWD that carry it, but not on its own port and not from HOPS 15. At RELEASE every SYNC WAIT of the event ends FLAT cycles
after the vector cycle in progress at the balls; an engine whose next line is open keeps the event for the instructions of the lines
before it, and no other engine changes. -/
def Obligations.SyncEvents : Prop :=
  (∀ (p : Fin 4) (a : Arrival) (s : State),
    let d := a.payload
    let event := dget d 0 2
    let release := payloadTime d 4 + a.hops * 24 * 2 ^ 32
    let good : Prop := s.portState p = 5 ∧ (s.port p).locked = true ∧ a.clean = true ∧ a.hops ≠ 0 ∧ dget d 2 2 = 0 ∧ event < 4096
    let late : Prop := release < s.now + 3 * 2 ^ 31 ∨ s.synchronised = false
    (good → s.carries p = false → exec (.syncFrameRx p a) s = .next s) ∧
    (good → s.carries p = true → (a.origin, a.seq) ∈ s.recentSync → ∃ u, exec (.syncFrameRx p a) s = .next u ∧
      u.fld (F.LNK_P_SYNC.DUP p) = min (s.fld (F.LNK_P_SYNC.DUP p) + 1) 255 ∧ u.syncPend = s.syncPend ∧ u.ports = s.ports ∧
      u.engines = s.engines) ∧
    (good → s.carries p = true → (a.origin, a.seq) ∉ s.recentSync → ∃ u, exec (.syncFrameRx p a) s = .next u ∧
      u.recentSync = ((a.origin, a.seq) :: s.recentSync).take 64 ∧ u.port p = s.port p ∧
      (∀ n, n < 4 → n ≠ p.val → (u.port n).txq =
        if a.hops < 15 ∧ bitOf (s.fld (F.LNK_P_CFG.FWD p)) n = true ∧ s.carries n = true then
          (s.port n).txq ++ [⟨3, a.hops + 1, a.origin, a.seq, d⟩] else (s.port n).txq) ∧
      (¬ late → u.syncPend = s.syncPend ++ [⟨p, event, release, false⟩] ∧ u.engines = s.engines) ∧
      (late → u.syncPend = s.syncPend ∧ u.fld (F.LNK_P_SYNC.LATE p) = min (s.fld (F.LNK_P_SYNC.LATE p) + 1) 255 ∧
        u.flag (evPend (200 + p)) = true))) ∧
  (∀ (e : SyncEvent) (s : State),
    ((∀ x ∈ s.syncPend, s.now < x.release) → exec .syncEventDelivery s = .next s) ∧
    (s.syncPend = [e] → e.release ≤ s.now → ∃ u, exec .syncEventDelivery s = .next u ∧ u.syncPend = [] ∧ u.regs = s.regs ∧
      ∀ sg, sg < 64 →
        let g := s.engine sg
        let n := toTick e.release
        let k := if n < g.nextStart then s.seCycle sg - ceilDiv (g.nextStart - n) (s.period sg)
          else s.seCycle sg + (n - g.nextStart) / s.period sg
        let h := if s.lineOpen sg then g.heard ++ [(e.event, k)] else g.heard
        (∀ c, g.cur = some c → s.eState sg = 2 → iOp c.word = 0x0E → iX c.word = 1 → bitsOf (iA c.word) 0 12 = e.event →
          c.first ≤ k → c.exitAt = none → u.engine sg = { g with cur := some { c with exitAt := some (k + s.flat sg) }, heard := h }) ∧
        ((∀ c, g.cur = some c → iOp c.word ≠ 0x0E ∨ bitsOf (iA c.word) 0 12 ≠ e.event) → u.engine sg = { g with heard := h })))

/-- R332, R343–R347: eye scans and PE companions. A scan starts only on an UP port that is not scanning, and ends with the count of
disagreements. A device that answers a running controller makes the slot of its PID PRESENT at 0x10 + s, or is counted as unknown and
signalled. A PRESENT slot's third NACK in a row loses it: its channels are out of service, event and fault follow. RELEASE puts the
channels of a PRESENT slot back, else it is a register access fault. An in-band interrupt from a PRESENT slot is recorded and signalled.
A private transfer runs to a PRESENT address, else ends ABSENT, and ends NACK or OK with the bytes read. -/
def Obligations.ScansAndCompanions : Prop :=
  (∀ (p lane : Fin 4) (dwell voff poff : Fin 64) (errs : Nat) (s : State),
    let start := Instr.eyeScanStart p lane dwell voff poff
    (s.inUse = true → s.flag (F.LNK_P_EYE_CTRL.BUSY p) = true ∨ s.portState p ≠ 5 →
      exec start s = .next (s.report 249 kRegAccess (R.LNK_P_EYE_CTRL p))) ∧
    (s.inUse = true → s.flag (F.LNK_P_EYE_CTRL.BUSY p) = false → s.portState p = 5 → ∃ u, exec start s = .next u ∧
      u.flag (F.LNK_P_EYE_CTRL.BUSY p) = true ∧ u.fld (F.LNK_P_EYE_CTRL.LANE p) = lane ∧ u.fld (F.LNK_P_EYE_CTRL.VOFF p) = voff ∧
      u.fld (F.LNK_P_EYE_CTRL.POFF p) = poff ∧ (u.port p).scan = some (s.clk + ceilDiv (2 ^ dwell.val) 32)) ∧
    ((s.port p).scan = none → exec (.eyeScanDone p errs) s = .next s) ∧
    (∀ t, (s.port p).scan = some t → s.clk < t → exec (.eyeScanDone p errs) s = .next s) ∧
    (∀ t, (s.port p).scan = some t → t ≤ s.clk → ∃ u, exec (.eyeScanDone p errs) s = .next u ∧ (u.port p).scan = none ∧
      u.flag (F.LNK_P_EYE_CTRL.BUSY p) = false ∧ u.regN (R.LNK_P_EYE_ERRS p) = min errs (2 ^ 32 - 1))) ∧
  (∀ (q : Fin 4) (k : Fin 15) (pid bcr dcr acks : Nat) (s : State),
    let c := s.i3c q
    let match' := (List.range 15).find? fun j => s.slotPid q j == pid && pid != 0
    let joins (i : Instr) (da : Nat) : Prop := ∃ u, exec i s = .next u ∧
      (match' = some k.val → u.slotState q k = 2 ∧ u.fld (F.PEM_Q_SLOT_STAT.DA q k) = 0x10 + k ∧
        u.fld (F.PEM_Q_SLOT_STAT.BCR q k) = bcr % 256 ∧ u.fld (F.PEM_Q_SLOT_STAT.DCR q k) = dcr % 256 ∧ u.compFence = s.compFence) ∧
      (match' = none → u.fld (F.PEM_Q_UNK.COUNT q) = min (s.fld (F.PEM_Q_UNK.COUNT q) + 1) 255 ∧
        u.fld (F.PEM_Q_UNK.DA q) = da % 128 ∧ u.flag (evPend (204 + q)) = true)
    let polled : Prop := s.flag (F.PEM_Q_CFG.EN q) = true ∧ c.pollAt + s.fld (F.PEM_Q_CFG.POLL q) * 1000000 ≤ s.clk
    let only : Prop := s.slotState q k = 2 ∧ ∀ j, j < 15 → j ≠ k.val → s.slotState q j ≠ 2
    (c.due = false ∨ s.flag (F.PEM_Q_CFG.EN q) = false → exec (.i3cDaa q [(pid, bcr, dcr)]) s = .next s) ∧
    (c.due = true → s.flag (F.PEM_Q_CFG.EN q) = true → joins (.i3cDaa q [(pid, bcr, dcr)]) 0x30) ∧
    (s.flag (F.PEM_Q_CFG.EN q) = false → exec (.i3cHotJoin q pid bcr dcr) s = .next s) ∧
    (s.flag (F.PEM_Q_CFG.EN q) = true → joins (.i3cHotJoin q pid bcr dcr) c.next) ∧
    (¬ polled → exec (.i3cPoll q acks) s = .next s) ∧
    (polled → only → bitOf acks k = true ∨ nth c.nacks k 0 ≠ 2 → ∃ u, exec (.i3cPoll q acks) s = .next u ∧ u.regs = s.regs ∧
      nth (u.i3c q).nacks k 0 = (if bitOf acks k = true then 0 else nth c.nacks k 0 + 1) ∧ u.faultIn = s.faultIn) ∧
    (polled → only → bitOf acks k = false → nth c.nacks k 0 = 2 → ∃ u, exec (.i3cPoll q acks) s = .next u ∧ u.slotState q k = 3 ∧
      (∀ ch ∈ s.boundTo q k, (ch, 16 * q.val + k.val) ∈ u.compFence) ∧ u.flag (evPend (204 + q)) = true ∧
      ∃ m ∈ u.faultIn, m.src = 256 + q ∧ m.kind = kCompanion ∧ m.addr = k) ∧
    (s.inUse = true → s.slotState q k = 2 → exec (.companionRelease q k) s =
      .next { s with compFence := s.compFence.filter fun f => f.2 != 16 * q.val + k.val }) ∧
    (s.inUse = true → s.slotState q k ≠ 2 → exec (.companionRelease q k) s =
      .next (s.report 249 kRegAccess (R.PEM_Q_SLOT_CTRL q k)))) ∧
  (∀ (q : Fin 4) (da : Fin 128) (mdb : Fin 256) (reads nack : Bool) (len : Fin 64) (bytes : List Byte) (s : State),
    let present : Prop := ∃ k, k < 15 ∧ s.slotState q k = 2 ∧ s.fld (F.PEM_Q_SLOT_STAT.DA q k) = da
    let go := Instr.i3cPrivateTransfer q da reads len
    (s.flag (F.PEM_Q_CFG.EN q) = false ∨ ¬ present → exec (.i3cIbi q da mdb) s = .next s) ∧
    (s.flag (F.PEM_Q_CFG.EN q) = true → present → ∃ u, exec (.i3cIbi q da mdb) s = .next u ∧
      u.fld (F.PEM_Q_IBI.COUNT q) = min (s.fld (F.PEM_Q_IBI.COUNT q) + 1) 255 ∧ u.fld (F.PEM_Q_IBI.MDB q) = mdb ∧
      u.fld (F.PEM_Q_IBI.DA q) = da ∧ u.flag (evPend (204 + q)) = true) ∧
    (s.inUse = true → s.flag (F.PEM_Q_XCTL.BUSY q) = false → present → ∃ u, exec go s = .next u ∧
      u.flag (F.PEM_Q_XCTL.BUSY q) = true ∧ (u.i3c q).xfer = some (reads, len.val) ∧ u.fld (F.PEM_Q_XCTL.DA q) = da) ∧
    (s.inUse = true → s.flag (F.PEM_Q_XCTL.BUSY q) = false → ¬ present → ∃ u, exec go s = .next u ∧
      u.flag (F.PEM_Q_XCTL.BUSY q) = false ∧ u.fld (F.PEM_Q_XCTL.STATUS q) = 2 ∧ u.i3cs = s.i3cs) ∧
    (s.inUse = true → s.flag (F.PEM_Q_XCTL.BUSY q) = true → ∃ u, exec go s = .next u ∧
      u.flag (F.PEM_Q_XCTL.BUSY q) = true ∧ u.i3cs = s.i3cs ∧ u.fld (F.PEM_Q_XCTL.STATUS q) = s.fld (F.PEM_Q_XCTL.STATUS q)) ∧
    ((s.i3c q).xfer = none → exec (.i3cTransferDone q nack bytes) s = .next s) ∧
    (∀ x, (s.i3c q).xfer = some x → ∃ u, exec (.i3cTransferDone q nack bytes) s = .next u ∧ (u.i3c q).xfer = none ∧
      u.flag (F.PEM_Q_XCTL.BUSY q) = false ∧ u.fld (F.PEM_Q_XCTL.STATUS q) = b2n nack ∧
      (nack = false → x.1 = true → ∀ i, i < bytes.length → i < x.2 → i < 32 →
        u.fld ⟨R.PEM_Q_XDATA q (i / 4), 8 * (i % 4), 8⟩ = (nth bytes i 0).toNat)))

/-! ### Device time and time triggers (16_device_time.md) -/

/-- R350–R354: TIME frames. ANNOUNCE is queued every 1 ms on a port that carries them, REQUEST every 125 µs on the upstream port, and a
REQUEST received is answered with a RESPONSE that names its SEQ, edge value and phase. A REQUEST sent leaves its stamp in the queue of
16, where a RESPONSE finds it or is counted as unmatched; a stamp goes after 1 ms. Of a usable exchange the delay, the residue and d
show; one that is not usable is counted. Both take the stamp out. -/
def Obligations.TimeFrames : Prop :=
  ∀ (p : Fin 4) (a : Arrival) (phase : Fin 8192) (s : State),
    let v := s.port p
    let d := a.payload
    let kind (n : Nat) : Prop := s.portState p = 5 ∧ (s.port p).locked = true ∧ a.clean = true ∧ a.hops ≠ 0 ∧ timeClean d = true ∧ dget d 0 1 = n
    let queues (c : Instr) (bytes : List Byte) : Prop := ∃ u f, exec c s = .next u ∧ (u.port p).txq = v.txq ++ [f] ∧ f.cls = 4 ∧
      f.hops = 1 ∧ f.payload = ofBytes bytes ∧ u.regs = s.regs ∧ ∀ q, q ≠ p.val → u.port q = s.port q
    let synced := toBytes 1 (b2n s.synchronised)
    let q := s.txq p
    let t4 : Int := s.now + phase * 2 ^ 19
    let t2 : Int := payloadTime d 8 + dget d 4 2 * 2 ^ 19
    let t3 : Int := payloadTime d 20 + dget d 6 2 * 2 ^ 19
    (s.carries p = true → v.announceTx + 1000000 ≤ s.clk → queues (.announceTimer p) s.announcePayload) ∧
    (s.carries p = false ∨ s.clk < v.announceTx + 1000000 → exec (.announceTimer p) s = .next s) ∧
    (s.carries p = true → s.upstream = some p.val → v.requestTx + 125000 ≤ s.clk →
      queues (.timeRequestTimer p) (toBytes 1 1 ++ synced ++ toBytes 30 0)) ∧
    (s.carries p = false ∨ s.upstream ≠ some p.val ∨ s.clk < v.requestTx + 125000 → exec (.timeRequestTimer p) s = .next s) ∧
    (kind 1 → s.carries p = true → queues (.timeRequestRx p a phase) (toBytes 1 2 ++ synced ++ toBytes 2 a.seq ++ toBytes 2 phase ++
      toBytes 2 0 ++ timeBytes s.now ++ toBytes 12 0)) ∧
    (kind 1 → s.carries p = false → exec (.timeRequestRx p a phase) s = .next s) ∧
    (∀ f, s.portState p = 5 → v.txFree ≤ s.column → v.txq = [f] → f.cls = 4 →
      (dget f.payload 0 1 = 1 → ∃ u, exec (.frameTx p phase) s = .next u ∧ (u.port p).sent = some f ∧
        u.txq p = (if q.length < 16 then q else q.drop 1) ++ [⟨f.seq, s.now, phase, s.clk⟩]) ∧
      (dget f.payload 0 1 = 2 → ∃ u, exec (.frameTx p phase) s = .next u ∧ u.txq p = q ∧ (u.port p).sent =
        some { f with payload := putBits (putBits f.payload 48 16 phase) 160 96 (ofBytes (timeBytes s.now)) })) ∧
    (∃ u, exec (.txqEntryExpiry p) s = .next u ∧ u.txq p = q.filter (fun e => decide (s.clk < e.at' + 1000000)) ∧
      u.fld (F.TIM_P_TXQ.DEPTH p) = (u.txq p).length % 32) ∧
    (kind 2 → s.carries p = true →
      let found := q.find? fun e => e.seq == dget d 2 2
      (found = none → ∃ u, exec (.timeResponseRx p a phase) s = .next u ∧ u.clock = s.clock ∧ u.now = s.now ∧
        u.fld (F.TIM_P_TXQ.NOMATCH p) = min (s.fld (F.TIM_P_TXQ.NOMATCH p) + 1) 255) ∧
      (∀ t, found = some t →
        let t1 : Int := t.edge + t.phase * 2 ^ 19
        let o2 := (t2 - t1) - (t4 - t3)
        let p2 := (t2 - t1) + (t4 - t3)
        let r := ((payloadTime d 8 : Int) - t.edge) % s.incr
        let off := r + s.incr * roundDiv (o2 - 2 * r) (2 * s.incr).toNat
        let usable : Prop := 0 ≤ p2 ∧ p2 ≤ 5 * 2 ^ 32 ∧ bitOf d 8 = true ∧ s.slewTerm = 0 ∧
          ((s.upstream.bind (Sparse.find? s.clock.anns)).map fun x => x.adj) = some (s.regN R.TIM_ADJ)
        (¬ usable → ∃ u, exec (.timeResponseRx p a phase) s = .next u ∧ u.txq p = q.erase t ∧ u.now = s.now ∧
          u.timeState = s.timeState ∧ u.fld (F.TIM_P_TXQ.BADEX p) = min (s.fld (F.TIM_P_TXQ.BADEX p) + 1) 255) ∧
        (usable → ∃ u, exec (.timeResponseRx p a phase) s = .next u ∧ u.txq p = q.erase t ∧
          u.fld F.TIM_MEAS.DELAY = (roundDiv p2 (2 ^ 20)).toNat % 65536 ∧
          u.fld F.TIM_MEAS.RESID = unsigned 16 (roundDiv (o2 - 2 * off) (2 ^ 20)) ∧
          u.reg64 R.TIM_LASTD_LO R.TIM_LASTD_HI = unsigned 64 (roundDiv off (2 ^ 32)) ∧
          (s.clock.held.isSome = true → u.now = s.now ∧ u.timeState = s.timeState) ∧
          (s.clock.held = none →
            let most : Int := s.fld F.TIM_CFG.JUMPMAX * 2 ^ 32
            let steps (u : State) : Prop := u.now = (((s.now : Int) + off) % 2 ^ 96).toNat ∧ u.timeState = 3
            let held (u : State) : Prop := u.now = s.now ∧ u.timeState = s.timeState ∧ u.clock.held = some (.gain off) ∧
              u.flag F.TIM_STAT.STEPPEND = true
            let does (u : State) : Prop := if s.anyBusy = true then held u else steps u
            let refuses (u : State) : Prop := u.now = s.now ∧ u.timeState = 6 ∧ u.flag F.TIM_STAT.JUMPREF = true ∧
              u.fld F.TIM_STAT.REFUSALS = min (s.fld F.TIM_STAT.REFUSALS + 1) 65535 ∧ u.flag (evPend 195) = true
            let allowed : Prop := s.clock.accept = true ∨ (s.flag F.TIM_CFG.RELOCK = true ∧ 16 ≤ s.clock.refused)
            (s.timeState = 2 → does u) ∧
            (s.timeState = 6 → allowed → does u) ∧
            (s.timeState = 6 → ¬ allowed → refuses u ∧ u.clock.refused = s.clock.refused + 1) ∧
            (s.timeState = 3 ∨ s.timeState = 5 → (off = 0 → u.now = s.now ∧ u.timeState = 3) ∧
              (off ≠ 0 → -most ≤ off → off ≤ most → u.now = s.now ∧ u.timeState = 4 ∧ u.clock.slew = off) ∧
              (most < off ∨ off < -most → refuses u ∧ u.clock.refused = 1)) ∧
            (s.timeState ≤ 1 ∨ s.timeState = 4 → u.now = s.now ∧ u.timeState = s.timeState)))))

/-- R356, R357, R359: steps, slews and rates. A held step changes device time in the first core cycle without an ARMED or RUNNING engine,
and not before; a slave is then SYNCED. SET requests a step to TIM_SET in MASTER and FREE alone, ACCEPT acts in REFUSING alone. A slew
that has gained all of d leaves the device SYNCED, or in HOLDOVER without an upstream. A write of TIM_ADJ in MASTER or FREE waits for
the first multiple of 2^25 ns that lies 2^24 ns ahead, where it takes effect; elsewhere it is a register access fault. R358–R361:
masters. A received ANNOUNCE is kept for 4 ms. The view is the best of the device itself, if a candidate, and of every kept ANNOUNCE
with fewer than 15 hops: no other is better. A device that sees itself is MASTER; one that finds an upstream from FREE or MASTER is
UNSYNCED; a SYNCED one whose upstream expires is in HOLDOVER. A slave copies its upstream's pending rate, and with none pending takes
another rate at once and is UNSYNCED. -/
def Obligations.TimeStepsAndMasters : Prop :=
  (
  ∀ (value : Word) (s : State),
    let target := s.reg64 R.TIM_SET_NS_LO R.TIM_SET_NS_HI * 2 ^ 32 + s.regN R.TIM_SET_FRAC
    (s.clock.held = none ∨ s.anyBusy = true → exec .timeStepApply s = .next s) ∧
    (∀ h, s.clock.held = some h → s.anyBusy = false → ∃ u, exec .timeStepApply s = .next u ∧ u.clock.held = none ∧
      u.flag F.TIM_STAT.STEPPEND = false ∧
      (∀ v, h = .load v → u.now = v ∧ u.timeState = s.timeState) ∧
      (∀ d, h = .gain d → u.now = (((s.now : Int) + d) % 2 ^ 96).toNat ∧ u.timeState = 3)) ∧
    (s.inUse = true → 1 < s.timeState → exec .timeSet s = .next (s.report 249 kRegAccess R.TIM_CTRL)) ∧
    (s.inUse = true → s.timeState ≤ 1 → ∃ u, exec .timeSet s = .next u ∧ u.timeState = s.timeState ∧
      (s.anyBusy = false → u.now = target) ∧
      (s.anyBusy = true → u.now = s.now ∧ u.clock.held = some (.load target) ∧ u.flag F.TIM_STAT.STEPPEND = true)) ∧
    (s.inUse = true → s.timeState = 6 → exec .timeAccept s = .next { s with clock := { s.clock with accept := true } }) ∧
    (s.inUse = true → s.timeState ≠ 6 → exec .timeAccept s = .next s) ∧
    (s.timeState ≠ 4 ∨ s.clock.slew ≠ 0 → exec .slewComplete s = .next s) ∧
    (s.timeState = 4 → s.clock.slew = 0 → ∃ u, exec .slewComplete s = .next u ∧
      u.timeState = (if s.upstream.isSome = true then 3 else 5) ∧ u.flag (evPend 195) = true ∧ u.clock = s.clock) ∧
    (s.inUse = true → 1 < s.timeState → exec (.timAdjWrite value) s = .next (s.report 249 kRegAccess R.TIM_ADJ)) ∧
    (s.inUse = true → s.timeState ≤ 1 → ∃ e, exec (.timAdjWrite value) s =
      .next { s with clock := { s.clock with pend := some (value.toNat, e) } } ∧
      e % 2 ^ 25 = 0 ∧ s.now + 2 ^ 24 * 2 ^ 32 ≤ e * 2 ^ 32 ∧ e * 2 ^ 32 < s.now + (2 ^ 24 + 2 ^ 25) * 2 ^ 32) ∧
    (s.clock.pend = none → exec .adjEffective s = .next s) ∧
    (∀ v e, s.clock.pend = some (v, e) →
      (s.now < e * 2 ^ 32 → exec .adjEffective s = .next s) ∧
      (e * 2 ^ 32 ≤ s.now → ∃ u, exec .adjEffective s = .next u ∧ u.reg R.TIM_ADJ = BitVec.ofNat 32 v ∧ u.clock.pend = none ∧
        u.now = s.now))) ∧
  (
  ∀ (p : Fin 4) (a : Arrival) (s : State),
    let d := a.payload
    let ann : Announce := ⟨dget d 2 1, dget d 3 1, dget d 4 4, dget d 8 8, dget d 16 4, dget d 20 8, s.clk⟩
    let good : Prop := s.portState p = 5 ∧ (s.port p).locked = true ∧ a.clean = true ∧ a.hops ≠ 0 ∧ timeClean d = true ∧ dget d 0 1 = 3
    let best (u : State) : Prop :=
      (∀ x ∈ u.clock.anns, x.2.hops < 15 → x.2.prio < 255 → ∃ m, u.master = some m ∧
        (Master.mk x.2.prio x.2.muid (x.2.hops + 1) (some x.1)).better m = false) ∧
      (u.fld F.TIM_CFG.PRIO ≠ 255 → ∃ m, u.master = some m ∧
        (Master.mk (u.fld F.TIM_CFG.PRIO) u.part.uid 0 none).better m = false)
    let shows (u : State) : Prop := ∀ m, u.master = some m → u.fld F.TIM_STAT.UPPORT = m.port.getD 0 % 4 ∧
      u.fld F.TIM_STAT.HOPS = m.hops % 16 ∧ u.reg64 R.TIM_MASTER_LO R.TIM_MASTER_HI = m.uid % 2 ^ 64
    let view (m : Option Master) (lost : Prop) [Decidable lost] : Nat := match m with
      | some m => if m.port = none then 1 else if s.timeState ≤ 1 then 2 else if lost ∧ s.timeState = 3 then 5 else s.timeState
      | none => if s.timeState = 3 ∨ s.timeState = 5 then 5 else if s.timeState = 4 then 4 else 0
    (good → s.carries p = false → exec (.timeAnnounceRx p a) s = .next s) ∧
    (good → s.carries p = true → ∃ u, exec (.timeAnnounceRx p a) s = .next u ∧ Sparse.find? u.clock.anns p = some ann ∧
      (∀ q, q ≠ p.val → Sparse.find? u.clock.anns q = Sparse.find? s.clock.anns q) ∧ best u ∧ shows u ∧
      (u.upstream ≠ some p.val → u.timeState = view u.master False ∧ u.clock.pend = s.clock.pend ∧
        u.regN R.TIM_ADJ = s.regN R.TIM_ADJ) ∧
      (u.upstream = some p.val → ann.effective ≠ 0 → u.clock.pend = some (ann.pend, ann.effective) ∧
        u.regN R.TIM_ADJ = s.regN R.TIM_ADJ ∧ u.timeState = view u.master False) ∧
      (u.upstream = some p.val → ann.effective = 0 → u.clock.pend = none ∧ u.regN R.TIM_ADJ = ann.adj ∧
        u.timeState = if s.regN R.TIM_ADJ = ann.adj then view u.master False else 2)) ∧
    (Sparse.find? s.clock.anns p = none → exec (.announceExpiry p) s = .next s) ∧
    (∀ x, Sparse.find? s.clock.anns p = some x →
      (s.clk < x.at' + 4000000 → exec (.announceExpiry p) s = .next s) ∧
      (x.at' + 4000000 ≤ s.clk → ∃ u, exec (.announceExpiry p) s = .next u ∧ Sparse.find? u.clock.anns p = none ∧
        (∀ q, q ≠ p.val → Sparse.find? u.clock.anns q = Sparse.find? s.clock.anns q) ∧ best u ∧ shows u ∧
        u.timeState = view u.master (s.upstream = some p.val) ∧ u.now = s.now)))

/-- R362–R365: time triggers. EN = 1 is discarded and reported while the trigger is enabled, with OUTEN for a pulse under 4 ns, and in
PERIODIC mode for a period under 8 ns or under the pulse + 4 ns. A ONESHOT that lies more than 100 ns ahead is enabled; one nearer is
missed and the trigger is disabled again. EN = 0 disables it, after a firing already committed. A firing that is due counts, signals and
drives TTOUT for WIDTH ns. A rising edge of TTIN is stamped with the time-clock edge at or after it, counted and signalled. -/
def Obligations.TimeTriggers : Prop :=
  (∀ (n : Fin 4) (periodic outen pol : Bool) (width : Fin 65536) (value : Word) (s : State),
    let enable := Instr.ttEnable n periodic outen pol width
    let period := s.reg64 (R.TT_PERIOD_LO n) (R.TT_PERIOD_HI n)
    let start := s.reg64 (R.TT_START_LO n) (R.TT_START_HI n) * 2 ^ 32 + s.regN (R.TT_START_FRAC n)
    let on := s.flag (F.TT_CFG.EN n)
    let bad : Prop := on = true ∨ (outen = true ∧ width.val < 4) ∨ (periodic = true ∧ (period < width.val + 4 ∨ period < 8))
    let t := s.trigger n
    (s.inUse = true → bad → exec enable s = .next (s.report 249 kRegAccess (R.TT_CFG n))) ∧
    (s.inUse = true → ¬ bad → s.now + 100 * 2 ^ 32 < start → ∃ u, exec enable s = .next u ∧ u.flag (F.TT_CFG.EN n) = true ∧
      u.flag (F.TT_CFG.MODE n) = periodic ∧ u.flag (F.TT_CFG.OUTEN n) = outen ∧ u.fld (F.TT_CFG.WIDTH n) = width ∧
      u.trigger n = Trigger.off ∧ u.fld (F.TT_STAT.MISSED n) = s.fld (F.TT_STAT.MISSED n)) ∧
    (s.inUse = true → ¬ bad → periodic = false → start < s.now + 100 * 2 ^ 32 → ∃ u, exec enable s = .next u ∧
      u.flag (F.TT_CFG.EN n) = false ∧ u.fld (F.TT_STAT.MISSED n) = min (s.fld (F.TT_STAT.MISSED n) + 1) 255) ∧
    (s.inUse = true → on = false →
      exec (.ttDisable n value) s = .next (s.setReg (R.TT_CFG n) (value.toNat % 2 ^ 31 &&& 0x7000FFFF))) ∧
    (s.inUse = true → on = true → ∃ u, exec (.ttDisable n value) s = .next u ∧ (u.trigger n).committed = t.committed ∧
      u.flag (F.TT_CFG.EN n) = decide (t.committed ≠ []) ∧ (t.committed ≠ [] → (u.trigger n).stopping = true)) ∧
    (t.committed = [] → exec (.ttFire n) s = .next s) ∧
    (∀ i rest, t.committed = i :: rest →
      (s.now < i → exec (.ttFire n) s = .next s) ∧
      (i ≤ s.now → ∃ u, exec (.ttFire n) s = .next u ∧ (u.trigger n).committed = rest ∧
        u.fld (F.TT_STAT.FIRED n) = min (s.fld (F.TT_STAT.FIRED n) + 1) 65535 ∧ u.flag (evPend (196 + n)) = true ∧
        nth u.pins.ttoutEnd n none = if s.flag (F.TT_CFG.OUTEN n) = true then some (s.clk + s.fld (F.TT_CFG.WIDTH n))
          else nth s.pins.ttoutEnd n none)) ∧
    (∀ e, nth s.pins.ttoutEnd n none = some e → e ≤ s.clk → ∃ u, exec (.ttoutPulseEnd n) s = .next u ∧
      u.ttout n = s.flag (F.TT_CFG.POL n) ∧ u.regs = s.regs) ∧
    (∀ e, nth s.pins.ttoutEnd n none = some e → s.clk < e → exec (.ttoutPulseEnd n) s = .next s) ∧
    (nth s.pins.ttoutEnd n none = none → exec (.ttoutPulseEnd n) s = .next s)) ∧
  (∀ (k : Fin 2) (onEdge : Bool) (s : State),
    let t := if onEdge = true then s.now else (s.now + s.incr).toNat
    let count := if k.val = 0 then F.TIM_TTINCNT.CNT0 else F.TIM_TTINCNT.CNT1
    ∃ u, exec (.ttinEdge k onEdge) s = .next u ∧ u.reg64 (R.TIM_TTIN_LO k) (R.TIM_TTIN_HI k) = t / 2 ^ 32 % 2 ^ 64 ∧
      u.fld count = min (s.fld count + 1) 65535 ∧ u.flag (evPend 195) = true ∧ u.now = s.now)

/-! ### Calibration (17_calibration.md) -/

/-- R370, R374–R377: calibration runs. START is a register access fault while a run is active; else it clears the results, refuses a busy
bank with BUSY and measures the others, or ends at once when none is left. ABORT abandons every bank still measuring, and with nothing
passed writes nothing. A bank without FACTORY set ends NOFACTORY, one whose sensor moved by more than 1 °C UNSTABLE with a fault, and a
bank that passes has the factory values corrected by what its readings moved. The last bank of a run commits into a FIELD slot, or ends
STORE and leaves the store as it was. A line uses 32 of its cells of 96 to 160 ticks, or all of them when there are fewer. -/
def Obligations.CalibrationRuns : Prop :=
  (∀ (banks : Fin 65536) (s : State), s.inUse = true →
    let start := Instr.calRunStart banks
    let stop := Instr.calRunAbort banks
    (s.fld F.CAL_RUNSTAT.STATE = 1 → exec start s = .next (s.report 249 kRegAccess R.CAL_RUN)) ∧
    (s.fld F.CAL_RUNSTAT.STATE ≠ 1 → ∃ u, exec start s = .next u ∧ u.fld F.CAL_RUN.BANKS = banks ∧
      u.fld F.CAL_RUNSTAT.COMMITTED = 0 ∧ u.cal.passed = [] ∧ u.keep = s.keep ∧
      (∀ b, b < 16 → bitOf u.cal.measuring b = (bitOf banks b && !s.calBusy b) ∧
        u.fld (calResult b) = if bitOf banks b && s.calBusy b then 2 else 0) ∧
      u.fld F.CAL_RUNSTAT.STATE = if (List.range 16).any (fun b => bitOf banks b && !s.calBusy b) = true then 1 else 0) ∧
    (∃ u, exec stop s = .next u ∧ u.fld F.CAL_RUN.BANKS = banks ∧
      (s.cal.passed = [] → u.keep = s.keep ∧ ∀ b, b < 16 → bitOf u.cal.measuring b = false ∧
        u.fld (calResult b) = if bitOf s.cal.measuring b = true then 3 else s.fld (calResult b)))) ∧
  (∀ (b : Fin 16) (r : BankReadings) (stored : Bool) (s : State),
    let done := Instr.calBankComplete b r stored
    let facs := setsOf s.calSets b true
    let at' (f : Nat → Int) : Int := (interpolate (facs.map fun base => (s.setTemp base b, f base)) r.temp).getD 0
    (bitOf s.cal.measuring b = false → exec done s = .next s) ∧
    (bitOf s.cal.measuring b = true → s.cal.passed = [] → facs = [] → ∃ u, exec done s = .next u ∧ u.fld (calResult b) = 8 ∧
      bitOf u.cal.measuring b = false ∧ u.keep = s.keep ∧ u.faultIn = s.faultIn) ∧
    (bitOf s.cal.measuring b = true → s.cal.passed = [] → facs ≠ [] → 4 < r.change → ∃ u, exec done s = .next u ∧
      u.fld (calResult b) = 4 ∧ u.keep = s.keep ∧ (∃ m ∈ u.faultIn, m.src = 261 ∧ m.kind = kCalibration) ∧
      (s.fld F.CAL_BANKERR.RESULT = 0 → u.fld F.CAL_BANKERR.RESULT = 4 ∧ u.fld F.CAL_BANKERR.BANK = b)) ∧
    (∀ f, bitOf s.cal.measuring b = true → s.cal.passed = [] → s.judgeBank b r = .error (some f) → ∃ u, exec done s = .next u ∧
      u.fld (calResult b) = f.1 % 16 ∧ u.keep = s.keep ∧ ∃ m ∈ u.faultIn, m.src = 261 ∧ m.kind = kCalibration) ∧
    (∀ c, bitOf s.cal.measuring b = true → s.judgeBank b r = .ok c →
      c.bank = b ∧ c.temp = r.temp ∧ r.change ≤ 4 ∧
      (∀ i, i < 128 →
        let v := at' (fun base => s.setValue base (16 * b + i / 8) (i % 8)) +
          (meanOf (nth r.readings i []) - at' fun base => s.setReading base (16 * b + i / 8) (i % 8))
        nth c.values i 0 = v ∧ spreadOk (nth r.readings i []) = true ∧
        (if i % 8 < 6 then -6000 ≤ v ∧ v ≤ 6000 else 0 ≤ v ∧ v ≤ 32767)) ∧
      (s.cal.measuring ≠ 2 ^ b.val → ∃ u, exec done s = .next u ∧ u.cal.passed = s.cal.passed ++ [c] ∧ u.keep = s.keep) ∧
      (s.cal.measuring = 2 ^ b.val → s.cal.passed = [] → s.fld F.CAL_RUNSTAT.STATE = 1 → ∃ u, exec done s = .next u ∧
        u.fld F.CAL_RUNSTAT.STATE = 0 ∧
        (stored = true → u.fld (calResult b) = 1 ∧ u.fld F.CAL_RUNSTAT.COMMITTED = 2 ^ b.val ∧
          u.fld F.CAL_RUNSTAT.SLOT = (s.fieldSlot [c]).1 % 16) ∧
        (stored = false → u.fld (calResult b) = 9 ∧ u.keep = s.keep)))) ∧
  (∀ lens : List Nat, (selectCells lens).length = min 32 (lens.filter fun n => decide (96 ≤ n) && decide (n ≤ 160)).length)

/-! ### Faults, replay and Backstay pairs (18_faults_and_backstay.md) -/

/-- R381, R388–R390: the collector receives the first message that it may receive now, one of a source per core cycle, and none in RECOVERY
and FAILED. The source's count rises to at most 0xFFFF, its sticky bit is set, its record takes the message when the bit was clear, its
reactions come due as configured now, and the device record takes the message when it is empty. A saturated count is counted and raises
source 271 with the kind and the source, or nothing where it is 271's own. A fault with FAULTOUT that registers in the core cycle of a
RELEASE drives FAULT_N low (R12). R383, R385, R390, R455: the reactions to the oldest registered fault, not before the core cycle after
its registration. CHIP resets the chip into ROM with its cause, the boot state and the source, whatever else is configured. A repeated
fault of a sticky source only drives FAULT_N, where FAULTOUT is configured. EVENT signals source 194, FAULTOUT drives FAULT_N, FENCE
fences the source's block, RESET opens its window and starts its reset. A fault within the window, of a source whose reaction is RESET,
fences the block and signals source 194, unless the block is fenced already and ESCCHIP asks for a chip reset. -/
def Obligations.FaultCollection : Prop :=
  (
  ∀ (s : State),
    (s.bootState = 10 ∨ s.bootState = 15 → exec .faultRegister s = .next s) ∧
    (s.faultIn.find? s.receives = none → exec .faultRegister s = .next s) ∧
    (∀ m, s.bootState ≠ 10 → s.bootState ≠ 15 → s.faultIn.find? s.receives = some m → m.src < 272 →
      let f := s.source m.src
      let word := faultWord s.ns m.addr m.kind m.src
      let again := s.flag (stickyBit m.src)
      let rest := s.faultIn.erase m
      ∃ t, exec .faultRegister s = .next t ∧ (t.source m.src).count = min 0xFFFF (f.count + 1) ∧
        t.flag (stickyBit m.src) = true ∧ (t.source m.src).record = (if again = true then f.record else word) ∧
        (t.source m.src).cfg = f.cfg ∧ (t.source m.src).latest = some (word, s.cycle) ∧
        (∀ n, n ≠ m.src → t.source n = s.source n) ∧
        (∀ n, n < 272 → n ≠ m.src → t.flag (stickyBit n) = s.flag (stickyBit n)) ∧
        t.reactions = s.reactions ++ [⟨s.cycle, m.src, f.cfg, again⟩] ∧
        (s.firstFault = 0 → word < 2 ^ 128 ∧ t.firstFault = word) ∧
        (bitsOf s.firstFault 10 6 ≠ 0 → (s.source (s.firstFault % 1024)).latest = none → t.firstFault = s.firstFault) ∧
        (m.src < 64 ∨ 80 ≤ m.src →
          t.flag F.FLT_STAT.FAULTOUT = ((bitOf f.cfg 5 && s.released == s.cycle + 1) || s.flag F.FLT_STAT.FAULTOUT) ∧
          (f.count ≠ 0xFFFF → t.faultIn = rest ∧ t.fld F.FLT_STAT.FAILED = s.fld F.FLT_STAT.FAILED) ∧
          (f.count = 0xFFFF → t.fld F.FLT_STAT.FAILED = min (s.fld F.FLT_STAT.FAILED + 1) 255 ∧
            t.faultIn = if m.src = 271 then rest else insertFault rest ⟨s.cycle, 271, m.kind, m.src⟩)) ∧
        t.pool = s.pool ∧ t.host = s.host ∧ t.slots = s.slots)) ∧
  (
  ∀ (r : Reaction) (rest : List Reaction) (s : State),
    let on (i : Nat) : Bool := bitOf r.cfg i
    let due : Prop := 7 ≤ s.bootState ∧ s.bootState ≤ 9 ∧ r.cycle < s.cycle
    let window := (s.source r.src).window
    let go := exec .faultReaction s
    (s.reactions = [] → go = .next s) ∧
    (s.reactions = r :: rest → ¬ due → go = .next s) ∧
    (s.reactions = r :: rest → due → r.src < 272 →
      (on 4 = true → ∃ t, go = .next t ∧ t.bootState = 1 ∧
        t.regN R.SYS_RESETCAUSE = 3 * 2 ^ 28 + s.bootState * 2 ^ 24 + r.src ∧ t.slots = [] ∧ t.reactions = [] ∧
        t.kept.first = [s.reg (R.FLT_FIRST 0), s.reg (R.FLT_FIRST 1), s.reg (R.FLT_FIRST 2), s.reg (R.FLT_FIRST 3)] ∧
        t.flash = s.flash ∧ t.host = s.host ∧ t.regN R.HIF_LINK = s.regN R.HIF_LINK) ∧
      (on 4 = false → window = false → r.again = true → ∃ t, go = .next t ∧ t.reactions = rest ∧
        t.sources = s.sources ∧ t.slots = s.slots ∧ t.messages = s.messages ∧
        t.flag F.FLT_STAT.FAULTOUT = (on 5 || s.flag F.FLT_STAT.FAULTOUT) ∧ t.flag (evPend 194) = s.flag (evPend 194)) ∧
      (on 4 = false → window = false → r.again = false → on 2 = false → on 3 = false → ∃ t, go = .next t ∧
        t.reactions = rest ∧ t.sources = s.sources ∧ t.slots = s.slots ∧
        t.flag F.FLT_STAT.FAULTOUT = (on 5 || s.flag F.FLT_STAT.FAULTOUT) ∧
        t.flag (evPend (faultEvent r.src)) = (on 0 || s.flag (evPend (faultEvent r.src))) ∧
        t.faultIn = s.faultIn) ∧
      (on 4 = false → window = false → r.again = false → on 3 = true → 80 ≤ r.src → r.src < 144 →
        (∀ g, g < 64 → s.busySg g = false) → ∃ t, go = .next t ∧ t.reactions = rest ∧ (t.source r.src).fenced = true ∧
          ∀ n, n ≠ r.src → t.source n = s.source n) ∧
      (on 4 = false → window = false → r.again = false → on 3 = false → on 2 = true → (s.source r.src).resetting = none →
        256 ≤ r.src → r.src < 260 → ∃ t, go = .next t ∧ t.reactions = rest ∧
          (t.source r.src).resetting = some s.cycle ∧ (t.source r.src).window = true ∧
          (t.source r.src).fenced = (s.source r.src).fenced ∧ (t.i3c (r.src - 256)).due = true) ∧
      (on 4 = false → window = true → on 2 = true → on 3 = false → (s.source r.src).fenced = false → r.src < 64 →
        s.busySg r.src = false → ∃ t, go = .next t ∧ (t.source r.src).fenced = true ∧ t.flag (evPend 194) = true ∧
          t.eState r.src = 4) ∧
      (on 4 = false → window = true → on 2 = true ∨ on 3 = true → (s.source r.src).fenced = true → on 6 = true →
        ∃ t, go = .next t ∧ t.bootState = 1 ∧ t.regN R.SYS_RESETCAUSE = 3 * 2 ^ 28 + s.bootState * 2 ^ 24 + r.src)))

/-- R69, R84, R386–R389, R392: the host's controls of the collector. RELEASE leaves FAULT_N low where a FAULTOUT fault registered in this
core cycle, and its cycle is kept for one that still registers in it; CLRFIRST empties the device record; FLT_INJECT reports a fault of
kind INJECTED of a source below 272, whatever its KIND; a 1 written to a sticky bit clears it and empties the record, except that a
fault of the same core cycle leaves it set with its message. UNFENCE of a block that is not fenced, of a GDDR7 controller or of no
source does nothing; of a fenced engine it starts a block reset, of a block with F alone a self-check, and the fence stands meanwhile. A
reset or self-check that passes clears the fence; one that fails reports CHECK and the block stays fenced. The end of an engine's reset
loads its local store again from the image in use, and a master word that cannot be corrected keeps the engine fenced. -/
def Obligations.BlockRecovery : Prop :=
  (∀ (s : State), s.inUse = true →
    (exec .faultOutRelease s = .next (if s.reactions.any (fun r => r.cycle == s.cycle && bitOf r.cfg 5) then s
      else { s.setFld F.FLT_STAT.FAULTOUT 0 with released := s.cycle + 1 })) ∧
    (∃ t, exec .faultClearFirst s = .next t ∧ t.firstFault = 0 ∧ t.sources = s.sources ∧
      (∀ n, n < 272 → t.flag (stickyBit n) = s.flag (stickyBit n))) ∧
    (∀ (src : Fin 1024) (kind : Fin 64), exec (.faultInject src kind) s =
      .next (if src.val < 272 then s.report src kInjected 0xFFFFFFFFFFFF else s)) ∧
    (∀ (src : Fin 320), ∃ t, exec (.stickyClear src) s = .next t ∧
      (t.source src).count = (s.source src).count ∧ (∀ n, n ≠ src.val → t.source n = s.source n) ∧
      (∀ word, (s.source src).latest = some (word, s.cycle) → (t.source src).record = word ∧ t.regs = s.regs) ∧
      ((∀ word, (s.source src).latest ≠ some (word, s.cycle)) → (t.source src).record = 0 ∧ t.flag (stickyBit src) = false)) ∧
    (let src := s.fld F.FLT_SRCSEL.SOURCE
     (272 ≤ src ∨ (232 ≤ src ∧ src < 240) ∨ s.blockFenced src = false → exec .faultUnfence s = .next s) ∧
     (src < 64 → s.eState src = 4 → (s.source src).resetting = none → ∃ t, exec .faultUnfence s = .next t ∧
       (t.source src).resetting = some s.cycle ∧ (t.source src).window = true ∧ t.eState src = 4 ∧
       (t.engine src).traps = [] ∧ t.slots = s.slots ∧ t.faultIn = s.faultIn) ∧
     (src < 272 → hasReset src = false → hasFence src = true → (s.source src).fenced = true → (s.source src).checking = none →
       exec .faultUnfence s = .next (s.setSource src { s.source src with checking := some s.cycle })))) ∧
  (∀ (src : Fin 272) (passed masterError : Bool) (s : State),
    let done := Instr.blockResetDone src ⟨passed, masterError⟩
    let spoilt : Prop := masterError = true ∧ src.val < 64
    ((s.source src).resetting = none → exec done s = .next s) ∧
    ((s.source src).resetting ≠ none → ∃ t, exec done s = .next t ∧
      (t.source src).resetting = none ∧
      (passed = true → ¬ spoilt → ¬ (232 ≤ src.val ∧ src.val < 240) → (t.source src).fenced = false) ∧
      (passed = false ∨ spoilt → src.val < 64 → s.busySg src = false → (t.source src).fenced = true ∧ t.eState src = 4) ∧
      (passed = false → ¬ spoilt → src.val < 64 → s.busySg src = false → ∃ m ∈ t.faultIn, m.src = src ∧ m.kind = kCheck) ∧
      (src.val < 64 → ∀ a, a < 2048 → t.localWord src a = s.masterWord (imageBase s.sourceImage + a)) ∧
      (passed = true → ¬ spoilt → src.val < 64 → s.eState src = 4 →
        t.eState src = if (s.engine src).slot.isSome = true then 3 else 0)) ∧
    ((s.source src).checking = none → exec (.selfCheckDone src passed) s = .next s) ∧
    ((s.source src).checking ≠ none → ∃ t, exec (.selfCheckDone src passed) s = .next t ∧ (t.source src).checking = none ∧
      (t.source src).fenced = (!passed && (s.source src).fenced) ∧
      (passed = true → t.faultIn = s.faultIn) ∧
      (passed = false → ∃ m ∈ t.faultIn, m.src = src ∧ m.kind = kCheck)))

/-- R398–R404: pair frames and pairs. A frame that is not clean is discarded; one that comes on another port, for a group that is not
paired, or without both devices known, changes nothing of the pair. An ARM of the other role with the start instant and the CRC bits of
an ARMED burst, at least 2 µs before the start in a synchronised device, matches it; 2 µs before the start an unmatched burst leaves
ARMED, completes DEADLINE and sets NOARM. After every 4,096 cycles the device sends the running digest. Two digests of one last cycle
that differ are a disagreement, counted, reported once a burst. A partner silent for 4 µs is lost: PLOST, and source 270 once. TAKEOVER
sets CARRIED on a Backstay. RESTORE of a bank gives PSEL back only to a PRIMARY with no paired group ARMED or RUNNING there, and is
reported otherwise. -/
def Obligations.PairedBursts : Prop :=
  (∀ (p : Fin 4) (a : Arrival) (s : State),
    let type := dget a.payload 0 1 / 64
    let sg := dget a.payload 0 1 % 64
    let clean := a.clean && (dget a.payload 1 1 == 0 && dget a.payload 20 4 == 0) && a.hops != 0
    let ours := s.carries p && p.val == s.fld F.BKS_CFG.PORT && s.paired sg
    let up : Prop := s.portState p = 5 ∧ (s.port p).locked = true
    (¬ up ∨ (clean = true ∧ ours = false) → exec (.pairArmRx p a) s = .next s ∧ exec (.pairDigestRx p a) s = .next s ∧
      exec (.pairTakeoverRx p a) s = .next s) ∧
    (up → clean = false → type = 1 → exec (.pairArmRx p a) s = .next (Answered s (s.discardFrame p)) ∧
      (s.discardFrame p).pairs = s.pairs) ∧
    (up → clean = true → ours = true →
      (type = 1 → ∃ t, exec (.pairArmRx p a) s = .next t ∧ t.fld (F.BKS_SGSTAT.PBURST sg) = dget a.payload 2 2 ∧
        (t.pair sg).arm = some (dget a.payload 4 8, dget a.payload 12 8 % 2 ^ 62, dget a.payload 12 8 / 2 ^ 62) ∧
        (∀ k start, s.eState sg = 1 → (s.engine sg).slot = some k → (s.engine sg).start = some start →
          (s.pair sg).matched = false → s.fld F.BKS_CFG.ROLE = 1 ∨ s.fld F.BKS_CFG.ROLE = 2 →
          ((t.pair sg).matched = true ↔ (dget a.payload 4 8 = start / 8192 ∧
            dget a.payload 12 8 % 2 ^ 62 = s.armDigest (s.slot k).desc % 2 ^ 62 ∧
            dget a.payload 12 8 / 2 ^ 62 = 3 - s.fld F.BKS_CFG.ROLE ∧ s.synchronised = true ∧
            toTick s.now + 2000 * 8192 ≤ start)))) ∧
      (type = 2 → ∃ t, exec (.pairTakeoverRx p a) s = .next t ∧ t.fld (F.BKS_SGSTAT.PBURST sg) = dget a.payload 2 2 ∧
        t.flag (F.BKS_SGSTAT.CARRIED sg) = (s.fld F.BKS_CFG.ROLE == 2 || s.flag (F.BKS_SGSTAT.CARRIED sg)) ∧
        t.engines = s.engines ∧ t.slots = s.slots) ∧
      (∀ cycle own sent, type = 0 → (s.pair sg).matched = true → s.flag (F.BKS_SGSTAT.CARRIED sg) = false →
        (s.pair sg).own = [(false, cycle, own, sent)] → (s.pair sg).theirs = [] → cycle < 2 ^ 56 → dget a.payload 4 8 = cycle →
        ∃ t, exec (.pairDigestRx p a) s = .next t ∧ (t.pair sg).own = [] ∧ (t.pair sg).theirs = [] ∧
          (dget a.payload 12 8 = own → t.faultIn = s.faultIn ∧ (t.pair sg).disagreed = (s.pair sg).disagreed ∧
            t.fld F.BKS_STAT.DISAGREE = s.fld F.BKS_STAT.DISAGREE) ∧
          (dget a.payload 12 8 ≠ own → (t.pair sg).disagreed = true ∧ t.fld F.BKS_STAT.LASTSG = sg ∧
            t.reg64 R.BKS_LASTDIS_LO R.BKS_LASTDIS_HI = cycle ∧
            t.fld F.BKS_STAT.DISAGREE = min (s.fld F.BKS_STAT.DISAGREE + 1) 255 ∧
            ((s.pair sg).disagreed = true → t.faultIn = s.faultIn) ∧
            ((s.pair sg).disagreed = false → t.flag (F.BKS_SGSTAT.DISAGREE sg) = true ∧
              t.faultIn = insertFault s.faultIn ⟨s.cycle, 270, kDigest, sg⟩))))) ∧
  (∀ (sg : Fin 64) (s : State),
    (s.eState sg ≠ 1 ∨ (s.pair sg).matched = true ∨ s.paired sg = false → exec (.backstayMatchDeadline sg) s = .next s) ∧
    (∀ k start, s.eState sg = 1 → (s.pair sg).matched = false → s.paired sg = true → (s.engine sg).slot = some k →
      (s.engine sg).start = some start → start ≤ toTick s.now + 2000 * 8192 → (s.slot k).state = .running →
      ∃ t, exec (.backstayMatchDeadline sg) s = .next t ∧ t.eState sg = 0 ∧ t.flag (F.BKS_SGSTAT.NOARM sg) = true ∧
        (t.engine sg).slot = none ∧ (t.slot k).done = some (stDeadline, 0, 0) ∧ t.pool = s.pool) ∧
    ((s.pair sg).matched = false → exec (.digestSend sg) s = .next s) ∧
    (∀ m, (s.pair sg).matched = true → (s.pair sg).silent = false → (s.pair sg).ended = false → s.eState sg = 2 →
      (s.engine sg).begun = true → m = (s.pair sg).taken + 4095 + s.flat sg → m ≤ s.seCycle sg →
      (s.engine sg).nextStart ≤ toTick s.now + (s.seCycle sg - m) * s.period sg → (s.pair sg).theirs = [] →
      let d := digestOver (s.engine sg).fails (s.pair sg).taken 4096 (s.pair sg).digest
      ∃ t, exec (.digestSend sg) s = .next t ∧ (t.pair sg).digest = d ∧ (t.pair sg).taken = (s.pair sg).taken + 4096 ∧
        (t.pair sg).own = (s.pair sg).own ++ [(false, (s.pair sg).taken + 4095, d, s.clk)] ∧ t.faultIn = s.faultIn) ∧
    (let late : Prop := s.expectsPartner sg = true ∧ ∃ o ∈ (s.pair sg).own, o.2.2.2 + 4000 ≤ s.clk
     (¬ late → exec (.partnerLostTimeout sg) s = .next s) ∧
     (late → ∃ t, exec (.partnerLostTimeout sg) s = .next t ∧ t.flag (F.BKS_SGSTAT.PLOST sg) = true ∧
       (t.pair sg).silent = true ∧ t.faultIn = insertFault s.faultIn ⟨s.cycle, 270, kPartner, sg⟩ ∧ t.engines = s.engines))) ∧
  (∀ (banks : Fin 65536) (s : State), s.inUse = true →
    let idle (b : Nat) : Prop := s.fld F.BKS_CFG.ROLE = 1 ∧
      ∀ g, g < 64 → s.paired g = true → s.busySg g = true → b ∉ s.banksOf g
    ∃ t, exec (.pselRestore banks) s = .next t ∧ t.regs = s.regs ∧
      (∀ b, b < 16 → (bitOf banks b = true → idle b → bitOf t.pselHeld b = false) ∧
        (¬ (bitOf banks b = true ∧ idle b) → bitOf t.pselHeld b = bitOf s.pselHeld b)) ∧
      ((∀ b, b < 16 → bitOf banks b = true → idle b) → t.faultIn = s.faultIn) ∧
      ((∃ b, b < 16 ∧ bitOf banks b = true ∧ ¬ idle b) →
        t.faultIn = insertFault s.faultIn ⟨s.cycle, 249, kRegAccess, R.BKS_CTRL⟩))

/-! ### Shroud and Crow's Nest (19_shroud_security.md, 20_crows_nest.md) -/

/-- R408, R411–R414, R425, R426, R431: attestation, the lifecycle and boundary scan. START while BUSY is a register access fault. A report
is refused NO_IDENTITY while IDENT reads 0, in MANUFACTURING and during vendor-debug, BAD_BUFFER where the buffer is not aligned or not
in one unprotected allocation, and then writes nothing; else the 256 bytes, their signature and the certificate stand at the offset and
nothing else of the pool changes. DEPLOY and RETURN move forward only, at the next start. Oluhal provisions a blank device during
vendor-debug only. EXTEST takes effect only while every engine is IDLE or FENCED. -/
def Obligations.AttestationAndLifecycle : Prop :=
  (∀ (s : State), s.inUse = true →
    (s.flag F.SHR_ATT_CTRL.BUSY = true → exec .attestationStart s = .next (s.report 249 kRegAccess R.SHR_ATT_CTRL)) ∧
    (s.flag F.SHR_ATT_CTRL.BUSY = false → exec .attestationStart s = .next (s.setFld F.SHR_ATT_CTRL.BUSY 1)) ∧
    (let now := s.fuses.lcNext.getD s.fuses.lifecycle
     let moved (v : Nat) : State := { s with fuses := { s.fuses with lcNext := some v } }.setFld F.SHR_STAT.LCPEND 1
     exec .lifecycleDeploy s = .next (if now = 1 then moved 2 else s.report 249 kRegAccess R.SHR_CTRL) ∧
     exec .lifecycleReturn s = .next (if now = 1 ∨ now = 2 then moved 3 else s.report 249 kRegAccess R.SHR_CTRL))) ∧
  (∀ (s : State),
    let a := s.regN R.SHR_ATT_ADDR
    let ident : Prop := s.flag F.SHR_STAT.IDENT = true ∧ s.fld F.SHR_STAT.LIFECYCLE ≠ 0 ∧ s.fld F.SHR_STAT.DEBUG ≠ 2
    let buffer : Prop := a % 64 = 0 ∧ ∃ p, s.poolHolding a 512 = some p ∧ p.prot = false
    let s' := s.setFld F.SHR_ATT_CTRL.BUSY 0
    (s.flag F.SHR_ATT_CTRL.BUSY = false → exec .attestationDone s = .next s) ∧
    (s.flag F.SHR_ATT_CTRL.BUSY = true → s.shroud.keys = none ∨ ¬ ident →
      exec .attestationDone s = .next (s'.setFld F.SHR_ATT_CTRL.RESULT 1)) ∧
    (∀ keys, s.flag F.SHR_ATT_CTRL.BUSY = true → s.shroud.keys = some keys → ident →
      (¬ buffer → exec .attestationDone s = .next (s'.setFld F.SHR_ATT_CTRL.RESULT 2)) ∧
      (buffer → ∃ t, exec .attestationDone s = .next t ∧ t.fld F.SHR_ATT_CTRL.RESULT = 0 ∧ t.flag F.SHR_ATT_CTRL.BUSY = false ∧
        t.poolRead a 320 = s.reportHead ++ toBytes 64 (Config.ed25519Sign keys.1 s.reportHead) ∧ s.reportHead.length = 256 ∧
        t.poolRead (a + 320) (s.kept.certificate.take 160).length = s.kept.certificate.take 160 ∧
        (∀ x n, x + n ≤ a ∨ a + 480 ≤ x → t.poolRead x n = s.poolRead x n) ∧ t.deep = s.deep ∧ t.host = s.host))) ∧
  (∀ (seed : Nat) (helper certificate : List Byte) (sets : List (Fin 2 × List Byte)) (code : Fin 4) (s : State),
    let provision := Instr.lifecycleProvision seed helper certificate sets
    let may : Prop := s.fuses.lcNext.getD s.fuses.lifecycle = 0 ∧ s.fld F.SHR_STAT.DEBUG = 2
    let quiet : Prop := ∀ g, g < 64 → s.eState g = 0 ∨ s.eState g = 4
    (¬ may → exec provision s = .next s) ∧
    (may → ∃ t, exec provision s = .next t ∧ t.fuses = { s.fuses with seed := some seed, lcNext := some 1 } ∧
      t.kept = { s.kept with helper := helper, certificate := certificate } ∧ t.flag F.SHR_STAT.LCPEND = true ∧
      t.fld F.SHR_STAT.LIFECYCLE = s.fld F.SHR_STAT.LIFECYCLE ∧ t.pool = s.pool ∧ t.flash = s.flash) ∧
    (quiet → exec (.extestInstruction code) s = .next { s with pins := { s.pins with scan := code } }) ∧
    (¬ quiet → exec (.extestInstruction code) s = .next { s with pins := { s.pins with scan := 0 } }))

/-- R427–R430: debug sessions. OPEN while BUSY is discarded. Any other draws a fresh nonce. It is checked in the order of R428; a refusal
sets RESULT, is counted and reported, and opens nothing. One that passes ends every section and starts the erase; the level opens when
the erase ends, and vendor-debug takes the identity away. CLOSE outside an owner-debug session is a register access fault. -/
def Obligations.DebugSessions : Prop :=
  (∀ (s : State), s.inUse = true →
    let req := s.dbgReq
    let busy : Prop := (∃ g, g < 64 ∧ s.busySg g = true) ∨
      (∃ p ∈ s.slots, (p.2.state = .running ∨ p.2.state = .checking) ∧ dOpcode p.2.desc = 3) ∨ s.fld F.SHR_STAT.DEBUG ≠ 0 ∨
      s.fld F.SYS_PWR.STATE ≠ 0
    let bad : Prop := req 0 4 ≠ 0x60 ∨ (req 4 1 ≠ 1 ∧ req 4 1 ≠ 2) ∨ req 5 3 ≠ 0 ∨ req 8 8 ≠ s.part.uid ∨ req 0x50 16 ≠ 0
    let life := s.fld F.SHR_STAT.LIFECYCLE
    let barred : Prop := (req 4 1 = 1 ∧ life ≠ 1 ∧ life ≠ 2) ∨ (req 4 1 = 2 ∧ life = 2)
    let unsigned : Prop := life ≠ 0 ∧ ((req 4 1 = 2 ∧ Config.sha512 (toBytes 32 (req 0x30 32)) % 2 ^ 256 ≠ s.fuses.dbgKey) ∨
      Config.ed25519 (req 0x30 32) (toBytes 96 (req 0 96)) (req 0x60 64) = false)
    let nonce := Config.freeValue s.free
    let refused (r : Nat) : Prop := ∃ t, exec .debugOpen s = .next t ∧ t.fld F.SHR_DBG_CTRL.RESULT = r ∧
      t.fld F.SHR_STAT.DEBUG = s.fld F.SHR_STAT.DEBUG ∧ t.flag F.SHR_DBG_CTRL.BUSY = false ∧
      t.fld F.SHR_AUTHFAIL.DEBUG = min (s.fld F.SHR_AUTHFAIL.DEBUG + 1) 65535 ∧
      t.faultIn = insertFault s.faultIn ⟨s.cycle, 264, kAuth, 0⟩ ∧ t.shroud = s.shroud ∧ t.engines = s.engines ∧
      t.pool = s.pool ∧ t.dbgNonce = nonce % 2 ^ 256
    (s.flag F.SHR_DBG_CTRL.BUSY = true → exec .debugOpen s = .next s) ∧
    (s.flag F.SHR_DBG_CTRL.BUSY = false →
      (busy → refused 6) ∧
      (¬ busy → bad → refused 2) ∧
      (¬ busy → ¬ bad → req 0x10 32 ≠ s.dbgNonce → refused 3) ∧
      (¬ busy → ¬ bad → req 0x10 32 = s.dbgNonce → barred → refused 5) ∧
      (¬ busy → ¬ bad → req 0x10 32 = s.dbgNonce → ¬ barred → unsigned → refused 4) ∧
      (¬ busy → ¬ bad → req 0x10 32 = s.dbgNonce → ¬ barred → ¬ unsigned → ∃ t, exec .debugOpen s = .next t ∧
        t.flag F.SHR_STAT.ERASING = true ∧ t.flag F.SHR_DBG_CTRL.BUSY = true ∧ t.fld F.SHR_STAT.DEBUG = 0 ∧
        t.shroud.erase = some (req 4 1) ∧ t.shroud.dbgKey = req 0x30 32 ∧ t.dbgNonce = nonce % 2 ^ 256 ∧
        ∀ g, g < 64 → (t.engine g).sec = none)) ∧
    (s.fld F.SHR_STAT.DEBUG ≠ 1 → exec .debugClose s = .next (s.report 249 kRegAccess R.SHR_DBG_CTRL)) ∧
    (s.fld F.SHR_STAT.DEBUG = 1 → s.flag F.SHR_DBG_CTRL.BUSY = false → ∃ t, exec .debugClose s = .next t ∧
      t.flag F.SHR_STAT.ERASING = true ∧ t.shroud.erase = some 0 ∧ ∀ g, g < 64 → (t.engine g).sec = none)) ∧
  (∀ (s : State),
    (s.shroud.erase = none → exec .debugEraseDone s = .next s) ∧
    (∀ level, s.shroud.erase = some level → level ≤ 2 → ∃ t, exec .debugEraseDone s = .next t ∧
      t.fld F.SHR_STAT.DEBUG = level ∧ t.flag F.SHR_STAT.ERASING = false ∧ t.flag F.SHR_DBG_CTRL.BUSY = false ∧
      t.fld F.SHR_DBG_CTRL.RESULT = (if level = 0 then 7 else 1) ∧ t.shroud.erase = none ∧ t.pool = s.pool ∧
      (level = 2 → t.flag F.SHR_STAT.IDENT = false ∧ t.shroud.keys = none) ∧
      (level ≠ 2 → t.flag F.SHR_STAT.IDENT = s.flag F.SHR_STAT.IDENT ∧ t.shroud.keys = s.shroud.keys)))

/-- R429, R430: the erase leaves no secret. After an OPEN that passes its checks, and after a CLOSE of an owner-debug session, no group has
a section, and every byte of a pool allocation that was protected reads 0. -/
def Obligations.EraseLeavesNothing : Prop :=
  ∀ (s : State), Stored s → s.inUse = true → s.flag F.SHR_DBG_CTRL.BUSY = false →
    let clean (t : State) : Prop := (∀ g, g < 64 → (t.engine g).sec = none) ∧
      ∀ p ∈ s.poolAllocs, p.prot = true → ∀ x, p.base ≤ x → x < p.base + p.bytes → t.poolRead x 1 = [0]
    (s.openFails = none → ∃ t, exec .debugOpen s = .next t ∧ clean t) ∧
    (s.fld F.SHR_STAT.DEBUG = 1 → ∃ t, exec .debugClose s = .next t ∧ clean t)

/-- R435, R438, R440, R442: Crow's Nest. A counter that counts and passes 2^48 - 1 goes on from the remainder and sets its CNS_OVF bit; with
SAMPLE it takes CNS_CYCLE and its engine's count and address where no sample is held, or is counted as LOST. CLRALL zeroes all counters
while RUN = 0 and else is reported. A counter is written only while its EN = 0. A check error leaves it 0 and stopped until its value is
written. At the end of a window the twelve totals stand in the registers. -/
def Obligations.CrowsNest : Prop :=
  (∀ (k : Fin 8) (n : Nat) (s : State),
    let ev := s.fld (F.CNS_CTR_CFG.EVENT k)
    let mode := s.flag (F.CNS_CTR_CFG.MODE k)
    let sum := s.cns k + if mode = true then 1 else n
    let e := s.fld (F.CNS_CTR_CFG.ENGINE k)
    let sample := s.flag (F.CNS_CTR_CFG.SAMPLE k)
    let held := s.flag F.CNS_SAMPSTAT.VALID
    (s.cnsCounts k ev = false ∨ sum < 2 ^ 48 → exec (.cnsCounterWrap k n) s = .next s) ∧
    (s.cnsCounts k ev = true → 2 ^ 48 ≤ sum → mode = false ∨ nth s.cnsLast k none ≠ some s.cycle → s.cnsCycle < 2 ^ 64 →
      ∃ t, exec (.cnsCounterWrap k n) s = .next t ∧ t.cns k = sum % 2 ^ 48 ∧ t.cnsCounts k ev = true ∧
        (∀ i, i < 8 → bitOf (t.fld F.CNS_OVF.WRAPPED) i = (decide (i = k) || bitOf (s.fld F.CNS_OVF.WRAPPED) i)) ∧
        (∀ j, j < 8 → j ≠ k.val → t.cns j = s.cns j) ∧ t.pool = s.pool ∧ t.engines = s.engines ∧
        (sample = true → held = false → t.flag F.CNS_SAMPSTAT.VALID = true ∧ t.fld F.CNS_SAMPSTAT.CTRS = 2 ^ k.val ∧
          t.reg64 R.CNS_SAMP_CYC_LO R.CNS_SAMP_CYC_HI = s.cnsCycle ∧
          t.reg64 R.CNS_SAMP_VC_LO R.CNS_SAMP_VC_HI = s.reg64 (R.SE_CYCLE_LO e) (R.SE_CYCLE_HI e) ∧
          t.regN R.CNS_SAMP_IA = e * 2 ^ 24 + s.fld (F.SE_STATE.IA e) ∧ t.flag (evPend 210) = true) ∧
        (sample = true → held = true → s.reg64 R.CNS_SAMP_CYC_LO R.CNS_SAMP_CYC_HI ≠ s.cnsCycle →
          t.fld F.CNS_SAMPSTAT.LOST = min (s.fld F.CNS_SAMPSTAT.LOST + 1) 65535 ∧
          t.reg64 R.CNS_SAMP_CYC_LO R.CNS_SAMP_CYC_HI = s.reg64 R.CNS_SAMP_CYC_LO R.CNS_SAMP_CYC_HI) ∧
        (sample = false → t.regN R.CNS_SAMPSTAT = s.regN R.CNS_SAMPSTAT))) ∧
  (∀ (k : Fin 8) (hi run : Bool) (value : Word) (s : State), s.inUse = true →
    let off := if hi = true then R.CNS_CTR_HI k else R.CNS_CTR_LO k
    (s.flag F.CNS_GCTRL.RUN = true → exec (.cnsClearAll run) s =
      .next ((s.report 249 kRegAccess R.CNS_GCTRL).setFld F.CNS_GCTRL.RUN (b2n run))) ∧
    (s.flag F.CNS_GCTRL.RUN = false → ∃ t, exec (.cnsClearAll run) s = .next t ∧ t.flag F.CNS_GCTRL.RUN = run ∧
      (∀ j, j < 8 → t.cns j = 0 ∧ t.regN (R.CNS_CTR_CFG j) = s.regN (R.CNS_CTR_CFG j)) ∧ t.faultIn = s.faultIn) ∧
    (s.flag (F.CNS_CTR_CFG.EN k) = true → exec (.cnsCounterWrite k hi value) s = .next (s.report 249 kRegAccess off)) ∧
    (s.flag (F.CNS_CTR_CFG.EN k) = false → ∃ t, exec (.cnsCounterWrite k hi value) s = .next t ∧
      t.regN off = (if hi = true then s.regN off / 65536 * 65536 + value.toNat % 65536 else value.toNat) ∧
      k.val ∉ t.cnsStopped ∧ t.faultIn = s.faultIn)) ∧
  (∀ (k : Fin 8) (s : State), ∃ t, exec (.cnsCounterCheckError k) s = .next t ∧ t.cns k = 0 ∧
    (∀ ev, t.cnsCounts k ev = false) ∧ t.faultIn = insertFault s.faultIn ⟨s.cycle, 269, kCheck, 0⟩) ∧
  (∀ (s : State),
    let due : Prop := s.flag F.CNS_BWCFG.EN = true ∧ s.bwStart + s.bwWindow ≤ s.clk
    (¬ due → exec .cnsBwWindowEnd s = .next s) ∧
    (due → ∃ t, exec .cnsBwWindowEnd s = .next t ∧ t.bwStart = s.bwStart + s.bwWindow ∧
      (∀ p, p < 12 → nth t.bwNow p 0 = 0 ∧ t.reg64 (R.CNS_BW_LO p) (R.CNS_BW_HI p) = nth s.bwNow p 0 % 2 ^ 64) ∧
      t.regN R.CNS_BWSTAT = (s.regN R.CNS_BWSTAT + 1) % 2 ^ 32))

/-! ### Start-up, resets, power and the boot flash (21_startup_and_register_map.md, 22_balls_and_electrical.md) -/

/-- R408, R425, R445, R446, R448, R454, R455, R469, R480: the reset lines. RESET_N low outside RESET, PWRGOOD rising and PWRGOOD falling put
every register at its reset value and end all work; boot flash, keeping store and host memory stand, with the cause, the boot state at
the reset and the fuses, of which an interrupted write leaves the one or the other. With both lines high the device leaves RESET for
ROM: a pending lifecycle move applies, ATTEMPTS rises by one, and SYS_RESETCAUSE shows the cause. FLASH_RST_N is low while RESET_N is
and for 10 µs after its release. R389, R449, R453–R456: SYS_CTRL and the function reset. CHIP with CONFIRM restarts the chip at ROM with
cause HOST: every block and register at reset, the first-fault record and the cause kept, boot flash, keeping store and fuses untouched,
and CLRATT clears ATTEMPTS first. CATRAIN is taken only in MANUFACTURING and PROVISIONED. A function reset in service ends every task
without a completion, aborts bursts as a host abort, disables the rings, empties the stage banks and returns the grants, and keeps pool,
deep memory, tables and other registers; before SERVICE it has none of these effects. -/
def Obligations.Resets : Prop :=
  (
  ∀ (s : State),
    let held (c : Instr) (cause : Nat) (P : State → Prop) : Prop := ∃ t, exec c s = .next t ∧ t.regs = [] ∧
      t.kept = { s.kept with cause := BitVec.ofNat 32 (cause * 2 ^ 28 + s.bootState * 2 ^ 24) } ∧
      t.slots = [] ∧ t.engines = [] ∧ t.tables = [] ∧ t.deep = [] ∧ t.now = 0 ∧ t.faultIn = [] ∧ t.sources = [] ∧ t.shroud.keys = none ∧
      t.flash = s.flash ∧ t.keep = s.keep ∧ t.host = s.host ∧ P t
    let low : Prop := s.bootState = 0
    (∃ t, exec (.powerOnReset true) s = .next t ∧ t.flashRstN = false) ∧
    (s.boot.resetN = false → ∃ t, exec .resetRelease s = .next t ∧
      ∀ c, State.flashRstN { t with clk := c } = decide (s.clk + 10000 ≤ c)) ∧
    (low → exec (.powerOnReset true) s = .next { s with boot := { s.boot with resetN := false } }) ∧
    (¬ low → held (.powerOnReset true) 1 fun t => t.boot.resetN = false ∧ t.boot.pwrgood = s.boot.pwrgood ∧ t.fuses = s.fuses) ∧
    (s.boot.pwrgood = true → exec (.powerOnReset false) s = .next s) ∧
    (s.boot.pwrgood = false → held (.powerOnReset false) 0 fun t => t.boot.pwrgood = true ∧ t.fuses = s.fuses) ∧
    (s.boot.pwrgood = false → exec .pwrgoodFall s = .next s) ∧
    (s.boot.pwrgood = true → held .pwrgoodFall 0 fun t => t.boot.pwrgood = false ∧ t.fuses.fwWrite = none ∧
      t.fuses.ucWrite = none ∧ (t.fuses.fwMin = s.fuses.fwMin ∨ some t.fuses.fwMin = s.fuses.fwWrite) ∧
      (t.fuses.ucMin = s.fuses.ucMin ∨ some t.fuses.ucMin = s.fuses.ucWrite) ∧
      t.fuses.lifecycle = s.fuses.lifecycle ∧ t.fuses.lcNext = s.fuses.lcNext) ∧
    (s.boot.pwrgood = false ∨ ¬ low → exec .resetRelease s = .next { s with boot := { s.boot with
      resetN := true, flashHigh := if s.boot.resetN = true then s.boot.flashHigh else s.clk + 10000 } }) ∧
    (s.boot.pwrgood = true → low → ∃ t, exec .resetRelease s = .next t ∧ t.bootState = 1 ∧ t.fld F.SYS_BOOT_STATE.REACHED = max 1
        (s.fld F.SYS_BOOT_STATE.REACHED) ∧
      t.kept = { s.kept with attempts := s.kept.attempts + 1, starts := s.kept.starts + 1 } ∧
      t.fld F.SYS_BOOT_STATE.ATTEMPTS = min 255 (s.kept.attempts + 1) ∧ t.reg R.SYS_RESETCAUSE = s.kept.cause ∧
      t.fuses = { s.fuses with lifecycle := s.fuses.lcNext.getD s.fuses.lifecycle, lcNext := none } ∧
      t.boot.resetN = true ∧ t.boot.enteredAt = s.clk ∧ t.reg64 R.LNK_UID_LO R.LNK_UID_HI = s.part.uid % 2 ^ 64)) ∧
  (
  (∀ (clratt : Bool) (s : State), s.answers = true →
    (∃ t, exec (.chipReset clratt) s = .next t ∧ t.bootState = 1 ∧
      t.regN R.SYS_RESETCAUSE = 2 * 2 ^ 28 + s.bootState * 2 ^ 24 ∧
      t.kept.first = [s.reg (R.FLT_FIRST 0), s.reg (R.FLT_FIRST 1), s.reg (R.FLT_FIRST 2), s.reg (R.FLT_FIRST 3)] ∧
      t.kept.attempts = (if clratt = true then 1 else s.kept.attempts + 1) ∧
      (∀ off, 0x200000 ≤ off → off < 0x1000000 → off ≠ R.LNK_UID_LO → off ≠ R.LNK_UID_HI → t.regN off = (regReset off).toNat) ∧
      t.slots = [] ∧ t.engines = [] ∧ t.tables = [] ∧ t.deep = [] ∧ t.shroud = Shroud.off ∧ t.now = 0 ∧ t.faultIn = [] ∧
      t.regN R.HIF_LINK = s.regN R.HIF_LINK ∧ t.flash = s.flash ∧ t.keep = s.keep ∧ t.host = s.host ∧
      t.fuses = { s.fuses with lifecycle := s.fuses.lcNext.getD s.fuses.lifecycle, lcNext := none }) ∧
    (s.lifecycle ≤ 1 → exec .catrainRequest s = .next { s with boot := { s.boot with catrain := true } }) ∧
    (1 < s.lifecycle → exec .catrainRequest s = .next (s.report 249 kRegAccess R.SYS_CTRL))) ∧
  (∀ (kind : Fin 3) (s : State),
    (s.bootState ≠ 8 → s.bootState ≠ 9 → ∃ t, exec (.functionReset kind) s = .next t ∧ t.slots = s.slots ∧ t.engines = s.engines ∧
      t.bankA = s.bankA ∧ t.bootState = s.bootState ∧ t.boot.d3hot = false) ∧
    (s.bootState = 8 ∨ s.bootState = 9 → s.boot.d3hot = false → (∀ p ∈ s.slots, p.2.state ≠ .running ∨ dOpcode p.2.desc = 0x05) →
      ∃ t, exec (.functionReset kind) s = .next t ∧ t.slots = [] ∧ t.rings = [] ∧ t.reefQueue = [] ∧
        t.bankA = ⟨false, []⟩ ∧ t.bankB = ⟨false, []⟩ ∧ t.fld F.REEF_GRANTED.UNITS = 0 ∧ t.flag F.CNS_ACCESS.USER = false ∧
        (∀ k, k < 64 → t.fld (F.HIF_RING_STAT.STATE k) = 0) ∧ t.messages = s.messages ∧ t.bootState = s.bootState ∧
        (∀ g, g < 64 → s.busySg g = true → (s.engine g).slot ≠ none → t.eState g = 3 ∧ t.fld (F.SE_CAUSE.CAUSE g) = 1) ∧
        (∀ g, g < 64 → s.busySg g = false → t.eState g = s.eState g) ∧
        t.pool = s.pool ∧ t.deep = s.deep ∧ t.tables = s.tables ∧ t.sources = s.sources ∧ t.now = s.now ∧
        t.regN R.HIF_LINK = if kind = 0 then s.regN R.HIF_LINK else 0)))

/-- R407–R411, R445, R448: ROM and FIRMWARE. In its bound, ROM runs the first of the two firmware copies that passes, reports every copy it
checked that failed, and shows the copy's version and SVN. With none it ends in FAILED, after three failed starts in RECOVERY, both with
FAULT_N low. A copy passes only with its KIND and lengths, an SVN not below the fused minimum, a stepping served and a signature by the
key whose digest is fused. IDENT reads 1 only past MANUFACTURING and with keys derived; past MANUFACTURING without keys source 264
reports. A boot state that exceeds its bound makes a chip reset with cause BOOT_TIMEOUT; no row of another state acts. -/
def Obligations.BootRom : Prop :=
  (∀ (s : State),
    let a := s.firmwareGood 0x100000
    let b := s.firmwareGood 0x600000
    let base := if a = true then 0x100000 else 0x600000
    let runs : Prop := (a = true ∨ b = true) ∧ s.kept.attempts ≤ 3
    (s.working 1 = false → exec .bootRom s = .next s) ∧
    (s.working 1 = true → ∃ t, exec .bootRom s = .next t ∧
      (a = false → ∃ m ∈ t.faultIn, m.src = 265 ∧ m.kind = kAuth) ∧
      (runs → t.bootState = 2 ∧ t.fld F.SHR_STAT.FWCOPY = (if a = true then 0 else 1) ∧
        t.regN R.SHR_FWVERSION = s.flashNum (base + 8) 4 ∧ t.fld F.SHR_FWSVN.RUNNING = s.flashNum (base + 0xC) 2 ∧
        t.fld F.SHR_FWSVN.FUSED_MIN = s.fuses.fwMin % 128 ∧ t.fld F.SEQ_UCODE_SVN.FUSED_MIN = s.fuses.ucMin % 128 ∧
        t.shroud.fwDigest = Config.sha512 (s.flashRead base (64 + s.flashNum (base + 0x10) 4)) % 2 ^ 512) ∧
      (a = false → b = false → t.bootState = 15 ∧ t.faultN = false) ∧
      (a = true ∨ b = true → 4 ≤ s.kept.attempts → t.bootState = 10 ∧ t.faultN = false) ∧
      t.fld F.SHR_STAT.LIFECYCLE = s.fuses.lifecycle % 16 ∧
      t.flag F.SHR_STAT.IDENT = (t.shroud.keys.isSome && s.fuses.lifecycle != 0) ∧
      (s.fuses.seed = none → t.shroud.keys = none) ∧
      (t.shroud.keys = none → s.fuses.lifecycle ≠ 0 → ∃ m ∈ t.faultIn, m.src = 264 ∧ m.kind = kAuth) ∧
      t.fuses = s.fuses ∧ t.flash = s.flash ∧ t.keep = s.keep) ∧
    (∀ at', s.firmwareGood at' = true →
      let code := s.flashNum (at' + 0x10) 4
      s.flashNum at' 4 = 0x11 ∧ s.flashNum (at' + 4) 4 = 64 + code + 64 ∧ 4 ≤ code ∧ code ≤ 4194304 ∧ s.flashNum (at' + 0xF) 1 = 0 ∧
      s.flashNum (at' + 0x18) 40 = 0 ∧ s.fuses.fwMin ≤ s.flashNum (at' + 0xC) 2 ∧
      s.flashNum (at' + 0xE) 1 ≤ s.fld F.SYS_PART_ID.STEPPING ∧ Config.sha512 (toBytes 32 Config.firmwareKey) = s.fuses.fwKey ∧
      Config.ed25519 Config.firmwareKey (s.flashRead at' (64 + code)) (s.flashNum (at' + 64 + code) 64) = true) ∧
    (s.working 2 = false → exec .bootFirmware s = .next s) ∧
    (s.working 2 = true → ∃ t, exec .bootFirmware s = .next t ∧ t.bootState = 3 ∧ t.boot.enteredAt = s.clk ∧ t.kept = s.kept ∧
      t.pool = s.pool) ∧
    (let late : Prop := ((1 ≤ s.bootState ∧ s.bootState ≤ 7) ∨ s.bootState = 9) ∧ s.boot.enteredAt + bootBound s.bootState < s.clk
     (¬ late → exec .bootTimeout s = .next s) ∧
     (late → ∃ t, exec .bootTimeout s = .next t ∧ t.bootState = 1 ∧
       t.regN R.SYS_RESETCAUSE = 4 * 2 ^ 28 + s.bootState * 2 ^ 24 ∧ t.kept.attempts = s.kept.attempts + 1))) ∧
  (bootBound 1 = 25000000 ∧ bootBound 2 = 5000000 ∧ bootBound 3 = 2000000 ∧ bootBound 4 = 15000000 ∧ bootBound 5 = 10000000 ∧
    bootBound 6 = 150000000 ∧ bootBound 7 = 2000000 ∧ bootBound 9 = 15000000)

/-- R68, R69, R84, R87–R89, R445, R450, R451, R459: MICROCODE, SELFTEST and TEST. Without a patch the ROM image runs with RESULT NONE; a
patch that fails a check leaves the ROM image, RESULT above LOADED and event 193; one that runs has its stepping, an SVN not below the
fused minimum and a good signature. A word of the master store that cannot be corrected, met while an image loads, leaves the ROM image
with MASTER_ERROR, and a region of another KIND holds no patch. Every engine that is not fenced has the image in its local store, the
diagnostic routines in TEST. SELFTEST leaves every good pool word 0, poisons and reports the words that fail, and fences and reports the
engines that fail, but for one fenced before. TEST is entered from SERVICE when nothing runs and nothing secret is held, and returns to
SERVICE. R248, R252, R258, R371, R379, R445, R448, R450, R453: CALIBRATION to SERVICE. A slot whose copies both fail is reported; a
controller without command delays, without training or of another density is fenced with its cause and shown in DCFENCED; both key sets
are drawn, and a trained board record replaces the old one. LINKS lets enabled ports and I3C controllers begin. SERVICE sets ATTEMPTS to
0 and shows the time the start took. -/
def Obligations.BootStages : Prop :=
  (
  (∀ (masterError : Bool) (s : State),
    let r := if masterError = true then (8, []) else s.patchCheck
    let f (off size : Nat) : Nat := s.flashNum (0xB00000 + off) size
    (s.working 3 = false → exec (.bootMicrocode masterError) s = .next s) ∧
    (s.working 3 = true → ∃ t, exec (.bootMicrocode masterError) s = .next t ∧ t.bootState = 4 ∧
      t.fld F.SEQ_UCODE_STATUS.RESULT = r.1 ∧ r.1 ≤ 8 ∧ t.flag F.SEQ_UCODE_STATUS.SOURCE = (r.1 == 1) ∧
      (∀ a, 0x2800 ≤ a → t.masterWord a = 0) ∧
      (r.1 ≠ 1 → t.regN R.SEQ_UCODE_VERSION = 0 ∧
        ∀ g a, g < 64 → a < 2048 → s.eState g ≠ 4 → t.localWord g a = Config.romWord a) ∧
      (r.1 = 1 → t.regN R.SEQ_UCODE_VERSION = f 8 4 ∧ t.fld F.SEQ_UCODE_SVN.RUNNING = f 0xC 2 ∧
        ∀ g a, g < 64 → a < 2048 → s.eState g ≠ 4 → t.localWord g a = (Sparse.find? r.2 a).getD (Config.romWord a)) ∧
      (2 ≤ r.1 → t.flag (evPend 193) = true)) ∧
    (masterError = false → f 0 4 ≠ 0x10 → r.1 = 0) ∧
    (r.1 = 1 → masterError = false ∧ f 0 4 = 0x10 ∧ f 0xE 1 = s.fld F.SYS_PART_ID.STEPPING ∧ s.fuses.ucMin ≤ f 0xC 2 ∧
      Config.ed25519 Config.patchSigner (s.flashRead 0xB00000 (64 + f 0x14 4)) (f (64 + f 0x14 4) 64) = true)) ∧
  (∀ (failed : Nat) (words : List Nat) (s : State), (∀ g, g < 64 → s.eState g = 0 ∨ s.eState g = 4) →
    let tested (c : Instr) (state : Nat) : Prop := ∃ t, exec c s = .next t ∧ t.bootState = state ∧ t.pool = [] ∧
      (∀ q, q ∈ t.poolBad ↔ q / 4 ∈ words) ∧ (∀ w ∈ words, ∃ m ∈ t.faultIn, m.src = 242 ∧ m.kind = kPoolTest ∧ m.addr = 32 * w) ∧
      (∀ g, g < 64 → t.eState g = if bitOf failed g = true then 4 else s.eState g) ∧
      (∀ g, g < 64 → bitOf failed g = true → s.eState g = 0 → ∃ m ∈ t.faultIn, m.src = g ∧ m.kind = kCheck) ∧
      t.tables = s.tables ∧ t.deep = s.deep ∧ t.flash = s.flash ∧ t.boot.patch = s.boot.patch ∧
      (∀ g a, g < 64 → a < 2048 → s.eState g = 0 → t.localWord g a = s.masterWord (imageBase s.sourceImage + a))
    (s.working 4 = false → exec (.bootSelftest failed words) s = .next s) ∧
    (s.working 4 = true → tested (.bootSelftest failed words) 5) ∧
    (s.working 9 = false → exec (.testDone failed words) s = .next s) ∧
    (s.working 9 = true → tested (.testDone failed words) 8)) ∧
  (∀ (s : State), s.answers = true →
    let may : Prop := s.bootState = 8 ∧ (∀ p ∈ s.slots, p.2.state ≠ .running) ∧ (∀ g, g < 64 → s.busySg g = false) ∧
      (∀ g, g < 64 → (s.engine g).sec = none) ∧ (∀ p ∈ s.poolAllocs, p.prot = false) ∧ ∀ st, st < 4 → s.logEncrypts st = false
    (¬ may → exec .testEntry s = .next (s.report 249 kRegAccess R.SYS_CTRL)) ∧
    (may → ∃ t, exec .testEntry s = .next t ∧ t.bootState = 9 ∧ t.flag F.CNS_ACCESS.USER = false ∧ t.boot.enteredAt = s.clk ∧
      (∀ g a, g < 64 → a < 2048 → s.eState g ≠ 4 → t.localWord g a = s.masterWord (0x800 + a)) ∧
      t.engines = s.engines ∧ t.pool = s.pool ∧ t.deep = s.deep ∧ t.faultIn = s.faultIn))) ∧
  (
  (∀ (temps : List Int) (s : State),
    (s.working 5 = false → exec (.bootCalibration temps) s = .next s) ∧
    (s.working 5 = true → ∃ t, exec (.bootCalibration temps) s = .next t ∧ t.bootState = 6 ∧ t.keep = s.keep ∧
      (∀ k, k < 8 → s.slotCopy k = none → ∃ m ∈ t.faultIn, m.src = 261 ∧ m.kind = kCalibration) ∧ t.cal.readAt = s.clk)) ∧
  (∀ (rate : Fin 64) (temp : Int) (found : List DramStart) (s : State),
    let at' (n : Nat) : DramStart := nth found n ⟨false, false, 0, false⟩
    let hasCa (n : Nat) : Bool := if s.boot.catrain = true then (at' n).caTrained else bitOf s.kept.board n && (at' n).record
    let trains (n : Nat) : Bool := hasCa n && (at' n).trained
    (s.working 6 = false → exec (.bootMemory rate temp found) s = .next s) ∧
    (s.working 6 = true → s.resv = [] → s.deepAllocs = [] → (∀ g, g < 64 → s.busySg g = false) → s.slots = [] →
      ∃ t, exec (.bootMemory rate temp found) s = .next t ∧ t.bootState = 7 ∧ t.deep = [] ∧ t.boot.catrain = false ∧
        t.shroud.patternKeys = s.free ∧ t.shroud.dataKeys = s.free + 1 ∧
        (∀ n, n < 8 → hasCa n = false → t.dramFenced n = true ∧ t.fld (F.DRM_DC_STAT.CAUSE n) = 2) ∧
        (∀ n, n < 8 → hasCa n = true → (at' n).trained = false → t.dramFenced n = true ∧ t.fld (F.DRM_DC_STAT.CAUSE n) = 1) ∧
        (∀ m, m < 8 → trains m = true → (∀ j, j < m → trains j = false) →
          t.fld F.DRM_CFG.DENSITY = (at' m).density ∧ ∀ n, n < 8 → trains n = true →
            ((at' n).density = (at' m).density → t.dramFenced n = s.dramFenced n) ∧
            ((at' n).density ≠ (at' m).density → t.dramFenced n = true ∧ t.fld (F.DRM_DC_STAT.CAUSE n) = 3)) ∧
        (∀ n, n < 8 → bitOf (t.fld F.SYS_BOOT_STATE.DCFENCED) n = bitOf (t.fld F.DRM_CFG.FENCED) n) ∧
        (s.boot.catrain = false → t.kept = s.kept) ∧
        (s.boot.catrain = true → ∀ n, n < 8 → bitOf t.kept.board n = (at' n).caTrained))) ∧
  (∀ (s : State),
    (s.working 7 = false ∨ s.boot.linksDone = true → exec .bootLinks s = .next s) ∧
    (s.working 7 = true → s.boot.linksDone = false → ∃ t, exec .bootLinks s = .next t ∧ t.boot.linksDone = true ∧ t.bootState = 7 ∧
      (∀ p, p < 4 → t.portState p = if s.flag (F.LNK_P_CFG.EN p) && !s.srcFenced (252 + p) && s.portState p == 0 then 1 else s.portState p) ∧
      (∀ q, q < 4 → (t.i3c q).due = (s.flag (F.PEM_Q_CFG.EN q) || (s.i3c q).due))) ∧
    (¬ (s.bootState = 7 ∧ s.boot.linksDone = true ∧ s.boot.leaving = none) → exec .bootService s = .next s) ∧
    (s.bootState = 7 → s.boot.linksDone = true → s.boot.leaving = none → ∃ t, exec .bootService s = .next t ∧ t.bootState = 8 ∧
      t.fld F.SYS_BOOT_STATE.REACHED = max 8 (s.fld F.SYS_BOOT_STATE.REACHED) ∧ t.fld F.SYS_BOOT_STATE.ATTEMPTS = 0 ∧
      t.kept.attempts = 0 ∧ t.fld F.SYS_BOOT_STATE.BOOTMS = min 255 ((s.clk - s.boot.releasedAt) / 1000000))))

/-- R457, R458: power states. A request is refused with BUSY and changes no state outside SERVICE, during a transition, while a debug OPEN
or erase runs, and where its entry needs fail; the state it is in is granted at once; P1 is entered at once, channels at reset levels;
P3 keeps device time, CNS_CYCLE, the first-fault record, keeping store and boot flash and loses work, sections, debug and deep memory; a
request for P0 starts the exit, which takes 20 µs from P1 and 1 ms from P2. D3hot requests P3 and repeats it after 1 ms until it is
accepted, D0 requests P0. -/
def Obligations.PowerStates : Prop :=
  (∀ (v : Fin 4) (s : State), s.answers = true →
    let cur := s.fld F.SYS_PWR.STATE
    let needs : Prop := v.val ≤ cur ∨
      (v.val = 1 ∧ (∀ g, g < 64 → s.eState g = 0 ∨ s.eState g = 4) ∧ (∀ u, u < 16 → s.aqState u = 0) ∧
        ∀ u, u < 64 → (s.tdc u).slot = none) ∨
      (2 ≤ v.val ∧ (∀ p ∈ s.slots, p.2.state ≠ .running) ∧ ∀ g, g < 64 → s.busySg g = false)
    let may : Prop := s.bootState = 8 ∧ s.flag F.SYS_PWR.PENDING = false ∧ s.flag F.SHR_DBG_CTRL.BUSY = false ∧ needs
    let go := exec (.powerStateRequest v) s
    (¬ may → go = .next (s.setFld F.SYS_PWR.RESULT 1)) ∧
    (may → v.val = cur → go = .next (s.setFld F.SYS_PWR.RESULT 0)) ∧
    (may → v.val = 1 → cur = 0 → ∃ t, go = .next t ∧ t.fld F.SYS_PWR.STATE = 1 ∧ t.fld F.SYS_PWR.RESULT = 0 ∧ t.chans = [] ∧
      t.pool = s.pool ∧ t.engines = s.engines ∧ t.slots = s.slots) ∧
    (may → v.val = 2 → cur < 2 → ∃ t, go = .next t ∧ t.fld F.SYS_PWR.STATE = 2 ∧ t.fld F.SYS_PWR.RESULT = 0 ∧ t.pool = s.pool ∧
      t.engines = s.engines) ∧
    (Stored s → may → v.val = 3 → cur < 3 → ∃ t, go = .next t ∧ t.fld F.SYS_PWR.STATE = 3 ∧ t.fld F.SYS_PWR.RESULT = 0 ∧
      t.deep = [] ∧ t.slots = [] ∧ t.engines = [] ∧ t.now = s.now ∧ t.clk = s.clk ∧ t.boot.halted = s.boot.halted ∧
      t.firstFault = s.firstFault ∧ t.fld F.SHR_STAT.DEBUG = 0 ∧ t.keep = s.keep ∧ t.flash = s.flash) ∧
    (may → v.val < cur → cur < 3 → ∃ t, go = .next t ∧ t.fld F.SYS_PWR.STATE = cur ∧ t.flag F.SYS_PWR.PENDING = true ∧
      t.boot.leaving = some cur ∧ t.boot.leavingAt = s.clk ∧ t.boot.leaveTo = v ∧ t.bootState = 8 ∧ t.pool = s.pool) ∧
    (may → v.val < cur → cur = 3 → ∃ t, go = .next t ∧ t.flag F.SYS_PWR.PENDING = true ∧ t.bootState = 4 ∧
      t.boot.enteredAt = s.clk)) ∧
  (∀ (s : State),
    (s.boot.leaving = none → exec .powerStateExitDone s = .next s) ∧
    (∀ from', s.boot.leaving = some from' → from' = 1 ∨ from' = 2 →
      s.clk < s.boot.leavingAt + (if from' = 1 then 20000 else 1000000) → exec .powerStateExitDone s = .next s) ∧
    (∀ from', s.boot.leaving = some from' → from' = 1 ∨ from' = 2 → s.boot.leaveTo = 0 →
      s.boot.leavingAt + (if from' = 1 then 20000 else 1000000) ≤ s.clk → ∃ t, exec .powerStateExitDone s = .next t ∧
        t.fld F.SYS_PWR.STATE = 0 ∧ t.flag F.SYS_PWR.PENDING = false ∧ t.boot.leaving = none ∧ t.pool = s.pool) ∧
    (s.boot.leaving = some 3 → s.bootState ≠ 7 ∨ s.boot.linksDone = false → exec .powerStateExitDone s = .next s) ∧
    (s.boot.leaving = some 3 → s.bootState = 7 → s.boot.linksDone = true → s.boot.leaveTo = 0 →
      ∃ t, exec .powerStateExitDone s = .next t ∧ t.fld F.SYS_PWR.STATE = 0 ∧ t.bootState = 8 ∧ t.boot.leaving = none) ∧
    (∀ d3 : Bool, (s.boot.d3hot = d3 → exec (.pciePowerStateChange d3) s = .next s) ∧
      (s.boot.d3hot ≠ d3 → exec (.pciePowerStateChange d3) s = .next (Answered s
        ({ s with boot := { s.boot with d3hot := d3, retryAt := s.clk } }.powerRequest (if d3 = true then 3 else 0))))) ∧
    (let due : Prop := s.boot.d3hot = true ∧ s.fld F.SYS_PWR.STATE ≠ 3 ∧ s.boot.retryAt + 1000000 ≤ s.clk
     (¬ due → exec .d3hotRetry s = .next s) ∧
     (due → exec .d3hotRetry s = .next (Answered s ({ s with boot := { s.boot with retryAt := s.clk } }.powerRequest 3)))))

/-- R261, R452: the boot flash and the host link. A GO while BUSY, with a LEN outside 4 to 256 or not a multiple of 4, or over a page
boundary in READ and PROGRAM is a register access fault; else the operation is under way. At its end a READ has its bytes in the buffer,
a PROGRAM the buffer's bytes in the flash and nothing else changed there, an ERASE its sector erased; BUSY reads 0 and RESULT tells an
error, and nothing that runs changes. Link training shows rate and width. -/
def Obligations.BootFlash : Prop :=
  (∀ (len : Fin 512) (s : State), s.flashServed = true → s.answers = true →
    let addr := s.regN R.SYS_FLASH_ADDR
    let bad : Prop := s.flag F.SYS_FLASH_CTRL.BUSY = true ∨ len.val < 4 ∨ 256 < len.val ∨ len.val % 4 ≠ 0
    let crosses : Prop := 256 < addr % 256 + len
    let goes (c : Instr) (op : Nat) : Prop := ∃ t, exec c s = .next t ∧ t.boot.flash = some ⟨op, addr, len⟩ ∧
      t.flag F.SYS_FLASH_CTRL.BUSY = true ∧ t.fld F.SYS_FLASH_CTRL.LEN = len ∧ t.flash = s.flash ∧ t.faultIn = s.faultIn
    let refused (c : Instr) : Prop := exec c s = .next (s.report 249 kRegAccess R.SYS_FLASH_CTRL)
    (bad ∨ crosses → refused (.flashRead len) ∧ refused (.flashProgram len)) ∧
    (bad → refused (.flashErase len)) ∧
    (¬ bad → ¬ crosses → goes (.flashRead len) 0 ∧ goes (.flashProgram len) 1) ∧
    (¬ bad → goes (.flashErase len) 2)) ∧
  (∀ (error : Bool) (s : State),
    (s.boot.flash = none → exec (.flashOpDone error) s = .next s) ∧
    (∀ op addr len, s.boot.flash = some ⟨op, addr, len⟩ → ∃ t, exec (.flashOpDone error) s = .next t ∧ t.boot.flash = none ∧
      t.flag F.SYS_FLASH_CTRL.BUSY = false ∧ t.fld F.SYS_FLASH_CTRL.RESULT = (if error = true then 1 else 0) ∧
      (∀ g a, t.localWord g a = s.localWord g a) ∧ t.shroud = s.shroud ∧ t.bootState = s.bootState ∧
      (op = 0 → error = false → len ≤ 256 → t.flashBuffer 256 = s.flashRead addr len ++ (s.flashBuffer 256).drop len ∧ t.flash = s.flash) ∧
      (op = 1 → error = false → len ≤ 256 → t.flashRead addr len = s.flashBuffer len ∧
        ∀ x, x < addr ∨ addr + len ≤ x → t.flashRead x 1 = s.flashRead x 1) ∧
      (op = 2 → error = false → (∀ x, x / 65536 = addr / 65536 → t.flashRead x 1 = [0xFF]) ∧
        ∀ x, x / 65536 ≠ addr / 65536 → t.flashRead x 1 = s.flashRead x 1))) ∧
  (∀ (rate : Fin 7) (width : Fin 9) (s : State),
    exec (.pcieLinkTrained rate width) s =
      .next (s.setReg R.HIF_LINK (2 ^ rate.val * width * 3 / 32 * 2 ^ 16 + width * 16 + rate)))

/-! ### The machine -/

/-- A step takes the command at the front of the queue and runs it with the queue's rest; on an empty queue one time-clock edge passes (the
model's choice, log 1), which in RESET changes nothing and else moves device time on by the increment (R349, R356). No command faults or
is refused, and none touches the queue or what the part is. -/
def Obligations.StepTakesFront : Prop :=
  (∀ (c : Instr) (rest : List Instr) (s : State), s.pending = c :: rest → step s = exec c { s with pending := rest }) ∧
  (∀ (s : State), s.pending = [] → s.bootState = 0 → step s = .next s) ∧
  (∀ (s : State), s.pending = [] → s.bootState ≠ 0 → ∃ t, step s = .next t ∧ t.clk = s.clk + 1 ∧
    t.now = ((s.now : Int) + s.incr).toNat % 2 ^ 96 ∧ t.pending = [] ∧ t.part = s.part) ∧
  (∀ (c : Instr) (s : State), ∃ t, exec c s = .next t ∧ t.pending = s.pending ∧ t.part = s.part)

/-- Every step keeps the canonical form of every addressed store: registers, tables, calibration values, pool, deep memory, host memory,
boot flash and keeping store list rising keys and no value that an unlisted place reads as. -/
def Obligations.StoresStayCanonical : Prop :=
  ∀ (s t : State), Stored s → step s = .next t → Stored t

/-- R99, R265, R305, R349, R396, R445, R455, R478: what a power-on reset leaves. The stores are canonical; every register reads its reset
value; the device is in RESET with device time 0, no command waits and no task is held; every ring is DISABLED and both banks are EMPTY;
every channel holds DEN deasserted and DRV low; PSEL is not driven and no open-drain ball is pulled low. -/
def Obligations.ResetState : Prop :=
  Stored State.reset ∧ (∀ off, State.reset.reg off = regReset off) ∧ State.reset.bootState = 0 ∧ State.reset.now = 0 ∧
  State.reset.pending = [] ∧ State.reset.slots = [] ∧ State.reset.faultIn = [] ∧ State.reset.deep = [] ∧
  (∀ k, k < 64 → State.reset.fld (F.HIF_RING_STAT.STATE k) = 0) ∧ State.reset.bankA = ⟨false, []⟩ ∧ State.reset.bankB = ⟨false, []⟩ ∧
  (∀ sg, sg < 64 → State.reset.eState sg = 0) ∧ (∀ ch, ch < 256 → State.reset.channelLevels ch = (some false, false)) ∧
  (∀ b, b < 16 → State.reset.pselPair b = none) ∧ State.reset.faultN = true ∧ State.reset.thermN = true

/-- R421: no read returns what a protected pool allocation holds. Two states that differ only in bytes of protected allocations answer every
read of a register and of a bulk port alike. -/
def Obligations.ProtectedPoolIsUnreadable : Prop :=
  ∀ (pool' : List Host.Cell) (off : Fin 67108864) (met : Word) (n : Fin 16) (len : Nat) (bad : Bool) (s : State),
    (∀ x, Sparse.get poolDefault pool' x ≠ Sparse.get poolDefault s.pool x →
      ∃ p ∈ s.poolAllocs, p.prot = true ∧ p.base ≤ x ∧ x < p.base + p.bytes) →
    let s' : State := { s with pool := pool' }
    let alike (c : Instr) : Prop := ∃ t t', exec c s = .next t ∧ exec c s' = .next t' ∧ t'.readData = t.readData
    alike (.rcFieldRead off met) ∧ alike (.loReadCapture off) ∧ alike (.misalignedRegisterAccess off true) ∧
      alike (.bulkPortRead n ⟨len, bad⟩)
end

