-- ==== Sys2Proof/Laws/Bits.lean ====
section
/-! SUPPORT. Bit fields: reading one that was put, and reading beside it. -/
namespace Sys2Proof

theorem bitsOf_lt (n lo w : Nat) : bitsOf n lo w < 2 ^ w := Nat.mod_lt _ (Nat.two_pow_pos w)

/-- A field that was put reads as its value, modulo its width. -/
theorem bitsOf_putBits_same (n lo w v : Nat) : bitsOf (putBits n lo w v) lo w = v % 2 ^ w := by
  unfold bitsOf putBits
  have h1 : n % 2 ^ lo < 2 ^ lo := Nat.mod_lt _ (Nat.two_pow_pos lo)
  rw [pow_add, show n % 2 ^ lo + v % 2 ^ w * 2 ^ lo + n / (2 ^ lo * 2 ^ w) * (2 ^ lo * 2 ^ w) =
    n % 2 ^ lo + 2 ^ lo * (v % 2 ^ w + 2 ^ w * (n / (2 ^ lo * 2 ^ w))) by ring]
  rw [Nat.add_mul_div_left _ _ (Nat.two_pow_pos lo), Nat.div_eq_of_lt h1, Nat.zero_add, Nat.add_mul_mod_self_left, Nat.mod_mod]

/-- A field below the one that was put reads as before. -/
theorem bitsOf_putBits_below (n lo w v lo' w' : Nat) (h : lo' + w' ≤ lo) :
    bitsOf (putBits n lo w v) lo' w' = bitsOf n lo' w' := by
  obtain ⟨d, rfl⟩ := Nat.exists_eq_add_of_le h
  unfold bitsOf putBits
  have e : n % 2 ^ (lo' + w' + d) + v % 2 ^ w * 2 ^ (lo' + w' + d) + n / 2 ^ (lo' + w' + d + w) * 2 ^ (lo' + w' + d + w) =
      n % 2 ^ (lo' + w' + d) + 2 ^ (lo' + w') * (v % 2 ^ w * 2 ^ d + n / 2 ^ (lo' + w' + d + w) * 2 ^ (d + w)) := by
    simp only [pow_add]; ring
  have m : ∀ x : Nat, x / 2 ^ lo' % 2 ^ w' = x % 2 ^ (lo' + w') / 2 ^ lo' := by
    intro x; rw [pow_add, Nat.mod_mul_right_div_self]
  rw [m, m n, e, Nat.add_mul_mod_self_left]
  congr 1
  rw [Nat.mod_mod_of_dvd _ (pow_dvd_pow 2 (by omega))]

/-- A field above the one that was put reads as before. -/
theorem bitsOf_putBits_above (n lo w v lo' w' : Nat) (h : lo + w ≤ lo') :
    bitsOf (putBits n lo w v) lo' w' = bitsOf n lo' w' := by
  obtain ⟨d, rfl⟩ := Nat.exists_eq_add_of_le h
  unfold bitsOf putBits
  congr 1
  have b : n % 2 ^ lo + v % 2 ^ w * 2 ^ lo < 2 ^ (lo + w) := by
    have h1 : n % 2 ^ lo < 2 ^ lo := Nat.mod_lt _ (Nat.two_pow_pos lo)
    have h2 : v % 2 ^ w < 2 ^ w := Nat.mod_lt _ (Nat.two_pow_pos w)
    calc n % 2 ^ lo + v % 2 ^ w * 2 ^ lo < 2 ^ lo + v % 2 ^ w * 2 ^ lo := by omega
      _ = (v % 2 ^ w + 1) * 2 ^ lo := by ring
      _ ≤ 2 ^ w * 2 ^ lo := Nat.mul_le_mul_right _ h2
      _ = 2 ^ (lo + w) := by rw [pow_add, Nat.mul_comm]
  rw [pow_add 2 (lo + w) d, ← Nat.div_div_eq_div_mul, ← Nat.div_div_eq_div_mul, Nat.add_mul_div_right _ _ (Nat.two_pow_pos _),
    Nat.div_eq_of_lt b, Nat.zero_add]

/-- Putting a field within 32 bits leaves a word. -/
theorem putBits_lt (n lo w v b : Nat) (hn : n < 2 ^ b) (h : lo + w ≤ b) : putBits n lo w v < 2 ^ b := by
  obtain ⟨d, rfl⟩ := Nat.exists_eq_add_of_le h
  unfold putBits
  have hb : n % 2 ^ lo + v % 2 ^ w * 2 ^ lo < 2 ^ (lo + w) := by
    have h1 : n % 2 ^ lo < 2 ^ lo := Nat.mod_lt _ (Nat.two_pow_pos lo)
    have h2 : v % 2 ^ w < 2 ^ w := Nat.mod_lt _ (Nat.two_pow_pos w)
    calc n % 2 ^ lo + v % 2 ^ w * 2 ^ lo < 2 ^ lo + v % 2 ^ w * 2 ^ lo := by omega
      _ = (v % 2 ^ w + 1) * 2 ^ lo := by ring
      _ ≤ 2 ^ w * 2 ^ lo := Nat.mul_le_mul_right _ h2
      _ = 2 ^ (lo + w) := by rw [pow_add, Nat.mul_comm]
  have hd : n / 2 ^ (lo + w) < 2 ^ d := by
    rw [Nat.div_lt_iff_lt_mul (Nat.two_pow_pos _)]; rwa [← pow_add, Nat.add_comm d]
  calc _ < 2 ^ (lo + w) + n / 2 ^ (lo + w) * 2 ^ (lo + w) := by omega
    _ = (n / 2 ^ (lo + w) + 1) * 2 ^ (lo + w) := by ring
    _ ≤ 2 ^ d * 2 ^ (lo + w) := Nat.mul_le_mul_right _ hd
    _ = 2 ^ (lo + w + d) := by rw [← pow_add, Nat.add_comm]

theorem bitOf_eq (n i : Nat) : bitOf n i = (bitsOf n i 1 == 1) := by simp [bitOf, bitsOf]

/-- Setting a bit sets it, and no other. -/
theorem bitOf_setBit (n i j : Nat) : bitOf (setBit n i) j = (decide (j = i) || bitOf n j) := by
  simp only [bitOf_eq, setBit]
  rcases Nat.lt_trichotomy j i with h | h | h
  · rw [bitsOf_putBits_below n i 1 1 j 1 (by omega)]; simp [show ¬j = i by omega]
  · subst h; rw [bitsOf_putBits_same]; simp
  · rw [bitsOf_putBits_above n i 1 1 j 1 (by omega)]; simp [show ¬j = i by omega]

/-- Clearing a bit clears it, and no other. -/
theorem bitOf_clearBit (n i j : Nat) : bitOf (clearBit n i) j = (!decide (j = i) && bitOf n j) := by
  simp only [bitOf_eq, clearBit]
  rcases Nat.lt_trichotomy j i with h | h | h
  · rw [bitsOf_putBits_below n i 1 0 j 1 (by omega)]; simp [show ¬j = i by omega]
  · subst h; rw [bitsOf_putBits_same]; simp
  · rw [bitsOf_putBits_above n i 1 0 j 1 (by omega)]; simp [show ¬j = i by omega]

theorem toBytes_length (n v : Nat) : (toBytes n v).length = n := by
  induction n generalizing v with
  | zero => rfl
  | succ n ih => simp [toBytes, ih]

theorem ofBytes_toBytes (n v : Nat) : ofBytes (toBytes n v) = v % 256 ^ n := by
  induction n generalizing v with
  | zero => simp [toBytes, ofBytes, Nat.mod_one]
  | succ n ih =>
    simp only [toBytes, ofBytes, ih, BitVec.toNat_ofNat]
    have h : v % 256 ^ (n + 1) = v % 256 + 256 * (v / 256 % 256 ^ n) := by rw [Nat.pow_succ, Nat.mul_comm, Nat.mod_mul]
    rw [h]
end Sys2Proof
end

