-- ==== Sys2Proof/Laws/Sparse.lean ====
section
/-! SUPPORT. What the operations of a sparse map do: reading after writing, and the canonical form they keep. -/
namespace Sys2Proof.Sparse

variable {V : Type}

theorem find_lt (m : List (Nat × V)) {b k : Nat} (h : risingFrom b m = true) (hk : k < b) : find? m k = none := by
  cases m with
  | nil => rfl
  | cons p t =>
    obtain ⟨j, w⟩ := p
    simp [risingFrom] at h
    simp [find?, show ¬k = j by omega, show k < j by omega]

theorem rising_mono (m : List (Nat × V)) {b c : Nat} (h : risingFrom b m = true) (hc : c ≤ b) : risingFrom c m = true := by
  cases m with
  | nil => rfl
  | cons p t => simp [risingFrom] at h ⊢; exact ⟨by omega, h.2⟩

theorem find_dropTo_above (m : List (Nat × V)) {k j : Nat} (h : k < j) : find? (dropTo k m) j = find? m j := by
  induction m with
  | nil => rfl
  | cons p t ih =>
    obtain ⟨i, w⟩ := p
    by_cases hi : i ≤ k
    · simp [dropTo, find?, hi, ih, show ¬j = i by omega, show ¬j < i by omega]
    · simp [dropTo, hi]

theorem find_dropTo_upto (m : List (Nat × V)) {k j : Nat} (h : j ≤ k) : find? (dropTo k m) j = none := by
  induction m with
  | nil => rfl
  | cons p t ih =>
    obtain ⟨i, w⟩ := p
    by_cases hi : i ≤ k
    · simp [dropTo, hi, ih]
    · simp [dropTo, find?, hi, show ¬j = i by omega, show j < i by omega]

theorem dropTo_rising (m : List (Nat × V)) {b k : Nat} (h : risingFrom b m = true) (hk : k < b) : dropTo k m = m := by
  cases m with
  | nil => rfl
  | cons p t =>
    obtain ⟨i, w⟩ := p
    simp [risingFrom] at h
    simp [dropTo, show ¬i ≤ k by omega]

theorem dropTo_dropTo (m : List (Nat × V)) (k : Nat) : dropTo k (dropTo k m) = dropTo k m := by
  induction m with
  | nil => rfl
  | cons p t ih =>
    obtain ⟨i, w⟩ := p
    by_cases hi : i ≤ k <;> simp [dropTo, hi, ih]

/-- A key inserted is found with its value, and every other key as before. -/
theorem find_insert (m : List (Nat × V)) (k j : Nat) (v : V) :
    find? (insert m k v) j = if j = k then some v else find? m j := by
  induction m with
  | nil => by_cases hj : j = k <;> simp [insert, find?, hj]
  | cons p t ih =>
    obtain ⟨i, w⟩ := p
    by_cases hki : k = i
    · subst hki
      by_cases hj : j = k
      · simp [insert, find?, hj]
      · by_cases hjk : j < k
        · simp [insert, find?, hj, hjk]
        · simp [insert, find?, hj, hjk, find_dropTo_above t (show k < j by omega)]
    · by_cases hlt : k < i
      · by_cases hj : j = k
        · simp [insert, find?, hki, hlt, hj]
        · by_cases hjk : j < k
          · simp [insert, find?, hki, hlt, hj, hjk, show ¬j = i by omega, show j < i by omega]
          · simp [insert, find?, hki, hlt, hj, hjk]
      · by_cases hj : j = i
        · subst hj; simp [insert, find?, hki, hlt, show ¬j = k by omega]
        · by_cases hji : j < i
          · simp [insert, find?, hki, hlt, hj, hji, show ¬j = k by omega]
          · simp [insert, find?, hki, hlt, hj, hji, ih]

/-- A key erased is not listed, and every other key is as before. -/
theorem find_erase (m : List (Nat × V)) (k j : Nat) : find? (erase m k) j = if j = k then none else find? m j := by
  induction m with
  | nil => simp [erase, find?]
  | cons p t ih =>
    obtain ⟨i, w⟩ := p
    by_cases hki : k = i
    · subst hki
      by_cases hj : j = k
      · subst hj; simp [erase, find_dropTo_upto]
      · by_cases hjk : j < k
        · simp [erase, find?, hj, hjk, find_dropTo_upto t (show j ≤ k by omega)]
        · simp [erase, find?, hj, hjk, find_dropTo_above t (show k < j by omega)]
    · by_cases hlt : k < i
      · by_cases hj : j = k
        · subst hj; simp [erase, find?, hki, hlt]
        · simp [erase, hki, hlt, hj]
      · by_cases hj : j = i
        · subst hj; simp [erase, find?, hki, hlt, show ¬j = k by omega]
        · by_cases hji : j < i
          · simp [erase, find?, hki, hlt, hj, hji, show ¬j = k by omega]
          · simp [erase, find?, hki, hlt, hj, hji, ih]

theorem insert_insert (m : List (Nat × V)) (k : Nat) (v w : V) : insert (insert m k v) k w = insert m k w := by
  induction m with
  | nil => simp [insert, dropTo]
  | cons p t ih =>
    obtain ⟨i, x⟩ := p
    by_cases hki : k = i
    · subst hki; simp [insert, dropTo_dropTo]
    · by_cases hlt : k < i
      · simp [insert, hki, hlt, dropTo, show ¬i ≤ k by omega]
      · simp [insert, hki, hlt, ih]

theorem insert_dropTo (t : List (Nat × V)) (k : Nat) (w : V) : insert (dropTo k t) k w = (k, w) :: dropTo k t := by
  induction t with
  | nil => rfl
  | cons p t ih =>
    obtain ⟨i, x⟩ := p
    by_cases hi : i ≤ k
    · simp [dropTo, hi, ih]
    · simp [dropTo, hi, insert, show ¬k = i by omega, show k < i by omega]

theorem erase_dropTo (t : List (Nat × V)) (k : Nat) : erase (dropTo k t) k = dropTo k t := by
  induction t with
  | nil => rfl
  | cons p t ih =>
    obtain ⟨i, x⟩ := p
    by_cases hi : i ≤ k
    · simp [dropTo, hi, ih]
    · simp [dropTo, hi, erase, show ¬k = i by omega, show k < i by omega]

theorem insert_erase (m : List (Nat × V)) (k : Nat) (w : V) : insert (erase m k) k w = insert m k w := by
  induction m with
  | nil => rfl
  | cons p t ih =>
    obtain ⟨i, x⟩ := p
    by_cases hki : k = i
    · subst hki; simp [insert, erase, insert_dropTo]
    · by_cases hlt : k < i
      · simp [insert, erase, hki, hlt]
      · simp [insert, erase, hki, hlt, ih]

theorem erase_insert (m : List (Nat × V)) (k : Nat) (v : V) : erase (insert m k v) k = erase m k := by
  induction m with
  | nil => simp [insert, erase, dropTo]
  | cons p t ih =>
    obtain ⟨i, x⟩ := p
    by_cases hki : k = i
    · subst hki; simp [insert, erase, dropTo_dropTo]
    · by_cases hlt : k < i
      · simp [insert, erase, hki, hlt, dropTo, show ¬i ≤ k by omega]
      · simp [insert, erase, hki, hlt, ih]

theorem erase_erase (m : List (Nat × V)) (k : Nat) : erase (erase m k) k = erase m k := by
  induction m with
  | nil => rfl
  | cons p t ih =>
    obtain ⟨i, x⟩ := p
    by_cases hki : k = i
    · subst hki; simp [erase, erase_dropTo]
    · by_cases hlt : k < i
      · simp [erase, hki, hlt]
      · simp [erase, hki, hlt, ih]

/-- Writing a key twice is writing it once, with the later value. -/
theorem set_set [DecidableEq V] (d : Nat → V) (m : List (Nat × V)) (k : Nat) (v w : V) :
    set d (set d m k v) k w = set d m k w := by
  unfold set
  split <;> split <;> first | rfl | simp only [insert_insert, insert_erase, erase_insert, erase_erase]

theorem rising_insert (m : List (Nat × V)) (b k : Nat) (v : V) (h : risingFrom b m = true) (hk : b ≤ k) :
    risingFrom b (insert m k v) = true := by
  induction m generalizing b with
  | nil => simp [insert, risingFrom, hk]
  | cons p t ih =>
    obtain ⟨i, w⟩ := p
    simp only [risingFrom, Bool.and_eq_true, decide_eq_true_eq] at h
    by_cases hki : k = i
    · subst hki; simp [insert, risingFrom, hk, h.2, dropTo_rising t h.2 (Nat.lt_succ_self k)]
    · by_cases hlt : k < i
      · simp only [insert, if_neg hki, if_pos hlt, risingFrom, Bool.and_eq_true, decide_eq_true_eq]
        exact ⟨hk, by omega, h.2⟩
      · simp only [insert, if_neg hki, if_neg hlt, risingFrom, Bool.and_eq_true, decide_eq_true_eq]
        exact ⟨h.1, ih (i + 1) h.2 (by omega)⟩

theorem rising_erase (m : List (Nat × V)) (b k : Nat) (h : risingFrom b m = true) : risingFrom b (erase m k) = true := by
  induction m generalizing b with
  | nil => rfl
  | cons p t ih =>
    obtain ⟨i, w⟩ := p
    simp only [risingFrom, Bool.and_eq_true, decide_eq_true_eq] at h
    by_cases hki : k = i
    · subst hki
      simp only [erase, if_true, dropTo_rising t h.2 (Nat.lt_succ_self k)]
      exact rising_mono t h.2 (by omega)
    · by_cases hlt : k < i
      · simp [erase, hki, hlt, risingFrom, h.1, h.2]
      · simp [erase, hki, hlt, risingFrom, h.1, ih (i + 1) h.2]

theorem mem_dropTo (m : List (Nat × V)) (k : Nat) (p : Nat × V) (h : p ∈ dropTo k m) : p ∈ m := by
  induction m with
  | nil => simp [dropTo] at h
  | cons q t ih =>
    obtain ⟨i, w⟩ := q
    by_cases hi : i ≤ k
    · simp [dropTo, hi] at h; simp [ih h]
    · simpa [dropTo, hi] using h

theorem mem_insert (m : List (Nat × V)) (k : Nat) (v : V) (p : Nat × V) (h : p ∈ insert m k v) : p = (k, v) ∨ p ∈ m := by
  induction m with
  | nil => simp [insert] at h; exact .inl h
  | cons q t ih =>
    obtain ⟨i, w⟩ := q
    simp only [insert] at h
    split at h
    · simp at h; rcases h with h | h
      · simp [h]
      · exact .inr (List.mem_cons_of_mem _ (mem_dropTo t k p h))
    · split at h
      · simp at h; rcases h with h | h | h <;> simp [h]
      · simp at h; rcases h with h | h
        · simp [h]
        · rcases ih h with h | h <;> simp [h]

theorem mem_erase (m : List (Nat × V)) (k : Nat) (p : Nat × V) (h : p ∈ erase m k) : p ∈ m := by
  induction m with
  | nil => simp [erase] at h
  | cons q t ih =>
    obtain ⟨i, w⟩ := q
    simp only [erase] at h
    split at h
    · exact List.mem_cons_of_mem _ (mem_dropTo t k p h)
    · split at h
      · exact h
      · simp at h; rcases h with h | h
        · simp [h]
        · simp [ih h]

variable [DecidableEq V]

/-- Reading after writing: the value written at its key, at every other key what was there. -/
theorem get_set (d : Nat → V) (m : List (Nat × V)) (k j : Nat) (v : V) :
    get d (set d m k v) j = if j = k then v else get d m j := by
  unfold set get
  split
  · rename_i hv
    rw [find_erase m k j]
    split
    · rename_i hj; subst hj; simp [hv]
    · rfl
  · rw [find_insert m k j v]
    split <;> rfl

/-- A write keeps the canonical form. -/
theorem wf_set (d : Nat → V) (m : List (Nat × V)) (k : Nat) (v : V) (h : wf d m = true) : wf d (set d m k v) = true := by
  simp only [wf, Bool.and_eq_true, List.all_eq_true] at h ⊢
  unfold set
  split
  · exact ⟨rising_erase m 0 k h.1, fun p hp => h.2 p (mem_erase m k p hp)⟩
  · rename_i hv
    refine ⟨rising_insert m 0 k v h.1 (Nat.zero_le k), fun p hp => ?_⟩
    rcases mem_insert m k v p hp with rfl | hp
    · simp [hv]
    · exact h.2 p hp

theorem wf_setMany (d : Nat → V) (m : List (Nat × V)) (k : Nat) (vs : List V) (h : wf d m = true) :
    wf d (setMany d m k vs) = true := by
  induction vs generalizing m k with
  | nil => exact h
  | cons v t ih => exact ih _ _ (wf_set d m k v h)

omit [DecidableEq V] in
theorem rising_filter (f : Nat × V → Bool) (m : List (Nat × V)) (b : Nat) (h : risingFrom b m = true) :
    risingFrom b (m.filter f) = true := by
  induction m generalizing b with
  | nil => rfl
  | cons p t ih =>
    obtain ⟨i, w⟩ := p
    simp only [risingFrom, Bool.and_eq_true, decide_eq_true_eq] at h
    by_cases hf : f (i, w) = true
    · simp only [List.filter, hf, risingFrom, Bool.and_eq_true, decide_eq_true_eq]; exact ⟨h.1, ih _ h.2⟩
    · simp only [List.filter, hf]; exact rising_mono _ (ih _ h.2) (by omega)

theorem wf_filter (d : Nat → V) (f : Nat × V → Bool) (m : List (Nat × V)) (h : wf d m = true) : wf d (m.filter f) = true := by
  simp only [wf, Bool.and_eq_true, List.all_eq_true] at h ⊢
  exact ⟨rising_filter f m 0 h.1, fun p hp => h.2 p (List.mem_filter.1 hp).1⟩

omit [DecidableEq V] in
theorem mem_rise (m : List (Nat × V)) (b : Nat) (p : Nat × V) (h : p ∈ rise b m) : p ∈ m := by
  induction m generalizing b with
  | nil => simp [rise] at h
  | cons q t ih =>
    obtain ⟨i, w⟩ := q
    by_cases hi : b ≤ i
    · simp only [rise, hi, if_true, List.mem_cons] at h
      rcases h with h | h
      · simp [h]
      · exact List.mem_cons_of_mem _ (ih _ h)
    · simp only [rise, hi, if_false] at h; exact List.mem_cons_of_mem _ (ih _ h)

omit [DecidableEq V] in
theorem rising_rise (m : List (Nat × V)) (b : Nat) : risingFrom b (rise b m) = true := by
  induction m generalizing b with
  | nil => rfl
  | cons q t ih =>
    obtain ⟨i, w⟩ := q
    by_cases hi : b ≤ i
    · simp [rise, hi, risingFrom, ih]
    · simp [rise, hi, ih]

omit [DecidableEq V] in
/-- What a key reads as is decided by the entries that rise. -/
theorem find_rise (m : List (Nat × V)) (b k : Nat) (h : b ≤ k) : find? (rise b m) k = find? m k := by
  induction m generalizing b with
  | nil => rfl
  | cons q t ih =>
    obtain ⟨i, w⟩ := q
    by_cases hi : b ≤ i
    · by_cases hk : k = i
      · simp [rise, hi, find?, hk]
      · by_cases hlt : k < i
        · simp [rise, hi, find?, hk, hlt]
        · simp [rise, hi, find?, hk, hlt, ih (i + 1) (by omega)]
    · simp [rise, hi, find?, ih b h, show ¬k = i by omega, show ¬k < i by omega]

omit [DecidableEq V] in
theorem find_filter (f : Nat × V → Bool) (m : List (Nat × V)) (b k : Nat) (h : risingFrom b m = true) (lo : ∀ v, f (k, v) = true) :
    find? (m.filter f) k = find? m k := by
  induction m generalizing b with
  | nil => rfl
  | cons q t ih =>
    obtain ⟨i, w⟩ := q
    simp only [risingFrom, Bool.and_eq_true, decide_eq_true_eq] at h
    have ih := ih (i + 1) h.2
    by_cases hk : k = i
    · subst hk; simp [List.filter, lo, find?]
    · by_cases hf : f (i, w) = true
      · simp [List.filter, hf, find?, hk, ih]
      · by_cases hlt : k < i
        · simp only [List.filter, hf, find?, hk, hlt, if_true, if_false]
          exact find_lt _ (rising_filter f t (i + 1) h.2) (by omega)
        · simp [List.filter, hf, find?, hk, hlt, ih]

omit [DecidableEq V] in
theorem find_filter_out (f : Nat × V → Bool) (m : List (Nat × V)) (k : Nat) (out : ∀ v, f (k, v) = false) :
    find? (m.filter f) k = none := by
  induction m with
  | nil => rfl
  | cons q t ih =>
    obtain ⟨i, w⟩ := q
    by_cases hf : f (i, w) = true
    · have hk : ¬k = i := fun e => by subst e; simp [out] at hf
      by_cases hlt : k < i <;> simp [List.filter, hf, find?, hk, hlt, ih]
    · simp [List.filter, hf, ih]

omit [DecidableEq V] in
/-- A range unlisted reads as the default, and every key outside it as before. -/
theorem get_eraseRange (d : Nat → V) (m : List (Nat × V)) (lo hi k : Nat) :
    get d (eraseRange m lo hi) k = if lo ≤ k ∧ k < hi then d k else get d m k := by
  unfold get eraseRange
  by_cases hk : lo ≤ k ∧ k < hi
  · rw [find_filter_out _ _ k (fun v => by simp [hk.1, hk.2])]; simp [hk]
  · rw [find_filter _ _ 0 k (rising_rise m 0) (fun v => by simp; omega), find_rise m 0 k (Nat.zero_le k)]; simp [hk]

theorem wf_eraseRange (d : Nat → V) (m : List (Nat × V)) (lo hi : Nat) (h : wf d m = true) : wf d (eraseRange m lo hi) = true := by
  simp only [wf, Bool.and_eq_true, List.all_eq_true] at h ⊢
  exact ⟨rising_filter _ _ 0 (rising_rise m 0), fun p hp => h.2 p (mem_rise m 0 p (List.mem_filter.1 hp).1)⟩

theorem wf_erase (d : Nat → V) (m : List (Nat × V)) (k : Nat) (h : wf d m = true) : wf d (erase m k) = true := by
  simp only [wf, Bool.and_eq_true, List.all_eq_true] at h ⊢
  exact ⟨rising_erase m 0 k h.1, fun p hp => h.2 p (mem_erase m k p hp)⟩

theorem wf_nil (d : Nat → V) : wf d ([] : List (Nat × V)) = true := rfl

theorem get_set_same (d : Nat → V) (m : List (Nat × V)) (k : Nat) (v : V) : get d (set d m k v) k = v := by simp [get_set]

theorem get_set_other (d : Nat → V) (m : List (Nat × V)) (k j : Nat) (v : V) (hj : j ≠ k) : get d (set d m k v) j = get d m j := by
  simp [get_set, hj]

/-- What a place reads as after consecutive values are written: the value at its place in the range, else what it read as before. -/
theorem get_setMany (d : Nat → V) (m : List (Nat × V)) (a j : Nat) (l : List V) :
    get d (setMany d m a l) j = if a ≤ j then l.getD (j - a) (get d m j) else get d m j := by
  induction l generalizing m a with
  | nil => simp [setMany]
  | cons v t ih =>
    simp only [setMany, ih, get_set]
    by_cases h1 : a + 1 ≤ j
    · have h2 : a ≤ j := by omega
      have h3 : j ≠ a := by omega
      have h4 : j - a = (j - (a + 1)) + 1 := by omega
      simp [h1, h2, h3, h4]
    · by_cases h2 : j = a
      · subst h2
        have h4 : ¬ j + 1 ≤ j := by omega
        simp [h4]
      · have h3 : ¬ a ≤ j := by omega
        simp [h1, h2, h3]

/-- Reading places beside those written. -/
theorem getMany_setMany_other (d : Nat → V) (m : List (Nat × V)) (a b n : Nat) (l : List V) (h : b + n ≤ a ∨ a + l.length ≤ b) :
    getMany d (setMany d m a l) b n = getMany d m b n := by
  induction n generalizing b with
  | zero => rfl
  | succ n ih =>
    simp only [getMany, get_setMany]
    rw [ih (b + 1) (by omega)]
    congr 1
    split
    · rw [List.getD_eq_getElem?_getD, List.getElem?_eq_none (by omega)]
      rfl
    · rfl

omit [DecidableEq V] in
/-- Reading depends on the places read alone. -/
theorem getMany_congr (d : Nat → V) (m m' : List (Nat × V)) (a n : Nat) (h : ∀ j, a ≤ j → j < a + n → get d m j = get d m' j) :
    getMany d m a n = getMany d m' a n := by
  induction n generalizing a with
  | zero => rfl
  | succ n ih =>
    simp only [getMany]
    rw [h a (by omega) (by omega), ih (a + 1) (fun j h1 h2 => h j (by omega) (by omega))]

/-- Reading the places written. -/
theorem getMany_setMany_same (d : Nat → V) (m : List (Nat × V)) (a : Nat) (l : List V) :
    getMany d (setMany d m a l) a l.length = l := by
  induction l generalizing m a with
  | nil => rfl
  | cons v t ih =>
    simp only [setMany, List.length_cons, getMany]
    have h : ¬ a + 1 ≤ a := by omega
    rw [ih, get_setMany]
    simp [get_set_same, h]
end Sys2Proof.Sparse
end

