-- ==== Sys2Proof/Laws/Registers.lean ====
section
/-! SUPPORT. Registers and their fields: what one write changes, and what a read of any other place gives. -/
namespace Sys2Proof.Machine

/-- The registers are listed in canonical form. -/
abbrev RegsWf (s : State) : Prop := Sparse.wf regReset s.regs = true

theorem setReg_wf (s : State) (off v : Nat) (h : RegsWf s) : RegsWf (s.setReg off v) := Sparse.wf_set _ _ _ _ h

theorem setFld_wf (s : State) (f : Field) (v : Nat) (h : RegsWf s) : RegsWf (s.setFld f v) := setReg_wf s _ _ h

theorem regN_lt (s : State) (off : Nat) : s.regN off < 2 ^ 32 := (s.reg off).isLt

/-- A register written holds the value modulo 2^32; every other holds what it held. -/
theorem regN_setReg (s : State) (off v off' : Nat) :
    (s.setReg off v).regN off' = if off' = off then v % 2 ^ 32 else s.regN off' := by
  unfold State.regN State.reg State.setReg
  rw [Sparse.get_set regReset s.regs off off' _]
  split <;> simp

theorem regN_setReg_same (s : State) (off v : Nat) : (s.setReg off v).regN off = v % 2 ^ 32 := by
  simp [regN_setReg s off v off]

theorem regN_setReg_other (s : State) (off v off' : Nat) (ho : off' ≠ off) :
    (s.setReg off v).regN off' = s.regN off' := by simp [regN_setReg s off v off', ho]

theorem regN_setFld_other (s : State) (f : Field) (v off' : Nat) (ho : off' ≠ f.off) :
    (s.setFld f v).regN off' = s.regN off' := regN_setReg_other s _ _ _ ho

theorem regN_setFld_same (s : State) (f : Field) (v : Nat) (hw : f.lo + f.width ≤ 32) :
    (s.setFld f v).regN f.off = putBits (s.regN f.off) f.lo f.width v := by
  unfold State.setFld
  rw [regN_setReg_same s _ _, Nat.mod_eq_of_lt (putBits_lt _ _ _ _ 32 (regN_lt s _) hw)]

/-- A field written holds the value modulo its width. -/
theorem fld_setFld_same (s : State) (f : Field) (v : Nat) (hw : f.lo + f.width ≤ 32) :
    (s.setFld f v).fld f = v % 2 ^ f.width := by
  unfold State.fld
  rw [regN_setFld_same s f v hw, bitsOf_putBits_same]

/-- A field of another register is not changed. -/
theorem fld_setFld_other (s : State) (f g : Field) (v : Nat) (ho : g.off ≠ f.off) :
    (s.setFld f v).fld g = s.fld g := by
  unfold State.fld; rw [regN_setFld_other s f v _ ho]

/-- A field of the same register that does not overlap is not changed. -/
theorem fld_setFld_apart (s : State) (f g : Field) (v : Nat) (hw : f.lo + f.width ≤ 32) (ho : g.off = f.off)
    (hd : g.lo + g.width ≤ f.lo ∨ f.lo + f.width ≤ g.lo) : (s.setFld f v).fld g = s.fld g := by
  unfold State.fld
  rw [ho, regN_setFld_same s f v hw]
  rcases hd with hd | hd
  · exact bitsOf_putBits_below _ _ _ _ _ _ hd
  · exact bitsOf_putBits_above _ _ _ _ _ _ hd

theorem fld_setReg_other (s : State) (off v : Nat) (g : Field) (ho : g.off ≠ off) :
    (s.setReg off v).fld g = s.fld g := by
  unfold State.fld; rw [regN_setReg_other s off v _ ho]

theorem fld_setReg_same (s : State) (f : Field) (v : Nat) :
    (s.setReg f.off v).fld f = bitsOf (v % 2 ^ 32) f.lo f.width := by
  unfold State.fld; rw [regN_setReg_same s _ v]

theorem fld_lt (s : State) (f : Field) : s.fld f < 2 ^ f.width := bitsOf_lt _ _ _

end Sys2Proof.Machine
end

