-- ==== Sys2Proof/Laws/Stored.lean ====
section
/-! SUPPORT. The canonical form of the stores: its parts, and how it passes through the shapes a meaning is built from. -/
namespace Sys2Proof.Machine

/-- Every memory operation is made of writes of consecutive bytes, of erasures of a range and of a choice of entries; each keeps the
canonical form. -/
theorem Memory.wf_kept (d : Nat → Byte) (m : List Host.Cell) (h : Memory.wf d m = true) :
    (∀ a l, Memory.wf d (Sparse.setMany d m a l) = true) ∧ (∀ lo hi, Memory.wf d (Sparse.eraseRange m lo hi) = true) ∧
    (∀ f, Memory.wf d (m.filter f) = true) :=
  ⟨fun a l => Sparse.wf_setMany d m a l h, fun lo hi => Sparse.wf_eraseRange d m lo hi h, fun f => Sparse.wf_filter d f m h⟩

theorem stored_mk {s : State} (h : Stored s) : StoresWf s.regs s.tables s.trims s.pool s.deep s.host s.flash s.keep := h

theorem stored_parts {s : State} (h1 : Sparse.wf regReset s.regs = true) (h2 : Sparse.wf (fun _ => 0) s.tables = true)
    (h3 : Sparse.wf trimDefault s.trims = true) (h4 : Sparse.wf poolDefault s.pool = true)
    (h5 : Sparse.wf deepDefault s.deep = true) (h6 : Sparse.wf hostDefault s.host = true)
    (h7 : Sparse.wf erasedDefault s.flash = true) (h8 : Sparse.wf erasedDefault s.keep = true) : Stored s :=
  ⟨h1, h2, h3, h4, h5, h6, h7, h8⟩

theorem stored_regs {s : State} (h : Stored s) : Sparse.wf regReset s.regs = true := h.1
theorem stored_tables {s : State} (h : Stored s) : Sparse.wf (fun _ => 0) s.tables = true := h.2.1
theorem stored_trims {s : State} (h : Stored s) : Sparse.wf trimDefault s.trims = true := h.2.2.1
theorem stored_pool {s : State} (h : Stored s) : Sparse.wf poolDefault s.pool = true := h.2.2.2.1
theorem stored_deep {s : State} (h : Stored s) : Sparse.wf deepDefault s.deep = true := h.2.2.2.2.1
theorem stored_host {s : State} (h : Stored s) : Sparse.wf hostDefault s.host = true := h.2.2.2.2.2.1
theorem stored_flash {s : State} (h : Stored s) : Sparse.wf erasedDefault s.flash = true := h.2.2.2.2.2.2.1
theorem stored_keep {s : State} (h : Stored s) : Sparse.wf erasedDefault s.keep = true := h.2.2.2.2.2.2.2

theorem with_fact {p q : Prop} (h : p → q) (hp : p) : q := h hp

/-- A result with a state behind it: its state's stores are in canonical form. -/
def Stored2 {α : Type} (p : α × State) : Prop := Stored p.2
def Stored3 {α β : Type} (p : α × β × State) : Prop := Stored p.2.2

theorem stored2_mk {α : Type} {a : α} {s : State} (h : Stored s) : Stored2 (a, s) := h
theorem stored3_mk {α β : Type} {a : α} {b : β} {s : State} (h : Stored s) : Stored3 (a, b, s) := h
theorem stored2_out {α : Type} {p : α × State} (h : Stored2 p) : Stored p.2 := h
theorem stored3_out {α β : Type} {p : α × β × State} (h : Stored3 p) : Stored p.2.2 := h

theorem of_eq2 {α : Type} {p : α × State} {a : α} {s : State} (e : p = (a, s)) (h : Stored2 p) : Stored s := by
  subst e; exact h

theorem of_eq3 {α β : Type} {p : α × β × State} {a : α} {b : β} {s : State} (e : p = (a, b, s)) (h : Stored3 p) : Stored s := by
  subst e; exact h

theorem ite_stored {c : Prop} [Decidable c] {a b : State} (ha : Stored a) (hb : Stored b) : Stored (if c then a else b) := by
  split <;> assumption

theorem ite_stored2 {α : Type} {c : Prop} [Decidable c] {a b : α × State} (ha : Stored2 a) (hb : Stored2 b) :
    Stored2 (if c then a else b) := by
  split <;> assumption

theorem foldl_stored {α : Type} {f : State → α → State} {l : List α} {s : State} (hf : ∀ s x, Stored s → Stored (f s x))
    (h : Stored s) : Stored (l.foldl f s) := by
  induction l generalizing s with
  | nil => exact h
  | cons a t ih => exact ih (hf s a h)

theorem foldl2_stored {α β : Type} {f : β × State → α → β × State} {l : List α} {s : β × State}
    (hf : ∀ s x, Stored2 s → Stored2 (f s x)) (h : Stored2 s) : Stored2 (l.foldl f s) := by
  induction l generalizing s with
  | nil => exact h
  | cons a t ih => exact ih (hf s a h)

theorem foldl3_stored {α β γ : Type} {f : β × γ × State → α → β × γ × State} {l : List α} {s : β × γ × State}
    (hf : ∀ s x, Stored3 s → Stored3 (f s x)) (h : Stored3 s) : Stored3 (l.foldl f s) := by
  induction l generalizing s with
  | nil => exact h
  | cons a t ih => exact ih (hf s a h)

theorem foldl2_stored' {α β : Type} {f : β × State → α → β × State} {l : List α} {s : β × State}
    (hf : ∀ s x, Stored2 s → Stored2 (f s x)) (h : Stored2 s) : Stored (l.foldl f s).2 := foldl2_stored hf h

theorem foldl3_stored' {α β γ : Type} {f : β × γ × State → α → β × γ × State} {l : List α} {s : β × γ × State}
    (hf : ∀ s x, Stored3 s → Stored3 (f s x)) (h : Stored3 s) : Stored (l.foldl f s).2.2 := foldl3_stored hf h

theorem iter_stored {n : Nat} {f : State → State} {s : State} (hf : ∀ s, Stored s → Stored (f s)) (h : Stored s) :
    Stored (iter n f s) := by
  induction n generalizing s with
  | zero => exact h
  | succ n ih => exact ih (hf s h)

theorem foldl_wf {V α : Type} [DecidableEq V] {d : Nat → V} {f : List (Nat × V) → α → List (Nat × V)} {l : List α}
    {m : List (Nat × V)} (hf : ∀ m x, Sparse.wf d m = true → Sparse.wf d (f m x) = true) (h : Sparse.wf d m = true) :
    Sparse.wf d (l.foldl f m) = true := by
  induction l generalizing m with
  | nil => exact h
  | cons a t ih => exact ih (hf m a h)

theorem setReg_stored (s : State) (off v : Nat) (h : Stored s) : Stored (s.setReg off v) := ⟨Sparse.wf_set _ _ _ _ h.1, h.2⟩

theorem resetRegs_stored (s : State) (lo hi : Nat) (h : Stored s) : Stored (s.resetRegs lo hi) :=
  ⟨Sparse.wf_eraseRange _ _ _ _ h.1, h.2⟩

theorem putInEffect_stored (s : State) (key : Nat) (v : Word) (h : Stored s) : Stored (s.putInEffect key v) := by
  unfold State.putInEffect
  dsimp only
  split
  · exact setReg_stored _ _ _ h
  · split
    · exact setReg_stored _ _ _ h
    · split
      · exact ⟨h.1, h.2.1, Sparse.wf_set _ _ _ _ h.2.2.1, h.2.2.2⟩
      · exact ⟨h.1, Sparse.wf_set _ _ _ _ h.2.1, h.2.2⟩

theorem serveWrite_stored (s : State) (n : Nat) (w : QueuedWrite) (h : Stored s) : Stored (s.serveWrite n w) :=
  ⟨h.1, h.2.1, h.2.2.1, h.2.2.2.1, foldl_wf (fun _ _ hm => Sparse.wf_set _ _ _ _ hm) h.2.2.2.2.1, h.2.2.2.2.2.1, h.2.2.2.2.2.2.1, h.2.2.2.2.2.2.2⟩

theorem deepForget_stored (s : State) (n lo hi : Nat) (h : Stored s) : Stored (s.deepForget n lo hi) :=
  ⟨h.1, h.2.1, h.2.2.1, h.2.2.2.1, Sparse.wf_eraseRange _ _ _ _ h.2.2.2.2.1, h.2.2.2.2.2.1, h.2.2.2.2.2.2.1, h.2.2.2.2.2.2.2⟩

theorem deepZero_stored (s : State) (h : Stored s) : Stored s.deepZero :=
  ⟨h.1, h.2.1, h.2.2.1, h.2.2.2.1, Sparse.wf_nil _, h.2.2.2.2.2.1, h.2.2.2.2.2.2.1, h.2.2.2.2.2.2.2⟩

theorem poolWrite_stored (s : State) (a : Nat) (bs : List Byte) (h : Stored s) : Stored (s.poolWrite a bs) :=
  ⟨h.1, h.2.1, h.2.2.1, Sparse.wf_setMany _ _ _ _ h.2.2.2.1, h.2.2.2.2.1, h.2.2.2.2.2.1, h.2.2.2.2.2.2.1, h.2.2.2.2.2.2.2⟩

theorem poolErase_stored (s : State) (a n : Nat) (h : Stored s) : Stored (s.poolErase a n) :=
  ⟨h.1, h.2.1, h.2.2.1, Sparse.wf_eraseRange _ _ _ _ h.2.2.2.1, h.2.2.2.2.1, h.2.2.2.2.2.1, h.2.2.2.2.2.2.1, h.2.2.2.2.2.2.2⟩

theorem poolZero_stored (s : State) (h : Stored s) : Stored s.poolZero :=
  ⟨h.1, h.2.1, h.2.2.1, Sparse.wf_nil _, h.2.2.2.2.1, h.2.2.2.2.2.1, h.2.2.2.2.2.2.1, h.2.2.2.2.2.2.2⟩

theorem hostWrite_stored (s : State) (a : Nat) (bs : List Byte) (h : Stored s) : Stored (s.hostWrite a bs) :=
  ⟨h.1, h.2.1, h.2.2.1, h.2.2.2.1, h.2.2.2.2.1, Sparse.wf_setMany _ _ _ _ h.2.2.2.2.2.1, h.2.2.2.2.2.2.1, h.2.2.2.2.2.2.2⟩

theorem flashPut_stored (s : State) (a : Nat) (bs : List Byte) (h : Stored s) : Stored (s.flashPut a bs) :=
  ⟨h.1, h.2.1, h.2.2.1, h.2.2.2.1, h.2.2.2.2.1, h.2.2.2.2.2.1, Sparse.wf_setMany _ _ _ _ h.2.2.2.2.2.2.1, h.2.2.2.2.2.2.2⟩

theorem flashGone_stored (s : State) (lo hi : Nat) (h : Stored s) : Stored (s.flashGone lo hi) :=
  ⟨h.1, h.2.1, h.2.2.1, h.2.2.2.1, h.2.2.2.2.1, h.2.2.2.2.2.1, Sparse.wf_eraseRange _ _ _ _ h.2.2.2.2.2.2.1, h.2.2.2.2.2.2.2⟩

theorem keepWrite_stored (s : State) (a : Nat) (bs : List Byte) (h : Stored s) : Stored (s.keepWrite a bs) :=
  ⟨h.1, h.2.1, h.2.2.1, h.2.2.2.1, h.2.2.2.2.1, h.2.2.2.2.2.1, h.2.2.2.2.2.2.1, Sparse.wf_setMany _ _ _ _ h.2.2.2.2.2.2.2⟩

theorem setTrim_stored (s : State) (key : Nat) (v : Int) (h : Stored s) : Stored (s.setTrim key v) :=
  ⟨h.1, h.2.1, Sparse.wf_set _ _ _ _ h.2.2.1, h.2.2.2.1, h.2.2.2.2.1, h.2.2.2.2.2.1, h.2.2.2.2.2.2.1, h.2.2.2.2.2.2.2⟩

/-- A chip reset leaves empty lists, or the lists it does not touch. -/
theorem chipFresh_stored (s : State) (h : Stored s) : Stored s.chipFresh :=
  ⟨Sparse.wf_nil _, Sparse.wf_nil _, Sparse.wf_nil _, h.2.2.2.1, Sparse.wf_nil _, h.2.2.2.2.2.1, h.2.2.2.2.2.2.1, h.2.2.2.2.2.2.2⟩

/-- P3 keeps registers in canonical form if the list they come from has it. -/
theorem keepRegs_stored (s r : State) (h : Stored s) (hr : Stored r) : Stored (s.keepRegs r.regs) :=
  ⟨Sparse.wf_filter _ _ _ hr.1, h.2.1, h.2.2.1, h.2.2.2.1, h.2.2.2.2.1, h.2.2.2.2.2.1, h.2.2.2.2.2.2.1, h.2.2.2.2.2.2.2⟩

end Sys2Proof.Machine
end

