-- ==== Sys2Proof/Laws/KeepOps.lean ====
section
/-! SUPPORT. The stores stay in canonical form through the named operations, memory, units and formatters. -/
set_option linter.unusedTactic false
set_option linter.unreachableTactic false
set_option linter.unusedVariables false
namespace Sys2Proof.Machine

/-! ## Ops -/

theorem setFld_stored (s : State) (f : Field) (v : Nat) (hs : Stored s) : Stored (State.setFld s f v) := by
  unfold State.setFld
  repeat' first
    | with_reducible assumption
    | with_reducible apply setReg_stored

theorem addSat_stored (s : State) (f : Field) (n : Nat) (hs : Stored s) : Stored (State.addSat s f n) := by
  unfold State.addSat
  repeat' first
    | with_reducible assumption
    | with_reducible apply setFld_stored

theorem addMod_stored (s : State) (f : Field) (n : Nat) (hs : Stored s) : Stored (State.addMod s f n) := by
  unfold State.addMod
  repeat' first
    | with_reducible assumption
    | with_reducible apply setFld_stored

theorem setReg64_stored (s : State) (lo : Nat) (hi : Nat) (v : Nat) (hs : Stored s) : Stored (State.setReg64 s lo hi v) := by
  unfold State.setReg64
  repeat' first
    | with_reducible assumption
    | with_reducible apply setReg_stored

theorem report_stored (s : State) (src : Nat) (kind : Nat) (addr : Nat) (hs : Stored s) : Stored (State.report s src kind addr) := by
  unfold State.report
  repeat' first
    | with_reducible assumption
    | (fail_if_no_progress (dsimp only [Stored]; with_reducible refine stored_mk ?_))

theorem regFault_stored (s : State) (off : Nat) (hs : Stored s) : Stored (State.regFault s off) := by
  unfold State.regFault
  repeat' first
    | with_reducible assumption
    | with_reducible apply report_stored

theorem sendMsix_stored (s : State) (vec : Nat) (hs : Stored s) : Stored (State.sendMsix s vec) := by
  unfold State.sendMsix
  repeat' first
    | with_reducible assumption
    | with_reducible apply setReg_stored
    | split
    | (fail_if_no_progress (dsimp only [Stored]; with_reducible refine stored_mk ?_))

theorem signal_stored (s : State) (ev : Nat) (hs : Stored s) : Stored (State.signal s ev) := by
  unfold State.signal
  repeat' first
    | with_reducible assumption
    | with_reducible apply sendMsix_stored
    | with_reducible apply setFld_stored
    | split
    | (dsimp only)

theorem cnsSample_stored (s : State) (k : Nat) (hs : Stored s) : Stored (State.cnsSample s k) := by
  unfold State.cnsSample
  repeat' first
    | with_reducible assumption
    | with_reducible apply addSat_stored
    | with_reducible apply setFld_stored
    | with_reducible apply setReg_stored
    | with_reducible apply setReg64_stored
    | with_reducible apply signal_stored
    | split

theorem cnsAdd_stored (s : State) (k : Nat) (n : Nat) (hs : Stored s) : Stored (State.cnsAdd s k n) := by
  unfold State.cnsAdd
  repeat' first
    | with_reducible assumption
    | with_reducible apply cnsSample_stored
    | with_reducible apply setFld_stored
    | with_reducible apply setReg_stored
    | split
    | (dsimp only)

theorem cnsSee_stored (s : State) (k : Nat) (ev : Nat) (n : Nat) (hs : Stored s) : Stored (State.cnsSee s k ev n) := by
  unfold State.cnsSee
  repeat' first
    | with_reducible assumption
    | with_reducible apply cnsAdd_stored
    | split
    | (fail_if_no_progress (dsimp only [Stored]; with_reducible refine stored_mk ?_))

theorem count_stored (s : State) (ev : Nat) (n : Nat) (hs : Stored s) : Stored (State.count s ev n) := by
  unfold State.count
  repeat' first
    | with_reducible assumption
    | with_reducible apply cnsSee_stored
    | with_reducible refine foldl_stored ?_ ?_
    | (with_reducible intro s hs; try dsimp only)

theorem bwBytes_stored (s : State) (port : Nat) (n : Nat) (hs : Stored s) : Stored (State.bwBytes s port n) := by
  unfold State.bwBytes
  repeat' first
    | with_reducible assumption
    | split
    | (fail_if_no_progress (dsimp only [Stored]; with_reducible refine stored_mk ?_))

theorem setBank_stored (s : State) (b : Nat) (v : Bank) (hs : Stored s) : Stored (State.setBank s b v) := by
  unfold State.setBank
  repeat' first
    | with_reducible assumption
    | with_reducible apply setFld_stored
    | split
    | (fail_if_no_progress (dsimp only [Stored]; with_reducible refine stored_mk ?_))

theorem stage_stored (s : State) (b : Nat) (key : Nat) (v : Word) (hs : Stored s) : Stored (State.stage s b key v) := by
  unfold State.stage
  repeat' first
    | with_reducible assumption
    | with_reducible apply setBank_stored

theorem overlay_stored (s : State) (vals : SMap Word) (hs : Stored s) : Stored (State.overlay s vals) := by
  unfold State.overlay
  repeat' first
    | with_reducible assumption
    | with_reducible apply putInEffect_stored
    | with_reducible refine foldl_stored ?_ ?_
    | (with_reducible intro s hs; try dsimp only)

theorem drawn_stored (s : State) (hs : Stored s) : Stored (State.drawn s) := by
  unfold State.drawn
  repeat' first
    | with_reducible assumption
    | (fail_if_no_progress (dsimp only [Stored]; with_reducible refine stored_mk ?_))

/-! ## Memory -/

theorem setDram_stored (s : State) (n : Nat) (d : Dram) (hs : Stored s) : Stored (State.setDram s n d) := by
  unfold State.setDram
  repeat' first
    | with_reducible assumption
    | with_reducible apply setFld_stored
    | (fail_if_no_progress (dsimp only [Stored]; with_reducible refine stored_mk ?_))

theorem countPart_stored (s : State) (n : Nat) (w : QueuedWrite) (hs : Stored s) : Stored (State.countPart s n w) := by
  unfold State.countPart
  repeat' first
    | with_reducible assumption
    | with_reducible apply bwBytes_stored
    | with_reducible apply count_stored
    | split

theorem serveOldest_stored (s : State) (n : Nat) (hs : Stored s) : Stored (State.serveOldest s n) := by
  unfold State.serveOldest
  repeat' first
    | with_reducible assumption
    | with_reducible apply serveWrite_stored
    | with_reducible apply setDram_stored
    | with_reducible apply countPart_stored
    | with_reducible apply bwBytes_stored
    | with_reducible apply count_stored
    | split

theorem failOldest_stored (s : State) (n : Nat) (hs : Stored s) : Stored (State.failOldest s n) := by
  unfold State.failOldest
  repeat' first
    | with_reducible assumption
    | with_reducible apply serveWrite_stored
    | with_reducible apply setDram_stored
    | with_reducible apply countPart_stored
    | with_reducible apply report_stored
    | with_reducible apply bwBytes_stored
    | with_reducible apply count_stored
    | with_reducible apply drawn_stored
    | split

theorem retimeDrams_stored (s : State) (hs : Stored s) : Stored (State.retimeDrams s) := by
  unfold State.retimeDrams
  repeat' first
    | with_reducible assumption
    | with_reducible apply setDram_stored
    | with_reducible refine foldl_stored ?_ ?_
    | (with_reducible intro s y hs; try dsimp only)

theorem readFails_stored (s : State) (d : DeepAlloc) (x : Nat) (hs : Stored s) : Stored (State.readFails s d x) := by
  unfold State.readFails
  repeat' first
    | with_reducible assumption
    | with_reducible apply report_stored

theorem deepPut_stored (s : State) (n : Nat) (loc : Nat) (b : Byte) (hs : Stored s) : Stored (State.deepPut s n loc b) := by
  unfold State.deepPut
  repeat' first
    | with_reducible assumption
    | with_reducible apply serveOldest_stored
    | with_reducible apply setDram_stored
    | split

theorem reportPoison_stored (s : State) (a : Nat) (n : Nat) (hs : Stored s) : Stored (State.reportPoison s a n) := by
  unfold State.reportPoison
  repeat' first
    | with_reducible assumption
    | with_reducible apply setReg_stored
    | with_reducible apply addSat_stored
    | with_reducible apply report_stored
    | with_reducible refine foldl_stored ?_ ?_
    | (with_reducible intro s y hs; try dsimp only)

theorem deepWriteAt_stored (s : State) (d : DeepAlloc) (x : Nat) (k : List Byte) (hs : Stored s) : Stored (State.deepWriteAt s d x k) := by
  induction k generalizing s d x with
  | nil =>
    unfold State.deepWriteAt
    repeat' first
      | with_reducible assumption
  | cons y k ih =>
    unfold State.deepWriteAt
    repeat' first
      | with_reducible assumption
      | with_reducible apply deepPut_stored
      | with_reducible apply ih

theorem countUnits_stored (s : State) (d : DeepAlloc) (x : Nat) (k : Nat) (hs : Stored s) : Stored (State.countUnits s d x k) := by
  induction k generalizing s d x with
  | zero =>
    unfold State.countUnits
    repeat' first
      | with_reducible assumption
  | succ k ih =>
    unfold State.countUnits
    repeat' first
      | with_reducible assumption
      | with_reducible apply bwBytes_stored
      | with_reducible apply count_stored
      | with_reducible apply ih

theorem countRead_stored (s : State) (d : DeepAlloc) (x : Nat) (n : Nat) (hs : Stored s) : Stored (State.countRead s d x n) := by
  unfold State.countRead
  repeat' first
    | with_reducible assumption
    | with_reducible apply countUnits_stored
    | split

theorem spaceWrite_stored (s : State) (space : Nat) (a : Nat) (bs : List Byte) (hs : Stored s) : Stored (State.spaceWrite s space a bs) := by
  unfold State.spaceWrite
  repeat' first
    | with_reducible assumption
    | with_reducible apply deepWriteAt_stored
    | with_reducible apply hostWrite_stored
    | with_reducible apply poolWrite_stored
    | split

theorem markLost_stored (s : State) (d : DeepAlloc) (hs : Stored s) : Stored (State.markLost s d) := by
  unfold State.markLost
  repeat' first
    | with_reducible assumption
    | with_reducible apply setReg_stored

/-! ## Sched -/

theorem setRing_stored (s : State) (k : Nat) (r : Ring) (hs : Stored s) : Stored (State.setRing s k r) := by
  unfold State.setRing
  repeat' first
    | with_reducible assumption
    | (fail_if_no_progress (dsimp only [Stored]; with_reducible refine stored_mk ?_))

theorem signalRing_stored (s : State) (k : Nat) (hs : Stored s) : Stored (State.signalRing s k) := by
  unfold State.signalRing
  repeat' first
    | with_reducible assumption
    | with_reducible apply setRing_stored
    | with_reducible apply signal_stored

theorem drainEnd_stored (s : State) (k : Nat) (hs : Stored s) : Stored (State.drainEnd s k) := by
  unfold State.drainEnd
  repeat' first
    | with_reducible assumption
    | with_reducible apply setFld_stored
    | split

theorem post_stored (s : State) (k : Nat) (desc : Nat) (status : Nat) (detail : Nat) (result : Nat) (fetchRef : Bool) (hs : Stored s) : Stored (State.post s k desc status detail result fetchRef) := by
  unfold State.post
  repeat' first
    | with_reducible assumption
    | with_reducible apply bwBytes_stored
    | with_reducible apply drainEnd_stored
    | with_reducible apply hostWrite_stored
    | with_reducible apply setFld_stored
    | with_reducible apply setRing_stored
    | with_reducible apply signalRing_stored
    | split
    | (dsimp only)

theorem showSched_stored (s : State) (hs : Stored s) : Stored (State.showSched s) := by
  unfold State.showSched
  repeat' first
    | with_reducible assumption
    | with_reducible apply setFld_stored

theorem setSlot_stored (s : State) (k : Nat) (t : Task) (hs : Stored s) : Stored (State.setSlot s k t) := by
  unfold State.setSlot
  repeat' first
    | with_reducible assumption
    | with_reducible apply showSched_stored
    | (fail_if_no_progress (dsimp only [Stored]; with_reducible refine stored_mk ?_))

theorem makeReady_stored (s : State) (k : Nat) (hs : Stored s) : Stored (State.makeReady s k) := by
  unfold State.makeReady
  repeat' first
    | with_reducible assumption
    | with_reducible apply setSlot_stored

theorem decrement_stored (s : State) (k : Nat) (hs : Stored s) : Stored (State.decrement s k) := by
  unfold State.decrement
  repeat' first
    | with_reducible assumption
    | with_reducible apply addSat_stored
    | with_reducible apply makeReady_stored
    | with_reducible apply setSlot_stored
    | split
    | (dsimp only)

theorem cascadeFrom_stored (s : State) (desc : Nat) (hs : Stored s) : Stored (State.cascadeFrom s desc) := by
  unfold State.cascadeFrom
  repeat' first
    | with_reducible assumption
    | split
    | (dsimp only)
    | (fail_if_no_progress (dsimp only [Stored]; with_reducible refine stored_mk ?_))

theorem showResv_stored (s : State) (hs : Stored s) : Stored (State.showResv s) := by
  unfold State.showResv
  repeat' first
    | with_reducible assumption
    | with_reducible apply setFld_stored
    | with_reducible refine foldl_stored ?_ ?_
    | (with_reducible intro s hs; try dsimp only)

theorem setResv_stored (s : State) (l : List Resv) (hs : Stored s) : Stored (State.setResv s l) := by
  unfold State.setResv
  repeat' first
    | with_reducible assumption
    | with_reducible apply setFld_stored
    | with_reducible apply showResv_stored
    | (fail_if_no_progress (dsimp only [Stored]; with_reducible refine stored_mk ?_))

theorem reserve_stored (s : State) (r : Resv) (hs : Stored s) : Stored2 (State.reserve s r) := by
  unfold State.reserve
  repeat' first
    | with_reducible assumption
    | with_reducible apply addSat_stored
    | with_reducible apply setResv_stored
    | with_reducible refine stored2_mk ?_
    | split

theorem reserve_stored' (s : State) (r : Resv) (hs : Stored s) : Stored (State.reserve s r).2 := stored2_out (reserve_stored s r hs)

theorem unreserve_stored (s : State) (owner : Nat) (hs : Stored s) : Stored (State.unreserve s owner) := by
  unfold State.unreserve
  repeat' first
    | with_reducible assumption
    | with_reducible apply setResv_stored

theorem setReefQueue_stored (s : State) (q : List ReefReq) (hs : Stored s) : Stored (State.setReefQueue s q) := by
  unfold State.setReefQueue
  repeat' first
    | with_reducible assumption
    | with_reducible apply setFld_stored
    | (fail_if_no_progress (dsimp only [Stored]; with_reducible refine stored_mk ?_))

theorem returnGrant_stored (s : State) (k : Nat) (hs : Stored s) : Stored (State.returnGrant s k) := by
  unfold State.returnGrant
  repeat' first
    | with_reducible assumption
    | with_reducible apply setFld_stored
    | with_reducible apply setSlot_stored
    | split
    | (dsimp only)

theorem leaveReef_stored (s : State) (k : Nat) (hs : Stored s) : Stored (State.leaveReef s k) := by
  unfold State.leaveReef
  repeat' first
    | with_reducible assumption
    | with_reducible apply setReefQueue_stored

theorem finish_stored (s : State) (k : Nat) (status : Nat) (detail : Nat) (result : Nat) (hs : Stored s) : Stored (State.finish s k status detail result) := by
  unfold State.finish
  repeat' first
    | with_reducible assumption
    | with_reducible apply addSat_stored
    | with_reducible apply cascadeFrom_stored
    | with_reducible apply decrement_stored
    | with_reducible apply leaveReef_stored
    | with_reducible apply returnGrant_stored
    | with_reducible apply setFld_stored
    | with_reducible apply setSlot_stored
    | with_reducible apply unreserve_stored
    | with_reducible refine foldl_stored ?_ ?_
    | split
    | (fail_if_no_progress (dsimp only [Stored]; with_reducible refine stored_mk ?_))
    | (dsimp only)

theorem workDone_stored (s : State) (k : Nat) (status : Nat) (detail : Nat) (result : Nat) (hs : Stored s) : Stored (State.workDone s k status detail result) := by
  unfold State.workDone
  repeat' first
    | with_reducible assumption
    | with_reducible apply setSlot_stored
    | split

theorem interrupt_stored (s : State) (k : Nat) (result : Nat) (hs : Stored s) : Stored (State.interrupt s k result) := by
  unfold State.interrupt
  repeat' first
    | with_reducible assumption
    | with_reducible apply setSlot_stored
    | with_reducible apply workDone_stored
    | split
    | (dsimp only)

theorem postCancels_stored (s : State) (hs : Stored s) : Stored (State.postCancels s) := by
  unfold State.postCancels
  repeat' first
    | with_reducible assumption
    | with_reducible apply post_stored
    | with_reducible refine foldl_stored ?_ ?_
    | (with_reducible intro s y hs; try dsimp only)
    | (fail_if_no_progress (dsimp only [Stored]; with_reducible refine stored_mk ?_))

theorem targetReleased_stored (s : State) (k : Nat) (hs : Stored s) : Stored (State.targetReleased s k) := by
  unfold State.targetReleased
  repeat' first
    | with_reducible assumption
    | (fail_if_no_progress (dsimp only [Stored]; with_reducible refine stored_mk ?_))

theorem release_stored (s : State) (k : Nat) (hs : Stored s) : Stored (State.release s k) := by
  unfold State.release
  repeat' first
    | with_reducible assumption
    | with_reducible apply post_stored
    | with_reducible apply setFld_stored
    | with_reducible apply targetReleased_stored
    | with_reducible apply setSlot_stored

theorem setSource_stored (s : State) (n : Nat) (f : FaultSrc) (hs : Stored s) : Stored (State.setSource s n f) := by
  unfold State.setSource
  repeat' first
    | with_reducible assumption
    | (fail_if_no_progress (dsimp only [Stored]; with_reducible refine stored_mk ?_))

theorem cancelWaiting_stored (s : State) (k : Nat) (hs : Stored s) : Stored (State.cancelWaiting s k) := by
  unfold State.cancelWaiting
  repeat' first
    | with_reducible assumption
    | with_reducible apply setSlot_stored
    | with_reducible apply finish_stored

/-! ## Engine -/

theorem setEngine_stored (s : State) (sg : Nat) (e : Engine) (hs : Stored s) : Stored (State.setEngine s sg e) := by
  unfold State.setEngine
  repeat' first
    | with_reducible assumption
    | (fail_if_no_progress (dsimp only [Stored]; with_reducible refine stored_mk ?_))

theorem setMicro_stored (s : State) (sg : Nat) (m : Micro) (hs : Stored s) : Stored (State.setMicro s sg m) := by
  unfold State.setMicro
  repeat' first
    | with_reducible assumption
    | (fail_if_no_progress (dsimp only [Stored]; with_reducible refine stored_mk ?_))

theorem dropCommands_stored (s : State) (sg : Nat) (hs : Stored s) : Stored (State.dropCommands s sg) := by
  unfold State.dropCommands
  repeat' first
    | with_reducible assumption
    | with_reducible apply setMicro_stored

theorem setPort_stored (s : State) (p : Nat) (v : Port) (hs : Stored s) : Stored (State.setPort s p v) := by
  unfold State.setPort
  repeat' first
    | with_reducible assumption
    | (fail_if_no_progress (dsimp only [Stored]; with_reducible refine stored_mk ?_))

theorem nextSeq_stored (s : State) (cls : Nat) (hs : Stored s) : Stored2 (State.nextSeq s cls) := by
  unfold State.nextSeq
  repeat' first
    | with_reducible assumption
    | with_reducible refine stored2_mk ?_
    | (fail_if_no_progress (dsimp only [Stored]; with_reducible refine stored_mk ?_))

theorem nextSeq_stored' (s : State) (cls : Nat) (hs : Stored s) : Stored (State.nextSeq s cls).2 := stored2_out (nextSeq_stored s cls hs)

theorem offerFrame_stored (s : State) (p : Nat) (f : Frame) (hs : Stored s) : Stored (State.offerFrame s p f) := by
  unfold State.offerFrame
  repeat' first
    | with_reducible assumption
    | with_reducible apply addSat_stored
    | with_reducible apply setPort_stored
    | split

theorem setPair_stored (s : State) (sg : Nat) (v : PairSg) (hs : Stored s) : Stored (State.setPair s sg v) := by
  unfold State.setPair
  repeat' first
    | with_reducible assumption
    | (fail_if_no_progress (dsimp only [Stored]; with_reducible refine stored_mk ?_))

theorem sendPair_stored (s : State) (type : Nat) (sg : Nat) (cycle : Nat) (digest : Nat) (hs : Stored s) : Stored (State.sendPair s type sg cycle digest) := by
  unfold State.sendPair
  repeat' first
    | with_reducible assumption
    | with_reducible apply nextSeq_stored'
    | with_reducible apply offerFrame_stored

theorem handOver_stored (s : State) (sg : Nat) (hs : Stored s) : Stored (State.handOver s sg) := by
  unfold State.handOver
  repeat' first
    | with_reducible assumption
    | with_reducible apply sendPair_stored
    | with_reducible apply setFld_stored
    | split

theorem takeover_stored (s : State) (sg : Nat) (hs : Stored s) : Stored (State.takeover s sg) := by
  unfold State.takeover
  repeat' first
    | with_reducible assumption
    | with_reducible apply handOver_stored
    | with_reducible refine foldl_stored ?_ ?_
    | split
    | (fail_if_no_progress (dsimp only [Stored]; with_reducible refine stored_mk ?_))

theorem dropCommits_stored (s : State) (sg : Nat) (hs : Stored s) : Stored (State.dropCommits s sg) := by
  unfold State.dropCommits
  repeat' first
    | with_reducible assumption
    | (fail_if_no_progress (dsimp only [Stored]; with_reducible refine stored_mk ?_))

theorem enterEnding_stored (s : State) (sg : Nat) (cause : Nat) (hs : Stored s) : Stored (State.enterEnding s sg cause) := by
  unfold State.enterEnding
  repeat' first
    | with_reducible assumption
    | with_reducible apply dropCommands_stored
    | with_reducible apply setFld_stored
    | with_reducible apply setEngine_stored
    | with_reducible apply dropCommits_stored

theorem abortCause_stored (s : State) (sg : Nat) (cause : Nat) (hs : Stored s) : Stored (State.abortCause s sg cause) := by
  unfold State.abortCause
  repeat' first
    | with_reducible assumption
    | with_reducible apply enterEnding_stored
    | with_reducible apply setFld_stored
    | with_reducible apply takeover_stored
    | split

theorem hostAbort_stored (s : State) (sg : Nat) (hs : Stored s) : Stored (State.hostAbort s sg) := by
  unfold State.hostAbort
  repeat' first
    | with_reducible assumption
    | with_reducible apply enterEnding_stored
    | with_reducible apply setFld_stored
    | split

theorem fenceEngine_stored (s : State) (sg : Nat) (hs : Stored s) : Stored (State.fenceEngine s sg) := by
  unfold State.fenceEngine
  repeat' first
    | with_reducible assumption
    | with_reducible apply abortCause_stored
    | with_reducible apply setFld_stored

theorem fenceChannels_stored (s : State) (chs : List Nat) (hs : Stored s) : Stored (State.fenceChannels s chs) := by
  unfold State.fenceChannels
  repeat' first
    | with_reducible assumption
    | with_reducible apply abortCause_stored
    | with_reducible refine foldl_stored ?_ ?_
    | (with_reducible intro s y hs; try dsimp only)
    | split

/-! ## Units -/

theorem setSrc_stored (s : State) (u : Nat) (v : SrcUnit) (hs : Stored s) : Stored (State.setSrc s u v) := by
  unfold State.setSrc
  repeat' first
    | with_reducible assumption
    | (fail_if_no_progress (dsimp only [Stored]; with_reducible refine stored_mk ?_))

theorem srcDropJump_stored (s : State) (u : Nat) (hs : Stored s) : Stored (State.srcDropJump s u) := by
  unfold State.srcDropJump
  repeat' first
    | with_reducible assumption
    | with_reducible apply setFld_stored
    | with_reducible apply setSrc_stored
    | split

theorem srcStop_stored (s : State) (u : Nat) (hs : Stored s) : Stored (State.srcStop s u) := by
  unfold State.srcStop
  repeat' first
    | with_reducible assumption
    | with_reducible apply setFld_stored
    | with_reducible apply setSrc_stored
    | with_reducible apply srcDropJump_stored

theorem ringLow_stored (s : State) (u : Nat) (before : Nat) (hs : Stored s) : Stored (State.ringLow s u before) := by
  unfold State.ringLow
  repeat' first
    | with_reducible assumption
    | with_reducible apply setFld_stored
    | with_reducible apply signal_stored
    | split
    | (dsimp only)

theorem srcReadWord_stored (s : State) (u : Nat) (hs : Stored s) : Stored (State.srcReadWord s u) := by
  unfold State.srcReadWord
  repeat' first
    | with_reducible assumption
    | with_reducible apply setReg_stored
    | with_reducible apply setSrc_stored
    | with_reducible apply reportPoison_stored
    | with_reducible apply ringLow_stored
    | split

theorem srcBoundary_stored (s : State) (u : Nat) (hs : Stored s) : Stored (State.srcBoundary s u) := by
  unfold State.srcBoundary
  repeat' first
    | with_reducible assumption
    | with_reducible apply setFld_stored
    | with_reducible apply setSrc_stored
    | with_reducible apply srcStop_stored
    | split
    | (dsimp only)

theorem srcPass_stored (s : State) (u : Nat) (hs : Stored s) : Stored (State.srcPass s u) := by
  unfold State.srcPass
  repeat' first
    | with_reducible assumption
    | with_reducible apply srcBoundary_stored
    | split

theorem srcStart_stored (s : State) (u : Nat) (e : Nat) (hs : Stored s) : Stored (State.srcStart s u e) := by
  unfold State.srcStart
  repeat' first
    | with_reducible assumption
    | with_reducible apply setFld_stored
    | with_reducible apply setReg64_stored
    | with_reducible apply srcStop_stored

theorem srcJump_stored (s : State) (u : Nat) (e : Nat) (hs : Stored s) : Stored (State.srcJump s u e) := by
  unfold State.srcJump
  repeat' first
    | with_reducible assumption
    | with_reducible apply setFld_stored
    | with_reducible apply setSrc_stored
    | with_reducible apply srcDropJump_stored
    | with_reducible apply srcPass_stored
    | split
    | (dsimp only)

theorem srcUnderrun_stored (s : State) (u : Nat) (hs : Stored s) : Stored (State.srcUnderrun s u) := by
  unfold State.srcUnderrun
  repeat' first
    | with_reducible assumption
    | with_reducible apply report_stored
    | with_reducible apply setFld_stored
    | with_reducible apply setReg_stored
    | with_reducible apply setSrc_stored
    | with_reducible apply srcDropJump_stored

theorem srcPlayed_stored (s : State) (u : Nat) (sample : Nat) (hs : Stored s) : Stored (State.srcPlayed s u sample) := by
  unfold State.srcPlayed
  repeat' first
    | with_reducible assumption
    | with_reducible apply setReg64_stored
    | with_reducible apply setSrc_stored

theorem srcIdle_stored (s : State) (u : Nat) (hs : Stored s) : Stored2 (State.srcIdle s u) := by
  unfold State.srcIdle
  repeat' first
    | with_reducible assumption
    | with_reducible apply setSrc_stored
    | with_reducible refine stored2_mk ?_
    | split

theorem srcIdle_stored' (s : State) (u : Nat) (hs : Stored s) : Stored (State.srcIdle s u).2 := stored2_out (srcIdle_stored s u hs)

theorem ringCatchUp_stored (s : State) (u : Nat) (k : Nat) (hs : Stored s) : Stored (State.ringCatchUp s u k) := by
  induction k generalizing s u with
  | zero =>
    unfold State.ringCatchUp
    repeat' first
      | with_reducible assumption
      | with_reducible apply srcReadWord_stored
  | succ k ih =>
    unfold State.ringCatchUp
    repeat' first
      | with_reducible assumption
      | with_reducible apply srcReadWord_stored
      | with_reducible apply ih
      | split

theorem ringsCatchUp_stored (s : State) (hs : Stored s) : Stored (State.ringsCatchUp s) := by
  unfold State.ringsCatchUp
  repeat' first
    | with_reducible assumption
    | with_reducible apply ringCatchUp_stored
    | with_reducible refine foldl_stored ?_ ?_
    | (with_reducible intro s y hs; try dsimp only)
    | split

theorem srcStreamSample_stored (s : State) (u : Nat) (hs : Stored s) : Stored2 (State.srcStreamSample s u) := by
  unfold State.srcStreamSample
  repeat' first
    | with_reducible assumption
    | with_reducible apply setSrc_stored
    | with_reducible apply srcReadWord_stored
    | with_reducible refine stored2_mk ?_
    | split

theorem srcStreamSample_stored' (s : State) (u : Nat) (hs : Stored s) : Stored (State.srcStreamSample s u).2 := stored2_out (srcStreamSample_stored s u hs)

theorem srcPlay_stored (s : State) (u : Nat) (hs : Stored s) : Stored3 (s.srcPlay u) := by
  unfold State.srcPlay
  have h0 := srcPass_stored s u hs
  generalize s.srcPass u = s at h0
  dsimp only
  split
  · split
    · have h1 := srcStreamSample_stored s u h0
      generalize s.srcStreamSample u = r at h1
      split
      · exact stored3_mk (srcPlayed_stored _ _ _ (stored2_out h1))
      · exact stored3_mk (srcIdle_stored' _ _ (srcUnderrun_stored _ _ (stored2_out h1)))
    · exact stored3_mk (srcPlayed_stored _ _ _ h0)
  · exact stored3_mk (srcIdle_stored' _ _ h0)
  · exact stored3_mk h0

theorem srcPlay_stored' (s : State) (u : Nat) (hs : Stored s) : Stored (State.srcPlay s u).2.2 := stored3_out (srcPlay_stored s u hs)

theorem setModu_stored (s : State) (u : Nat) (v : ModUnit) (hs : Stored s) : Stored (State.setModu s u v) := by
  unfold State.setModu
  repeat' first
    | with_reducible assumption
    | (fail_if_no_progress (dsimp only [Stored]; with_reducible refine stored_mk ?_))

theorem modStart_stored (s : State) (u : Nat) (hs : Stored s) : Stored (State.modStart s u) := by
  unfold State.modStart
  repeat' first
    | with_reducible assumption
    | with_reducible apply setFld_stored
    | with_reducible apply setModu_stored

theorem modBoundary_stored (s : State) (u : Nat) (hs : Stored s) : Stored (State.modBoundary s u) := by
  unfold State.modBoundary
  repeat' first
    | with_reducible assumption
    | with_reducible apply setFld_stored
    | with_reducible apply setModu_stored
    | (with_reducible intro x; refine with_fact (p := Stored x) (fun hx => ?_) ?_; (on_goal 1 => clear_value x); (on_goal 2 => subst x))
    | split
    | (dsimp only)

theorem modPull_stored (s : State) (u : Nat) (hs : Stored s) : Stored (State.modPull s u) := by
  unfold State.modPull
  repeat' first
    | with_reducible assumption
    | with_reducible apply modBoundary_stored
    | with_reducible apply setModu_stored
    | split

theorem modReach_stored (s : State) (u : Nat) (hs : Stored s) : Stored (State.modReach s u) := by
  unfold State.modReach
  repeat' first
    | with_reducible assumption
    | with_reducible apply modPull_stored
    | split

theorem modJump_stored (s : State) (u : Nat) (e : Nat) (hs : Stored s) : Stored (State.modJump s u e) := by
  unfold State.modJump
  repeat' first
    | with_reducible assumption
    | with_reducible apply modReach_stored
    | with_reducible apply setFld_stored
    | with_reducible apply setModu_stored
    | split
    | (dsimp only)

theorem modPlay_stored (s : State) (u : Nat) (hs : Stored s) : Stored2 (State.modPlay s u) := by
  unfold State.modPlay
  repeat' first
    | with_reducible assumption
    | with_reducible apply addSat_stored
    | with_reducible apply modReach_stored
    | with_reducible apply setFld_stored
    | with_reducible apply setModu_stored
    | with_reducible refine stored2_mk ?_
    | split

theorem modPlay_stored' (s : State) (u : Nat) (hs : Stored s) : Stored (State.modPlay s u).2 := stored2_out (modPlay_stored s u hs)

theorem playUnits_stored (s : State) (sg : Nat) (hs : Stored s) : Stored3 (State.playUnits s sg) := by
  unfold State.playUnits
  repeat' first
    | with_reducible assumption
    | with_reducible apply modPlay_stored'
    | with_reducible apply srcPlay_stored'
    | with_reducible refine foldl2_stored' ?_ ?_
    | with_reducible refine foldl3_stored' ?_ ?_
    | with_reducible refine stored2_mk ?_
    | with_reducible refine stored3_mk ?_
    | (intro s y (hs : Stored2 s); have hw := stored2_out hs; clear hs; try dsimp only)
    | (intro s y (hs : Stored3 s); have hw := stored3_out hs; clear hs; try dsimp only)

theorem playUnits_stored' (s : State) (sg : Nat) (hs : Stored s) : Stored (State.playUnits s sg).2.2 := stored3_out (playUnits_stored s sg hs)

theorem playLine_stored (s : State) (sg n : Nat) (hs : Stored s) : Stored3 (s.playLine sg n) := by
  induction n generalizing s with
  | zero => exact hs
  | succ n ih => exact ih _ (playUnits_stored s sg hs)

theorem playLine_stored' (s : State) (sg : Nat) (k : Nat) (hs : Stored s) : Stored (State.playLine s sg k).2.2 := stored3_out (playLine_stored s sg k hs)

theorem setCv_stored (s : State) (u : Nat) (v : CvUnit) (hs : Stored s) : Stored (State.setCv s u v) := by
  unfold State.setCv
  repeat' first
    | with_reducible assumption
    | (fail_if_no_progress (dsimp only [Stored]; with_reducible refine stored_mk ?_))

theorem cvStart_stored (s : State) (u : Nat) (hs : Stored s) : Stored (State.cvStart s u) := by
  unfold State.cvStart
  repeat' first
    | with_reducible assumption
    | with_reducible apply setCv_stored

theorem cvData_stored (s : State) (u : Nat) (bit : Bool) (lvl : Bool) (hs : Stored s) : Stored (State.cvData s u bit lvl) := by
  unfold State.cvData
  repeat' first
    | with_reducible assumption
    | with_reducible apply setCv_stored
    | with_reducible apply setFld_stored
    | split

theorem ringWrite_stored (s : State) (base size n : Nat) (l : List Byte) (hs : Stored s) : Stored (s.ringWrite base size n l) := by
  induction l generalizing s n with
  | nil => unfold State.ringWrite; exact hs
  | cons b t ih => unfold State.ringWrite; exact ih _ _ (poolWrite_stored _ _ _ hs)

theorem cvRecord_stored (s : State) (u : Nat) (bytes : List Byte) (hs : Stored s) : Stored (State.cvRecord s u bytes) := by
  unfold State.cvRecord
  repeat' first
    | with_reducible assumption
    | with_reducible apply addSat_stored
    | with_reducible apply ringWrite_stored
    | with_reducible apply setReg_stored
    | split
    | (dsimp only)

theorem cvCount_stored (s : State) (u : Nat) (hs : Stored s) : Stored (State.cvCount s u) := by
  unfold State.cvCount
  repeat' first
    | with_reducible assumption
    | with_reducible apply addSat_stored

theorem cvFrameEnd_stored (s : State) (u : Nat) (hs : Stored s) : Stored (State.cvFrameEnd s u) := by
  unfold State.cvFrameEnd
  repeat' first
    | with_reducible assumption
    | with_reducible apply addSat_stored
    | with_reducible apply cvCount_stored
    | with_reducible apply cvRecord_stored
    | with_reducible apply setCv_stored
    | with_reducible apply setFld_stored
    | split

theorem cvDriveField_stored (s : State) (u : Nat) (hs : Stored s) : Stored2 (State.cvDriveField s u) := by
  unfold State.cvDriveField
  repeat' first
    | with_reducible assumption
    | with_reducible apply cvCount_stored
    | with_reducible apply setCv_stored
    | with_reducible refine stored2_mk ?_
    | split

theorem cvDriveField_stored' (s : State) (u : Nat) (hs : Stored s) : Stored (State.cvDriveField s u).2 := stored2_out (cvDriveField_stored s u hs)

theorem cvCheckField_stored (s : State) (u : Nat) (bit : Bool) (lvl : Bool) (hs : Stored s) : Stored2 (State.cvCheckField s u bit lvl) := by
  unfold State.cvCheckField
  repeat' first
    | with_reducible assumption
    | with_reducible apply cvFrameEnd_stored
    | with_reducible apply setCv_stored
    | with_reducible refine stored2_mk ?_
    | split

theorem cvCheckField_stored' (s : State) (u : Nat) (bit : Bool) (lvl : Bool) (hs : Stored s) : Stored (State.cvCheckField s u bit lvl).2 := stored2_out (cvCheckField_stored s u bit lvl hs)

theorem cvEnd_stored (s : State) (u : Nat) (hs : Stored s) : Stored (State.cvEnd s u) := by
  unfold State.cvEnd
  repeat' first
    | with_reducible assumption
    | with_reducible apply setCv_stored
    | with_reducible apply setFld_stored
    | split

/-! ## Format -/

theorem setChan_stored (s : State) (ch : Nat) (c : Chan) (hs : Stored s) : Stored (State.setChan s ch c) := by
  unfold State.setChan
  repeat' first
    | with_reducible assumption
    | (fail_if_no_progress (dsimp only [Stored]; with_reducible refine stored_mk ?_))

theorem holdGroup_stored (s : State) (sg : Nat) (hs : Stored s) : Stored (State.holdGroup s sg) := by
  unfold State.holdGroup
  repeat' first
    | with_reducible assumption
    | with_reducible apply setChan_stored
    | with_reducible refine foldl_stored ?_ ?_
    | with_reducible refine foldl2_stored ?_ ?_
    | with_reducible refine foldl3_stored ?_ ?_
    | with_reducible refine foldl2_stored' ?_ ?_
    | with_reducible refine foldl3_stored' ?_ ?_
    | with_reducible refine stored2_mk ?_
    | with_reducible refine stored3_mk ?_
    | (intro s y (hs : Stored2 s); have hw := stored2_out hs; clear hs; try dsimp only)
    | (intro s y (hs : Stored3 s); have hw := stored3_out hs; clear hs; try dsimp only)
    | (with_reducible intro s y hs; try dsimp only)
    | (with_reducible intro s hs; try dsimp only)
    | with_reducible refine ite_stored ?_ ?_
    | with_reducible refine ite_stored2 ?_ ?_
    | split
    | (fail_if_no_progress (dsimp only [Stored]; with_reducible refine stored_mk ?_))
    | (dsimp only)

theorem clamp_stored (s : State) (ch : Nat) (bit : Nat) (cycle : Nat) (hs : Stored s) : Stored (State.clamp s ch bit cycle) := by
  unfold State.clamp
  repeat' first
    | with_reducible assumption
    | with_reducible apply addSat_stored
    | with_reducible apply count_stored
    | with_reducible apply setReg_stored
    | with_reducible apply signal_stored
    | split

theorem placeLevel_stored (s : State) (e : Edge) (hs : Stored s) : Stored (State.placeLevel s e) := by
  unfold State.placeLevel
  repeat' first
    | with_reducible assumption
    | with_reducible apply setChan_stored
    | with_reducible apply clamp_stored
    | split
    | (dsimp only)

theorem placeLevels_stored (s : State) (es : List Edge) (hs : Stored s) : Stored (State.placeLevels s es) := by
  unfold State.placeLevels
  repeat' first
    | with_reducible assumption
    | with_reducible apply placeLevel_stored
    | with_reducible refine foldl_stored ?_ ?_

theorem placeStrobe_stored (s : State) (ch : Nat) (t : Int) (cycle : Nat) (hs : Stored s) : Stored2 (State.placeStrobe s ch t cycle) := by
  unfold State.placeStrobe
  repeat' first
    | with_reducible assumption
    | with_reducible apply clamp_stored
    | with_reducible apply setChan_stored
    | with_reducible refine stored2_mk ?_
    | split

theorem placeStrobe_stored' (s : State) (ch : Nat) (t : Int) (cycle : Nat) (hs : Stored s) : Stored (State.placeStrobe s ch t cycle).2 := stored2_out (placeStrobe_stored s ch t cycle hs)

theorem formatCode_stored (s : State) (p : Spot) (code : Nat) (hs : Stored s) : Stored (State.formatCode s p code) := by
  unfold State.formatCode
  repeat' first
    | with_reducible assumption
    | with_reducible apply placeStrobe_stored'
    | with_reducible apply placeLevels_stored
    | split
    | (dsimp only)
    | (fail_if_no_progress (dsimp only [Stored]; with_reducible refine stored_mk ?_))

theorem cvDrive_stored (s : State) (u : Nat) (code : Nat) (hs : Stored s) : Stored2 (State.cvDrive s u code) := by
  unfold State.cvDrive
  repeat' first
    | with_reducible assumption
    | with_reducible apply cvData_stored
    | with_reducible apply cvDriveField_stored
    | with_reducible refine stored2_mk ?_
    | (with_reducible intro x; refine with_fact (p := Stored2 x) (fun hx => with_fact (p := Stored x.2) (fun hy => ?_) (stored2_out hx)) ?_; (on_goal 1 => clear_value x); (on_goal 2 => subst x))
    | split
    | lift_lets

theorem cvDrive_stored' (s : State) (u : Nat) (code : Nat) (hs : Stored s) : Stored (State.cvDrive s u code).2 := stored2_out (cvDrive_stored s u code hs)

theorem driveCodes_stored (s : State) (sg : Nat) (cs : SMap (Nat × Nat)) (hs : Stored s) : Stored2 (State.driveCodes s sg cs) := by
  unfold State.driveCodes
  repeat' first
    | with_reducible assumption
    | with_reducible apply cvDrive_stored'
    | with_reducible refine foldl2_stored' ?_ ?_
    | with_reducible refine stored2_mk ?_
    | (intro s y (hs : Stored2 s); have hw := stored2_out hs; clear hs; try dsimp only)
    | split

theorem driveCodes_stored' (s : State) (sg : Nat) (cs : Machine.SMap (Nat × Nat)) (hs : Stored s) : Stored (State.driveCodes s sg cs).2 := stored2_out (driveCodes_stored s sg cs hs)

theorem expectBits_stored (s : State) (sg : Nat) (cycle : Nat) (q : Nat) (cs : SMap (Nat × Nat)) (hs : Stored s) : Stored (State.expectBits s sg cycle q cs) := by
  unfold State.expectBits
  repeat' first
    | with_reducible assumption
    | with_reducible apply setCv_stored
    | with_reducible refine foldl_stored ?_ ?_
    | (with_reducible intro s y hs; try dsimp only)
    | split

theorem formatSub_stored (s : State) (sg : Nat) (cycle : Nat) (q : Nat) (start : Nat) (codes : List Nat) (ts : Nat) (ia : Nat) (d : SubData) (hs : Stored s) : Stored (State.formatSub s sg cycle q start codes ts ia d) := by
  unfold State.formatSub
  repeat' first
    | with_reducible assumption
    | with_reducible apply driveCodes_stored'
    | with_reducible apply expectBits_stored
    | with_reducible apply formatCode_stored
    | with_reducible refine foldl_stored ?_ ?_
    | (with_reducible intro s hs; try dsimp only)

theorem placeSafe_stored (s : State) (sg : Nat) (keep : Edge → Bool) (hs : Stored s) : Stored (State.placeSafe s sg keep) := by
  unfold State.placeSafe
  repeat' first
    | with_reducible assumption
    | with_reducible apply placeLevels_stored
    | with_reducible apply setEngine_stored
    | split
    | (dsimp only)

theorem safeCycle_stored (s : State) (sg : Nat) (start : Nat) (hs : Stored s) : Stored (State.safeCycle s sg start) := by
  unfold State.safeCycle
  repeat' first
    | with_reducible assumption
    | with_reducible apply setEngine_stored
    | with_reducible apply placeSafe_stored

theorem cutSafe_stored (s : State) (sg : Nat) (start : Nat) (hs : Stored s) : Stored (State.cutSafe s sg start) := by
  unfold State.cutSafe
  repeat' first
    | with_reducible assumption
    | with_reducible apply placeSafe_stored

theorem leaveOthers_stored (s : State) (sg : Nat) (ch : Nat) (hs : Stored s) : Stored (State.leaveOthers s sg ch) := by
  unfold State.leaveOthers
  repeat' first
    | with_reducible assumption
    | with_reducible apply setReg_stored
    | with_reducible apply setEngine_stored
    | with_reducible refine foldl_stored ?_ ?_
    | (with_reducible intro s y hs; try dsimp only)

theorem putMembers_stored (s : State) (key : Nat) (v : Word) (hs : Stored s) : Stored (State.putMembers s key v) := by
  unfold State.putMembers
  repeat' first
    | with_reducible assumption
    | with_reducible apply setChan_stored
    | with_reducible apply leaveOthers_stored
    | with_reducible apply putInEffect_stored
    | with_reducible refine foldl_stored ?_ ?_
    | (with_reducible intro s y hs; try dsimp only)

theorem applyValue_stored (s : State) (m : Nat) (key : Nat) (v : Word) (hs : Stored s) : Stored (State.applyValue s m key v) := by
  unfold State.applyValue
  repeat' first
    | with_reducible assumption
    | with_reducible apply modJump_stored
    | with_reducible apply putMembers_stored
    | with_reducible apply putInEffect_stored
    | with_reducible apply setEngine_stored
    | with_reducible apply setReg_stored
    | with_reducible apply setSrc_stored
    | (with_reducible intro x; refine with_fact (p := Stored x) (fun hx => ?_) ?_; (on_goal 1 => clear_value x); (on_goal 2 => subst x))
    | split
    | (fail_if_no_progress (dsimp only [Stored]; with_reducible refine stored_mk ?_))
    | (dsimp only)

theorem applyValues_stored (s : State) (m : Nat) (vals : SMap Word) (hs : Stored s) : Stored (State.applyValues s m vals) := by
  unfold State.applyValues
  repeat' first
    | with_reducible assumption
    | with_reducible apply applyValue_stored
    | with_reducible refine foldl_stored ?_ ?_
    | (with_reducible intro s hs; try dsimp only)

theorem latchJumps_stored (s : State) (hs : Stored s) : Stored (State.latchJumps s) := by
  unfold State.latchJumps
  repeat' first
    | with_reducible assumption
    | with_reducible apply setReg_stored
    | with_reducible apply modJump_stored
    | with_reducible refine foldl_stored ?_ ?_
    | (with_reducible intro s y hs; try dsimp only)

theorem takeCommit_stored (s : State) (sg : Nat) (m : Nat) (start : Nat) (c : GroupCommit) (hs : Stored s) : Stored (State.takeCommit s sg m start c) := by
  unfold State.takeCommit
  repeat' first
    | with_reducible assumption
    | with_reducible apply setEngine_stored
    | with_reducible apply applyValues_stored
    | split
    | (dsimp only)

theorem groupValues_stored (s : State) (sg : Nat) (cycle : Nat) (start : Nat) (hs : Stored s) : Stored (State.groupValues s sg cycle start) := by
  unfold State.groupValues
  repeat' first
    | with_reducible assumption
    | with_reducible apply placeSafe_stored
    | with_reducible apply holdGroup_stored
    | with_reducible apply takeCommit_stored
    | with_reducible refine foldl_stored ?_ ?_
    | (with_reducible intro s y hs; try dsimp only)
    | split
    | (dsimp only)
    | (fail_if_no_progress (dsimp only [Stored]; with_reducible refine stored_mk ?_))

theorem groupBoundary_stored (s : State) (sg : Nat) (cycle : Nat) (start : Nat) (hs : Stored s) : Stored (State.groupBoundary s sg cycle start) := by
  unfold State.groupBoundary
  repeat' first
    | with_reducible assumption
    | with_reducible apply groupValues_stored
    | with_reducible apply latchJumps_stored
    | split

theorem atCycle_stored (s : State) (sg m : Nat) (f : State → State) (hf : ∀ s, Stored s → Stored (f s)) (hs : Stored s) :
    Stored (s.atCycle sg m f) := by
  unfold State.atCycle
  dsimp only
  split
  · exact hf s hs
  · exact overlay_stored _ _ (hf _ (foldl_stored (fun s p h => overlay_stored s p.2 h) hs))

end Sys2Proof.Machine
end

