-- ==== Sys2Proof/Laws/KeepIssue.lean ====
section
/-! SUPPORT. The stores stay in canonical form through issue, judgement, logs, streams and capture jobs. -/
set_option linter.unusedTactic false
set_option linter.unreachableTactic false
set_option linter.unusedVariables false
namespace Sys2Proof.Machine

/-! ## Micro -/

theorem loadStore_stored (s : State) (sg : Nat) (image : Nat) (hs : Stored s) : Stored (State.loadStore s sg image) := by
  unfold State.loadStore
  repeat' first
    | with_reducible assumption
    | with_reducible apply setMicro_stored

theorem loadStores_stored (s : State) (image : Nat) (hs : Stored s) : Stored (State.loadStores s image) := by
  unfold State.loadStores
  repeat' first
    | with_reducible assumption
    | with_reducible apply loadStore_stored
    | with_reducible refine foldl_stored ?_ ?_
    | (with_reducible intro s y hs; try dsimp only)
    | split

theorem microSignal_stored (s : State) (w : Nat) (hs : Stored s) : Stored (State.microSignal s w) := by
  unfold State.microSignal
  repeat' first
    | with_reducible assumption
    | with_reducible apply count_stored
    | split

theorem microSignals_stored (s : State) (hs : Stored s) : Stored (State.microSignals s) := by
  unfold State.microSignals
  repeat' first
    | with_reducible assumption
    | with_reducible apply microSignal_stored
    | with_reducible refine foldl_stored ?_ ?_
    | (with_reducible intro s y hs; try dsimp only)
    | split

theorem microClock_stored (s : State) (hs : Stored s) : Stored (State.microClock s) := by
  unfold State.microClock
  repeat' first
    | with_reducible assumption
    | with_reducible apply microSignals_stored
    | split
    | (fail_if_no_progress (dsimp only [Stored]; with_reducible refine stored_mk ?_))

theorem takeCommand_stored (s : State) (sg : Nat) (hs : Stored s) : Stored (State.takeCommand s sg) := by
  unfold State.takeCommand
  repeat' first
    | with_reducible assumption
    | with_reducible apply setMicro_stored
    | split
    | (dsimp only)

theorem selectArm_stored (s : State) (sg : Nat) (k : Nat) (hs : Stored s) : Stored (State.selectArm s sg k) := by
  unfold State.selectArm
  repeat' first
    | with_reducible assumption
    | with_reducible apply setMicro_stored

theorem microArm_stored (s : State) (sg : Nat) (pc : Nat) (hs : Stored s) : Stored (State.microArm s sg pc) := by
  unfold State.microArm
  repeat' first
    | with_reducible assumption
    | with_reducible apply setMicro_stored

theorem routineSignals_stored (s : State) (sg : Nat) (k : Nat) (l : Micro) (hs : Stored s) : Stored (State.routineSignals s sg k l) := by
  induction k generalizing s sg l with
  | zero =>
    unfold State.routineSignals
    repeat' first
      | with_reducible assumption
      | with_reducible apply microSignal_stored
  | succ k ih =>
    unfold State.routineSignals
    repeat' first
      | with_reducible assumption
      | with_reducible apply microSignal_stored
      | with_reducible apply ih
      | split
      | (dsimp only)

theorem trapRuns_stored (s : State) (sg : Nat) (cause : Nat) (hs : Stored s) : Stored (State.trapRuns s sg cause) := by
  unfold State.trapRuns
  repeat' first
    | with_reducible assumption
    | with_reducible apply routineSignals_stored
    | with_reducible apply setMicro_stored
    | split

theorem scrub_stored (s : State) (sg : Nat) (hs : Stored s) : Stored (State.scrub s sg) := by
  unfold State.scrub
  repeat' first
    | with_reducible assumption
    | with_reducible apply setMicro_stored

/-! ## Issue -/

theorem setAcq_stored (s : State) (u : Nat) (v : AcqUnit) (hs : Stored s) : Stored (State.setAcq s u v) := by
  unfold State.setAcq
  repeat' first
    | with_reducible assumption
    | (fail_if_no_progress (dsimp only [Stored]; with_reducible refine stored_mk ?_))

theorem syncSend_stored (s : State) (event : Nat) (mask : Nat) (start : Nat) (hs : Stored s) : Stored (State.syncSend s event mask start) := by
  unfold State.syncSend
  repeat' first
    | with_reducible assumption
    | with_reducible apply nextSeq_stored'
    | with_reducible apply offerFrame_stored
    | with_reducible refine foldl_stored ?_ ?_
    | (with_reducible intro s hs; try dsimp only)
    | split

theorem takeStream_stored (s : State) (sg : Nat) (hs : Stored s) : Stored2 (State.takeStream s sg) := by
  unfold State.takeStream
  repeat' first
    | with_reducible assumption
    | with_reducible apply report_stored
    | with_reducible apply setEngine_stored
    | with_reducible refine stored2_mk ?_
    | split

theorem takeStream_stored' (s : State) (sg : Nat) (hs : Stored s) : Stored (State.takeStream s sg).2 := stored2_out (takeStream_stored s sg hs)

theorem takeResident_stored (s : State) (sg : Nat) (k : Nat) (hs : Stored s) : Stored2 (State.takeResident s sg k) := by
  unfold State.takeResident
  repeat' first
    | with_reducible assumption
    | with_reducible apply reportPoison_stored
    | with_reducible refine stored2_mk ?_
    | split

theorem takeResident_stored' (s : State) (sg : Nat) (k : Nat) (hs : Stored s) : Stored (State.takeResident s sg k).2 := stored2_out (takeResident_stored s sg k hs)

theorem takeLine_stored (s : State) (sg : Nat) (c : Current) (hs : Stored s) : Stored2 (State.takeLine s sg c) := by
  unfold State.takeLine
  repeat' first
    | with_reducible assumption
    | with_reducible apply takeStream_stored'
    | with_reducible apply setEngine_stored
    | with_reducible apply takeResident_stored'
    | with_reducible refine of_eq2 (by assumption) ?_
    | with_reducible refine stored2_mk ?_
    | split

theorem takeLine_stored' (s : State) (sg : Nat) (c : Current) (hs : Stored s) : Stored (State.takeLine s sg c).2 := stored2_out (takeLine_stored s sg c hs)

theorem beginEffect_stored (s : State) (sg : Nat) (ia : Nat) (w : Nat) (m : Nat) (start : Nat) (hs : Stored s) : Stored (State.beginEffect s sg ia w m start) := by
  unfold State.beginEffect
  repeat' first
    | with_reducible assumption
    | with_reducible apply setAcq_stored
    | with_reducible apply setEngine_stored
    | with_reducible apply setReg_stored
    | with_reducible apply srcJump_stored
    | with_reducible apply srcStart_stored
    | with_reducible apply srcStop_stored
    | with_reducible apply syncSend_stored
    | with_reducible apply hfe
    | with_reducible refine foldl_stored ?_ ?_
    | (with_reducible intro x; refine with_fact (p := ∀ a b, Stored (x a b)) (fun hfe => ?_) ?_; (on_goal 1 => clear_value x); (on_goal 2 => subst x))
    | (with_reducible intro a; try dsimp only)
    | split
    | (dsimp only)

theorem readInstr_stored (s : State) (sg : Nat) (hs : Stored s) : Stored (State.readInstr s sg) := by
  unfold State.readInstr
  repeat' first
    | with_reducible assumption
    | with_reducible apply reportPoison_stored

theorem beginInstr_stored (s : State) (sg m start : Nat) (hs : Stored s) {t : State} (h : s.beginInstr sg m start = .ok t) :
    Stored t := by
  unfold State.beginInstr at h
  dsimp only at h
  split at h
  · cases h
  · split at h
    · cases h
    · cases h
      exact beginEffect_stored _ _ _ _ _ _ hs

theorem evaluateOne_stored (s : State) (sg : Nat) (c : Current) (pos : Nat) (from' : Nat) (rest : List (Nat × Nat)) (hs : Stored s) : Stored (State.evaluateOne s sg c pos from' rest) := by
  unfold State.evaluateOne
  repeat' first
    | with_reducible assumption
    | with_reducible apply setEngine_stored
    | split
    | (dsimp only)

theorem evaluate_stored (s : State) (sg : Nat) (c : Current) (k : Nat) (hs : Stored s) : Stored (State.evaluate s sg c k) := by
  induction k generalizing s sg c with
  | zero =>
    unfold State.evaluate
    repeat' first
      | with_reducible assumption
  | succ k ih =>
    unfold State.evaluate
    repeat' first
      | with_reducible assumption
      | with_reducible apply evaluateOne_stored
      | with_reducible apply ih
      | split
      | (dsimp only)

theorem evaluateNow_stored (s : State) (sg : Nat) (hs : Stored s) : Stored (State.evaluateNow s sg) := by
  unfold State.evaluateNow
  repeat' first
    | with_reducible assumption
    | with_reducible apply evaluate_stored
    | split

theorem reactEnd_stored (s : State) (sg : Nat) (c : Current) (splice : Option (Splice × Nat)) (hs : Stored s) : Stored (State.reactEnd s sg c splice) := by
  unfold State.reactEnd
  repeat' first
    | with_reducible assumption
    | with_reducible apply setReg_stored
    | with_reducible apply addSat_stored
    | with_reducible apply setEngine_stored
    | with_reducible apply selectArm_stored
    | split

theorem putSrc_stored (s : State) (k : Nat × SrcUnit × List Word) (hs : Stored s) : Stored (State.putSrc s k) := by
  unfold State.putSrc
  repeat' first
    | with_reducible assumption
    | with_reducible apply setReg_stored
    | with_reducible apply setSrc_stored
    | with_reducible refine foldl_stored ?_ ?_
    | (with_reducible intro s hs; try dsimp only)

theorem replaySrc_stored (s : State) (u : Nat) (l : List SubData) (hs : Stored s) : Stored3 (s.replaySrc u l) := by
  induction l generalizing s with
  | nil => exact stored3_mk hs
  | cons d t ih => exact stored3_mk (stored3_out (ih _ (srcPlay_stored' s u hs)))

theorem replaySrc_stored' (s : State) (u : Nat) (k : List SubData) (hs : Stored s) : Stored (State.replaySrc s u k).2.2 := stored3_out (replaySrc_stored s u k hs)

theorem cutAhead_stored (s : State) (sg : Nat) (m : Nat) (hs : Stored s) : Stored (State.cutAhead s sg m) := by
  unfold State.cutAhead
  repeat' first
    | with_reducible assumption
    | with_reducible apply setReg64_stored
    | with_reducible apply setEngine_stored
    | split
    | (dsimp only)

theorem haltLine_stored (s : State) (sg : Nat) (m : Nat) (hs : Stored s) : Stored (State.haltLine s sg m) := by
  unfold State.haltLine
  repeat' first
    | with_reducible assumption
    | with_reducible apply setFld_stored
    | with_reducible apply enterEnding_stored
    | with_reducible apply cutAhead_stored
    | split
    | (dsimp only)

theorem spliceCause_stored (s : State) (sg : Nat) (m : Nat) (cause : Nat) (hs : Stored s) : Stored (State.spliceCause s sg m cause) := by
  unfold State.spliceCause
  repeat' first
    | with_reducible assumption
    | with_reducible apply setEngine_stored
    | with_reducible apply abortCause_stored
    | with_reducible apply cutAhead_stored

theorem spliceLine_stored (s : State) (sg : Nat) (c : Current) (p : PartLine) (f : Splice) (hs : Stored s) : Stored (State.spliceLine s sg c p f) := by
  unfold State.spliceLine
  repeat' first
    | with_reducible assumption
    | with_reducible apply reactEnd_stored
    | with_reducible apply replaySrc_stored
    | with_reducible apply replaySrc_stored'
    | with_reducible apply spliceCause_stored
    | with_reducible apply haltLine_stored
    | with_reducible apply readInstr_stored
    | with_reducible apply setFld_stored
    | with_reducible apply putSrc_stored
    | with_reducible apply takeLine_stored
    | with_reducible apply setEngine_stored
    | with_reducible refine beginInstr_stored _ _ _ _ ?_ (by assumption)
    | with_reducible refine of_eq2 (by assumption) ?_
    | split
    | (dsimp only)

theorem noteReference_stored (s : State) (sg : Nat) (p : PartLine) (hs : Stored s) : Stored (State.noteReference s sg p) := by
  unfold State.noteReference
  repeat' first
    | with_reducible assumption
    | with_reducible apply setEngine_stored
    | split
    | (dsimp only)

theorem formatHere_stored (s : State) (sg : Nat) (p : PartLine) (hs : Stored s) : Stored (State.formatHere s sg p) := by
  unfold State.formatHere
  repeat' first
    | with_reducible assumption
    | with_reducible apply formatSub_stored
    | with_reducible apply setEngine_stored
    | with_reducible apply noteReference_stored

theorem formatNext_stored (s : State) (sg : Nat) (p : PartLine) (hs : Stored s) : Stored (State.formatNext s sg p) := by
  induction sg generalizing s p with
  | zero =>
    unfold State.formatNext
    repeat' first
      | with_reducible assumption
      | with_reducible apply formatHere_stored
      | with_reducible apply spliceLine_stored
      | with_reducible apply ih
      | split
  | succ sg ih =>
    unfold State.formatNext
    repeat' first
      | with_reducible assumption
      | with_reducible apply formatHere_stored
      | with_reducible apply spliceLine_stored
      | split

theorem continueAt_stored (s : State) (sg : Nat) (pc : Nat) (hs : Stored s) : Stored (State.continueAt s sg pc) := by
  unfold State.continueAt
  repeat' first
    | with_reducible assumption
    | with_reducible apply setEngine_stored

theorem boundary_stored (s : State) (sg : Nat) (m : Nat) (hs : Stored s) : Stored (State.boundary s sg m) := by
  unfold State.boundary
  repeat' first
    | with_reducible assumption
    | with_reducible apply reactEnd_stored
    | with_reducible apply setReg_stored
    | with_reducible apply setEngine_stored
    | with_reducible apply continueAt_stored
    | with_reducible apply selectArm_stored
    | split
    | (dsimp only)

theorem atBoundary_stored (s : State) (sg : Nat) (hs : Stored s) : Stored (State.atBoundary s sg) := by
  unfold State.atBoundary
  repeat' first
    | with_reducible assumption
    | with_reducible apply boundary_stored
    | with_reducible apply groupBoundary_stored

theorem acqLine_stored (s : State) (sg : Nat) (m : Nat) (start : Nat) (hs : Stored s) : Stored (State.acqLine s sg m start) := by
  unfold State.acqLine
  repeat' first
    | with_reducible assumption
    | with_reducible apply setAcq_stored
    | with_reducible refine foldl_stored ?_ ?_
    | (with_reducible intro s hs; try dsimp only)

theorem acqBurst_stored (s : State) (sg : Nat) (start : Nat) (hs : Stored s) : Stored (State.acqBurst s sg start) := by
  unfold State.acqBurst
  repeat' first
    | with_reducible assumption
    | with_reducible apply setAcq_stored
    | with_reducible refine foldl_stored ?_ ?_
    | (with_reducible intro s hs; try dsimp only)

theorem stopUnits_stored (s : State) (sg : Nat) (hs : Stored s) : Stored (State.stopUnits s sg) := by
  unfold State.stopUnits
  repeat' first
    | with_reducible assumption
    | with_reducible apply setModu_stored
    | with_reducible apply srcStop_stored
    | with_reducible refine foldl_stored ?_ ?_
    | (with_reducible intro s y hs; try dsimp only)
    | split

theorem idleCycle_stored (s : State) (sg : Nat) (hs : Stored s) : Stored (State.idleCycle s sg) := by
  unfold State.idleCycle
  repeat' first
    | with_reducible assumption
    | with_reducible apply safeCycle_stored
    | with_reducible apply groupBoundary_stored
    | with_reducible apply setEngine_stored
    | with_reducible apply stopUnits_stored
    | with_reducible apply holdGroup_stored
    | (with_reducible intro x; refine with_fact (p := Stored x) (fun hx => ?_) ?_; (on_goal 1 => clear_value x); (on_goal 2 => subst x))
    | (with_reducible intro x; clear_value x)
    | lift_lets
    | split

theorem noteCycle_stored (s : State) (sg : Nat) (m : Nat) (start : Nat) (hs : Stored s) : Stored (State.noteCycle s sg m start) := by
  unfold State.noteCycle
  repeat' first
    | with_reducible assumption
    | with_reducible apply acqLine_stored
    | with_reducible apply setReg64_stored
    | with_reducible apply setEngine_stored

theorem emitLine_stored (s : State) (sg : Nat) (m : Nat) (start : Nat) (c : Current) (bytes : List Byte) (subs : List SubData) (srcs : List (Nat × SrcUnit × List Word)) (hs : Stored s) : Stored (State.emitLine s sg m start c bytes subs srcs) := by
  unfold State.emitLine
  repeat' first
    | with_reducible assumption
    | with_reducible apply setFld_stored
    | with_reducible apply takeCommand_stored
    | with_reducible apply setEngine_stored
    | with_reducible apply count_stored

theorem layLine_stored (s : State) (sg : Nat) (m : Nat) (start : Nat) (hs : Stored s) : Stored2 (State.layLine s sg m start) := by
  unfold State.layLine
  repeat' first
    | with_reducible assumption
    | with_reducible apply emitLine_stored
    | with_reducible apply playLine_stored'
    | with_reducible apply takeLine_stored
    | with_reducible refine of_eq2 (by assumption) ?_
    | with_reducible refine stored2_mk ?_
    | split
    | (dsimp only)

theorem layLine_stored' (s : State) (sg : Nat) (m : Nat) (start : Nat) (hs : Stored s) : Stored (State.layLine s sg m start).2 := stored2_out (layLine_stored s sg m start hs)

theorem beginLine_stored (s : State) (sg : Nat) (m : Nat) (start : Nat) (hs : Stored s) : Stored2 (State.beginLine s sg m start) := by
  unfold State.beginLine
  repeat' first
    | with_reducible assumption
    | with_reducible apply layLine_stored'
    | with_reducible apply readInstr_stored
    | with_reducible refine beginInstr_stored _ _ _ _ ?_ (by assumption)
    | with_reducible refine stored2_mk ?_
    | split
    | (dsimp only)

theorem beginLine_stored' (s : State) (sg : Nat) (m : Nat) (start : Nat) (hs : Stored s) : Stored (State.beginLine s sg m start).2 := stored2_out (beginLine_stored s sg m start hs)

theorem stopLine_stored (s : State) (sg : Nat) (m : Nat) (start : Nat) (cause : Nat) (hs : Stored s) : Stored (State.stopLine s sg m start cause) := by
  unfold State.stopLine
  repeat' first
    | with_reducible assumption
    | with_reducible apply safeCycle_stored
    | with_reducible apply stopUnits_stored
    | with_reducible apply abortCause_stored
    | with_reducible apply cutAhead_stored
    | (with_reducible intro x; refine with_fact (p := Stored x) (fun hx => ?_) ?_; (on_goal 1 => clear_value x); (on_goal 2 => subst x))
    | lift_lets
    | split

theorem settleAhead_stored (s : State) (sg : Nat) (a : Ahead) (hs : Stored s) : Stored (State.settleAhead s sg a) := by
  unfold State.settleAhead
  repeat' first
    | with_reducible assumption
    | with_reducible apply safeCycle_stored
    | with_reducible apply haltLine_stored
    | with_reducible apply boundary_stored
    | with_reducible apply beginLine_stored
    | with_reducible apply stopLine_stored
    | (with_reducible intro x; refine with_fact (p := Stored2 x) (fun hx => with_fact (p := Stored x.2) (fun hy => ?_) (stored2_out hx)) ?_; (on_goal 1 => clear_value x); (on_goal 2 => subst x))
    | lift_lets
    | split

theorem advanceLine_stored (s : State) (sg : Nat) (k : Nat) (hs : Stored s) : Stored (State.advanceLine s sg k) := by
  induction k generalizing s sg with
  | zero =>
    unfold State.advanceLine
    repeat' first
      | with_reducible assumption
      | with_reducible apply settleAhead_stored
      | with_reducible apply formatNext_stored
      | with_reducible apply atCycle_stored
      | with_reducible apply setEngine_stored
      | with_reducible apply evaluateNow_stored
      | with_reducible apply ih
      | with_reducible refine foldl_stored ?_ ?_
      | (with_reducible intro x; refine with_fact (p := Stored x) (fun hx => ?_) ?_; (on_goal 1 => clear_value x); (on_goal 2 => subst x))
      | (with_reducible intro x; refine with_fact (p := Stored2 x) (fun hx => with_fact (p := Stored x.2) (fun hy => ?_) (stored2_out hx)) ?_; (on_goal 1 => clear_value x); (on_goal 2 => subst x))
      | (with_reducible intro x; refine with_fact (p := Stored3 x) (fun hx => with_fact (p := Stored x.2.2) (fun hy => ?_) (stored3_out hx)) ?_; (on_goal 1 => clear_value x); (on_goal 2 => subst x))
      | (with_reducible intro x; clear_value x)
      | lift_lets
      | (with_reducible intro s y hs; try dsimp only)
      | (with_reducible intro s hs; try dsimp only)
      | split
      | (dsimp only)
      | (fail_if_no_progress (dsimp only [Stored]; with_reducible refine stored_mk ?_))
  | succ k ih =>
    unfold State.advanceLine
    repeat' first
      | with_reducible assumption
      | with_reducible apply settleAhead_stored
      | with_reducible apply formatNext_stored
      | with_reducible apply atCycle_stored
      | with_reducible apply setEngine_stored
      | with_reducible apply evaluateNow_stored
      | with_reducible apply ih
      | (with_reducible intro x; refine with_fact (p := Stored x) (fun hx => ?_) ?_; (on_goal 1 => clear_value x); (on_goal 2 => subst x))
      | (with_reducible intro x; clear_value x)
      | lift_lets
      | (with_reducible intro s hs; try dsimp only)
      | split

theorem advance_stored (s : State) (sg : Nat) (hs : Stored s) : Stored (State.advance s sg) := by
  unfold State.advance
  repeat' first
    | with_reducible assumption
    | with_reducible apply advanceLine_stored

theorem issueCurrent_stored (s : State) (sg : Nat) (m : Nat) (start : Nat) (hs : Stored s) : Stored (State.issueCurrent s sg m start) := by
  unfold State.issueCurrent
  repeat' first
    | with_reducible assumption
    | with_reducible apply layLine_stored'
    | with_reducible apply haltLine_stored
    | with_reducible apply noteCycle_stored
    | with_reducible apply stopLine_stored
    | with_reducible apply setEngine_stored
    | with_reducible apply advance_stored
    | split
    | (dsimp only)

theorem issueRun_stored (s : State) (sg : Nat) (hs : Stored s) : Stored (s.issueRun sg) := by
  have h0 := atBoundary_stored s sg hs
  unfold State.issueRun
  dsimp only
  generalize s.atBoundary sg = a at h0
  have h1 : Stored (if (a.engine sg).cur.isNone = true then a.readInstr sg else a) := ite_stored (readInstr_stored _ _ h0) h0
  generalize (if (a.engine sg).cur.isNone = true then a.readInstr sg else a) = b at h1
  split
  · exact stopLine_stored _ _ _ _ _ (setEngine_stored _ _ _ h1)
  · rename_i heq
    split at heq
    · exact issueCurrent_stored _ _ _ _ (beginInstr_stored _ _ _ _ h1 heq)
    · cases heq
      exact issueCurrent_stored _ _ _ _ h1

theorem issueAhead_stored (s : State) (sg : Nat) (hs : Stored s) : Stored (State.issueAhead s sg) := by
  unfold State.issueAhead
  repeat' first
    | with_reducible assumption
    | with_reducible apply noteCycle_stored
    | with_reducible apply groupBoundary_stored
    | with_reducible apply setEngine_stored
    | split

theorem vectorCycle_stored (s : State) (sg : Nat) (hs : Stored s) : Stored (State.vectorCycle s sg) := by
  unfold State.vectorCycle
  repeat' first
    | with_reducible assumption
    | with_reducible apply issueAhead_stored
    | with_reducible apply idleCycle_stored
    | with_reducible apply issueRun_stored
    | with_reducible apply advance_stored
    | split
    | (dsimp only)

theorem runInstr_stored (s : State) (sg : Nat) (op : Nat) (x : Option Nat) (hs : Stored s) : Stored (State.runInstr s sg op x) := by
  unfold State.runInstr
  repeat' first
    | with_reducible assumption
    | with_reducible apply issueRun_stored
    | with_reducible apply advance_stored
    | split

theorem clearCounts_stored (s : State) (sg : Nat) (hs : Stored s) : Stored (State.clearCounts s sg) := by
  unfold State.clearCounts
  repeat' first
    | with_reducible assumption
    | with_reducible apply resetRegs_stored
    | with_reducible apply setFld_stored
    | with_reducible apply setReg_stored
    | with_reducible refine foldl_stored ?_ ?_
    | (with_reducible intro s y hs; try dsimp only)

theorem startBurst_stored (s : State) (sg : Nat) (start : Nat) (hs : Stored s) : Stored (State.startBurst s sg start) := by
  unfold State.startBurst
  repeat' first
    | with_reducible assumption
    | with_reducible apply setReg_stored
    | with_reducible apply clearCounts_stored
    | with_reducible apply setReg64_stored
    | with_reducible apply addMod_stored
    | with_reducible apply acqBurst_stored
    | with_reducible apply srcStop_stored
    | with_reducible apply cutSafe_stored
    | with_reducible apply setFld_stored
    | with_reducible apply cvStart_stored
    | with_reducible apply setEngine_stored
    | with_reducible apply groupValues_stored
    | with_reducible apply modStart_stored
    | with_reducible apply latchJumps_stored
    | with_reducible refine foldl_stored ?_ ?_
    | (with_reducible intro s y hs; try dsimp only)
    | split

/-! ## Log -/

theorem setQuad_stored (s : State) (q : Nat) (v : Quad) (hs : Stored s) : Stored (State.setQuad s q v) := by
  unfold State.setQuad
  repeat' first
    | with_reducible assumption
    | (fail_if_no_progress (dsimp only [Stored]; with_reducible refine stored_mk ?_))

theorem setLog_stored (s : State) (st : Nat) (v : LogStream) (hs : Stored s) : Stored (State.setLog s st v) := by
  unfold State.setLog
  repeat' first
    | with_reducible assumption
    | (fail_if_no_progress (dsimp only [Stored]; with_reducible refine stored_mk ?_))

theorem freeBytes_stored (s : State) (n : Nat) (hs : Stored s) : Stored2 (State.freeBytes s n) := by
  unfold State.freeBytes
  repeat' first
    | with_reducible assumption
    | with_reducible apply drawn_stored
    | with_reducible refine stored2_mk ?_

theorem freeBytes_stored' (s : State) (n : Nat) (hs : Stored s) : Stored (State.freeBytes s n).2 := stored2_out (freeBytes_stored s n hs)

theorem loseRecord_stored (s : State) (st : Nat) (rec : Nat) (hs : Stored s) : Stored (State.loseRecord s st rec) := by
  unfold State.loseRecord
  repeat' first
    | with_reducible assumption
    | with_reducible apply addSat_stored
    | with_reducible apply setFld_stored
    | with_reducible apply setLog_stored

theorem denyRecord_stored (s : State) (st : Nat) (rec : Nat) (own : Bool) (hs : Stored s) : Stored (State.denyRecord s st rec own) := by
  unfold State.denyRecord
  repeat' first
    | with_reducible assumption
    | with_reducible apply loseRecord_stored
    | with_reducible apply setLog_stored

theorem showFull_stored (s : State) (st : Nat) (hs : Stored s) : Stored (State.showFull s st) := by
  unfold State.showFull
  repeat' first
    | with_reducible assumption
    | with_reducible apply setFld_stored

theorem regionPut_stored (s : State) (st : Nat) (bytes : List Byte) (hs : Stored s) : Stored (State.regionPut s st bytes) := by
  unfold State.regionPut
  repeat' first
    | with_reducible assumption
    | with_reducible apply setFld_stored
    | with_reducible apply setReg_stored
    | with_reducible apply showFull_stored
    | with_reducible apply spaceWrite_stored
    | split

theorem sealChunk_stored (s : State) (st : Nat) (hs : Stored s) : Stored (State.sealChunk s st) := by
  unfold State.sealChunk
  repeat' first
    | with_reducible assumption
    | with_reducible apply freeBytes_stored'
    | with_reducible apply regionPut_stored
    | with_reducible apply setLog_stored
    | split
    | (dsimp only)

theorem storeRecord_stored (s : State) (st : Nat) (rec : Nat) (hs : Stored s) : Stored (State.storeRecord s st rec) := by
  unfold State.storeRecord
  repeat' first
    | with_reducible assumption
    | with_reducible apply regionPut_stored
    | with_reducible apply sealChunk_stored
    | with_reducible apply setLog_stored
    | split
    | (dsimp only)

theorem packFail_stored (s : State) (p : Nat) (hs : Stored s) : Stored (State.packFail s p) := by
  unfold State.packFail
  repeat' first
    | with_reducible assumption
    | with_reducible apply nextSeq_stored'
    | with_reducible apply offerFrame_stored
    | with_reducible apply setPort_stored

theorem routeTo_stored (s : State) (rec : Nat) (p : Nat) (hs : Stored s) : Stored (State.routeTo s rec p) := by
  unfold State.routeTo
  repeat' first
    | with_reducible assumption
    | with_reducible apply addSat_stored
    | with_reducible apply packFail_stored
    | with_reducible apply setPort_stored
    | split
    | (dsimp only)

theorem routeRecord_stored (s : State) (st : Nat) (rec : Nat) (hs : Stored s) : Stored (State.routeRecord s st rec) := by
  unfold State.routeRecord
  repeat' first
    | with_reducible assumption
    | with_reducible apply routeTo_stored
    | with_reducible refine foldl_stored ?_ ?_
    | (with_reducible intro s hs; try dsimp only)

theorem enterStaging_stored (s : State) (st : Nat) (rec : Nat) (hs : Stored s) : Stored (State.enterStaging s st rec) := by
  unfold State.enterStaging
  repeat' first
    | with_reducible assumption
    | with_reducible apply poolWrite_stored
    | with_reducible apply setLog_stored
    | split

theorem accept_stored (s : State) (st : Nat) (rec : Nat) (own : Bool) (hs : Stored s) : Stored (State.accept s st rec own) := by
  unfold State.accept
  repeat' first
    | with_reducible assumption
    | with_reducible apply addSat_stored
    | with_reducible apply enterStaging_stored
    | with_reducible apply routeRecord_stored
    | with_reducible apply storeRecord_stored
    | split

theorem writeLost_stored (s : State) (st : Nat) (hs : Stored s) : Stored (State.writeLost s st) := by
  unfold State.writeLost
  repeat' first
    | with_reducible assumption
    | with_reducible apply setLog_stored
    | with_reducible apply accept_stored
    | split
    | (dsimp only)

theorem turnAway_stored (s : State) (st : Nat) (rec : Nat) (own : Bool) (hs : Stored s) : Stored (State.turnAway s st rec own) := by
  unfold State.turnAway
  repeat' first
    | with_reducible assumption
    | with_reducible apply loseRecord_stored
    | with_reducible apply denyRecord_stored
    | split

theorem stageRecord_stored (s : State) (st : Nat) (rec : Nat) (own : Bool) (hs : Stored s) : Stored (State.stageRecord s st rec own) := by
  unfold State.stageRecord
  repeat' first
    | with_reducible assumption
    | with_reducible apply loseRecord_stored
    | with_reducible apply writeLost_stored
    | with_reducible apply turnAway_stored
    | with_reducible apply accept_stored
    | split
    | (dsimp only)

theorem drainOne_stored (s : State) (st : Nat) (rec : Nat) (hs : Stored s) : Stored (State.drainOne s st rec) := by
  unfold State.drainOne
  repeat' first
    | with_reducible assumption
    | with_reducible apply storeRecord_stored
    | with_reducible apply turnAway_stored
    | split

theorem drainRecord_stored (s : State) (st : Nat) (hs : Stored s) : Stored (State.drainRecord s st) := by
  unfold State.drainRecord
  repeat' first
    | with_reducible assumption
    | with_reducible apply writeLost_stored
    | with_reducible apply setLog_stored
    | with_reducible apply drainOne_stored
    | split
    | (dsimp only)

theorem drainNext_stored (s : State) (st : Nat) (hs : Stored s) : Stored (State.drainNext s st) := by
  unfold State.drainNext
  repeat' first
    | with_reducible assumption
    | with_reducible apply drainRecord_stored
    | split

theorem retryDenied_stored (s : State) (st : Nat) (hs : Stored s) : Stored (State.retryDenied s st) := by
  unfold State.retryDenied
  repeat' first
    | with_reducible assumption
    | with_reducible apply setReg_stored
    | with_reducible apply setLog_stored
    | with_reducible apply setFld_stored
    | with_reducible apply stageRecord_stored
    | with_reducible apply drainOne_stored
    | with_reducible refine foldl_stored ?_ ?_
    | (with_reducible intro s y hs; try dsimp only)
    | split

theorem intake_stored (s : State) (ch : Nat) (pcycle : Nat) (st : Nat) (rec : Nat) (hs : Stored s) : Stored (State.intake s ch pcycle st rec) := by
  unfold State.intake
  repeat' first
    | with_reducible assumption
    | with_reducible apply loseRecord_stored
    | with_reducible apply setQuad_stored
    | split
    | (dsimp only)

/-! ## Capture -/

theorem setCpx_stored (s : State) (p : Nat) (v : Cpx) (hs : Stored s) : Stored (State.setCpx s p v) := by
  unfold State.setCpx
  repeat' first
    | with_reducible assumption
    | (fail_if_no_progress (dsimp only [Stored]; with_reducible refine stored_mk ?_))

theorem macLane_stored (s : State) (p : Nat) (j : Job) (i : Nat) (l : Nat) (hs : Stored s) : Stored (State.macLane s p j i l) := by
  unfold State.macLane
  repeat' first
    | with_reducible assumption
    | with_reducible apply setCpx_stored
    | with_reducible apply setFld_stored
    | split
    | (dsimp only)

theorem writeD_stored (s : State) (p : Nat) (j : Job) (i : Nat) (v : Nat) (hs : Stored s) : Stored (State.writeD s p j i v) := by
  unfold State.writeD
  repeat' first
    | with_reducible assumption
    | with_reducible apply poolWrite_stored

theorem histOne_stored (s : State) (p : Nat) (j : Job) (i : Nat) (hs : Stored s) : Stored (State.histOne s p j i) := by
  unfold State.histOne
  repeat' first
    | with_reducible assumption
    | with_reducible apply setCpx_stored
    | with_reducible apply setFld_stored
    | with_reducible apply writeD_stored
    | split
    | (dsimp only)

theorem minmaxOne_stored (s : State) (p : Nat) (j : Job) (i : Nat) (hs : Stored s) : Stored (State.minmaxOne s p j i) := by
  unfold State.minmaxOne
  repeat' first
    | with_reducible assumption
    | with_reducible apply setCpx_stored

theorem moveOne_stored (s : State) (p : Nat) (j : Job) (e : Nat) (i : Nat) (hs : Stored s) : Stored (State.moveOne s p j e i) := by
  unfold State.moveOne
  repeat' first
    | with_reducible assumption
    | with_reducible apply setCpx_stored
    | with_reducible apply setFld_stored
    | with_reducible apply writeD_stored
    | split

theorem moveBlock_stored (s : State) (p : Nat) (j : Job) (is : List Nat) (hs : Stored s) : Stored (State.moveBlock s p j is) := by
  unfold State.moveBlock
  repeat' first
    | with_reducible assumption
    | with_reducible apply moveOne_stored
    | with_reducible apply poolWrite_stored
    | with_reducible apply setCpx_stored
    | with_reducible refine foldl_stored ?_ ?_
    | (with_reducible intro s hs; try dsimp only)

theorem jobGroup_stored (s : State) (p : Nat) (j : Job) (is : List Nat) (hs : Stored s) : Stored (State.jobGroup s p j is) := by
  unfold State.jobGroup
  repeat' first
    | with_reducible assumption
    | with_reducible apply histOne_stored
    | with_reducible apply macLane_stored
    | with_reducible apply minmaxOne_stored
    | with_reducible apply moveBlock_stored
    | with_reducible apply moveOne_stored
    | with_reducible refine foldl_stored ?_ ?_
    | (with_reducible intro s y hs; try dsimp only)
    | split

theorem showElems_stored (s : State) (p : Nat) (hs : Stored s) : Stored (State.showElems s p) := by
  unfold State.showElems
  repeat' first
    | with_reducible assumption
    | with_reducible apply setReg64_stored

theorem jobStart_stored (s : State) (p : Nat) (slot : Nat) (j : Job) (hs : Stored s) : Stored (State.jobStart s p slot j) := by
  unfold State.jobStart
  repeat' first
    | with_reducible assumption
    | with_reducible apply setCpx_stored
    | with_reducible apply setFld_stored
    | with_reducible apply showElems_stored
    | with_reducible apply writeD_stored
    | with_reducible refine foldl_stored ?_ ?_
    | (with_reducible intro s hs; try dsimp only)
    | split

theorem cbReduce_stored (s : State) (p : Nat) (k : Nat) (hs : Stored s) : Stored (State.cbReduce s p k) := by
  unfold State.cbReduce
  repeat' first
    | with_reducible assumption
    | with_reducible apply setReg_stored
    | split
    | (dsimp only)

theorem applyHeld_stored (s : State) (p : Nat) (hs : Stored s) : Stored (State.applyHeld s p) := by
  unfold State.applyHeld
  repeat' first
    | with_reducible assumption
    | with_reducible apply cbReduce_stored
    | with_reducible apply setCpx_stored
    | with_reducible apply setReg_stored
    | with_reducible refine foldl_stored ?_ ?_
    | (with_reducible intro s y hs; try dsimp only)
    | split

theorem advancePtrs_stored (s : State) (p : Nat) (j : Job) (hs : Stored s) : Stored (State.advancePtrs s p j) := by
  unfold State.advancePtrs
  repeat' first
    | with_reducible assumption
    | with_reducible apply setReg_stored
    | with_reducible refine foldl_stored ?_ ?_
    | (with_reducible intro s y hs; try dsimp only)
    | split

theorem cpxIdle_stored (s : State) (p : Nat) (hs : Stored s) : Stored (State.cpxIdle s p) := by
  unfold State.cpxIdle
  repeat' first
    | with_reducible assumption
    | with_reducible apply applyHeld_stored
    | with_reducible apply setCpx_stored
    | with_reducible apply setFld_stored
    | split
    | (dsimp only)

theorem jobCancel_stored (s : State) (p : Nat) (k : Nat) (j : Job) (hs : Stored s) : Stored (State.jobCancel s p k j) := by
  unfold State.jobCancel
  repeat' first
    | with_reducible assumption
    | with_reducible apply poolWrite_stored
    | with_reducible apply cpxIdle_stored
    | with_reducible apply workDone_stored

theorem jobFail_stored (s : State) (p : Nat) (k : Nat) (j : Job) (poolError : Bool) (hs : Stored s) : Stored (State.jobFail s p k j poolError) := by
  unfold State.jobFail
  repeat' first
    | with_reducible assumption
    | with_reducible apply poolWrite_stored
    | with_reducible apply cpxIdle_stored
    | with_reducible apply workDone_stored
    | split

theorem jobInterrupt_stored (s : State) (p : Nat) (k : Nat) (j : Job) (poolError : Bool) (hs : Stored s) : Stored (State.jobInterrupt s p k j poolError) := by
  unfold State.jobInterrupt
  repeat' first
    | with_reducible assumption
    | with_reducible apply setCpx_stored
    | with_reducible apply jobFail_stored
    | with_reducible apply interrupt_stored
    | split

theorem jobRestore_stored (s : State) (p : Nat) (j : Job) (journal : List Nat) (hs : Stored s) : Stored (State.jobRestore s p j journal) := by
  unfold State.jobRestore
  repeat' first
    | with_reducible assumption
    | with_reducible apply setCpx_stored
    | with_reducible apply setFld_stored
    | with_reducible apply writeD_stored
    | with_reducible refine foldl_stored ?_ ?_
    | (with_reducible intro s y hs; try dsimp only)

theorem jobRun_stored (s : State) (p : Nat) (j : Job) (k : Nat) (hs : Stored s) : Stored (State.jobRun s p j k) := by
  induction k generalizing s p j with
  | zero =>
    unfold State.jobRun
    repeat' first
      | with_reducible assumption
      | with_reducible apply setCpx_stored
      | with_reducible apply jobGroup_stored
      | with_reducible apply reportPoison_stored
      | with_reducible apply showElems_stored
      | with_reducible apply jobInterrupt_stored
      | with_reducible apply ih
      | with_reducible refine foldl_stored ?_ ?_
      | (with_reducible intro s y hs; try dsimp only)
      | (with_reducible intro s hs; try dsimp only)
  | succ k ih =>
    unfold State.jobRun
    repeat' first
      | with_reducible assumption
      | with_reducible apply setCpx_stored
      | with_reducible apply jobGroup_stored
      | with_reducible apply reportPoison_stored
      | with_reducible apply showElems_stored
      | with_reducible apply jobInterrupt_stored
      | with_reducible apply ih
      | split
      | (dsimp only)

theorem jobEnd_stored (s : State) (p : Nat) (slot : Nat) (j : Job) (hs : Stored s) : Stored (State.jobEnd s p slot j) := by
  unfold State.jobEnd
  repeat' first
    | with_reducible assumption
    | with_reducible apply addSat_stored
    | with_reducible apply advancePtrs_stored
    | with_reducible apply cpxIdle_stored
    | with_reducible apply poolWrite_stored
    | with_reducible apply workDone_stored

theorem cbWrite_stored (s : State) (p : Nat) (k : Nat) (which : Nat) (v : Nat) (hs : Stored s) : Stored (State.cbWrite s p k which v) := by
  unfold State.cbWrite
  repeat' first
    | with_reducible assumption
    | with_reducible apply cbReduce_stored
    | with_reducible apply regFault_stored
    | with_reducible apply setCpx_stored
    | with_reducible apply setReg_stored
    | split

end Sys2Proof.Machine
end

