-- ==== Sys2Proof/Laws/KeepTasks.lean ====
section
/-! SUPPORT. The stores stay in canonical form through allocations, sections, captures, intervals, tasks and rings. -/
set_option linter.unusedTactic false
set_option linter.unreachableTactic false
set_option linter.unusedVariables false
namespace Sys2Proof.Machine

/-! ## Alloc -/

theorem setPoolProt_stored (s : State) (k : Nat) (b : Bool) (hs : Stored s) : Stored (State.setPoolProt s k b) := by
  unfold State.setPoolProt
  repeat' first
    | with_reducible assumption
    | with_reducible apply setFld_stored

theorem setDeepProt_stored (s : State) (k : Nat) (b : Bool) (hs : Stored s) : Stored (State.setDeepProt s k b) := by
  unfold State.setDeepProt
  repeat' first
    | with_reducible assumption
    | with_reducible apply setReg_stored

theorem poolCreate_stored (s : State) (k : Nat) (hs : Stored s) : Stored (State.poolCreate s k) := by
  unfold State.poolCreate
  repeat' first
    | with_reducible assumption
    | with_reducible apply setFld_stored
    | with_reducible apply setReg_stored
    | split
    | (dsimp only)

theorem poolFree_stored (s : State) (k : Nat) (hs : Stored s) : Stored (State.poolFree s k) := by
  unfold State.poolFree
  repeat' first
    | with_reducible assumption
    | with_reducible apply setFld_stored
    | with_reducible apply setReg_stored
    | split

theorem deepCreate_stored (s : State) (k : Nat) (hs : Stored s) : Stored (State.deepCreate s k) := by
  unfold State.deepCreate
  repeat' first
    | with_reducible assumption
    | with_reducible apply setFld_stored
    | with_reducible apply setReg_stored
    | split
    | (dsimp only)

theorem deepFree_stored (s : State) (k : Nat) (hs : Stored s) : Stored (State.deepFree s k) := by
  unfold State.deepFree
  repeat' first
    | with_reducible assumption
    | with_reducible apply resetRegs_stored
    | with_reducible apply setFld_stored
    | split

/-! ## Load -/

theorem committed_stored (s : State) (hs : Stored s) : Stored (State.committed s) := by
  unfold State.committed
  repeat' first
    | with_reducible assumption
    | with_reducible apply overlay_stored
    | with_reducible refine foldl_stored ?_ ?_
    | (with_reducible intro s hs; try dsimp only)

theorem deepErase_stored (s : State) (a : DeepAlloc) (hs : Stored s) : Stored (State.deepErase s a) := by
  unfold State.deepErase
  repeat' first
    | with_reducible assumption
    | with_reducible apply deepForget_stored
    | with_reducible apply setDram_stored
    | with_reducible refine foldl_stored ?_ ?_
    | (with_reducible intro s y hs; try dsimp only)
    | split

theorem dropSection_stored (s : State) (pa : Nat) (da : Option Nat) (hs : Stored s) : Stored (State.dropSection s pa da) := by
  unfold State.dropSection
  repeat' first
    | with_reducible assumption
    | with_reducible apply deepErase_stored
    | with_reducible apply poolErase_stored
    | with_reducible apply setDeepProt_stored
    | with_reducible apply setPoolProt_stored
    | (with_reducible intro x; refine with_fact (p := Stored x) (fun hx => ?_) ?_; (on_goal 1 => clear_value x); (on_goal 2 => subst x))
    | split
    | (dsimp only)

theorem bindSection_stored (s : State) (sg : Nat) (c : Section) (hs : Stored s) : Stored (State.bindSection s sg c) := by
  unfold State.bindSection
  repeat' first
    | with_reducible assumption
    | with_reducible apply setEngine_stored
    | with_reducible apply setFld_stored
    | with_reducible apply setReg_stored
    | with_reducible refine foldl_stored ?_ ?_
    | (with_reducible intro s hs; try dsimp only)

theorem loadWork_stored (s : State) (slot : Nat) (hs : Stored s) : Stored (State.loadWork s slot) := by
  unfold State.loadWork
  repeat' first
    | with_reducible assumption
    | with_reducible apply addSat_stored
    | with_reducible apply bindSection_stored
    | with_reducible apply deepWriteAt_stored
    | with_reducible apply dropSection_stored
    | with_reducible apply poolWrite_stored
    | with_reducible apply setDeepProt_stored
    | with_reducible apply setPoolProt_stored
    | with_reducible apply workDone_stored
    | (with_reducible intro x; refine with_fact (p := Stored x) (fun hx => ?_) ?_; (on_goal 1 => clear_value x); (on_goal 2 => subst x))
    | split
    | (dsimp only)

theorem unloadSection_stored (s : State) (sg : Nat) (hs : Stored s) : Stored (State.unloadSection s sg) := by
  unfold State.unloadSection
  repeat' first
    | with_reducible assumption
    | with_reducible apply dropSection_stored
    | with_reducible apply resetRegs_stored
    | with_reducible apply setEngine_stored
    | with_reducible apply setFld_stored
    | split

/-! ## Compare -/

theorem crossed_stored (s : State) (ch : Nat) (v : Nat) (hs : Stored s) : Stored (State.crossed s ch v) := by
  unfold State.crossed
  repeat' first
    | with_reducible assumption
    | with_reducible apply addSat_stored
    | with_reducible apply count_stored
    | with_reducible apply setFld_stored
    | with_reducible apply signal_stored
    | split

theorem firstFail_stored (s : State) (t : Strobe) (v : Nat) (site : Nat) (hs : Stored s) : Stored (State.firstFail s t v site) := by
  unfold State.firstFail
  repeat' first
    | with_reducible assumption
    | with_reducible apply setEngine_stored
    | with_reducible apply setReg_stored
    | split
    | (dsimp only)

theorem offerFail_stored (s : State) (t : Strobe) (v : Nat) (site : Nat) (again : Bool) (hs : Stored s) : Stored (State.offerFail s t v site again) := by
  unfold State.offerFail
  repeat' first
    | with_reducible assumption
    | with_reducible apply addSat_stored
    | with_reducible apply intake_stored
    | with_reducible apply setEngine_stored
    | split
    | (dsimp only)

theorem acqSample_stored (s : State) (t : Strobe) (v : Nat) (hs : Stored s) : Stored (State.acqSample s t v) := by
  unfold State.acqSample
  repeat' first
    | with_reducible assumption
    | with_reducible apply setAcq_stored
    | with_reducible refine foldl_stored ?_ ?_
    | (with_reducible intro s y hs; try dsimp only)

theorem acqFail_stored (s : State) (t : Strobe) (hs : Stored s) : Stored (State.acqFail s t) := by
  unfold State.acqFail
  repeat' first
    | with_reducible assumption
    | with_reducible apply setAcq_stored
    | with_reducible refine foldl_stored ?_ ?_
    | (with_reducible intro s y hs; try dsimp only)

theorem recordFail_stored (s : State) (t : Strobe) (v : Nat) (hs : Stored s) : Stored (State.recordFail s t v) := by
  unfold State.recordFail
  repeat' first
    | with_reducible assumption
    | with_reducible apply acqFail_stored
    | with_reducible apply addSat_stored
    | with_reducible apply count_stored
    | with_reducible apply firstFail_stored
    | with_reducible apply offerFail_stored
    | with_reducible apply setEngine_stored
    | with_reducible apply setFld_stored
    | split

theorem matchStrobe_stored (s : State) (t : Strobe) (fail : Bool) (hs : Stored s) : Stored (State.matchStrobe s t fail) := by
  unfold State.matchStrobe
  repeat' first
    | with_reducible assumption
    | with_reducible apply setEngine_stored
    | split
    | (dsimp only)

theorem reactSample_stored (s : State) (t : Strobe) (v : Nat) (hs : Stored s) : Stored (State.reactSample s t v) := by
  unfold State.reactSample
  repeat' first
    | with_reducible assumption
    | with_reducible apply setEngine_stored
    | with_reducible refine foldl_stored ?_ ?_
    | (with_reducible intro s hs; try dsimp only)
    | split
    | (dsimp only)

theorem advanceWatch_stored (s : State) (sg : Nat) (w : LateReact) (hs : Stored s) : Stored (State.advanceWatch s sg w) := by
  unfold State.advanceWatch
  repeat' first
    | with_reducible assumption
    | with_reducible apply addSat_stored
    | with_reducible apply setEngine_stored
    | with_reducible apply setFld_stored
    | split
    | (dsimp only)

theorem lateSample_stored (s : State) (t : Strobe) (v : Nat) (hs : Stored s) : Stored (State.lateSample s t v) := by
  unfold State.lateSample
  repeat' first
    | with_reducible assumption
    | with_reducible apply advanceWatch_stored
    | with_reducible apply setEngine_stored
    | with_reducible refine foldl_stored ?_ ?_
    | (with_reducible intro s y hs; try dsimp only)
    | split
    | (dsimp only)

theorem countStrobe_stored (s : State) (t : Strobe) (hs : Stored s) : Stored (State.countStrobe s t) := by
  unfold State.countStrobe
  repeat' first
    | with_reducible assumption
    | with_reducible apply setCv_stored
    | with_reducible refine foldl_stored ?_ ?_
    | (with_reducible intro s y hs; try dsimp only)

theorem cvDrain_stored (s : State) (u : Nat) (k : Nat) (hs : Stored s) : Stored (State.cvDrain s u k) := by
  induction k generalizing s u with
  | zero =>
    unfold State.cvDrain
    repeat' first
      | with_reducible assumption
      | with_reducible apply cvData_stored
      | with_reducible apply recordFail_stored
      | with_reducible apply cvCheckField_stored
      | with_reducible apply cvCheckField_stored'
      | with_reducible apply countStrobe_stored
      | with_reducible apply setCv_stored
      | with_reducible apply ih
      | with_reducible refine foldl_stored ?_ ?_
      | (with_reducible intro s y hs; try dsimp only)
      | (with_reducible intro s hs; try dsimp only)
      | split
  | succ k ih =>
    unfold State.cvDrain
    repeat' first
      | with_reducible assumption
      | with_reducible apply cvData_stored
      | with_reducible apply recordFail_stored
      | with_reducible apply cvCheckField_stored'
      | with_reducible apply countStrobe_stored
      | with_reducible apply setCv_stored
      | with_reducible apply ih
      | split

theorem cvSample_stored (s : State) (t : Strobe) (v : Nat) (hs : Stored s) : Stored (State.cvSample s t v) := by
  unfold State.cvSample
  repeat' first
    | with_reducible assumption
    | with_reducible apply cvDrain_stored
    | with_reducible apply setCv_stored
    | with_reducible refine foldl_stored ?_ ?_
    | (with_reducible intro s y hs; try dsimp only)

theorem takeStrobe_stored (s : State) (t : Strobe) (v0 : Nat) (v1 : Nat) (between : Option Nat) (hs : Stored s) : Stored (State.takeStrobe s t v0 v1 between) := by
  unfold State.takeStrobe
  repeat' first
    | with_reducible assumption
    | with_reducible apply acqSample_stored
    | with_reducible apply crossed_stored
    | with_reducible apply cvSample_stored
    | with_reducible apply matchStrobe_stored
    | with_reducible apply reactSample_stored
    | with_reducible apply lateSample_stored
    | with_reducible apply recordFail_stored
    | split

theorem judge_stored (s : State) (ch : Nat) (v0 : Nat) (v1 : Nat) (between : Option Nat) (hs : Stored s) : Stored (State.judge s ch v0 v1 between) := by
  unfold State.judge
  repeat' first
    | with_reducible assumption
    | with_reducible apply atCycle_stored
    | with_reducible apply takeStrobe_stored
    | (with_reducible intro s hs; try dsimp only)
    | split
    | (fail_if_no_progress (dsimp only [Stored]; with_reducible refine stored_mk ?_))

/-! ## Acq -/

theorem aqOpen_stored (s : State) (u : Nat) (slot : Nat) (nrec : Nat) (hs : Stored s) : Stored (State.aqOpen s u slot nrec) := by
  unfold State.aqOpen
  repeat' first
    | with_reducible assumption
    | with_reducible apply setAcq_stored
    | with_reducible apply setFld_stored

theorem aqEnd_stored (s : State) (u : Nat) (status : Nat) (hs : Stored s) : Stored (State.aqEnd s u status) := by
  unfold State.aqEnd
  repeat' first
    | with_reducible assumption
    | with_reducible apply setAcq_stored
    | with_reducible apply setFld_stored
    | with_reducible apply workDone_stored
    | split

theorem spillOne_stored (s : State) (u : Nat) (hs : Stored s) : Stored (State.spillOne s u) := by
  unfold State.spillOne
  repeat' first
    | with_reducible assumption
    | with_reducible apply setAcq_stored
    | with_reducible apply spaceWrite_stored
    | split

theorem spillDrain_stored (s : State) (u : Nat) (hs : Stored s) : Stored (State.spillDrain s u) := by
  unfold State.spillDrain
  repeat' first
    | with_reducible assumption
    | with_reducible apply spillOne_stored
    | split

theorem spillAll_stored (s : State) (u : Nat) (hs : Stored s) : Stored (State.spillAll s u) := by
  unfold State.spillAll
  repeat' first
    | with_reducible assumption
    | with_reducible apply spillOne_stored
    | with_reducible refine iter_stored ?_ ?_
    | (with_reducible intro s hs; try dsimp only)

theorem aqClose_stored (s : State) (u : Nat) (trunc : Bool) (cause : Nat) (hs : Stored s) : Stored (State.aqClose s u trunc cause) := by
  unfold State.aqClose
  repeat' first
    | with_reducible assumption
    | with_reducible apply poolWrite_stored
    | with_reducible apply setFld_stored
    | with_reducible apply spillAll_stored
    | split

theorem aqRecordDone_stored (s : State) (u : Nat) (hs : Stored s) : Stored (State.aqRecordDone s u) := by
  unfold State.aqRecordDone
  repeat' first
    | with_reducible assumption
    | with_reducible apply aqClose_stored
    | with_reducible apply aqEnd_stored
    | with_reducible apply setAcq_stored
    | with_reducible apply setFld_stored
    | split
    | (dsimp only)

theorem aqRearmDone_stored (s : State) (u : Nat) (hs : Stored s) : Stored (State.aqRearmDone s u) := by
  unfold State.aqRearmDone
  repeat' first
    | with_reducible assumption
    | with_reducible apply setAcq_stored
    | with_reducible apply setFld_stored
    | split

theorem aqPrefillDone_stored (s : State) (u : Nat) (hs : Stored s) : Stored (State.aqPrefillDone s u) := by
  unfold State.aqPrefillDone
  repeat' first
    | with_reducible assumption
    | with_reducible apply setFld_stored
    | split

theorem aqTruncate_stored (s : State) (u : Nat) (index : Nat) (ns : Nat) (frac : Nat) (hs : Stored s) : Stored (State.aqTruncate s u index ns frac) := by
  unfold State.aqTruncate
  repeat' first
    | with_reducible assumption
    | with_reducible apply aqClose_stored
    | with_reducible apply setAcq_stored
    | split

theorem aqCancel_stored (s : State) (u : Nat) (hs : Stored s) : Stored (State.aqCancel s u) := by
  unfold State.aqCancel
  repeat' first
    | with_reducible assumption
    | with_reducible apply aqEnd_stored
    | with_reducible apply aqTruncate_stored
    | with_reducible apply drawn_stored

theorem aqLoseStaged_stored (s : State) (u : Nat) (hs : Stored s) : Stored (State.aqLoseStaged s u) := by
  unfold State.aqLoseStaged
  repeat' first
    | with_reducible assumption
    | with_reducible apply setFld_stored
    | with_reducible apply setAcq_stored
    | with_reducible apply spaceWrite_stored
    | with_reducible apply drawn_stored
    | with_reducible refine foldl_stored ?_ ?_
    | (with_reducible intro s y hs; try dsimp only)

theorem aqFault_stored (s : State) (u : Nat) (hs : Stored s) : Stored (State.aqFault s u) := by
  unfold State.aqFault
  repeat' first
    | with_reducible assumption
    | with_reducible apply aqTruncate_stored
    | with_reducible apply aqLoseStaged_stored
    | with_reducible apply aqEnd_stored
    | with_reducible apply drawn_stored
    | split

theorem aqIdleGap_stored (s : State) (u : Nat) (hs : Stored s) : Stored (State.aqIdleGap s u) := by
  unfold State.aqIdleGap
  repeat' first
    | with_reducible assumption
    | with_reducible apply setAcq_stored
    | split
    | (dsimp only)

theorem aqStorePre_stored (s : State) (u : Nat) (word : Nat) (hs : Stored s) : Stored (State.aqStorePre s u word) := by
  unfold State.aqStorePre
  repeat' first
    | with_reducible assumption
    | with_reducible apply count_stored
    | with_reducible apply poolWrite_stored
    | with_reducible apply setAcq_stored
    | split

theorem aqLose_stored (s : State) (u : Nat) (hs : Stored s) : Stored (State.aqLose s u) := by
  unfold State.aqLose
  repeat' first
    | with_reducible assumption
    | with_reducible apply count_stored
    | with_reducible apply setAcq_stored
    | with_reducible apply setFld_stored
    | with_reducible apply spaceWrite_stored
    | with_reducible apply drawn_stored

theorem aqStorePost_stored (s : State) (u : Nat) (word : Nat) (hs : Stored s) : Stored (State.aqStorePost s u word) := by
  unfold State.aqStorePost
  repeat' first
    | with_reducible assumption
    | with_reducible apply aqLose_stored
    | with_reducible apply count_stored
    | with_reducible apply poolWrite_stored
    | with_reducible apply setAcq_stored
    | split
    | (dsimp only)

theorem aqTrigger_stored (s : State) (u : Nat) (index : Nat) (instant : Nat) (map : Nat) (hs : Stored s) : Stored (State.aqTrigger s u index instant map) := by
  unfold State.aqTrigger
  repeat' first
    | with_reducible assumption
    | with_reducible apply setAcq_stored
    | with_reducible apply setFld_stored
    | with_reducible apply signal_stored

theorem aqTake_stored (s : State) (u : Nat) (cycle : Nat) (sub : Nat) (word : Nat) (force : Bool) (hs : Stored s) : Stored (State.aqTake s u cycle sub word force) := by
  unfold State.aqTake
  repeat' first
    | with_reducible assumption
    | with_reducible apply addSat_stored
    | with_reducible apply aqStorePost_stored
    | with_reducible apply aqStorePre_stored
    | with_reducible apply aqTrigger_stored
    | with_reducible apply setAcq_stored
    | with_reducible apply setReg64_stored
    | split

theorem aqPass_stored (s : State) (u : Nat) (cycle : Nat) (sub : Nat) (lanes : Nat) (instant : Int) (hs : Stored s) : Stored (State.aqPass s u cycle sub lanes instant) := by
  unfold State.aqPass
  repeat' first
    | with_reducible assumption
    | with_reducible apply setAcq_stored

theorem aqWordOpen_stored (s : State) (u : Nat) (cycle : Nat) (sub : Nat) (hs : Stored s) : Stored (State.aqWordOpen s u cycle sub) := by
  unfold State.aqWordOpen
  repeat' first
    | with_reducible assumption
    | with_reducible apply aqEnd_stored
    | with_reducible apply aqIdleGap_stored
    | with_reducible apply aqPass_stored
    | with_reducible apply aqPrefillDone_stored
    | with_reducible apply aqRearmDone_stored
    | with_reducible apply aqRecordDone_stored
    | with_reducible apply aqTake_stored
    | with_reducible apply aqTruncate_stored
    | with_reducible apply setAcq_stored
    | with_reducible apply setFld_stored
    | with_reducible apply setReg64_stored
    | split
    | (dsimp only)

theorem captureWord_stored (s : State) (u : Nat) (cycle : Nat) (sub : Nat) (hs : Stored s) : Stored (State.captureWord s u cycle sub) := by
  unfold State.captureWord
  repeat' first
    | with_reducible assumption
    | with_reducible apply aqWordOpen_stored
    | with_reducible apply atCycle_stored
    | with_reducible apply setAcq_stored
    | with_reducible apply setFld_stored
    | (with_reducible intro s hs; try dsimp only)
    | split
    | (dsimp only)

theorem locate_stored (s : State) (u : Nat) (step : Nat) (hs : Stored s) : Stored (State.locate s u step) := by
  unfold State.locate
  repeat' first
    | with_reducible assumption
    | with_reducible apply setAcq_stored
    | split

/-! ## Tdc -/

theorem setTdc_stored (s : State) (u : Nat) (v : TdcUnit) (hs : Stored s) : Stored (State.setTdc s u v) := by
  unfold State.setTdc
  repeat' first
    | with_reducible assumption
    | (fail_if_no_progress (dsimp only [Stored]; with_reducible refine stored_mk ?_))

theorem setTdcInput_stored (s : State) (u : Nat) (onB : Bool) (v : TdcInput) (hs : Stored s) : Stored (State.setTdcInput s u onB v) := by
  unfold State.setTdcInput
  repeat' first
    | with_reducible assumption
    | with_reducible apply setTdc_stored

theorem ringUpdate_stored (s : State) (u : Nat) (slow : Nat) (fast : Nat) (hs : Stored s) : Stored (State.ringUpdate s u slow fast) := by
  unfold State.ringUpdate
  repeat' first
    | with_reducible assumption
    | with_reducible apply setFld_stored
    | with_reducible apply setReg_stored
    | with_reducible apply setTdc_stored
    | with_reducible apply signal_stored
    | split
    | (dsimp only)

theorem tdcEnd_stored (s : State) (u : Nat) (status : Nat) (hs : Stored s) : Stored (State.tdcEnd s u status) := by
  unfold State.tdcEnd
  repeat' first
    | with_reducible assumption
    | with_reducible apply setFld_stored
    | with_reducible apply setTdc_stored
    | with_reducible apply workDone_stored
    | split

theorem tdcWrite_stored (s : State) (u : Nat) (value : Int) (count : Nat) (fallback : Bool) (rising : Bool) (hs : Stored s) : Stored (State.tdcWrite s u value count fallback rising) := by
  unfold State.tdcWrite
  repeat' first
    | with_reducible assumption
    | with_reducible apply drawn_stored
    | with_reducible apply poolWrite_stored
    | with_reducible apply setReg_stored
    | with_reducible apply setTdc_stored
    | with_reducible apply tdcEnd_stored
    | split
    | (dsimp only)

theorem gateRecord_stored (s : State) (u : Nat) (hs : Stored s) : Stored (State.gateRecord s u) := by
  unfold State.gateRecord
  repeat' first
    | with_reducible assumption
    | with_reducible apply tdcWrite_stored
    | split
    | (dsimp only)

theorem gateEnd_stored (s : State) (u : Nat) (hs : Stored s) : Stored (State.gateEnd s u) := by
  unfold State.gateEnd
  repeat' first
    | with_reducible assumption
    | with_reducible apply gateRecord_stored
    | with_reducible apply setTdc_stored
    | split

theorem gatesUntil_stored (s : State) (u : Nat) (t : Int) (k : Nat) (hs : Stored s) : Stored (State.gatesUntil s u t k) := by
  induction k generalizing s u t with
  | zero =>
    unfold State.gatesUntil
    repeat' first
      | with_reducible assumption
  | succ k ih =>
    unfold State.gatesUntil
    repeat' first
      | with_reducible assumption
      | with_reducible apply gateEnd_stored
      | with_reducible apply ih
      | split

theorem freqEdge_stored (s : State) (u : Nat) (c : Conversion) (hs : Stored s) : Stored (State.freqEdge s u c) := by
  unfold State.freqEdge
  repeat' first
    | with_reducible assumption
    | with_reducible apply gateRecord_stored
    | with_reducible apply gatesUntil_stored
    | with_reducible apply setTdc_stored
    | split
    | (dsimp only)

theorem periodEdge_stored (s : State) (u : Nat) (c : Conversion) (hs : Stored s) : Stored (State.periodEdge s u c) := by
  unfold State.periodEdge
  repeat' first
    | with_reducible assumption
    | with_reducible apply setTdc_stored
    | with_reducible apply tdcWrite_stored
    | (with_reducible intro x; refine with_fact (p := Stored x) (fun hx => ?_) ?_; (on_goal 1 => clear_value x); (on_goal 2 => subst x))
    | split
    | (dsimp only)

theorem intervalClose_stored (s : State) (u : Nat) (a : Conversion) (b : Conversion) (hs : Stored s) : Stored (State.intervalClose s u a b) := by
  unfold State.intervalClose
  repeat' first
    | with_reducible assumption
    | with_reducible apply setTdc_stored
    | with_reducible apply tdcWrite_stored

theorem keepB_stored (s : State) (u : Nat) (c : Conversion) (hs : Stored s) : Stored (State.keepB s u c) := by
  unfold State.keepB
  repeat' first
    | with_reducible assumption
    | with_reducible apply setTdc_stored

theorem intervalEdge_stored (s : State) (u : Nat) (c : Conversion) (hs : Stored s) : Stored (State.intervalEdge s u c) := by
  unfold State.intervalEdge
  repeat' first
    | with_reducible assumption
    | with_reducible apply setTdc_stored
    | with_reducible apply keepB_stored
    | with_reducible apply intervalClose_stored
    | split
    | (dsimp only)

theorem conversionDone_stored (s : State) (u : Nat) (hs : Stored s) : Stored (State.conversionDone s u) := by
  unfold State.conversionDone
  repeat' first
    | with_reducible assumption
    | with_reducible apply freqEdge_stored
    | with_reducible apply intervalEdge_stored
    | with_reducible apply periodEdge_stored
    | with_reducible apply setTdc_stored
    | with_reducible apply tdcWrite_stored
    | split
    | (dsimp only)

theorem tdcConvert_stored (s : State) (u : Nat) (onB : Bool) (e : TdcEdge) (hs : Stored s) : Stored (State.tdcConvert s u onB e) := by
  unfold State.tdcConvert
  repeat' first
    | with_reducible assumption
    | with_reducible apply addSat_stored
    | with_reducible apply setFld_stored
    | with_reducible apply setTdc_stored
    | split
    | (dsimp only)

theorem tdcPrescale_stored (s : State) (u : Nat) (onB : Bool) (e : TdcEdge) (hs : Stored s) : Stored (State.tdcPrescale s u onB e) := by
  unfold State.tdcPrescale
  repeat' first
    | with_reducible assumption
    | with_reducible apply setTdc_stored
    | with_reducible apply setTdcInput_stored
    | with_reducible apply tdcConvert_stored
    | split
    | (dsimp only)

theorem tdcPassed_stored (s : State) (u : Nat) (onB : Bool) (e : TdcEdge) (hs : Stored s) : Stored (State.tdcPassed s u onB e) := by
  unfold State.tdcPassed
  repeat' first
    | with_reducible assumption
    | with_reducible apply addSat_stored
    | with_reducible apply setTdcInput_stored
    | with_reducible apply tdcPrescale_stored
    | split
    | (dsimp only)

theorem tdcEdge_stored (s : State) (u : Nat) (onB : Bool) (e : TdcEdge) (hs : Stored s) : Stored (State.tdcEdge s u onB e) := by
  unfold State.tdcEdge
  repeat' first
    | with_reducible assumption
    | with_reducible apply setTdcInput_stored
    | with_reducible apply tdcPassed_stored
    | split

theorem widthDecision_stored (s : State) (u : Nat) (onB : Bool) (hs : Stored s) : Stored (State.widthDecision s u onB) := by
  unfold State.widthDecision
  repeat' first
    | with_reducible assumption
    | with_reducible apply addSat_stored
    | with_reducible apply setTdcInput_stored
    | with_reducible apply tdcPassed_stored
    | split
    | (dsimp only)

theorem stuckTimeout_stored (s : State) (u : Nat) (onB : Bool) (hs : Stored s) : Stored (State.stuckTimeout s u onB) := by
  unfold State.stuckTimeout
  repeat' first
    | with_reducible assumption
    | with_reducible apply setFld_stored
    | with_reducible apply setTdcInput_stored
    | with_reducible apply signal_stored
    | split
    | (dsimp only)

theorem tdcArm_stored (s : State) (u : Nat) (hs : Stored s) : Stored (State.tdcArm s u) := by
  unfold State.tdcArm
  repeat' first
    | with_reducible assumption
    | with_reducible apply setFld_stored
    | with_reducible apply setReg_stored
    | with_reducible apply setTdc_stored

theorem tdcOpen_stored (s : State) (u : Nat) (slot : Nat) (nres : Nat) (hs : Stored s) : Stored (State.tdcOpen s u slot nres) := by
  unfold State.tdcOpen
  repeat' first
    | with_reducible assumption
    | with_reducible apply setFld_stored
    | with_reducible apply setTdc_stored
    | with_reducible apply tdcArm_stored
    | with_reducible apply workDone_stored
    | split
    | (dsimp only)

theorem tdcArmDue_stored (s : State) (u : Nat) (hs : Stored s) : Stored (State.tdcArmDue s u) := by
  unfold State.tdcArmDue
  repeat' first
    | with_reducible assumption
    | with_reducible apply tdcArm_stored
    | split

theorem tdcTimeout_stored (s : State) (u : Nat) (hs : Stored s) : Stored (State.tdcTimeout s u) := by
  unfold State.tdcTimeout
  repeat' first
    | with_reducible assumption
    | with_reducible apply tdcEnd_stored
    | with_reducible apply setFld_stored
    | with_reducible apply setTdc_stored
    | split
    | (dsimp only)

theorem tdcLapses_stored (s : State) (hs : Stored s) : Stored (State.tdcLapses s) := by
  unfold State.tdcLapses
  repeat' first
    | with_reducible assumption
    | with_reducible apply tdcEnd_stored
    | with_reducible apply setFld_stored
    | with_reducible refine foldl_stored ?_ ?_
    | (with_reducible intro s y hs; try dsimp only)
    | split

/-! ## Fetch -/

theorem newTask_stored (s : State) (ring : Nat) (d : Nat) (hs : Stored s) : Stored (State.newTask s ring d) := by
  unfold State.newTask
  repeat' first
    | with_reducible assumption
    | with_reducible apply finish_stored
    | with_reducible apply makeReady_stored
    | with_reducible apply setFld_stored
    | with_reducible apply setSlot_stored
    | split
    | (fail_if_no_progress (dsimp only [Stored]; with_reducible refine stored_mk ?_))
    | (dsimp only)

theorem refuseFetch_stored (s : State) (ring : Nat) (d : Nat) (status : Nat) (detail : Nat) (hs : Stored s) : Stored (State.refuseFetch s ring d status detail) := by
  unfold State.refuseFetch
  repeat' first
    | with_reducible assumption
    | with_reducible apply cascadeFrom_stored
    | with_reducible apply post_stored
    | with_reducible apply setSlot_stored
    | split

theorem takeDescriptor_stored (s : State) (k : Nat) (d : Nat) (hs : Stored s) : Stored (State.takeDescriptor s k d) := by
  unfold State.takeDescriptor
  repeat' first
    | with_reducible assumption
    | with_reducible apply newTask_stored
    | with_reducible apply refuseFetch_stored
    | split
    | (fail_if_no_progress (dsimp only [Stored]; with_reducible refine stored_mk ?_))

theorem fetchRequest_stored (s : State) (k : Nat) (hs : Stored s) : Stored (State.fetchRequest s k) := by
  unfold State.fetchRequest
  repeat' first
    | with_reducible assumption
    | with_reducible apply bwBytes_stored
    | with_reducible apply setFld_stored
    | with_reducible apply takeDescriptor_stored
    | with_reducible refine foldl_stored ?_ ?_
    | (with_reducible intro s hs; try dsimp only)
    | split

/-! ## Cal -/

theorem closeRecord_stored (s : State) (base : Nat) (len : Nat) (seq : Nat) (hs : Stored s) : Stored (State.closeRecord s base len seq) := by
  unfold State.closeRecord
  repeat' first
    | with_reducible assumption
    | with_reducible apply keepWrite_stored

theorem putBank_stored (s : State) (base : Nat) (c : CalBank) (hs : Stored s) : Stored (State.putBank s base c) := by
  unfold State.putBank
  repeat' first
    | with_reducible assumption
    | with_reducible apply keepWrite_stored
    | with_reducible refine foldl_stored ?_ ?_
    | (with_reducible intro s y hs; try dsimp only)

theorem writeSlot_stored (s : State) (k : Nat) (merge : Bool) (banks : List CalBank) (hs : Stored s) : Stored (State.writeSlot s k merge banks) := by
  unfold State.writeSlot
  repeat' first
    | with_reducible assumption
    | with_reducible apply closeRecord_stored
    | with_reducible apply keepWrite_stored
    | with_reducible apply putBank_stored
    | with_reducible apply setFld_stored
    | with_reducible refine foldl_stored ?_ ?_
    | (with_reducible intro x; refine with_fact (p := Stored x) (fun hx => ?_) ?_; (on_goal 1 => clear_value x); (on_goal 2 => subst x))
    | (with_reducible intro a; try dsimp only)
    | split
    | (fail_if_no_progress (dsimp only [Stored]; with_reducible refine stored_mk ?_))

theorem writeLines_stored (s : State) (banks : List CalBank) (hs : Stored s) : Stored (State.writeLines s banks) := by
  unfold State.writeLines
  repeat' first
    | with_reducible assumption
    | with_reducible apply closeRecord_stored
    | with_reducible apply keepWrite_stored
    | with_reducible refine foldl_stored ?_ ?_
    | (with_reducible intro s y hs; try dsimp only)

theorem endRun_stored (s : State) (stored : Bool) (hs : Stored s) : Stored (State.endRun s stored) := by
  unfold State.endRun
  repeat' first
    | with_reducible assumption
    | with_reducible apply setFld_stored
    | with_reducible apply writeLines_stored
    | with_reducible apply writeSlot_stored
    | with_reducible refine foldl_stored ?_ ?_
    | (with_reducible intro s hs; try dsimp only)
    | split
    | (fail_if_no_progress (dsimp only [Stored]; with_reducible refine stored_mk ?_))
    | (dsimp only)

theorem abandonBanks_stored (s : State) (mask : Nat) (hs : Stored s) : Stored (State.abandonBanks s mask) := by
  unfold State.abandonBanks
  repeat' first
    | with_reducible assumption
    | with_reducible apply endRun_stored
    | with_reducible apply setFld_stored
    | with_reducible refine foldl_stored ?_ ?_
    | (with_reducible intro s y hs; try dsimp only)
    | split
    | (fail_if_no_progress (dsimp only [Stored]; with_reducible refine stored_mk ?_))
    | (dsimp only)

theorem calRunWrite_stored (s : State) (v : Nat) (hs : Stored s) : Stored (State.calRunWrite s v) := by
  unfold State.calRunWrite
  repeat' first
    | with_reducible assumption
    | with_reducible apply abandonBanks_stored
    | with_reducible apply endRun_stored
    | with_reducible apply regFault_stored
    | with_reducible apply setFld_stored
    | with_reducible apply setReg_stored
    | with_reducible refine foldl_stored ?_ ?_
    | (with_reducible intro s y hs; try dsimp only)
    | split
    | (fail_if_no_progress (dsimp only [Stored]; with_reducible refine stored_mk ?_))

theorem calBankDone_stored (s : State) (b : Nat) (r : BankReadings) (stored : Bool) (hs : Stored s) : Stored (State.calBankDone s b r stored) := by
  unfold State.calBankDone
  repeat' first
    | with_reducible assumption
    | with_reducible apply endRun_stored
    | with_reducible apply report_stored
    | with_reducible apply setFld_stored
    | with_reducible apply setReg_stored
    | split
    | (fail_if_no_progress (dsimp only [Stored]; with_reducible refine stored_mk ?_))
    | (dsimp only)

/-! ## Checking -/

theorem setTrigger_stored (s : State) (n : Nat) (t : Trigger) (hs : Stored s) : Stored (State.setTrigger s n t) := by
  unfold State.setTrigger
  repeat' first
    | with_reducible assumption
    | (fail_if_no_progress (dsimp only [Stored]; with_reducible refine stored_mk ?_))

theorem viewAt_stored (s : State) (d : Nat) (hs : Stored s) : Stored (State.viewAt s d) := by
  unfold State.viewAt
  repeat' first
    | with_reducible assumption
    | with_reducible apply committed_stored
    | with_reducible apply overlay_stored
    | split
    | (dsimp only)

theorem enterRunning_stored (s : State) (k : Nat) (hs : Stored s) : Stored (State.enterRunning s k) := by
  unfold State.enterRunning
  repeat' first
    | with_reducible assumption
    | with_reducible apply count_stored
    | with_reducible apply setFld_stored
    | with_reducible apply setSlot_stored
    | split
    | (fail_if_no_progress (dsimp only [Stored]; with_reducible refine stored_mk ?_))

theorem arm_stored (s : State) (k : Nat) (start : Option Nat) (hs : Stored s) : Stored (State.arm s k start) := by
  unfold State.arm
  repeat' first
    | with_reducible assumption
    | with_reducible apply setReg_stored
    | with_reducible apply setFld_stored
    | with_reducible apply microArm_stored
    | with_reducible apply setEngine_stored

theorem pairMatch_stored (s : State) (sg : Nat) (hs : Stored s) : Stored (State.pairMatch s sg) := by
  unfold State.pairMatch
  repeat' first
    | with_reducible assumption
    | with_reducible apply setFld_stored
    | with_reducible apply setPair_stored
    | split
    | (dsimp only)

theorem sendArm_stored (s : State) (k : Nat) (start : Option Nat) (hs : Stored s) : Stored (State.sendArm s k start) := by
  unfold State.sendArm
  repeat' first
    | with_reducible assumption
    | with_reducible apply pairMatch_stored
    | with_reducible apply sendPair_stored
    | with_reducible apply setPair_stored
    | split
    | (dsimp only)

theorem beginWork_stored (s : State) (k : Nat) (hs : Stored s) : Stored (State.beginWork s k) := by
  unfold State.beginWork
  repeat' first
    | with_reducible assumption
    | with_reducible apply aqOpen_stored
    | with_reducible apply arm_stored
    | with_reducible apply jobStart_stored
    | with_reducible apply sendArm_stored
    | with_reducible apply tdcOpen_stored
    | split
    | (dsimp only)

theorem dispatch_stored (s : State) (k : Nat) (hs : Stored s) : Stored (State.dispatch s k) := by
  unfold State.dispatch
  repeat' first
    | with_reducible assumption
    | with_reducible apply abandonBanks_stored
    | with_reducible apply beginWork_stored
    | with_reducible apply enterRunning_stored
    | with_reducible apply finish_stored
    | split
    | (dsimp only)

theorem granted_stored (s : State) (k : Nat) (hs : Stored s) : Stored (State.granted s k) := by
  unfold State.granted
  repeat' first
    | with_reducible assumption
    | with_reducible apply reserve_stored'
    | with_reducible apply dispatch_stored
    | with_reducible apply finish_stored
    | with_reducible refine stored2_mk ?_
    | (with_reducible intro x; refine with_fact (p := Stored2 x) (fun hx => with_fact (p := Stored x.2) (fun hy => ?_) (stored2_out hx)) ?_; (on_goal 1 => clear_value x); (on_goal 2 => subst x))
    | split
    | (dsimp only)

theorem askGrant_stored (s : State) (k : Nat) (cost : Nat) (hs : Stored s) : Stored (State.askGrant s k cost) := by
  unfold State.askGrant
  repeat' first
    | with_reducible assumption
    | with_reducible apply addSat_stored
    | with_reducible apply count_stored
    | with_reducible apply finish_stored
    | with_reducible apply setReefQueue_stored
    | split

theorem reefGrant_stored (s : State) (hs : Stored s) : Stored (State.reefGrant s) := by
  unfold State.reefGrant
  repeat' first
    | with_reducible assumption
    | with_reducible apply granted_stored
    | with_reducible apply setFld_stored
    | with_reducible apply setReefQueue_stored
    | with_reducible apply setSlot_stored
    | split

theorem reefTimeout_stored (s : State) (k : Nat) (hs : Stored s) : Stored (State.reefTimeout s k) := by
  unfold State.reefTimeout
  repeat' first
    | with_reducible assumption
    | with_reducible apply addSat_stored
    | with_reducible apply finish_stored
    | with_reducible apply signal_stored
    | split
    | (dsimp only)

theorem tackEnter_stored (s : State) (k : Nat) (hs : Stored s) : Stored (State.tackEnter s k) := by
  unfold State.tackEnter
  repeat' first
    | with_reducible assumption
    | with_reducible apply setBank_stored
    | with_reducible apply setFld_stored
    | (fail_if_no_progress (dsimp only [Stored]; with_reducible refine stored_mk ?_))

theorem tackLeave_stored (s : State) (k : Nat) (hs : Stored s) : Stored (State.tackLeave s k) := by
  unfold State.tackLeave
  repeat' first
    | with_reducible assumption
    | with_reducible apply setBank_stored
    | with_reducible apply setReg_stored
    | (with_reducible intro x; refine with_fact (p := Stored x) (fun hx => ?_) ?_; (on_goal 1 => clear_value x); (on_goal 2 => subst x))
    | split
    | (fail_if_no_progress (dsimp only [Stored]; with_reducible refine stored_mk ?_))

theorem refuse_stored (s : State) (k : Nat) (status : Nat) (detail : Nat) (hs : Stored s) : Stored (State.refuse s k status detail) := by
  unfold State.refuse
  repeat' first
    | with_reducible assumption
    | with_reducible apply addSat_stored
    | with_reducible apply finish_stored
    | split

theorem enterChecking_stored (s : State) (r : Resource) (hs : Stored s) : Stored (State.enterChecking s r) := by
  unfold State.enterChecking
  repeat' first
    | with_reducible assumption
    | with_reducible apply askGrant_stored
    | with_reducible apply dispatch_stored
    | with_reducible apply refuse_stored
    | with_reducible apply setSlot_stored
    | with_reducible apply tackEnter_stored
    | split
    | (dsimp only)

theorem nopDone_stored (s : State) (k : Nat) (hs : Stored s) : Stored (State.nopDone s k) := by
  unfold State.nopDone
  repeat' first
    | with_reducible assumption
    | with_reducible apply finish_stored
    | split

theorem deadlineExpiry_stored (s : State) (k : Nat) (hs : Stored s) : Stored (State.deadlineExpiry s k) := by
  unfold State.deadlineExpiry
  repeat' first
    | with_reducible assumption
    | with_reducible apply finish_stored
    | with_reducible apply tackLeave_stored
    | split
    | (dsimp only)

/-! ## Work -/

theorem poisonedMove_stored (s : State) (k : Nat) (a : Nat) (n : Nat) (hs : Stored s) : Stored (State.poisonedMove s k a n) := by
  unfold State.poisonedMove
  repeat' first
    | with_reducible assumption
    | with_reducible apply interrupt_stored
    | with_reducible apply reportPoison_stored

theorem failedMove_stored (s : State) (k : Nat) (a : Nat) (hs : Stored s) : Stored (State.failedMove s k a) := by
  unfold State.failedMove
  repeat' first
    | with_reducible assumption
    | with_reducible apply readFails_stored
    | with_reducible apply interrupt_stored
    | split

theorem countMove_stored (s : State) (space : Nat) (a : Nat) (n : Nat) (reads : Bool) (hs : Stored s) : Stored (State.countMove s space a n reads) := by
  unfold State.countMove
  repeat' first
    | with_reducible assumption
    | with_reducible apply bwBytes_stored
    | with_reducible apply countRead_stored
    | split

theorem progress_stored (s : State) (k : Nat) (n : Nat) (total : Nat) (hs : Stored s) : Stored (State.progress s k n total) := by
  unfold State.progress
  repeat' first
    | with_reducible assumption
    | with_reducible apply setSlot_stored
    | with_reducible apply workDone_stored
    | split
    | (dsimp only)

theorem moveStep_stored (s : State) (k : Nat) (n : Nat) (bad : Bool) (hs : Stored s) : Stored (State.moveStep s k n bad) := by
  unfold State.moveStep
  repeat' first
    | with_reducible assumption
    | with_reducible apply countMove_stored
    | with_reducible apply failedMove_stored
    | with_reducible apply workDone_stored
    | with_reducible apply spaceWrite_stored
    | with_reducible apply progress_stored
    | with_reducible apply poisonedMove_stored
    | split
    | (dsimp only)

theorem stageWords_stored (s : State) (bank space off : Nat) :
    (l : List Byte) → (hs : Stored s) → Stored (s.stageWords bank space off l)
  | b0 :: b1 :: b2 :: b3 :: t, hs => by
    unfold State.stageWords
    refine stageWords_stored _ _ _ _ t ?_
    split
    · exact hs
    · exact stage_stored _ _ _ _ hs
  | [], hs => hs
  | [_], hs => hs
  | [_, _], hs => hs
  | [_, _, _], hs => hs

theorem tableStep_stored (s : State) (k : Nat) (n : Nat) (hs : Stored s) : Stored (State.tableStep s k n) := by
  unfold State.tableStep
  repeat' first
    | with_reducible assumption
    | with_reducible apply countMove_stored
    | with_reducible apply poisonedMove_stored
    | with_reducible apply progress_stored
    | with_reducible apply stageWords_stored
    | with_reducible apply workDone_stored
    | split
    | (dsimp only)

theorem refillWords_stored (s : State) (u : Nat) (src : Nat) (space : Nat) (k : Nat) (hs : Stored s) : Stored (State.refillWords s u src space k) := by
  induction k generalizing s u src space with
  | zero =>
    unfold State.refillWords
    repeat' first
      | with_reducible assumption
  | succ k ih =>
    unfold State.refillWords
    repeat' first
      | with_reducible assumption
      | with_reducible apply poolWrite_stored
      | with_reducible apply ringLow_stored
      | with_reducible apply setReg_stored
      | with_reducible apply ih

theorem refillStep_stored (s : State) (k : Nat) (n : Nat) (hs : Stored s) : Stored (State.refillStep s k n) := by
  unfold State.refillStep
  repeat' first
    | with_reducible assumption
    | with_reducible apply countMove_stored
    | with_reducible apply poisonedMove_stored
    | with_reducible apply progress_stored
    | with_reducible apply refillWords_stored
    | split
    | (dsimp only)

theorem uploadUnits_stored (s : State) (k : Nat) (bad : Bool) (l : Nat) (hs : Stored s) : Stored (State.uploadUnits s k bad l) := by
  induction l generalizing s k bad with
  | zero =>
    unfold State.uploadUnits
    repeat' first
      | with_reducible assumption
      | with_reducible apply showFull_stored
      | with_reducible apply setReg_stored
      | with_reducible apply writeLost_stored
      | with_reducible apply countMove_stored
      | with_reducible apply setSlot_stored
      | with_reducible apply failedMove_stored
      | with_reducible apply workDone_stored
      | with_reducible apply hostWrite_stored
      | with_reducible apply bwBytes_stored
      | with_reducible apply poisonedMove_stored
      | with_reducible apply ih
      | with_reducible refine foldl_stored ?_ ?_
      | (with_reducible intro s y hs; try dsimp only)
      | (with_reducible intro s hs; try dsimp only)
      | split
      | (dsimp only)
      | (fail_if_no_progress (dsimp only [Stored]; with_reducible refine stored_mk ?_))
  | succ l ih =>
    unfold State.uploadUnits
    repeat' first
      | with_reducible assumption
      | with_reducible apply showFull_stored
      | with_reducible apply setReg_stored
      | with_reducible apply writeLost_stored
      | with_reducible apply countMove_stored
      | with_reducible apply setSlot_stored
      | with_reducible apply failedMove_stored
      | with_reducible apply workDone_stored
      | with_reducible apply hostWrite_stored
      | with_reducible apply bwBytes_stored
      | with_reducible apply poisonedMove_stored
      | with_reducible apply ih
      | split
      | (dsimp only)

theorem uploadStep_stored (s : State) (k : Nat) (n : Nat) (bad : Bool) (hs : Stored s) : Stored (State.uploadStep s k n bad) := by
  unfold State.uploadStep
  repeat' first
    | with_reducible assumption
    | with_reducible apply uploadUnits_stored
    | split

theorem loadStep_stored (s : State) (k : Nat) (bad : Bool) (hs : Stored s) : Stored (State.loadStep s k bad) := by
  unfold State.loadStep
  repeat' first
    | with_reducible assumption
    | with_reducible apply failedMove_stored
    | with_reducible apply poisonedMove_stored
    | with_reducible apply loadWork_stored
    | split
    | (dsimp only)

theorem unloadStep_stored (s : State) (k : Nat) (hs : Stored s) : Stored (State.unloadStep s k) := by
  unfold State.unloadStep
  repeat' first
    | with_reducible assumption
    | with_reducible apply unloadSection_stored
    | with_reducible apply workDone_stored
    | split

theorem jobRestart_stored (s : State) (k : Nat) (hs : Stored s) : Stored (State.jobRestart s k) := by
  unfold State.jobRestart
  repeat' first
    | with_reducible assumption
    | with_reducible apply jobRestore_stored
    | with_reducible apply jobStart_stored
    | split
    | (dsimp only)

theorem dspStep_stored (s : State) (k : Nat) (n : Nat) (hs : Stored s) : Stored (State.dspStep s k n) := by
  unfold State.dspStep
  repeat' first
    | with_reducible assumption
    | with_reducible apply jobRestart_stored
    | with_reducible apply jobRun_stored
    | split
    | (dsimp only)

theorem dspComplete_stored (s : State) (k : Nat) (hs : Stored s) : Stored (State.dspComplete s k) := by
  unfold State.dspComplete
  repeat' first
    | with_reducible assumption
    | with_reducible apply jobEnd_stored
    | split
    | (dsimp only)

theorem closeWindows_stored (s : State) (hs : Stored s) : Stored (State.closeWindows s) := by
  unfold State.closeWindows
  repeat' first
    | with_reducible assumption
    | with_reducible apply setSource_stored
    | with_reducible refine foldl_stored ?_ ?_
    | (with_reducible intro s y hs; try dsimp only)
    | split

theorem taskFinish_stored (s : State) (k : Nat) (hs : Stored s) : Stored (State.taskFinish s k) := by
  unfold State.taskFinish
  repeat' first
    | with_reducible assumption
    | with_reducible apply closeWindows_stored
    | with_reducible apply finish_stored
    | split
    | (dsimp only)

theorem flowRelease_stored (s : State) (flow : Nat) (hs : Stored s) : Stored (State.flowRelease s flow) := by
  unfold State.flowRelease
  repeat' first
    | with_reducible assumption
    | with_reducible apply release_stored
    | split
    | (fail_if_no_progress (dsimp only [Stored]; with_reducible refine stored_mk ?_))

theorem stopped_stored (s : State) (k : Nat) (hs : Stored s) : Stored (State.stopped s k) := by
  unfold State.stopped
  repeat' first
    | with_reducible assumption
    | with_reducible apply workDone_stored
    | split

theorem cancelRunning_stored (s : State) (k : Nat) (hs : Stored s) : Stored (State.cancelRunning s k) := by
  unfold State.cancelRunning
  repeat' first
    | with_reducible assumption
    | with_reducible apply refillStep_stored
    | with_reducible apply moveStep_stored
    | with_reducible apply tdcEnd_stored
    | with_reducible apply tableStep_stored
    | with_reducible apply uploadStep_stored
    | with_reducible apply stopped_stored
    | with_reducible apply aqCancel_stored
    | with_reducible apply hostAbort_stored
    | with_reducible apply jobCancel_stored
    | with_reducible apply workDone_stored
    | split
    | (dsimp only)

theorem cancelTask_stored (s : State) (k : Nat) (hs : Stored s) : Stored (State.cancelTask s k) := by
  induction k generalizing s with
  | zero =>
    unfold State.cancelTask
    repeat' first
      | with_reducible assumption
      | with_reducible apply cancelRunning_stored
      | with_reducible apply cancelWaiting_stored
      | with_reducible apply finish_stored
      | with_reducible apply ih
      | with_reducible refine foldl_stored ?_ ?_
      | split
      | (dsimp only)
  | succ k ih =>
    unfold State.cancelTask
    repeat' first
      | with_reducible assumption
      | with_reducible apply cancelRunning_stored
      | with_reducible apply cancelWaiting_stored
      | with_reducible apply finish_stored
      | split
      | (dsimp only)

theorem cancelActs_stored (s : State) (k : Nat) (hs : Stored s) : Stored (State.cancelActs s k) := by
  unfold State.cancelActs
  repeat' first
    | with_reducible assumption
    | with_reducible apply cancelTask_stored
    | with_reducible apply postCancels_stored
    | split
    | (fail_if_no_progress (dsimp only [Stored]; with_reducible refine stored_mk ?_))
    | (dsimp only)

theorem cascade_stored (s : State) (hs : Stored s) : Stored (State.cascade s) := by
  unfold State.cascade
  repeat' first
    | with_reducible assumption
    | with_reducible apply addSat_stored
    | with_reducible apply cancelWaiting_stored
    | with_reducible refine foldl_stored ?_ ?_
    | (with_reducible intro s y hs; try dsimp only)
    | split
    | (fail_if_no_progress (dsimp only [Stored]; with_reducible refine stored_mk ?_))

/-! ## Rings -/

theorem regFaultOpen_stored (s : State) (hs : Stored s) : Stored (State.regFaultOpen s) := by
  unfold State.regFaultOpen
  repeat' first
    | with_reducible assumption
    | with_reducible apply drawn_stored
    | with_reducible apply regFault_stored

theorem ringError_stored (s : State) (k : Nat) (cause : Nat) (hs : Stored s) : Stored (State.ringError s k cause) := by
  unfold State.ringError
  repeat' first
    | with_reducible assumption
    | with_reducible apply setFld_stored
    | with_reducible apply signal_stored

theorem ringEnable_stored (s : State) (k : Nat) (hs : Stored s) : Stored (State.ringEnable s k) := by
  unfold State.ringEnable
  repeat' first
    | with_reducible assumption
    | with_reducible apply setFld_stored
    | with_reducible apply setReg_stored
    | with_reducible apply setRing_stored

theorem ringCfgWrite_stored (s : State) (k : Nat) (v : Nat) (hs : Stored s) : Stored (State.ringCfgWrite s k v) := by
  unfold State.ringCfgWrite
  repeat' first
    | with_reducible assumption
    | with_reducible apply drainEnd_stored
    | with_reducible apply regFault_stored
    | with_reducible apply ringEnable_stored
    | with_reducible apply setFld_stored
    | split
    | (dsimp only)

theorem ringBaseWrite_stored (s : State) (k : Nat) (off : Nat) (v : Nat) (hs : Stored s) : Stored (State.ringBaseWrite s k off v) := by
  unfold State.ringBaseWrite
  repeat' first
    | with_reducible assumption
    | with_reducible apply regFault_stored
    | with_reducible apply setReg_stored
    | split

theorem sqTailWrite_stored (s : State) (k : Nat) (v : Nat) (hs : Stored s) : Stored (State.sqTailWrite s k v) := by
  unfold State.sqTailWrite
  repeat' first
    | with_reducible assumption
    | with_reducible apply ringError_stored
    | with_reducible apply setRing_stored
    | split
    | (dsimp only)

theorem cqHeadWrite_stored (s : State) (k : Nat) (v : Nat) (hs : Stored s) : Stored (State.cqHeadWrite s k v) := by
  unfold State.cqHeadWrite
  repeat' first
    | with_reducible assumption
    | with_reducible apply ringError_stored
    | with_reducible apply setRing_stored
    | split
    | (dsimp only)

theorem doorbellWrite_stored (s : State) (k : Nat) (off : Nat) (v : Nat) (hs : Stored s) : Stored (State.doorbellWrite s k off v) := by
  unfold State.doorbellWrite
  repeat' first
    | with_reducible assumption
    | with_reducible apply cqHeadWrite_stored
    | with_reducible apply sqTailWrite_stored
    | split

theorem fetchFails_stored (s : State) (k : Nat) (hs : Stored s) : Stored (State.fetchFails s k) := by
  unfold State.fetchFails
  repeat' first
    | with_reducible assumption
    | with_reducible apply ringError_stored
    | split

theorem cqWriteFails_stored (s : State) (k : Nat) (hs : Stored s) : Stored (State.cqWriteFails s k) := by
  unfold State.cqWriteFails
  repeat' first
    | with_reducible assumption
    | with_reducible apply hostWrite_stored
    | with_reducible apply ringError_stored
    | with_reducible apply setReg_stored
    | with_reducible apply setRing_stored
    | split

theorem coalesceTimeout_stored (s : State) (k : Nat) (hs : Stored s) : Stored (State.coalesceTimeout s k) := by
  unfold State.coalesceTimeout
  repeat' first
    | with_reducible assumption
    | with_reducible apply signalRing_stored
    | split
    | (dsimp only)

theorem clearCredit_stored (s : State) (hs : Stored s) : Stored (State.clearCredit s) := by
  unfold State.clearCredit
  repeat' first
    | with_reducible assumption
    | with_reducible apply setSlot_stored
    | split
    | (dsimp only)

theorem bulkAim_stored (s : State) (n : Nat) (hs : Stored s) : Stored (State.bulkAim s n) := by
  unfold State.bulkAim
  repeat' first
    | with_reducible assumption
    | with_reducible apply setFld_stored
    | (with_reducible intro x; refine with_fact (p := Stored x) (fun hx => ?_) ?_; (on_goal 1 => clear_value x); (on_goal 2 => subst x))
    | (fail_if_no_progress (dsimp only [Stored]; with_reducible refine stored_mk ?_))

theorem bulkAdvance_stored (s : State) (n : Nat) (len : Nat) (hs : Stored s) : Stored (State.bulkAdvance s n len) := by
  unfold State.bulkAdvance
  repeat' first
    | with_reducible assumption
    | with_reducible apply setReg64_stored

theorem bulkEnd_stored (s : State) (n : Nat) (hs : Stored s) : Stored (State.bulkEnd s n) := by
  unfold State.bulkEnd
  repeat' first
    | with_reducible assumption
    | with_reducible apply regFaultOpen_stored
    | with_reducible apply setFld_stored

theorem poolWriteBut_stored (s : State) (lost : List Nat) (a : Nat) (k : List Byte) (hs : Stored s) : Stored (State.poolWriteBut s lost a k) := by
  induction k generalizing s lost a with
  | nil =>
    unfold State.poolWriteBut
    repeat' first
      | with_reducible assumption
      | with_reducible apply poolWrite_stored
  | cons y k ih =>
    unfold State.poolWriteBut
    repeat' first
      | with_reducible assumption
      | with_reducible apply poolWrite_stored
      | with_reducible apply ih
      | split

theorem bulkCollides_stored (s : State) (lost : List Nat) (hs : Stored s) : Stored (State.bulkCollides s lost) := by
  unfold State.bulkCollides
  repeat' first
    | with_reducible assumption
    | with_reducible apply setReg_stored
    | with_reducible apply setFld_stored
    | with_reducible apply regFaultOpen_stored
    | with_reducible refine foldl_stored ?_ ?_
    | (with_reducible intro s y hs; try dsimp only)

theorem bulkPoolPut_stored (s : State) (a : Nat) (bytes : List Byte) (lost : List Nat) (hs : Stored s) : Stored (State.bulkPoolPut s a bytes lost) := by
  unfold State.bulkPoolPut
  repeat' first
    | with_reducible assumption
    | with_reducible apply poolWrite_stored
    | with_reducible apply poolWriteBut_stored
    | with_reducible apply bulkCollides_stored
    | split
    | (dsimp only)

theorem bulkWrite_stored (s : State) (n : Nat) (bytes : List Byte) (lost : List Nat) (hs : Stored s) : Stored (State.bulkWrite s n bytes lost) := by
  unfold State.bulkWrite
  repeat' first
    | with_reducible assumption
    | with_reducible apply bulkAdvance_stored
    | with_reducible apply bulkPoolPut_stored
    | with_reducible apply bulkEnd_stored
    | with_reducible apply spaceWrite_stored
    | with_reducible apply bwBytes_stored
    | with_reducible apply regFaultOpen_stored
    | split
    | (dsimp only)

theorem bulkRead_stored (s : State) (n : Nat) (len : Nat) (bad : Bool) (hs : Stored s) : Stored (State.bulkRead s n len bad) := by
  induction len generalizing s n bad with
  | zero =>
    unfold State.bulkRead
    repeat' first
      | with_reducible assumption
      | with_reducible apply bulkAdvance_stored
      | with_reducible apply countMove_stored
      | with_reducible apply readFails_stored
      | with_reducible apply bulkEnd_stored
      | with_reducible apply reportPoison_stored
      | with_reducible apply bwBytes_stored
      | with_reducible apply ih
      | with_reducible refine foldl_stored ?_ ?_
      | (with_reducible intro s y hs; try dsimp only)
      | (with_reducible intro s hs; try dsimp only)
      | split
      | (fail_if_no_progress (dsimp only [Stored]; with_reducible refine stored_mk ?_))
  | succ len ih =>
    unfold State.bulkRead
    repeat' first
      | with_reducible assumption
      | with_reducible apply bulkAdvance_stored
      | with_reducible apply countMove_stored
      | with_reducible apply readFails_stored
      | with_reducible apply bulkEnd_stored
      | with_reducible apply reportPoison_stored
      | with_reducible apply bwBytes_stored
      | split
      | (fail_if_no_progress (dsimp only [Stored]; with_reducible refine stored_mk ?_))

end Sys2Proof.Machine
end

