-- ==== Sys2Proof/Laws/KeepTack.lean ====
section
/-! SUPPORT. The stores stay in canonical form through Tack, time and links. -/
set_option linter.unusedTactic false
set_option linter.unreachableTactic false
set_option linter.unusedVariables false
namespace Sys2Proof.Machine

/-! ## Tack -/

theorem swapDrain_stored (s : State) (st : Nat) (r : Option Resv) (hs : Stored s) : Stored (State.swapDrain s st r) := by
  unfold State.swapDrain
  repeat' first
    | with_reducible assumption
    | with_reducible apply setResv_stored
    | with_reducible apply unreserve_stored

theorem reserveDrains_stored (n s : State) (l : List Nat) (hs : Stored s) : Stored2 (n.reserveDrains s l) := by
  induction l generalizing s with
  | nil => exact stored2_mk hs
  | cons st rest ih =>
    unfold State.reserveDrains
    split
    · exact ih _ hs
    · rename_i r _
      have hq := reserve_stored' s (s.drainExtra st r) hs
      dsimp only
      split
      · exact stored2_mk hq
      · split
        · exact stored2_mk (addSat_stored _ _ _ hq)
        · exact ih _ hq

theorem reserveDrains_stored' (n s : State) (l : List Nat) (hs : Stored s) : Stored (n.reserveDrains s l).2 :=
  stored2_out (reserveDrains_stored n s l hs)

theorem settleDrains_stored (s : State) (hs : Stored s) : Stored (State.settleDrains s) := by
  unfold State.settleDrains
  repeat' first
    | with_reducible assumption
    | with_reducible apply swapDrain_stored
    | with_reducible refine foldl_stored ?_ ?_
    | (with_reducible intro s hs; try dsimp only)

theorem tackFail_stored (s : State) (k : Nat) (status : Nat) (check : Nat) (off : Nat) (hs : Stored s) : Stored (State.tackFail s k status check off) := by
  unfold State.tackFail
  repeat' first
    | with_reducible assumption
    | with_reducible apply finish_stored
    | with_reducible apply setFld_stored
    | with_reducible apply settleDrains_stored
    | with_reducible apply tackLeave_stored

theorem tackLapse_stored (s : State) (k : Nat) (hs : Stored s) : Stored (State.tackLapse s k) := by
  unfold State.tackLapse
  repeat' first
    | with_reducible assumption
    | with_reducible apply finish_stored
    | with_reducible apply settleDrains_stored
    | with_reducible apply tackLeave_stored

theorem setTackJob_stored (s : State) (job : TackJob) (hs : Stored s) : Stored (State.setTackJob s job) := by
  unfold State.setTackJob
  repeat' first
    | with_reducible assumption
    | (fail_if_no_progress (dsimp only [Stored]; with_reducible refine stored_mk ?_))

theorem pushGroup_stored (s : State) (c : GroupCommit) (hs : Stored s) : Stored (State.pushGroup s c) := by
  unfold State.pushGroup
  repeat' first
    | with_reducible assumption
    | (fail_if_no_progress (dsimp only [Stored]; with_reducible refine stored_mk ?_))

theorem takeAhead_stored (s : State) (job : TackJob) (sg : Nat) (b : Option Nat) (at' : Nat) (t : TackView) (hs : Stored s) : Stored (State.takeAhead s job sg b at' t) := by
  unfold State.takeAhead
  repeat' first
    | with_reducible assumption
    | with_reducible apply pushGroup_stored
    | with_reducible apply setTackJob_stored
    | (dsimp only)

theorem meetTack_stored (s : State) (sg start : Nat) (hs : Stored s) : Stored (State.meetTack s sg start) := by
  unfold State.meetTack
  repeat' first
    | with_reducible assumption
    | with_reducible apply takeAhead_stored
    | split
    | (dsimp only)

theorem tackPass_stored (s : State) (k : Nat) (job : TackJob) (t : TackView) (hs : Stored s) : Stored (State.tackPass s k job t) := by
  unfold State.tackPass
  repeat' first
    | with_reducible assumption
    | with_reducible apply enterRunning_stored
    | with_reducible apply takeAhead_stored
    | with_reducible apply setReg_stored
    | with_reducible apply setTackJob_stored
    | with_reducible apply tackFail_stored
    | split
    | (dsimp only)

theorem writeTimingErrs_stored (s : State) (t : TackView) (hs : Stored s) : Stored (State.writeTimingErrs s t) := by
  unfold State.writeTimingErrs
  repeat' first
    | with_reducible assumption
    | with_reducible apply setReg_stored
    | with_reducible refine foldl_stored ?_ ?_
    | (with_reducible intro s y hs; try dsimp only)

theorem tackJudge_stored (s : State) (k : Nat) (job : TackJob) (t : TackView) (hs : Stored s) : Stored (State.tackJudge s k job t) := by
  unfold State.tackJudge
  repeat' first
    | with_reducible assumption
    | with_reducible apply reserveDrains_stored'
    | with_reducible apply tackFail_stored
    | with_reducible apply tackPass_stored
    | split
    | (dsimp only)

theorem tackRun_stored (s : State) (k : Nat) (hs : Stored s) : Stored (State.tackRun s k) := by
  unfold State.tackRun
  repeat' first
    | with_reducible assumption
    | with_reducible apply setReg_stored
    | with_reducible apply tackFail_stored
    | with_reducible apply tackLeave_stored
    | with_reducible apply tackJudge_stored
    | with_reducible apply finish_stored
    | with_reducible apply writeTimingErrs_stored
    | split
    | (dsimp only)

theorem beginSession_stored (s : State) (st : Nat) (c : Option Section) (hs : Stored s) : Stored (State.beginSession s st c) := by
  unfold State.beginSession
  repeat' first
    | with_reducible assumption
    | with_reducible apply showFull_stored
    | with_reducible apply setReg_stored
    | with_reducible apply setLog_stored
    | with_reducible apply spaceWrite_stored
    | with_reducible apply drawn_stored
    | split
    | (fail_if_no_progress (dsimp only [Stored]; with_reducible refine stored_mk ?_))

theorem settleStream_stored (n old s : State) (st : Nat) (hs : Stored s) : Stored (State.settleStream n old s st) := by
  unfold State.settleStream
  repeat' first
    | with_reducible assumption
    | with_reducible apply showFull_stored
    | with_reducible apply setReg_stored
    | with_reducible apply writeLost_stored
    | with_reducible apply setLog_stored
    | with_reducible apply beginSession_stored
    | split
    | (dsimp only)

theorem commitGroup_stored (s : State) (tau : Nat) (sg : Nat) (vals : Machine.SMap Word) (hs : Stored s) : Stored (State.commitGroup s tau sg vals) := by
  unfold State.commitGroup
  repeat' first
    | with_reducible assumption
    | with_reducible apply latchJumps_stored
    | with_reducible apply holdGroup_stored
    | with_reducible apply takeCommit_stored
    | split
    | (fail_if_no_progress (dsimp only [Stored]; with_reducible refine stored_mk ?_))

theorem commitBank_stored (s : State) (job : TackJob) (d : Nat) (tau : Nat) (hs : Stored s) : Stored (State.commitBank s job d tau) := by
  unfold State.commitBank
  repeat' first
    | with_reducible assumption
    | with_reducible apply addSat_stored
    | with_reducible apply applyValues_stored
    | with_reducible apply commitGroup_stored
    | with_reducible apply sealChunk_stored
    | with_reducible apply setBank_stored
    | with_reducible apply setReg_stored
    | with_reducible apply settleDrains_stored
    | with_reducible apply settleStream_stored
    | with_reducible refine foldl_stored ?_ ?_
    | (with_reducible intro s y hs; try dsimp only)
    | split
    | (fail_if_no_progress (dsimp only [Stored]; with_reducible refine stored_mk ?_))

theorem tackCommit_stored (s : State) (k : Nat) (hs : Stored s) : Stored (State.tackCommit s k) := by
  unfold State.tackCommit
  repeat' first
    | with_reducible assumption
    | with_reducible apply commitBank_stored
    | with_reducible apply finish_stored
    | with_reducible apply tackLapse_stored
    | split
    | (dsimp only)

theorem passGrid_stored (s : State) (g : Nat) (hs : Stored s) : Stored (State.passGrid s g) := by
  unfold State.passGrid
  repeat' first
    | with_reducible assumption
    | with_reducible apply groupBoundary_stored
    | with_reducible apply setEngine_stored
    | split
    | (dsimp only)

theorem idleBoundaries_stored (s : State) (hs : Stored s) : Stored (State.idleBoundaries s) := by
  unfold State.idleBoundaries
  repeat' first
    | with_reducible assumption
    | with_reducible apply passGrid_stored
    | with_reducible apply groupBoundary_stored
    | with_reducible refine foldl_stored ?_ ?_
    | (with_reducible intro s y hs; try dsimp only)
    | split

theorem bankClear_stored (s : State) (b : Nat) (hs : Stored s) : Stored (State.bankClear s b) := by
  unfold State.bankClear
  repeat' first
    | with_reducible assumption
    | with_reducible apply regFault_stored
    | with_reducible apply setBank_stored
    | split

/-! ## Time -/

theorem setTimeState_stored (s : State) (v : Nat) (hs : Stored s) : Stored (State.setTimeState s v) := by
  unfold State.setTimeState
  repeat' first
    | with_reducible assumption
    | with_reducible apply setFld_stored
    | with_reducible apply signal_stored
    | split

theorem retrigger_stored (s : State) (n : Nat) (hs : Stored s) : Stored (State.retrigger s n) := by
  unfold State.retrigger
  repeat' first
    | with_reducible assumption
    | with_reducible apply setEngine_stored
    | with_reducible refine foldl_stored ?_ ?_
    | (with_reducible intro s y hs; try dsimp only)
    | split

theorem ttCommit_stored (s : State) (n : Nat) (k : Nat) (hs : Stored s) : Stored (State.ttCommit s n k) := by
  induction k generalizing s n with
  | zero =>
    unfold State.ttCommit
    repeat' first
      | with_reducible assumption
  | succ k ih =>
    unfold State.ttCommit
    repeat' first
      | with_reducible assumption
      | with_reducible apply setTrigger_stored
      | with_reducible apply ih
      | split
      | (dsimp only)

theorem ttSettle_stored (s : State) (n : Nat) (hs : Stored s) : Stored (State.ttSettle s n) := by
  unfold State.ttSettle
  repeat' first
    | with_reducible assumption
    | with_reducible apply setFld_stored
    | with_reducible apply setTrigger_stored
    | split
    | (dsimp only)

theorem ttSkip_stored (s : State) (n : Nat) (k : Nat) (hs : Stored s) : Stored (State.ttSkip s n k) := by
  unfold State.ttSkip
  repeat' first
    | with_reducible assumption
    | with_reducible apply addSat_stored
    | with_reducible apply setTrigger_stored
    | with_reducible apply ttCommit_stored
    | with_reducible apply ttSettle_stored

theorem ttStep_stored (s : State) (before : Nat) (n : Nat) (hs : Stored s) : Stored (State.ttStep s before n) := by
  unfold State.ttStep
  repeat' first
    | with_reducible assumption
    | with_reducible apply addSat_stored
    | with_reducible apply committed_stored
    | with_reducible apply retrigger_stored
    | with_reducible apply setTrigger_stored
    | with_reducible apply ttSettle_stored
    | with_reducible apply ttSkip_stored
    | with_reducible refine stored2_mk ?_
    | with_reducible refine stored3_mk ?_
    | (with_reducible intro x; refine with_fact (p := Stored x) (fun hx => ?_) ?_; (on_goal 1 => clear_value x); (on_goal 2 => subst x))
    | (with_reducible intro x; refine with_fact (p := Stored2 x) (fun hx => with_fact (p := Stored x.2) (fun hy => ?_) (stored2_out hx)) ?_; (on_goal 1 => clear_value x); (on_goal 2 => subst x))
    | (with_reducible intro x; refine with_fact (p := Stored3 x) (fun hx => with_fact (p := Stored x.2.2) (fun hy => ?_) (stored3_out hx)) ?_; (on_goal 1 => clear_value x); (on_goal 2 => subst x))
    | (with_reducible intro x; clear_value x)
    | with_reducible refine ite_stored ?_ ?_
    | with_reducible refine ite_stored2 ?_ ?_
    | split
    | lift_lets
    | (fail_if_no_progress (dsimp only [Stored]; with_reducible refine stored_mk ?_))
    | (dsimp only)

theorem ttEnable_stored (s : State) (n : Nat) (v : Nat) (hs : Stored s) : Stored (State.ttEnable s n v) := by
  unfold State.ttEnable
  repeat' first
    | with_reducible assumption
    | with_reducible apply regFault_stored
    | with_reducible apply retrigger_stored
    | with_reducible apply setReg_stored
    | with_reducible apply setTrigger_stored
    | with_reducible apply ttSkip_stored
    | split
    | (dsimp only)

theorem ttDisable_stored (s : State) (n : Nat) (v : Nat) (hs : Stored s) : Stored (State.ttDisable s n v) := by
  unfold State.ttDisable
  repeat' first
    | with_reducible assumption
    | with_reducible apply retrigger_stored
    | with_reducible apply setReg_stored
    | with_reducible apply setTrigger_stored
    | with_reducible apply ttSettle_stored
    | split

theorem ttCfgWrite_stored (s : State) (n : Nat) (v : Nat) (hs : Stored s) : Stored (State.ttCfgWrite s n v) := by
  unfold State.ttCfgWrite
  repeat' first
    | with_reducible assumption
    | with_reducible apply ttDisable_stored
    | with_reducible apply ttEnable_stored
    | split

theorem ttRegWrite_stored (s : State) (n : Nat) (off : Nat) (v : Nat) (hs : Stored s) : Stored (State.ttRegWrite s n off v) := by
  unfold State.ttRegWrite
  repeat' first
    | with_reducible assumption
    | with_reducible apply regFault_stored
    | with_reducible apply setReg_stored
    | split

theorem ttoutPulse_stored (s : State) (n : Nat) (upto : Option Nat) (hs : Stored s) : Stored (State.ttoutPulse s n upto) := by
  unfold State.ttoutPulse
  repeat' first
    | with_reducible assumption
    | (fail_if_no_progress (dsimp only [Stored]; with_reducible refine stored_mk ?_))

theorem ttFire_stored (s : State) (n : Nat) (hs : Stored s) : Stored (State.ttFire s n) := by
  unfold State.ttFire
  repeat' first
    | with_reducible assumption
    | with_reducible apply addSat_stored
    | with_reducible apply setTrigger_stored
    | with_reducible apply signal_stored
    | with_reducible apply ttSettle_stored
    | with_reducible apply ttoutPulse_stored
    | split
    | (dsimp only)

theorem ttoutEnds_stored (s : State) (n : Nat) (hs : Stored s) : Stored (State.ttoutEnds s n) := by
  unfold State.ttoutEnds
  repeat' first
    | with_reducible assumption
    | with_reducible apply ttoutPulse_stored
    | split

theorem ttinEdge_stored (s : State) (k : Nat) (onEdge : Bool) (hs : Stored s) : Stored (State.ttinEdge s k onEdge) := by
  unfold State.ttinEdge
  repeat' first
    | with_reducible assumption
    | with_reducible apply addSat_stored
    | with_reducible apply setReg64_stored
    | with_reducible apply signal_stored

theorem stepPasses_stored (s : State) (before : Nat) (hs : Stored s) : Stored (State.stepPasses s before) := by
  unfold State.stepPasses
  repeat' first
    | with_reducible assumption
    | with_reducible apply tackLapse_stored
    | with_reducible apply tdcEnd_stored
    | with_reducible refine foldl_stored ?_ ?_
    | (with_reducible intro a; try dsimp only)
    | split
    | (dsimp only)

theorem applyStep_stored (s : State) (h : HeldStep) (hs : Stored s) : Stored (State.applyStep s h) := by
  unfold State.applyStep
  repeat' first
    | with_reducible assumption
    | with_reducible apply ttStep_stored
    | with_reducible apply stepPasses_stored
    | with_reducible apply retimeDrams_stored
    | with_reducible apply setTimeState_stored
    | with_reducible refine foldl_stored ?_ ?_
    | (with_reducible intro s y hs; try dsimp only)
    | split
    | (fail_if_no_progress (dsimp only [Stored]; with_reducible refine stored_mk ?_))

theorem stepApply_stored (s : State) (hs : Stored s) : Stored (State.stepApply s) := by
  unfold State.stepApply
  repeat' first
    | with_reducible assumption
    | with_reducible apply applyStep_stored
    | with_reducible apply setFld_stored
    | split
    | (fail_if_no_progress (dsimp only [Stored]; with_reducible refine stored_mk ?_))

theorem requestStep_stored (s : State) (h : HeldStep) (hs : Stored s) : Stored (State.requestStep s h) := by
  unfold State.requestStep
  repeat' first
    | with_reducible assumption
    | with_reducible apply setFld_stored
    | with_reducible apply stepApply_stored
    | (fail_if_no_progress (dsimp only [Stored]; with_reducible refine stored_mk ?_))

theorem timeSet_stored (s : State) (hs : Stored s) : Stored (State.timeSet s) := by
  unfold State.timeSet
  repeat' first
    | with_reducible assumption
    | with_reducible apply regFault_stored
    | with_reducible apply requestStep_stored
    | split

theorem timeAccept_stored (s : State) (hs : Stored s) : Stored (State.timeAccept s) := by
  unfold State.timeAccept
  repeat' first
    | with_reducible assumption
    | split
    | (fail_if_no_progress (dsimp only [Stored]; with_reducible refine stored_mk ?_))

theorem review_stored (s : State) (lost : Bool) (hs : Stored s) : Stored (State.review s lost) := by
  unfold State.review
  repeat' first
    | with_reducible assumption
    | with_reducible apply setFld_stored
    | with_reducible apply setReg64_stored
    | with_reducible apply setTimeState_stored
    | (with_reducible intro x; refine with_fact (p := Stored x) (fun hx => ?_) ?_; (on_goal 1 => clear_value x); (on_goal 2 => subst x))
    | split
    | (dsimp only)

theorem dropAnnounce_stored (s : State) (p : Nat) (hs : Stored s) : Stored (State.dropAnnounce s p) := by
  unfold State.dropAnnounce
  repeat' first
    | with_reducible assumption
    | with_reducible apply review_stored
    | (fail_if_no_progress (dsimp only [Stored]; with_reducible refine stored_mk ?_))

theorem announceExpires_stored (s : State) (p : Nat) (hs : Stored s) : Stored (State.announceExpires s p) := by
  unfold State.announceExpires
  repeat' first
    | with_reducible assumption
    | with_reducible apply dropAnnounce_stored
    | split

theorem timCfgWrite_stored (s : State) (v : Nat) (hs : Stored s) : Stored (State.timCfgWrite s v) := by
  unfold State.timCfgWrite
  repeat' first
    | with_reducible assumption
    | with_reducible apply review_stored
    | with_reducible apply setReg_stored

theorem timAdjWrite_stored (s : State) (v : Nat) (hs : Stored s) : Stored (State.timAdjWrite s v) := by
  unfold State.timAdjWrite
  repeat' first
    | with_reducible assumption
    | with_reducible apply regFault_stored
    | split
    | (fail_if_no_progress (dsimp only [Stored]; with_reducible refine stored_mk ?_))

theorem adjEffective_stored (s : State) (hs : Stored s) : Stored (State.adjEffective s) := by
  unfold State.adjEffective
  repeat' first
    | with_reducible assumption
    | with_reducible apply setReg_stored
    | split
    | (fail_if_no_progress (dsimp only [Stored]; with_reducible refine stored_mk ?_))

theorem slewDone_stored (s : State) (hs : Stored s) : Stored (State.slewDone s) := by
  unfold State.slewDone
  repeat' first
    | with_reducible assumption
    | with_reducible apply setTimeState_stored
    | split

theorem offerTime_stored (s : State) (p : Nat) (bytes : List Byte) (hs : Stored s) : Stored (State.offerTime s p bytes) := by
  unfold State.offerTime
  repeat' first
    | with_reducible assumption
    | with_reducible apply nextSeq_stored'
    | with_reducible apply offerFrame_stored

theorem announceTimer_stored (s : State) (p : Nat) (hs : Stored s) : Stored (State.announceTimer s p) := by
  unfold State.announceTimer
  repeat' first
    | with_reducible assumption
    | with_reducible apply offerTime_stored
    | with_reducible apply setPort_stored
    | split

theorem requestTimer_stored (s : State) (p : Nat) (hs : Stored s) : Stored (State.requestTimer s p) := by
  unfold State.requestTimer
  repeat' first
    | with_reducible assumption
    | with_reducible apply offerTime_stored
    | with_reducible apply setPort_stored
    | split

theorem setTxq_stored (s : State) (p : Nat) (q : List TxStamp) (hs : Stored s) : Stored (State.setTxq s p q) := by
  unfold State.setTxq
  repeat' first
    | with_reducible assumption
    | with_reducible apply setFld_stored
    | (fail_if_no_progress (dsimp only [Stored]; with_reducible refine stored_mk ?_))

theorem stampRequest_stored (s : State) (p : Nat) (seq : Nat) (phase : Nat) (hs : Stored s) : Stored (State.stampRequest s p seq phase) := by
  unfold State.stampRequest
  repeat' first
    | with_reducible assumption
    | with_reducible apply addSat_stored
    | with_reducible apply setTxq_stored
    | split

theorem stampSent_stored (s : State) (p : Nat) (phase : Nat) (f : Frame) (hs : Stored s) : Stored2 (State.stampSent s p phase f) := by
  unfold State.stampSent
  repeat' first
    | with_reducible assumption
    | with_reducible apply stampRequest_stored
    | with_reducible refine stored2_mk ?_
    | split

theorem stampSent_stored' (s : State) (p : Nat) (phase : Nat) (f : Frame) (hs : Stored s) : Stored (State.stampSent s p phase f).2 := stored2_out (stampSent_stored s p phase f hs)

theorem stampExpires_stored (s : State) (p : Nat) (hs : Stored s) : Stored (State.stampExpires s p) := by
  unfold State.stampExpires
  repeat' first
    | with_reducible assumption
    | with_reducible apply setTxq_stored

theorem correct_stored (s : State) (d : Int) (hs : Stored s) : Stored (State.correct s d) := by
  unfold State.correct
  repeat' first
    | with_reducible assumption
    | with_reducible apply addSat_stored
    | with_reducible apply requestStep_stored
    | with_reducible apply setFld_stored
    | with_reducible apply setTimeState_stored
    | with_reducible apply signal_stored
    | split
    | (fail_if_no_progress (dsimp only [Stored]; with_reducible refine stored_mk ?_))
    | (dsimp only)

theorem exchange_stored (s : State) (p : Nat) (t : TxStamp) (d : Nat) (phase : Nat) (hs : Stored s) : Stored (State.exchange s p t d phase) := by
  unfold State.exchange
  repeat' first
    | with_reducible assumption
    | with_reducible apply addSat_stored
    | with_reducible apply correct_stored
    | with_reducible apply setFld_stored
    | with_reducible apply setReg64_stored
    | split
    | (dsimp only)

/-! ## Links -/

theorem linkEvent_stored (s : State) (p : Nat) (hs : Stored s) : Stored (State.linkEvent s p) := by
  unfold State.linkEvent
  repeat' first
    | with_reducible assumption
    | with_reducible apply signal_stored

theorem detach_stored (s : State) (p : Nat) (hs : Stored s) : Stored (State.detach s p) := by
  unfold State.detach
  repeat' first
    | with_reducible assumption
    | with_reducible apply dropAnnounce_stored
    | with_reducible apply linkEvent_stored
    | with_reducible apply setFld_stored
    | split

theorem flushPort_stored (s : State) (p : Nat) (hs : Stored s) : Stored (State.flushPort s p) := by
  unfold State.flushPort
  repeat' first
    | with_reducible assumption
    | with_reducible apply addSat_stored
    | with_reducible apply setPort_stored

theorem acquire_stored (s : State) (p : Nat) (hs : Stored s) : Stored (State.acquire s p) := by
  unfold State.acquire
  repeat' first
    | with_reducible assumption
    | with_reducible apply setFld_stored
    | with_reducible apply setPort_stored

theorem reacquire_stored (s : State) (p : Nat) (hs : Stored s) : Stored (State.reacquire s p) := by
  unfold State.reacquire
  repeat' first
    | with_reducible assumption
    | with_reducible apply acquire_stored
    | with_reducible apply addSat_stored
    | with_reducible apply detach_stored
    | with_reducible apply flushPort_stored
    | with_reducible apply report_stored
    | split
    | (dsimp only)

theorem portUpFromDown_stored (s : State) (p : Nat) (hs : Stored s) : Stored (State.portUpFromDown s p) := by
  unfold State.portUpFromDown
  repeat' first
    | with_reducible assumption
    | with_reducible apply acquire_stored
    | split

theorem portDown_stored (s : State) (p : Nat) (hs : Stored s) : Stored (State.portDown s p) := by
  unfold State.portDown
  repeat' first
    | with_reducible assumption
    | with_reducible apply detach_stored
    | with_reducible apply flushPort_stored
    | with_reducible apply setFld_stored
    | split

theorem sendDiscover_stored (s : State) (p : Nat) (hs : Stored s) : Stored (State.sendDiscover s p) := by
  unfold State.sendDiscover
  repeat' first
    | with_reducible assumption
    | with_reducible apply nextSeq_stored'
    | with_reducible apply offerFrame_stored
    | with_reducible apply setPort_stored

theorem linkUp_stored (s : State) (p : Nat) (hs : Stored s) : Stored (State.linkUp s p) := by
  unfold State.linkUp
  repeat' first
    | with_reducible assumption
    | with_reducible apply sendDiscover_stored
    | with_reducible apply setFld_stored
    | with_reducible apply setPort_stored

theorem handshakeCheck_stored (s : State) (p : Nat) (hs : Stored s) : Stored (State.handshakeCheck s p) := by
  unfold State.handshakeCheck
  repeat' first
    | with_reducible assumption
    | with_reducible apply linkUp_stored
    | split
    | (dsimp only)

theorem enterTune_stored (s : State) (p : Nat) (hs : Stored s) : Stored (State.enterTune s p) := by
  unfold State.enterTune
  repeat' first
    | with_reducible assumption
    | with_reducible apply setFld_stored
    | with_reducible apply setPort_stored
    | split

theorem trainingRx_stored (s : State) (p : Nat) (lane : Nat) (t : Training) (valid : Bool) (skew : Nat) (hs : Stored s) : Stored (State.trainingRx s p lane t valid skew) := by
  unfold State.trainingRx
  repeat' first
    | with_reducible assumption
    | with_reducible apply enterTune_stored
    | with_reducible apply handshakeCheck_stored
    | with_reducible apply reacquire_stored
    | with_reducible apply setFld_stored
    | with_reducible apply setPort_stored
    | split
    | (dsimp only)

theorem trainingTx_stored (s : State) (p : Nat) (hs : Stored s) : Stored (State.trainingTx s p) := by
  unfold State.trainingTx
  repeat' first
    | with_reducible assumption
    | with_reducible apply handshakeCheck_stored
    | with_reducible apply setFld_stored
    | with_reducible apply setPort_stored
    | split
    | (dsimp only)

theorem trainTimeout_stored (s : State) (p : Nat) (hs : Stored s) : Stored (State.trainTimeout s p) := by
  unfold State.trainTimeout
  repeat' first
    | with_reducible assumption
    | with_reducible apply reacquire_stored
    | split
    | (dsimp only)

theorem tuneStep_stored (s : State) (p : Nat) (eyes : List Nat) (hs : Stored s) : Stored (State.tuneStep s p eyes) := by
  unfold State.tuneStep
  repeat' first
    | with_reducible assumption
    | with_reducible apply setFld_stored
    | with_reducible apply setPort_stored
    | split
    | (dsimp only)

theorem retrain_stored (s : State) (p : Nat) (hs : Stored s) : Stored (State.retrain s p) := by
  unfold State.retrain
  repeat' first
    | with_reducible assumption
    | with_reducible apply reacquire_stored
    | split

theorem discardFrame_stored (s : State) (p : Nat) (hs : Stored s) : Stored (State.discardFrame s p) := by
  unfold State.discardFrame
  repeat' first
    | with_reducible assumption
    | with_reducible apply addSat_stored
    | with_reducible apply count_stored
    | with_reducible apply reacquire_stored
    | with_reducible apply setPort_stored
    | split
    | (dsimp only)

theorem codeError_stored (s : State) (p : Nat) (lane : Nat) (hs : Stored s) : Stored (State.codeError s p lane) := by
  unfold State.codeError
  repeat' first
    | with_reducible assumption
    | with_reducible apply addSat_stored
    | with_reducible apply reacquire_stored
    | with_reducible apply setPort_stored
    | split
    | (dsimp only)

theorem alignedRx_stored (s : State) (p : Nat) (arrival : List Nat) (hs : Stored s) : Stored (State.alignedRx s p arrival) := by
  unfold State.alignedRx
  repeat' first
    | with_reducible assumption
    | with_reducible apply setPort_stored

theorem linkLoss_stored (s : State) (p : Nat) (l : LinkLoss) (hs : Stored s) : Stored (State.linkLoss s p l) := by
  unfold State.linkLoss
  repeat' first
    | with_reducible assumption
    | with_reducible apply codeError_stored
    | with_reducible apply reacquire_stored
    | with_reducible apply alignedRx_stored
    | split

theorem sendIdle_stored (s : State) (p : Nat) (hs : Stored s) : Stored (State.sendIdle s p) := by
  unfold State.sendIdle
  repeat' first
    | with_reducible assumption
    | with_reducible apply setPort_stored
    | split
    | (dsimp only)

theorem frameTx_stored (s : State) (p : Nat) (phase : Nat) (hs : Stored s) : Stored (State.frameTx s p phase) := by
  unfold State.frameTx
  repeat' first
    | with_reducible assumption
    | with_reducible apply stampSent_stored'
    | with_reducible apply setPort_stored
    | with_reducible apply setFld_stored
    | with_reducible apply sendIdle_stored
    | with_reducible apply bwBytes_stored
    | with_reducible apply count_stored
    | split
    | (dsimp only)

theorem failFrameTimer_stored (s : State) (p : Nat) (hs : Stored s) : Stored (State.failFrameTimer s p) := by
  unfold State.failFrameTimer
  repeat' first
    | with_reducible assumption
    | with_reducible apply packFail_stored
    | split
    | (dsimp only)

theorem discoverTimer_stored (s : State) (p : Nat) (hs : Stored s) : Stored (State.discoverTimer s p) := by
  unfold State.discoverTimer
  repeat' first
    | with_reducible assumption
    | with_reducible apply sendDiscover_stored
    | split

theorem creditTimer_stored (s : State) (p : Nat) (hs : Stored s) : Stored (State.creditTimer s p) := by
  unfold State.creditTimer
  repeat' first
    | with_reducible assumption
    | with_reducible apply nextSeq_stored'
    | with_reducible apply offerFrame_stored
    | with_reducible apply setPort_stored
    | split
    | (dsimp only)

theorem receive_stored (s : State) (p : Nat) (a : Arrival) (payloadOk : Bool) (take : State → State)
    (hf : ∀ s, Stored s → Stored (take s)) (hs : Stored s) : Stored (s.receive p a payloadOk take) := by
  unfold State.receive
  split
  · exact hs
  · split
    · exact hf s hs
    · exact discardFrame_stored s p hs

theorem loadPart_stored (s : State) (p : Nat) (d : Nat) (hs : Stored s) : Stored (State.loadPart s p d) := by
  unfold State.loadPart
  repeat' first
    | with_reducible assumption
    | with_reducible apply setFld_stored
    | with_reducible apply setReg64_stored

theorem discoverRx_stored (s : State) (p : Nat) (a : Arrival) (hs : Stored s) : Stored (State.discoverRx s p a) := by
  unfold State.discoverRx
  repeat' first
    | with_reducible assumption
    | with_reducible apply detach_stored
    | with_reducible apply linkEvent_stored
    | with_reducible apply loadPart_stored
    | with_reducible apply receive_stored
    | with_reducible apply setFld_stored
    | with_reducible apply setPort_stored
    | (with_reducible intro s hs; try dsimp only)
    | split

theorem linkIdWrite_stored (s : State) (v : Nat) (hs : Stored s) : Stored (State.linkIdWrite s v) := by
  unfold State.linkIdWrite
  repeat' first
    | with_reducible assumption
    | with_reducible apply setFld_stored
    | with_reducible apply setReg_stored
    | with_reducible refine foldl_stored ?_ ?_
    | (with_reducible intro s y hs; try dsimp only)
    | split

theorem deliver_stored (s : State) (event : Nat) (instant : Nat) (hs : Stored s) : Stored (State.deliver s event instant) := by
  unfold State.deliver
  repeat' first
    | with_reducible assumption
    | with_reducible apply setEngine_stored
    | with_reducible refine foldl_stored ?_ ?_
    | (with_reducible intro s y hs; try dsimp only)
    | split

theorem deliverDue_stored (s : State) (hs : Stored s) : Stored (State.deliverDue s) := by
  unfold State.deliverDue
  repeat' first
    | with_reducible assumption
    | with_reducible apply deliver_stored
    | with_reducible refine foldl_stored ?_ ?_
    | (with_reducible intro s hs; try dsimp only)
    | (fail_if_no_progress (dsimp only [Stored]; with_reducible refine stored_mk ?_))

theorem syncRx_stored (s : State) (p : Nat) (a : Arrival) (hs : Stored s) : Stored (State.syncRx s p a) := by
  unfold State.syncRx
  repeat' first
    | with_reducible assumption
    | with_reducible apply addSat_stored
    | with_reducible apply deliver_stored
    | with_reducible apply linkEvent_stored
    | with_reducible apply offerFrame_stored
    | with_reducible apply receive_stored
    | with_reducible refine foldl_stored ?_ ?_
    | (with_reducible intro s hs; try dsimp only)
    | split
    | (fail_if_no_progress (dsimp only [Stored]; with_reducible refine stored_mk ?_))

theorem linkRx_stored (s : State) (p : Nat) (a : Arrival) (hs : Stored s) : Stored (State.linkRx s p a) := by
  unfold State.linkRx
  repeat' first
    | with_reducible assumption
    | with_reducible apply receive_stored
    | with_reducible apply setFld_stored
    | with_reducible apply setPort_stored
    | (with_reducible intro s hs; try dsimp only)

theorem failRx_stored (s : State) (p : Nat) (a : Arrival) (hs : Stored s) : Stored (State.failRx s p a) := by
  unfold State.failRx
  repeat' first
    | with_reducible assumption
    | with_reducible apply setPort_stored
    | with_reducible apply addSat_stored
    | with_reducible apply receive_stored
    | with_reducible apply setLog_stored
    | with_reducible apply stageRecord_stored
    | with_reducible refine foldl_stored ?_ ?_
    | (with_reducible intro s hs; try dsimp only)
    | split

theorem timeRx_stored (s : State) (p kind : Nat) (a : Arrival) (take : State → State) (hf : ∀ s, Stored s → Stored (take s))
    (hs : Stored s) : Stored (s.timeRx p kind a take) :=
  ite_stored hs (receive_stored s p a _ _ (fun s h => ite_stored (hf s h) h) hs)

theorem requestRx_stored (s : State) (p : Nat) (a : Arrival) (phase : Nat) (hs : Stored s) : Stored (State.requestRx s p a phase) := by
  unfold State.requestRx
  repeat' first
    | with_reducible assumption
    | with_reducible apply offerTime_stored
    | with_reducible apply timeRx_stored
    | (with_reducible intro s hs; try dsimp only)

theorem responseRx_stored (s : State) (p : Nat) (a : Arrival) (phase : Nat) (hs : Stored s) : Stored (State.responseRx s p a phase) := by
  unfold State.responseRx
  repeat' first
    | with_reducible assumption
    | with_reducible apply addSat_stored
    | with_reducible apply exchange_stored
    | with_reducible apply setTxq_stored
    | with_reducible apply timeRx_stored
    | (with_reducible intro s hs; try dsimp only)
    | split

theorem announceRx_stored (s : State) (p : Nat) (a : Arrival) (hs : Stored s) : Stored (State.announceRx s p a) := by
  unfold State.announceRx
  repeat' first
    | with_reducible assumption
    | with_reducible apply review_stored
    | with_reducible apply setReg_stored
    | with_reducible apply setTimeState_stored
    | with_reducible apply timeRx_stored
    | (with_reducible intro s hs; try dsimp only)
    | split
    | (fail_if_no_progress (dsimp only [Stored]; with_reducible refine stored_mk ?_))

theorem eyeWrite_stored (s : State) (p : Nat) (v : Nat) (hs : Stored s) : Stored (State.eyeWrite s p v) := by
  unfold State.eyeWrite
  repeat' first
    | with_reducible assumption
    | with_reducible apply regFault_stored
    | with_reducible apply setFld_stored
    | with_reducible apply setPort_stored
    | with_reducible apply setReg_stored
    | split
    | (dsimp only)

theorem eyeDone_stored (s : State) (p : Nat) (errs : Nat) (hs : Stored s) : Stored (State.eyeDone s p errs) := by
  unfold State.eyeDone
  repeat' first
    | with_reducible assumption
    | with_reducible apply setFld_stored
    | with_reducible apply setPort_stored
    | with_reducible apply setReg_stored
    | split

theorem setI3c_stored (s : State) (q : Nat) (v : I3c) (hs : Stored s) : Stored (State.setI3c s q v) := by
  unfold State.setI3c
  repeat' first
    | with_reducible assumption
    | (fail_if_no_progress (dsimp only [Stored]; with_reducible refine stored_mk ?_))

theorem pemEvent_stored (s : State) (q : Nat) (hs : Stored s) : Stored (State.pemEvent s q) := by
  unfold State.pemEvent
  repeat' first
    | with_reducible assumption
    | with_reducible apply signal_stored

theorem deviceJoins_stored (s : State) (q : Nat) (pid : Nat) (bcr : Nat) (dcr : Nat) (hs : Stored s) : Stored (State.deviceJoins s q pid bcr dcr) := by
  unfold State.deviceJoins
  repeat' first
    | with_reducible assumption
    | with_reducible apply addSat_stored
    | with_reducible apply pemEvent_stored
    | with_reducible apply setFld_stored
    | with_reducible apply setI3c_stored
    | split

theorem daa_stored (s : State) (q : Nat) (devices : List (Nat × Nat × Nat)) (hs : Stored s) : Stored (State.daa s q devices) := by
  unfold State.daa
  repeat' first
    | with_reducible assumption
    | with_reducible apply deviceJoins_stored
    | with_reducible apply setI3c_stored
    | with_reducible refine foldl_stored ?_ ?_
    | (with_reducible intro s hs; try dsimp only)
    | split

theorem hotJoin_stored (s : State) (q : Nat) (pid : Nat) (bcr : Nat) (dcr : Nat) (hs : Stored s) : Stored (State.hotJoin s q pid bcr dcr) := by
  unfold State.hotJoin
  repeat' first
    | with_reducible assumption
    | with_reducible apply deviceJoins_stored
    | split

theorem loseChannels_stored (s : State) (chs : List Nat) (hs : Stored s) : Stored (State.loseChannels s chs) := by
  unfold State.loseChannels
  repeat' first
    | with_reducible assumption
    | with_reducible apply fenceChannels_stored
    | with_reducible apply tdcEnd_stored
    | with_reducible refine foldl_stored ?_ ?_
    | (with_reducible intro s y hs; try dsimp only)
    | split

theorem companionLost_stored (s : State) (q : Nat) (k : Nat) (hs : Stored s) : Stored (State.companionLost s q k) := by
  unfold State.companionLost
  repeat' first
    | with_reducible assumption
    | with_reducible apply loseChannels_stored
    | with_reducible apply pemEvent_stored
    | with_reducible apply report_stored
    | with_reducible apply setFld_stored
    | (fail_if_no_progress (dsimp only [Stored]; with_reducible refine stored_mk ?_))

theorem poll_stored (s : State) (q : Nat) (acks : Nat) (hs : Stored s) : Stored (State.poll s q acks) := by
  unfold State.poll
  repeat' first
    | with_reducible assumption
    | with_reducible apply companionLost_stored
    | with_reducible apply setI3c_stored
    | with_reducible refine foldl_stored ?_ ?_
    | (with_reducible intro s y hs; try dsimp only)
    | split

theorem companionRelease_stored (s : State) (q : Nat) (k : Nat) (hs : Stored s) : Stored (State.companionRelease s q k) := by
  unfold State.companionRelease
  repeat' first
    | with_reducible assumption
    | with_reducible apply regFault_stored
    | split
    | (fail_if_no_progress (dsimp only [Stored]; with_reducible refine stored_mk ?_))

theorem pidWrite_stored (s : State) (q : Nat) (k : Nat) (off : Nat) (v : Nat) (hs : Stored s) : Stored (State.pidWrite s q k off v) := by
  unfold State.pidWrite
  repeat' first
    | with_reducible assumption
    | with_reducible apply regFault_stored
    | with_reducible apply setFld_stored
    | with_reducible apply setReg_stored
    | split

theorem ibi_stored (s : State) (q : Nat) (da : Nat) (mdb : Nat) (hs : Stored s) : Stored (State.ibi s q da mdb) := by
  unfold State.ibi
  repeat' first
    | with_reducible assumption
    | with_reducible apply addSat_stored
    | with_reducible apply pemEvent_stored
    | with_reducible apply setFld_stored
    | split

theorem xctlWrite_stored (s : State) (q : Nat) (v : Nat) (hs : Stored s) : Stored (State.xctlWrite s q v) := by
  unfold State.xctlWrite
  repeat' first
    | with_reducible assumption
    | with_reducible apply setFld_stored
    | with_reducible apply setI3c_stored
    | split
    | (dsimp only)

theorem xferDone_stored (s : State) (q : Nat) (nack : Bool) (bytes : List Byte) (hs : Stored s) : Stored (State.xferDone s q nack bytes) := by
  unfold State.xferDone
  repeat' first
    | with_reducible assumption
    | with_reducible apply setFld_stored
    | with_reducible apply setI3c_stored
    | with_reducible refine foldl_stored ?_ ?_
    | (with_reducible intro s hs; try dsimp only)
    | split

theorem pemCfgWrite_stored (s : State) (q : Nat) (v : Nat) (hs : Stored s) : Stored (State.pemCfgWrite s q v) := by
  unfold State.pemCfgWrite
  repeat' first
    | with_reducible assumption
    | with_reducible apply regFault_stored
    | with_reducible apply setI3c_stored
    | with_reducible apply setReg_stored
    | split
    | (dsimp only)

end Sys2Proof.Machine
end

