-- ==== Sys2Proof/Laws/KeepSystem.lean ====
section
/-! SUPPORT. The stores stay in canonical form through pool, controllers, resets, faults and pairs. -/
set_option linter.unusedTactic false
set_option linter.unreachableTactic false
set_option linter.unusedVariables false
namespace Sys2Proof.Machine

/-! ## Pool -/

theorem poolWriteWord_stored (s : State) (word : Nat) (enables : Nat) (data : Nat) (hs : Stored s) : Stored (State.poolWriteWord s word enables data) := by
  unfold State.poolWriteWord
  repeat' first
    | with_reducible assumption
    | with_reducible apply poolWrite_stored
    | with_reducible refine foldl_stored ?_ ?_
    | (with_reducible intro s y hs; try dsimp only)
    | split

theorem poolCollision_stored (s : State) (r : PoolReq) (hs : Stored s) : Stored (State.poolCollision s r) := by
  unfold State.poolCollision
  repeat' first
    | with_reducible assumption
    | with_reducible apply addSat_stored
    | with_reducible apply regFaultOpen_stored
    | with_reducible apply setFld_stored
    | with_reducible apply setReg_stored
    | with_reducible apply setSlot_stored
    | split
    | (dsimp only)

theorem poolPoisoned_stored (s : State) (r : PoolReq) (hs : Stored s) : Stored (State.poolPoisoned s r) := by
  unfold State.poolPoisoned
  have h := reportPoison_stored s (r.word * 32) 32 hs
  generalize s.reportPoison (r.word * 32) 32 = t at h
  generalize r.owner = o
  cases o <;> dsimp only
  all_goals repeat' first
    | with_reducible assumption
    | with_reducible apply abortCause_stored
    | with_reducible apply jobInterrupt_stored
    | with_reducible apply interrupt_stored
    | split

theorem eccRead_stored (s : State) (word : Nat) (ecc : EccResult) (hs : Stored s) : Stored (State.eccRead s word ecc) := by
  unfold State.eccRead
  repeat' first
    | with_reducible assumption
    | with_reducible apply addSat_stored
    | split
    | (dsimp only)
    | (fail_if_no_progress (dsimp only [Stored]; with_reducible refine stored_mk ?_))

theorem poolServe_stored (s : State) (r : PoolReq) (ecc : EccResult) (hs : Stored s) : Stored (State.poolServe s r ecc) := by
  unfold State.poolServe
  repeat' first
    | with_reducible assumption
    | with_reducible apply eccRead_stored
    | with_reducible apply poolPoisoned_stored
    | with_reducible apply bwBytes_stored
    | with_reducible apply poolWriteWord_stored
    | split
    | (dsimp only)
    | (fail_if_no_progress (dsimp only [Stored]; with_reducible refine stored_mk ?_))

theorem poolCycle_stored (s : State) (bank : Nat) (arrivals : List PoolArrival) (ecc : EccResult) (hs : Stored s) : Stored (State.poolCycle s bank arrivals ecc) := by
  unfold State.poolCycle
  repeat' first
    | with_reducible assumption
    | with_reducible apply count_stored
    | with_reducible apply poolCollision_stored
    | with_reducible apply poolServe_stored
    | with_reducible refine foldl_stored ?_ ?_
    | (with_reducible intro s hs; try dsimp only)
    | split
    | (fail_if_no_progress (dsimp only [Stored]; with_reducible refine stored_mk ?_))
    | (dsimp only)

theorem poolPromote_stored (s : State) (bank : Nat) (hs : Stored s) : Stored (State.poolPromote s bank) := by
  unfold State.poolPromote
  repeat' first
    | with_reducible assumption
    | (fail_if_no_progress (dsimp only [Stored]; with_reducible refine stored_mk ?_))

theorem regionRead_stored (s : State) (r : Nat) (ecc : List (Fin 32 × EccResult)) (hs : Stored s) : Stored (State.regionRead s r ecc) := by
  unfold State.regionRead
  repeat' first
    | with_reducible assumption
    | with_reducible apply eccRead_stored
    | with_reducible apply reportPoison_stored
    | with_reducible refine foldl_stored ?_ ?_
    | (with_reducible intro s y hs; try dsimp only)
    | (fail_if_no_progress (dsimp only [Stored]; with_reducible refine stored_mk ?_))

theorem regionFails_stored (s : State) (r : Nat) (failing : List (Fin 32 × Nat)) (hs : Stored s) : Stored (State.regionFails s r failing) := by
  unfold State.regionFails
  repeat' first
    | with_reducible assumption
    | with_reducible apply addSat_stored
    | with_reducible apply report_stored
    | with_reducible refine foldl_stored ?_ ?_
    | (with_reducible intro s y hs; try dsimp only)
    | split
    | (dsimp only)
    | (fail_if_no_progress (dsimp only [Stored]; with_reducible refine stored_mk ?_))

theorem regionTest_stored (s : State) (yields : Bool) (failing : List (Fin 32 × Nat)) (ecc : List (Fin 32 × EccResult)) (hs : Stored s) : Stored (State.regionTest s yields failing ecc) := by
  unfold State.regionTest
  repeat' first
    | with_reducible assumption
    | with_reducible apply addSat_stored
    | with_reducible apply regionRead_stored
    | with_reducible apply regionFails_stored
    | split
    | (dsimp only)
    | (fail_if_no_progress (dsimp only [Stored]; with_reducible refine stored_mk ?_))

theorem poolCommand_stored (s : State) (v : Nat) (hs : Stored s) : Stored (State.poolCommand s v) := by
  unfold State.poolCommand
  repeat' first
    | with_reducible assumption
    | with_reducible apply poolCreate_stored
    | with_reducible apply poolFree_stored
    | with_reducible apply setFld_stored
    | split

theorem deepCommand_stored (s : State) (v : Nat) (hs : Stored s) : Stored (State.deepCommand s v) := by
  unfold State.deepCommand
  repeat' first
    | with_reducible assumption
    | with_reducible apply deepCreate_stored
    | with_reducible apply deepFree_stored
    | with_reducible apply setFld_stored
    | split

/-! ## Deep -/

theorem drainWrites_stored (s : State) (n : Nat) (k : Nat) (l : List Bool) (hs : Stored s) : Stored (State.drainWrites s n k l) := by
  induction k generalizing s n l with
  | zero =>
    unfold State.drainWrites
    repeat' first
      | with_reducible assumption
  | succ k ih =>
    unfold State.drainWrites
    repeat' first
      | with_reducible assumption
      | with_reducible apply failOldest_stored
      | with_reducible apply serveOldest_stored
      | with_reducible apply ih
      | split

theorem writeDrain_stored (s : State) (n : Nat) (failed : List Bool) (hs : Stored s) : Stored (State.writeDrain s n failed) := by
  unfold State.writeDrain
  repeat' first
    | with_reducible assumption
    | with_reducible apply drainWrites_stored
    | with_reducible apply addSat_stored
    | split

theorem failGone_stored (s : State) (hs : Stored s) : Stored (State.failGone s) := by
  unfold State.failGone
  repeat' first
    | with_reducible assumption
    | with_reducible apply workDone_stored
    | with_reducible refine foldl_stored ?_ ?_
    | (with_reducible intro s y hs; try dsimp only)
    | split

theorem consumersGone_stored (s : State) (hs : Stored s) : Stored (State.consumersGone s) := by
  unfold State.consumersGone
  repeat' first
    | with_reducible assumption
    | with_reducible apply abortCause_stored
    | with_reducible apply aqFault_stored
    | with_reducible apply report_stored
    | with_reducible refine foldl_stored ?_ ?_
    | (with_reducible intro s y hs; try dsimp only)
    | split

theorem fenceDram_stored (s : State) (n : Nat) (cause : Nat) (hs : Stored s) : Stored (State.fenceDram s n cause) := by
  unfold State.fenceDram
  repeat' first
    | with_reducible assumption
    | with_reducible apply consumersGone_stored
    | with_reducible apply failGone_stored
    | with_reducible apply markLost_stored
    | with_reducible apply setDram_stored
    | with_reducible apply setFld_stored
    | with_reducible apply setResv_stored
    | with_reducible refine foldl_stored ?_ ?_

theorem dramCtrlWrite_stored (s : State) (n : Nat) (v : Nat) (hs : Stored s) : Stored (State.dramCtrlWrite s n v) := by
  unfold State.dramCtrlWrite
  repeat' first
    | with_reducible assumption
    | with_reducible apply fenceDram_stored
    | with_reducible apply setDram_stored
    | split

theorem eraseDram_stored (s : State) (n : Nat) (hs : Stored s) : Stored (State.eraseDram s n) := by
  unfold State.eraseDram
  repeat' first
    | with_reducible assumption
    | with_reducible apply deepForget_stored

theorem dramResetDone_stored (s : State) (n : Nat) (trained : Bool) (temp : Int) (hs : Stored s) : Stored (State.dramResetDone s n trained temp) := by
  unfold State.dramResetDone
  repeat' first
    | with_reducible assumption
    | with_reducible apply eraseDram_stored
    | with_reducible apply setDram_stored
    | with_reducible apply setFld_stored
    | with_reducible apply setSource_stored
    | split

theorem tempCheck_stored (s : State) (temp : Int) (hs : Stored s) : Stored (State.tempCheck s temp) := by
  unfold State.tempCheck
  repeat' first
    | with_reducible assumption
    | with_reducible apply setDram_stored
    | with_reducible refine foldl_stored ?_ ?_
    | (with_reducible intro s y hs; try dsimp only)
    | split
    | (fail_if_no_progress (dsimp only [Stored]; with_reducible refine stored_mk ?_))

theorem dramRetrain_stored (s : State) (n : Nat) (found : Bool) (temp : Int) (hs : Stored s) : Stored (State.dramRetrain s n found temp) := by
  unfold State.dramRetrain
  repeat' first
    | with_reducible assumption
    | with_reducible apply addSat_stored
    | with_reducible apply fenceDram_stored
    | with_reducible apply report_stored
    | with_reducible apply setDram_stored
    | with_reducible apply setFld_stored
    | split
    | (dsimp only)

theorem selfRefresh_stored (s : State) (hs : Stored s) : Stored (State.selfRefresh s) := by
  unfold State.selfRefresh
  repeat' first
    | with_reducible assumption
    | with_reducible apply deepForget_stored
    | with_reducible apply markLost_stored
    | with_reducible apply serveOldest_stored
    | with_reducible apply setFld_stored
    | with_reducible refine foldl_stored ?_ ?_
    | with_reducible refine iter_stored ?_ ?_
    | (with_reducible intro s y hs; try dsimp only)
    | (with_reducible intro s hs; try dsimp only)

theorem selfRefreshExit_stored (s : State) (hs : Stored s) : Stored (State.selfRefreshExit s) := by
  unfold State.selfRefreshExit
  repeat' first
    | with_reducible assumption
    | with_reducible apply setDram_stored
    | with_reducible apply setFld_stored
    | with_reducible refine foldl_stored ?_ ?_
    | (with_reducible intro s y hs; try dsimp only)

/-! ## Reset -/

theorem enterBoot_stored (s : State) (v : Nat) (hs : Stored s) : Stored (State.enterBoot s v) := by
  unfold State.enterBoot
  repeat' first
    | with_reducible assumption
    | with_reducible apply setFld_stored
    | (with_reducible intro x; refine with_fact (p := Stored x) (fun hx => ?_) ?_; (on_goal 1 => clear_value x); (on_goal 2 => subst x))
    | split
    | (fail_if_no_progress (dsimp only [Stored]; with_reducible refine stored_mk ?_))

theorem enterRom_stored (s : State) (hs : Stored s) : Stored (State.enterRom s) := by
  unfold State.enterRom
  repeat' first
    | with_reducible assumption
    | with_reducible apply enterBoot_stored
    | with_reducible apply setFld_stored
    | with_reducible apply setReg_stored
    | with_reducible apply setReg64_stored
    | (fail_if_no_progress (dsimp only [Stored]; with_reducible refine stored_mk ?_))

theorem chipReset_stored (s : State) (cause : Nat) (src : Nat) (hs : Stored s) : Stored (State.chipReset s cause src) := by
  unfold State.chipReset
  repeat' first
    | with_reducible assumption
    | with_reducible apply chipFresh_stored
    | with_reducible apply enterRom_stored
    | with_reducible apply setReg_stored
    | (fail_if_no_progress (dsimp only [Stored]; with_reducible refine stored_mk ?_))

/-! ## Stream -/

theorem streamFetch_stored (s : State) (sg : Nat) (bad : Bool) (hs : Stored s) : Stored (State.streamFetch s sg bad) := by
  induction sg generalizing s bad with
  | zero =>
    unfold State.streamFetch
    repeat' first
      | with_reducible assumption
      | with_reducible apply readFails_stored
      | with_reducible apply setEngine_stored
      | with_reducible apply countRead_stored
      | split
      | (dsimp only)
  | succ sg ih =>
    unfold State.streamFetch
    repeat' first
      | with_reducible assumption
      | with_reducible apply readFails_stored
      | with_reducible apply setEngine_stored
      | with_reducible apply countRead_stored
      | split
      | (dsimp only)

theorem showTraps_stored (s : State) (sg : Nat) (hs : Stored s) : Stored (State.showTraps s sg) := by
  unfold State.showTraps
  repeat' first
    | with_reducible assumption
    | with_reducible apply setFld_stored

theorem requestTrap_stored (s : State) (sg : Nat) (kind : Nat) (hs : Stored s) : Stored (State.requestTrap s sg kind) := by
  unfold State.requestTrap
  repeat' first
    | with_reducible assumption
    | with_reducible apply setEngine_stored
    | with_reducible apply showTraps_stored
    | split
    | (dsimp only)

theorem setRegs_stored (s : State) (reg : Nat → Nat) (n : Nat) (vals : List Nat) (hs : Stored s) : Stored (State.setRegs s reg n vals) := by
  unfold State.setRegs
  repeat' first
    | with_reducible assumption
    | with_reducible apply setReg_stored
    | with_reducible refine foldl_stored ?_ ?_
    | (with_reducible intro s hs; try dsimp only)

theorem snapshot_stored (s : State) (sg : Nat) (ls : List LoopLevel) (cs : List Nat) (hs : Stored s) : Stored (State.snapshot s sg ls cs) := by
  unfold State.snapshot
  repeat' first
    | with_reducible assumption
    | with_reducible apply setFld_stored
    | with_reducible apply setRegs_stored

theorem trapWork_stored (s : State) (sg : Nat) (cause : Nat) (p : Wait) (hs : Stored s) : Stored (State.trapWork s sg cause p) := by
  unfold State.trapWork
  repeat' first
    | with_reducible assumption
    | with_reducible apply snapshot_stored
    | with_reducible apply scrub_stored
    | split

theorem trapEntry_stored (s : State) (sg : Nat) (hs : Stored s) : Stored (State.trapEntry s sg) := by
  unfold State.trapEntry
  repeat' first
    | with_reducible assumption
    | with_reducible apply addSat_stored
    | with_reducible apply setFld_stored
    | with_reducible apply trapWork_stored
    | with_reducible apply showTraps_stored
    | with_reducible apply setEngine_stored
    | with_reducible apply trapRuns_stored
    | with_reducible apply setRegs_stored
    | with_reducible apply count_stored
    | split
    | (dsimp only)

theorem trapResume_stored (s : State) (sg : Nat) (flip : Option Nat) (hs : Stored s) : Stored (State.trapResume s sg flip) := by
  unfold State.trapResume
  repeat' first
    | with_reducible assumption
    | with_reducible apply setReg_stored
    | with_reducible apply setFld_stored
    | with_reducible apply report_stored
    | with_reducible apply setMicro_stored
    | with_reducible apply setEngine_stored
    | with_reducible apply fenceEngine_stored
    | split
    | (dsimp only)

theorem trapLimit_stored (s : State) (sg : Nat) (hs : Stored s) : Stored (State.trapLimit s sg) := by
  unfold State.trapLimit
  repeat' first
    | with_reducible assumption
    | with_reducible apply abortCause_stored
    | with_reducible apply report_stored
    | split
    | (dsimp only)

theorem noteUpset_stored (s : State) (sg : Nat) (addr : Nat) (hs : Stored s) : Stored (State.noteUpset s sg addr) := by
  unfold State.noteUpset
  repeat' first
    | with_reducible assumption
    | with_reducible apply setMicro_stored
    | split
    | (dsimp only)

theorem storeError_stored (s : State) (sg : Nat) (addr : Nat) (correctable : Bool) (hs : Stored s) : Stored (State.storeError s sg addr correctable) := by
  unfold State.storeError
  repeat' first
    | with_reducible assumption
    | with_reducible apply addSat_stored
    | with_reducible apply noteUpset_stored
    | with_reducible apply setFld_stored
    | with_reducible apply report_stored
    | with_reducible apply fenceEngine_stored
    | with_reducible apply requestTrap_stored
    | split

/-! ## Faults -/

theorem setFirstFault_stored (s : State) (n : Nat) (hs : Stored s) : Stored (State.setFirstFault s n) := by
  unfold State.setFirstFault
  repeat' first
    | with_reducible assumption
    | with_reducible apply setReg_stored
    | with_reducible refine foldl_stored ?_ ?_
    | (with_reducible intro s hs; try dsimp only)

theorem fillFirst_stored (s : State) (src : Nat) (word : Nat) (hs : Stored s) : Stored (State.fillFirst s src word) := by
  unfold State.fillFirst
  repeat' first
    | with_reducible assumption
    | with_reducible apply setFirstFault_stored
    | split
    | (dsimp only)

theorem pushReaction_stored (s : State) (r : Reaction) (hs : Stored s) : Stored (State.pushReaction s r) := by
  unfold State.pushReaction
  repeat' first
    | with_reducible assumption
    | (fail_if_no_progress (dsimp only [Stored]; with_reducible refine stored_mk ?_))

theorem faultOut_stored (s : State) (hs : Stored s) : Stored (State.faultOut s) := by
  unfold State.faultOut
  repeat' first
    | with_reducible assumption
    | with_reducible apply setFld_stored

theorem faultOutMeets_stored (s : State) (cfg : Nat) (hs : Stored s) : Stored (State.faultOutMeets s cfg) := by
  unfold State.faultOutMeets
  repeat' first
    | with_reducible assumption
    | with_reducible apply faultOut_stored
    | split

theorem register_stored (s : State) (m : FaultMsg) (hs : Stored s) : Stored (State.register s m) := by
  unfold State.register
  repeat' first
    | with_reducible assumption
    | with_reducible apply addSat_stored
    | with_reducible apply faultOutMeets_stored
    | with_reducible apply fillFirst_stored
    | with_reducible apply pushReaction_stored
    | with_reducible apply report_stored
    | with_reducible apply setFld_stored
    | with_reducible apply setSource_stored
    | with_reducible apply takeover_stored
    | with_reducible refine foldl_stored ?_ ?_
    | split
    | (dsimp only)

theorem faultRegister_stored (s : State) (hs : Stored s) : Stored (State.faultRegister s) := by
  unfold State.faultRegister
  repeat' first
    | with_reducible assumption
    | with_reducible apply register_stored
    | split
    | (fail_if_no_progress (dsimp only [Stored]; with_reducible refine stored_mk ?_))

theorem captureFails_stored (s : State) (u : Nat) (hs : Stored s) : Stored (State.captureFails s u) := by
  unfold State.captureFails
  repeat' first
    | with_reducible assumption
    | with_reducible apply aqEnd_stored
    | with_reducible apply aqTruncate_stored
    | with_reducible apply drawn_stored
    | split

theorem measureFails_stored (s : State) (u : Nat) (hs : Stored s) : Stored (State.measureFails s u) := by
  unfold State.measureFails
  repeat' first
    | with_reducible assumption
    | with_reducible apply tdcEnd_stored
    | with_reducible refine foldl_stored ?_ ?_
    | (with_reducible intro s y hs; try dsimp only)
    | split

theorem jobStops_stored (s : State) (p : Nat) (fail : Bool) (hs : Stored s) : Stored (State.jobStops s p fail) := by
  unfold State.jobStops
  repeat' first
    | with_reducible assumption
    | with_reducible apply jobFail_stored
    | with_reducible apply jobInterrupt_stored
    | split

theorem abortWhere_stored (s : State) (p : Nat → Bool) (hs : Stored s) : Stored (State.abortWhere s p) := by
  unfold State.abortWhere
  repeat' first
    | with_reducible assumption
    | with_reducible apply abortCause_stored
    | with_reducible refine foldl_stored ?_ ?_
    | (with_reducible intro s y hs; try dsimp only)
    | split

theorem blockReset_stored (s : State) (src : Nat) (hs : Stored s) : Stored (State.blockReset s src) := by
  unfold State.blockReset
  repeat' first
    | with_reducible assumption
    | with_reducible apply abortCause_stored
    | with_reducible apply acquire_stored
    | with_reducible apply addSat_stored
    | with_reducible apply captureFails_stored
    | with_reducible apply detach_stored
    | with_reducible apply flushPort_stored
    | with_reducible apply interrupt_stored
    | with_reducible apply jobStops_stored
    | with_reducible apply measureFails_stored
    | with_reducible apply setEngine_stored
    | with_reducible apply setI3c_stored
    | with_reducible apply setSource_stored
    | with_reducible apply showTraps_stored
    | (with_reducible intro x; refine with_fact (p := Stored x) (fun hx => ?_) ?_; (on_goal 1 => clear_value x); (on_goal 2 => subst x))
    | split
    | (dsimp only)

theorem moveElsewhere_stored (s : State) (src : Nat) (fail : Bool) (hs : Stored s) : Stored (State.moveElsewhere s src fail) := by
  unfold State.moveElsewhere
  repeat' first
    | with_reducible assumption
    | with_reducible apply interrupt_stored
    | with_reducible apply setSlot_stored
    | with_reducible apply workDone_stored
    | (with_reducible intro x; refine with_fact (p := Stored x) (fun hx => ?_) ?_; (on_goal 1 => clear_value x); (on_goal 2 => subst x))
    | split
    | (dsimp only)

theorem endWork_stored (s : State) (src : Nat) (fail : Bool) (hs : Stored s) : Stored (State.endWork s src fail) := by
  unfold State.endWork
  repeat' first
    | with_reducible assumption
    | with_reducible apply abortWhere_stored
    | with_reducible apply captureFails_stored
    | with_reducible apply fenceDram_stored
    | with_reducible apply fenceEngine_stored
    | with_reducible apply jobStops_stored
    | with_reducible apply loseChannels_stored
    | with_reducible apply measureFails_stored
    | with_reducible apply moveElsewhere_stored
    | with_reducible apply portDown_stored
    | with_reducible apply setFld_stored
    | with_reducible apply workDone_stored
    | with_reducible refine ite_stored ?_ ?_
    | split

theorem fenceSource_stored (s : State) (src : Nat) (fail : Bool) (hs : Stored s) : Stored (State.fenceSource s src fail) := by
  unfold State.fenceSource
  repeat' first
    | with_reducible assumption
    | with_reducible apply endWork_stored
    | with_reducible apply setSource_stored
    | split

theorem signalFault_stored (s : State) (src : Nat) (cfg : Nat) (hs : Stored s) : Stored (State.signalFault s src cfg) := by
  unfold State.signalFault
  repeat' first
    | with_reducible assumption
    | with_reducible apply faultOut_stored
    | with_reducible apply signal_stored
    | split
    | (fail_if_no_progress (dsimp only [Stored]; with_reducible refine stored_mk ?_))
    | (dsimp only)

theorem react_stored (s : State) (r : Reaction) (hs : Stored s) : Stored (State.react s r) := by
  unfold State.react
  repeat' first
    | with_reducible assumption
    | with_reducible apply blockReset_stored
    | with_reducible apply chipReset_stored
    | with_reducible apply faultOut_stored
    | with_reducible apply fenceSource_stored
    | with_reducible apply signal_stored
    | with_reducible apply signalFault_stored
    | split
    | (dsimp only)

theorem faultReaction_stored (s : State) (hs : Stored s) : Stored (State.faultReaction s) := by
  unfold State.faultReaction
  repeat' first
    | with_reducible assumption
    | with_reducible apply react_stored
    | split
    | (fail_if_no_progress (dsimp only [Stored]; with_reducible refine stored_mk ?_))

theorem backInService_stored (s : State) (src : Nat) (hs : Stored s) : Stored (State.backInService s src) := by
  unfold State.backInService
  repeat' first
    | with_reducible assumption
    | with_reducible apply portUpFromDown_stored
    | with_reducible apply setFld_stored
    | with_reducible apply setSource_stored
    | split
    | (dsimp only)

theorem checkFails_stored (s : State) (src : Nat) (hs : Stored s) : Stored (State.checkFails s src) := by
  unfold State.checkFails
  repeat' first
    | with_reducible assumption
    | with_reducible apply drawn_stored
    | with_reducible apply report_stored

theorem reloadStore_stored (s : State) (src : Nat) (hs : Stored s) : Stored (State.reloadStore s src) := by
  unfold State.reloadStore
  repeat' first
    | with_reducible assumption
    | with_reducible apply loadStore_stored
    | split

theorem blockResetDone_stored (s : State) (src : Nat) (passed : Bool) (masterError : Bool) (hs : Stored s) : Stored (State.blockResetDone s src passed masterError) := by
  unfold State.blockResetDone
  repeat' first
    | with_reducible assumption
    | with_reducible apply setSource_stored
    | with_reducible apply closeWindows_stored
    | with_reducible apply reloadStore_stored
    | with_reducible apply checkFails_stored
    | with_reducible apply backInService_stored
    | with_reducible apply fenceSource_stored
    | split
    | (fail_if_no_progress (dsimp only [Stored]; with_reducible refine stored_mk ?_))

theorem unfence_stored (s : State) (hs : Stored s) : Stored (State.unfence s) := by
  unfold State.unfence
  repeat' first
    | with_reducible assumption
    | with_reducible apply blockReset_stored
    | with_reducible apply setSource_stored
    | split
    | (dsimp only)

theorem selfCheckDone_stored (s : State) (src : Nat) (passed : Bool) (hs : Stored s) : Stored (State.selfCheckDone s src passed) := by
  unfold State.selfCheckDone
  repeat' first
    | with_reducible assumption
    | with_reducible apply checkFails_stored
    | with_reducible apply setSource_stored
    | split

theorem clearFirst_stored (s : State) (hs : Stored s) : Stored (State.clearFirst s) := by
  unfold State.clearFirst
  repeat' first
    | with_reducible assumption
    | with_reducible apply setFirstFault_stored

theorem releaseFault_stored (s : State) (hs : Stored s) : Stored (State.releaseFault s) := by
  unfold State.releaseFault
  repeat' first
    | with_reducible assumption
    | with_reducible apply setFld_stored
    | split
    | (fail_if_no_progress (dsimp only [Stored]; with_reducible refine stored_mk ?_))

theorem inject_stored (s : State) (v : Nat) (hs : Stored s) : Stored (State.inject s v) := by
  unfold State.inject
  repeat' first
    | with_reducible assumption
    | with_reducible apply report_stored
    | split

theorem stickyClear_stored (s : State) (src : Nat) (hs : Stored s) : Stored (State.stickyClear s src) := by
  unfold State.stickyClear
  repeat' first
    | with_reducible assumption
    | with_reducible apply setFld_stored
    | with_reducible apply setSource_stored
    | split

theorem stickyWrite_stored (s : State) (w : Nat) (v : Nat) (hs : Stored s) : Stored (State.stickyWrite s w v) := by
  unfold State.stickyWrite
  repeat' first
    | with_reducible assumption
    | with_reducible apply stickyClear_stored
    | with_reducible refine foldl_stored ?_ ?_
    | (with_reducible intro s hs; try dsimp only)

theorem srcCfgWrite_stored (s : State) (v : Nat) (hs : Stored s) : Stored (State.srcCfgWrite s v) := by
  unfold State.srcCfgWrite
  repeat' first
    | with_reducible assumption
    | with_reducible apply setSource_stored
    | split
    | (dsimp only)

/-! ## Backstay -/

theorem pairRx_stored (s : State) (p : Nat) (a : Arrival) (type : Nat → Bool) (take : Nat → State → State)
    (hf : ∀ g s, Stored s → Stored (take g s)) (hs : Stored s) : Stored (s.pairRx p a type take) :=
  ite_stored hs (receive_stored s p a _ _ (fun s h => ite_stored h (hf _ _ (setFld_stored s _ _ h))) hs)

theorem armRx_stored (s : State) (p : Nat) (a : Arrival) (hs : Stored s) : Stored (State.armRx s p a) := by
  unfold State.armRx
  repeat' first
    | with_reducible assumption
    | with_reducible apply pairMatch_stored
    | with_reducible apply pairRx_stored
    | with_reducible apply setPair_stored
    | (with_reducible intro s y hs; try dsimp only)

theorem matchDeadline_stored (s : State) (sg : Nat) (hs : Stored s) : Stored (State.matchDeadline s sg) := by
  unfold State.matchDeadline
  repeat' first
    | with_reducible assumption
    | with_reducible apply dropCommits_stored
    | with_reducible apply setEngine_stored
    | with_reducible apply setFld_stored
    | with_reducible apply workDone_stored
    | (with_reducible intro x; refine with_fact (p := Stored x) (fun hx => ?_) ?_; (on_goal 1 => clear_value x); (on_goal 2 => subst x))
    | split
    | (dsimp only)

theorem disagree_stored (s : State) (sg : Nat) (cycle : Nat) (hs : Stored s) : Stored (State.disagree s sg cycle) := by
  unfold State.disagree
  repeat' first
    | with_reducible assumption
    | with_reducible apply addSat_stored
    | with_reducible apply report_stored
    | with_reducible apply setFld_stored
    | with_reducible apply setPair_stored
    | with_reducible apply setReg64_stored
    | split
    | (dsimp only)

theorem comparePairs_stored (s : State) (sg : Nat) (hs : Stored s) : Stored (State.comparePairs s sg) := by
  unfold State.comparePairs
  repeat' first
    | with_reducible assumption
    | with_reducible apply disagree_stored
    | with_reducible apply setPair_stored
    | with_reducible refine foldl_stored ?_ ?_
    | (with_reducible intro a; try dsimp only)
    | split

theorem digestSend_stored (s : State) (sg : Nat) (hs : Stored s) : Stored (State.digestSend s sg) := by
  unfold State.digestSend
  repeat' first
    | with_reducible assumption
    | with_reducible apply comparePairs_stored
    | with_reducible apply drawn_stored
    | with_reducible apply sendPair_stored
    | with_reducible apply setPair_stored
    | split
    | (dsimp only)

theorem digestRx_stored (s : State) (p : Nat) (a : Arrival) (hs : Stored s) : Stored (State.digestRx s p a) := by
  unfold State.digestRx
  repeat' first
    | with_reducible assumption
    | with_reducible apply comparePairs_stored
    | with_reducible apply pairRx_stored
    | with_reducible apply setFld_stored
    | with_reducible apply setPair_stored
    | (with_reducible intro s y hs; try dsimp only)
    | split

theorem partnerLost_stored (s : State) (sg : Nat) (hs : Stored s) : Stored (State.partnerLost s sg) := by
  unfold State.partnerLost
  repeat' first
    | with_reducible assumption
    | with_reducible apply report_stored
    | with_reducible apply setFld_stored
    | with_reducible apply setPair_stored
    | split
    | (dsimp only)

theorem takeoverRx_stored (s : State) (p : Nat) (a : Arrival) (hs : Stored s) : Stored (State.takeoverRx s p a) := by
  unfold State.takeoverRx
  repeat' first
    | with_reducible assumption
    | with_reducible apply pairRx_stored
    | with_reducible apply setFld_stored
    | with_reducible apply setPair_stored
    | (with_reducible intro s y hs; try dsimp only)
    | split

theorem pselRestore_stored (s : State) (v : Nat) (hs : Stored s) : Stored (State.pselRestore s v) := by
  unfold State.pselRestore
  repeat' first
    | with_reducible assumption
    | with_reducible apply regFault_stored
    | with_reducible refine foldl_stored ?_ ?_
    | (with_reducible intro s y hs; try dsimp only)
    | split
    | (fail_if_no_progress (dsimp only [Stored]; with_reducible refine stored_mk ?_))
    | (dsimp only)

end Sys2Proof.Machine
end

