-- ==== Sys2Proof/Laws/KeepHost.lean ====
section
/-! SUPPORT. The stores stay in canonical form through bursts, sensors, Shroud, start-up, host access and the clock. -/
set_option linter.unusedTactic false
set_option linter.unreachableTactic false
set_option linter.unusedVariables false
namespace Sys2Proof.Machine

/-! ## Bursts -/

theorem burstStart_stored (s : State) (sg : Nat) (hs : Stored s) : Stored (State.burstStart s sg) := by
  unfold State.burstStart
  repeat' first
    | with_reducible assumption
    | with_reducible apply startBurst_stored
    | with_reducible apply meetTack_stored
    | split

theorem offerEnd_stored (s : State) (sg : Nat) (hs : Stored s) : Stored (State.offerEnd s sg) := by
  unfold State.offerEnd
  repeat' first
    | with_reducible assumption
    | with_reducible apply cvEnd_stored
    | with_reducible apply setEngine_stored
    | with_reducible apply stopUnits_stored
    | with_reducible apply stageRecord_stored
    | with_reducible refine foldl_stored ?_ ?_
    | split
    | (dsimp only)

theorem burstComplete_stored (s : State) (sg : Nat) (hs : Stored s) : Stored (State.burstComplete s sg) := by
  unfold State.burstComplete
  repeat' first
    | with_reducible assumption
    | with_reducible apply setFld_stored
    | with_reducible apply workDone_stored
    | with_reducible apply setEngine_stored
    | with_reducible apply setPair_stored
    | with_reducible apply advance_stored
    | with_reducible apply offerEnd_stored
    | split
    | (dsimp only)

/-! ## Thermal -/

theorem followTherm_stored (s : State) (hs : Stored s) : Stored (State.followTherm s) := by
  unfold State.followTherm
  repeat' first
    | with_reducible assumption
    | with_reducible apply setFld_stored
    | with_reducible apply signal_stored
    | split

theorem thermChange_stored (s : State) (low : Bool) (hs : Stored s) : Stored (State.thermChange s low) := by
  unfold State.thermChange
  repeat' first
    | with_reducible assumption
    | with_reducible apply followTherm_stored
    | split
    | (fail_if_no_progress (dsimp only [Stored]; with_reducible refine stored_mk ?_))
    | (dsimp only)

theorem driveTherm_stored (s : State) (temps : List Int) (hs : Stored s) : Stored (State.driveTherm s temps) := by
  unfold State.driveTherm
  repeat' first
    | with_reducible assumption
    | with_reducible apply followTherm_stored
    | with_reducible apply setFld_stored
    | split

theorem showTemp_stored (s : State) (temps : List Int) (hs : Stored s) : Stored (State.showTemp s temps) := by
  unfold State.showTemp
  repeat' first
    | with_reducible assumption
    | with_reducible apply setReg_stored

theorem bankStat_stored (s : State) (sets : List (Nat × Nat × Nat × Bool)) (first : Bool) (b : Nat) (t : Int) (hs : Stored s) : Stored (State.bankStat s sets first b t) := by
  unfold State.bankStat
  repeat' first
    | with_reducible assumption
    | with_reducible apply report_stored
    | with_reducible apply setFld_stored
    | split

theorem groupTrims_stored (s : State) (sets : List (Nat × Nat × Nat × Bool)) (temps : List Int) (sg : Nat) (hs : Stored s) : Stored (State.groupTrims s sets temps sg) := by
  unfold State.groupTrims
  repeat' first
    | with_reducible assumption
    | with_reducible apply applyValues_stored
    | split
    | (fail_if_no_progress (dsimp only [Stored]; with_reducible refine stored_mk ?_))
    | (dsimp only)

theorem computeTrims_stored (s : State) (temps : List Int) (first : Bool) (hs : Stored s) : Stored (State.computeTrims s temps first) := by
  unfold State.computeTrims
  repeat' first
    | with_reducible assumption
    | with_reducible apply bankStat_stored
    | with_reducible apply groupTrims_stored
    | with_reducible apply setTrim_stored
    | with_reducible refine foldl_stored ?_ ?_
    | (with_reducible intro s y hs; try dsimp only)

theorem thermalFaults_stored (s : State) (temps : List Int) (hs : Stored s) : Stored (State.thermalFaults s temps) := by
  unfold State.thermalFaults
  repeat' first
    | with_reducible assumption
    | with_reducible apply report_stored
    | with_reducible refine foldl_stored ?_ ?_
    | (with_reducible intro s y hs; try dsimp only)
    | split

theorem readSensors_stored (s : State) (temps : List Int) (first : Bool) (hs : Stored s) : Stored (State.readSensors s temps first) := by
  unfold State.readSensors
  repeat' first
    | with_reducible assumption
    | with_reducible apply computeTrims_stored
    | with_reducible apply driveTherm_stored
    | with_reducible apply showTemp_stored
    | with_reducible apply thermalFaults_stored
    | (fail_if_no_progress (dsimp only [Stored]; with_reducible refine stored_mk ?_))

theorem sensorRead_stored (s : State) (temps : List Int) (hs : Stored s) : Stored (State.sensorRead s temps) := by
  unfold State.sensorRead
  repeat' first
    | with_reducible assumption
    | with_reducible apply readSensors_stored
    | split

/-! ## Shroud -/

theorem deriveIdentity_stored (s : State) (hs : Stored s) : Stored (State.deriveIdentity s) := by
  unfold State.deriveIdentity
  repeat' first
    | with_reducible assumption
    | with_reducible apply report_stored
    | with_reducible apply setFld_stored
    | split
    | (fail_if_no_progress (dsimp only [Stored]; with_reducible refine stored_mk ?_))
    | (dsimp only)

theorem drawNonce_stored (s : State) (hs : Stored s) : Stored (State.drawNonce s) := by
  unfold State.drawNonce
  repeat' first
    | with_reducible assumption
    | with_reducible apply drawn_stored
    | with_reducible apply setReg_stored
    | with_reducible refine foldl_stored ?_ ?_
    | (with_reducible intro s hs; try dsimp only)

theorem commitFwSvn_stored (s : State) (hs : Stored s) : Stored (State.commitFwSvn s) := by
  unfold State.commitFwSvn
  repeat' first
    | with_reducible assumption
    | with_reducible apply setFld_stored
    | split
    | (fail_if_no_progress (dsimp only [Stored]; with_reducible refine stored_mk ?_))
    | (dsimp only)

theorem commitUcSvn_stored (s : State) (hs : Stored s) : Stored (State.commitUcSvn s) := by
  unfold State.commitUcSvn
  repeat' first
    | with_reducible assumption
    | with_reducible apply setFld_stored
    | split
    | (fail_if_no_progress (dsimp only [Stored]; with_reducible refine stored_mk ?_))
    | (dsimp only)

theorem fuseDone_stored (s : State) (firmware : Bool) (hs : Stored s) : Stored (State.fuseDone s firmware) := by
  unfold State.fuseDone
  repeat' first
    | with_reducible assumption
    | with_reducible apply setFld_stored
    | split
    | (fail_if_no_progress (dsimp only [Stored]; with_reducible refine stored_mk ?_))

theorem moveLifecycle_stored (s : State) (v : Nat) (hs : Stored s) : Stored (State.moveLifecycle s v) := by
  unfold State.moveLifecycle
  repeat' first
    | with_reducible assumption
    | with_reducible apply setFld_stored
    | (fail_if_no_progress (dsimp only [Stored]; with_reducible refine stored_mk ?_))

theorem shrCtrlWrite_stored (s : State) (v : Nat) (hs : Stored s) : Stored (State.shrCtrlWrite s v) := by
  unfold State.shrCtrlWrite
  repeat' first
    | with_reducible assumption
    | with_reducible apply commitFwSvn_stored
    | with_reducible apply moveLifecycle_stored
    | with_reducible apply regFault_stored
    | split
    | (dsimp only)

theorem provision_stored (s : State) (seed : Nat) (helper : List Byte) (certificate : List Byte) (sets : List (Nat × List Byte)) (hs : Stored s) : Stored (State.provision s seed helper certificate sets) := by
  unfold State.provision
  repeat' first
    | with_reducible assumption
    | with_reducible apply closeRecord_stored
    | with_reducible apply keepWrite_stored
    | with_reducible apply moveLifecycle_stored
    | with_reducible refine foldl_stored ?_ ?_
    | (with_reducible intro s y hs; try dsimp only)
    | split
    | (fail_if_no_progress (dsimp only [Stored]; with_reducible refine stored_mk ?_))

theorem attStart_stored (s : State) (v : Nat) (hs : Stored s) : Stored (State.attStart s v) := by
  unfold State.attStart
  repeat' first
    | with_reducible assumption
    | with_reducible apply regFault_stored
    | with_reducible apply setFld_stored
    | split

theorem attDone_stored (s : State) (hs : Stored s) : Stored (State.attDone s) := by
  unfold State.attDone
  repeat' first
    | with_reducible assumption
    | with_reducible apply poolWrite_stored
    | with_reducible apply setFld_stored
    | (with_reducible intro x; refine with_fact (p := Stored x) (fun hx => ?_) ?_; (on_goal 1 => clear_value x); (on_goal 2 => subst x))
    | split
    | (dsimp only)

theorem eraseSecrets_stored (s : State) (level : Nat) (hs : Stored s) : Stored (State.eraseSecrets s level) := by
  unfold State.eraseSecrets
  repeat' first
    | with_reducible assumption
    | with_reducible apply deepErase_stored
    | with_reducible apply drawn_stored
    | with_reducible apply poolErase_stored
    | with_reducible apply sealChunk_stored
    | with_reducible apply setFld_stored
    | with_reducible apply setLog_stored
    | with_reducible apply setPoolProt_stored
    | with_reducible apply unloadSection_stored
    | with_reducible refine foldl_stored ?_ ?_
    | (with_reducible intro s y hs; try dsimp only)
    | split
    | (fail_if_no_progress (dsimp only [Stored]; with_reducible refine stored_mk ?_))

theorem debugOpen_stored (s : State) (hs : Stored s) : Stored (State.debugOpen s) := by
  unfold State.debugOpen
  repeat' first
    | with_reducible assumption
    | with_reducible apply addSat_stored
    | with_reducible apply drawNonce_stored
    | with_reducible apply eraseSecrets_stored
    | with_reducible apply report_stored
    | with_reducible apply setFld_stored
    | (with_reducible intro x; refine with_fact (p := Stored x) (fun hx => ?_) ?_; (on_goal 1 => clear_value x); (on_goal 2 => subst x))
    | split
    | (fail_if_no_progress (dsimp only [Stored]; with_reducible refine stored_mk ?_))
    | (dsimp only)

theorem debugClose_stored (s : State) (hs : Stored s) : Stored (State.debugClose s) := by
  unfold State.debugClose
  repeat' first
    | with_reducible assumption
    | with_reducible apply eraseSecrets_stored
    | with_reducible apply regFault_stored
    | split

theorem dbgCtrlWrite_stored (s : State) (v : Nat) (hs : Stored s) : Stored (State.dbgCtrlWrite s v) := by
  unfold State.dbgCtrlWrite
  repeat' first
    | with_reducible assumption
    | with_reducible apply debugClose_stored
    | with_reducible apply debugOpen_stored
    | split

theorem eraseDone_stored (s : State) (hs : Stored s) : Stored (State.eraseDone s) := by
  unfold State.eraseDone
  repeat' first
    | with_reducible assumption
    | with_reducible apply setFld_stored
    | split
    | lift_lets
    | (fail_if_no_progress (dsimp only [Stored]; with_reducible refine stored_mk ?_))

theorem extest_stored (s : State) (code : Nat) (hs : Stored s) : Stored (State.extest s code) := by
  unfold State.extest
  repeat' first
    | with_reducible assumption
    | (fail_if_no_progress (dsimp only [Stored]; with_reducible refine stored_mk ?_))

/-! ## CrowsNest -/

theorem cnsWrap_stored (s : State) (k : Nat) (n : Nat) (hs : Stored s) : Stored (State.cnsWrap s k n) := by
  unfold State.cnsWrap
  repeat' first
    | with_reducible assumption
    | with_reducible apply cnsSee_stored
    | split
    | (dsimp only)

theorem setCns_stored (s : State) (k : Nat) (v : Nat) (hs : Stored s) : Stored (State.setCns s k v) := by
  unfold State.setCns
  repeat' first
    | with_reducible assumption
    | with_reducible apply setFld_stored
    | with_reducible apply setReg_stored

theorem cnsClearAll_stored (s : State) (hs : Stored s) : Stored (State.cnsClearAll s) := by
  unfold State.cnsClearAll
  repeat' first
    | with_reducible assumption
    | with_reducible apply regFault_stored
    | with_reducible apply setCns_stored
    | with_reducible refine foldl_stored ?_ ?_
    | (with_reducible intro s hs; try dsimp only)
    | split

theorem cnsCtrlWrite_stored (s : State) (v : Nat) (hs : Stored s) : Stored (State.cnsCtrlWrite s v) := by
  unfold State.cnsCtrlWrite
  repeat' first
    | with_reducible assumption
    | with_reducible apply cnsClearAll_stored
    | with_reducible apply setFld_stored
    | split

theorem cnsWrite_stored (s : State) (k : Nat) (hi : Bool) (v : Nat) (hs : Stored s) : Stored (State.cnsWrite s k hi v) := by
  unfold State.cnsWrite
  repeat' first
    | with_reducible assumption
    | with_reducible apply regFault_stored
    | with_reducible apply setFld_stored
    | with_reducible apply setReg_stored
    | (with_reducible intro x; refine with_fact (p := Stored x) (fun hx => ?_) ?_; (on_goal 1 => clear_value x); (on_goal 2 => subst x))
    | split
    | (fail_if_no_progress (dsimp only [Stored]; with_reducible refine stored_mk ?_))

theorem cnsCheckError_stored (s : State) (k : Nat) (hs : Stored s) : Stored (State.cnsCheckError s k) := by
  unfold State.cnsCheckError
  repeat' first
    | with_reducible assumption
    | with_reducible apply report_stored
    | with_reducible apply setCns_stored
    | (with_reducible intro x; refine with_fact (p := Stored x) (fun hx => ?_) ?_; (on_goal 1 => clear_value x); (on_goal 2 => subst x))
    | (fail_if_no_progress (dsimp only [Stored]; with_reducible refine stored_mk ?_))

theorem bwCfgWrite_stored (s : State) (v : Nat) (hs : Stored s) : Stored (State.bwCfgWrite s v) := by
  unfold State.bwCfgWrite
  repeat' first
    | with_reducible assumption
    | with_reducible apply regFault_stored
    | with_reducible apply setReg_stored
    | split
    | (fail_if_no_progress (dsimp only [Stored]; with_reducible refine stored_mk ?_))

theorem bwWindowEnd_stored (s : State) (hs : Stored s) : Stored (State.bwWindowEnd s) := by
  unfold State.bwWindowEnd
  repeat' first
    | with_reducible assumption
    | with_reducible apply setReg_stored
    | with_reducible apply setReg64_stored
    | with_reducible refine foldl_stored ?_ ?_
    | (with_reducible intro s hs; try dsimp only)
    | split
    | (fail_if_no_progress (dsimp only [Stored]; with_reducible refine stored_mk ?_))

/-! ## Boot -/

theorem reportOpen_stored (s : State) (src : Nat) (kind : Nat) (hs : Stored s) : Stored (State.reportOpen s src kind) := by
  unfold State.reportOpen
  repeat' first
    | with_reducible assumption
    | with_reducible apply drawn_stored
    | with_reducible apply report_stored

theorem runFirmware_stored (s : State) (copy : Nat) (hs : Stored s) : Stored (State.runFirmware s copy) := by
  unfold State.runFirmware
  repeat' first
    | with_reducible assumption
    | with_reducible apply enterBoot_stored
    | with_reducible apply setFld_stored
    | with_reducible apply setReg_stored
    | (fail_if_no_progress (dsimp only [Stored]; with_reducible refine stored_mk ?_))

theorem bootRom_stored (s : State) (hs : Stored s) : Stored (State.bootRom s) := by
  unfold State.bootRom
  repeat' first
    | with_reducible assumption
    | with_reducible apply deriveIdentity_stored
    | with_reducible apply drawNonce_stored
    | with_reducible apply enterBoot_stored
    | with_reducible apply faultOut_stored
    | with_reducible apply reportOpen_stored
    | with_reducible apply runFirmware_stored
    | with_reducible apply setFld_stored
    | split
    | (dsimp only)

theorem bootFirmware_stored (s : State) (hs : Stored s) : Stored (State.bootFirmware s) := by
  unfold State.bootFirmware
  repeat' first
    | with_reducible assumption
    | with_reducible apply enterBoot_stored
    | split

theorem stagePatch_stored (s : State) (hs : Stored s) : Stored (State.stagePatch s) := by
  unfold State.stagePatch
  repeat' first
    | with_reducible assumption
    | (fail_if_no_progress (dsimp only [Stored]; with_reducible refine stored_mk ?_))

theorem bootMicrocode_stored (s : State) (masterError : Bool) (hs : Stored s) : Stored (State.bootMicrocode s masterError) := by
  unfold State.bootMicrocode
  repeat' first
    | with_reducible assumption
    | with_reducible apply setReg_stored
    | with_reducible apply enterBoot_stored
    | with_reducible apply setFld_stored
    | with_reducible apply loadStores_stored
    | with_reducible apply signal_stored
    | split
    | (fail_if_no_progress (dsimp only [Stored]; with_reducible refine stored_mk ?_))

theorem selfTest_stored (s : State) (failed : Nat) (words : List Nat) (hs : Stored s) : Stored (State.selfTest s failed words) := by
  unfold State.selfTest
  repeat' first
    | with_reducible assumption
    | with_reducible apply reportOpen_stored
    | with_reducible apply report_stored
    | with_reducible apply loadStores_stored
    | with_reducible apply fenceSource_stored
    | with_reducible apply poolZero_stored
    | with_reducible refine foldl_stored ?_ ?_
    | (with_reducible intro s y hs; try dsimp only)
    | split
    | (fail_if_no_progress (dsimp only [Stored]; with_reducible refine stored_mk ?_))

theorem bootSelfTest_stored (s : State) (failed : Nat) (words : List Nat) (hs : Stored s) : Stored (State.bootSelfTest s failed words) := by
  unfold State.bootSelfTest
  repeat' first
    | with_reducible assumption
    | with_reducible apply enterBoot_stored
    | with_reducible apply selfTest_stored
    | split

theorem bootCalibration_stored (s : State) (temps : List Int) (hs : Stored s) : Stored (State.bootCalibration s temps) := by
  unfold State.bootCalibration
  repeat' first
    | with_reducible assumption
    | with_reducible apply enterBoot_stored
    | with_reducible apply readSensors_stored
    | with_reducible apply reportOpen_stored
    | with_reducible apply setFld_stored
    | with_reducible refine foldl_stored ?_ ?_
    | (with_reducible intro s y hs; try dsimp only)
    | split

theorem bootMemory_stored (s : State) (rate : Nat) (temp : Int) (found : List DramStart) (hs : Stored s) : Stored (State.bootMemory s rate temp found) := by
  unfold State.bootMemory
  repeat' first
    | with_reducible assumption
    | with_reducible apply deepZero_stored
    | with_reducible apply drawn_stored
    | with_reducible apply enterBoot_stored
    | with_reducible apply fenceDram_stored
    | with_reducible apply setDram_stored
    | with_reducible apply setFld_stored
    | with_reducible refine foldl_stored ?_ ?_
    | (with_reducible intro x; refine with_fact (p := Stored x) (fun hx => ?_) ?_; (on_goal 1 => clear_value x); (on_goal 2 => subst x))
    | (with_reducible intro a; try dsimp only)
    | split
    | (fail_if_no_progress (dsimp only [Stored]; with_reducible refine stored_mk ?_))

theorem bootLinks_stored (s : State) (hs : Stored s) : Stored (State.bootLinks s) := by
  unfold State.bootLinks
  repeat' first
    | with_reducible assumption
    | with_reducible apply portUpFromDown_stored
    | with_reducible apply setI3c_stored
    | with_reducible refine foldl_stored ?_ ?_
    | (with_reducible intro x; refine with_fact (p := Stored x) (fun hx => ?_) ?_; (on_goal 1 => clear_value x); (on_goal 2 => subst x))
    | (with_reducible intro s y hs; try dsimp only)
    | split
    | (fail_if_no_progress (dsimp only [Stored]; with_reducible refine stored_mk ?_))

theorem bootService_stored (s : State) (hs : Stored s) : Stored (State.bootService s) := by
  unfold State.bootService
  repeat' first
    | with_reducible assumption
    | with_reducible apply enterBoot_stored
    | with_reducible apply setFld_stored
    | split
    | (fail_if_no_progress (dsimp only [Stored]; with_reducible refine stored_mk ?_))

theorem bootTimeout_stored (s : State) (hs : Stored s) : Stored (State.bootTimeout s) := by
  unfold State.bootTimeout
  repeat' first
    | with_reducible assumption
    | with_reducible apply chipReset_stored
    | split
    | (dsimp only)

/-! ## Power -/

theorem settleFuses_stored (s : State) (hs : Stored s) : Stored (State.settleFuses s) := by
  unfold State.settleFuses
  repeat' first
    | with_reducible assumption
    | with_reducible apply drawn_stored
    | (with_reducible intro x; refine with_fact (p := Stored x) (fun hx => ?_) ?_; (on_goal 1 => clear_value x); (on_goal 2 => subst x))
    | (fail_if_no_progress (dsimp only [Stored]; with_reducible refine stored_mk ?_))

theorem holdReset_stored (s : State) (cause : Nat) (hs : Stored s) : Stored (State.holdReset s cause) := by
  unfold State.holdReset
  repeat' first
    | with_reducible assumption
    | with_reducible apply chipFresh_stored
    | (fail_if_no_progress (dsimp only [Stored]; with_reducible refine stored_mk ?_))

theorem powerOn_stored (s : State) (pin : Bool) (hs : Stored s) : Stored (State.powerOn s pin) := by
  unfold State.powerOn
  repeat' first
    | with_reducible assumption
    | with_reducible apply holdReset_stored
    | split
    | (fail_if_no_progress (dsimp only [Stored]; with_reducible refine stored_mk ?_))
    | (dsimp only)

theorem powerFall_stored (s : State) (hs : Stored s) : Stored (State.powerFall s) := by
  unfold State.powerFall
  repeat' first
    | with_reducible assumption
    | with_reducible apply holdReset_stored
    | with_reducible apply settleFuses_stored
    | split
    | (fail_if_no_progress (dsimp only [Stored]; with_reducible refine stored_mk ?_))

theorem resetRelease_stored (s : State) (hs : Stored s) : Stored (State.resetRelease s) := by
  unfold State.resetRelease
  repeat' first
    | with_reducible assumption
    | with_reducible apply enterRom_stored
    | split
    | (fail_if_no_progress (dsimp only [Stored]; with_reducible refine stored_mk ?_))
    | (dsimp only)

theorem testEntry_stored (s : State) (hs : Stored s) : Stored (State.testEntry s) := by
  unfold State.testEntry
  repeat' first
    | with_reducible assumption
    | with_reducible apply enterBoot_stored
    | with_reducible apply setFld_stored
    | with_reducible apply regFault_stored
    | with_reducible apply loadStores_stored
    | split
    | (dsimp only)

theorem testDone_stored (s : State) (failed : Nat) (words : List Nat) (hs : Stored s) : Stored (State.testDone s failed words) := by
  unfold State.testDone
  repeat' first
    | with_reducible assumption
    | with_reducible apply enterBoot_stored
    | with_reducible apply selfTest_stored
    | split

theorem sysCtrlWrite_stored (s : State) (v : Nat) (hs : Stored s) : Stored (State.sysCtrlWrite s v) := by
  unfold State.sysCtrlWrite
  repeat' first
    | with_reducible assumption
    | with_reducible apply chipReset_stored
    | with_reducible apply regFault_stored
    | with_reducible apply testEntry_stored
    | split
    | (fail_if_no_progress (dsimp only [Stored]; with_reducible refine stored_mk ?_))
    | (dsimp only)

theorem standsBy_stored (f s : State) (h : Stored f) : Stored (f.standsBy s) := h

theorem standby_stored (s : State) (hs : Stored s) : Stored (State.standby s) := by
  unfold State.standby
  repeat' first
    | with_reducible assumption
    | with_reducible apply chipFresh_stored
    | with_reducible apply keepRegs_stored
    | with_reducible apply portDown_stored
    | with_reducible apply setFld_stored
    | with_reducible apply standsBy_stored
    | with_reducible refine foldl_stored ?_ ?_

theorem enterPower_stored (s : State) (v : Nat) (hs : Stored s) : Stored (State.enterPower s v) := by
  unfold State.enterPower
  repeat' first
    | with_reducible assumption
    | with_reducible apply selfRefresh_stored
    | with_reducible apply setFld_stored
    | with_reducible apply standby_stored
    | split
    | (fail_if_no_progress (dsimp only [Stored]; with_reducible refine stored_mk ?_))

theorem leavePower_stored (s : State) (then' : Nat) (hs : Stored s) : Stored (State.leavePower s then') := by
  unfold State.leavePower
  repeat' first
    | with_reducible assumption
    | with_reducible apply enterBoot_stored
    | with_reducible apply setFld_stored
    | split
    | (fail_if_no_progress (dsimp only [Stored]; with_reducible refine stored_mk ?_))
    | (dsimp only)

theorem powerRequest_stored (s : State) (v : Nat) (hs : Stored s) : Stored (State.powerRequest s v) := by
  unfold State.powerRequest
  repeat' first
    | with_reducible assumption
    | with_reducible apply enterPower_stored
    | with_reducible apply leavePower_stored
    | with_reducible apply setFld_stored
    | split
    | (dsimp only)

theorem exitDone_stored (s : State) (hs : Stored s) : Stored (State.exitDone s) := by
  unfold State.exitDone
  repeat' first
    | with_reducible assumption
    | with_reducible apply enterBoot_stored
    | with_reducible apply powerRequest_stored
    | with_reducible apply selfRefreshExit_stored
    | with_reducible apply setFld_stored
    | split
    | (fail_if_no_progress (dsimp only [Stored]; with_reducible refine stored_mk ?_))
    | (dsimp only)

theorem wake_stored (s : State) (hs : Stored s) : Stored (State.wake s) := by
  unfold State.wake
  repeat' first
    | with_reducible assumption
    | with_reducible apply leavePower_stored
    | split

theorem devicePower_stored (s : State) (d3hot : Bool) (hs : Stored s) : Stored (State.devicePower s d3hot) := by
  unfold State.devicePower
  repeat' first
    | with_reducible assumption
    | with_reducible apply powerRequest_stored
    | split
    | (fail_if_no_progress (dsimp only [Stored]; with_reducible refine stored_mk ?_))

theorem d3Retry_stored (s : State) (hs : Stored s) : Stored (State.d3Retry s) := by
  unfold State.d3Retry
  repeat' first
    | with_reducible assumption
    | with_reducible apply powerRequest_stored
    | split
    | (fail_if_no_progress (dsimp only [Stored]; with_reducible refine stored_mk ?_))

theorem linkTrained_stored (s : State) (rate : Nat) (width : Nat) (hs : Stored s) : Stored (State.linkTrained s rate width) := by
  unfold State.linkTrained
  repeat' first
    | with_reducible assumption
    | with_reducible apply setReg_stored

theorem functionReset_stored (s : State) (kind : Nat) (hs : Stored s) : Stored (State.functionReset s kind) := by
  unfold State.functionReset
  repeat' first
    | with_reducible assumption
    | with_reducible apply atCycle_stored
    | with_reducible apply cancelRunning_stored
    | with_reducible apply hostAbort_stored
    | with_reducible apply powerRequest_stored
    | with_reducible apply resetRegs_stored
    | with_reducible apply setEngine_stored
    | with_reducible apply setFld_stored
    | with_reducible apply setReefQueue_stored
    | with_reducible apply setReg_stored
    | with_reducible apply settleDrains_stored
    | with_reducible refine foldl_stored ?_ ?_
    | with_reducible refine foldl2_stored ?_ ?_
    | with_reducible refine foldl3_stored ?_ ?_
    | with_reducible refine foldl2_stored' ?_ ?_
    | with_reducible refine foldl3_stored' ?_ ?_
    | with_reducible refine stored2_mk ?_
    | with_reducible refine stored3_mk ?_
    | (with_reducible intro x; refine with_fact (p := Stored x) (fun hx => ?_) ?_; (on_goal 1 => clear_value x); (on_goal 2 => subst x))
    | (with_reducible intro x; refine with_fact (p := Stored2 x) (fun hx => with_fact (p := Stored x.2) (fun hy => ?_) (stored2_out hx)) ?_; (on_goal 1 => clear_value x); (on_goal 2 => subst x))
    | (with_reducible intro x; refine with_fact (p := Stored3 x) (fun hx => with_fact (p := Stored x.2.2) (fun hy => ?_) (stored3_out hx)) ?_; (on_goal 1 => clear_value x); (on_goal 2 => subst x))
    | (with_reducible intro x; clear_value x)
    | (intro s y (hs : Stored2 s); have hw := stored2_out hs; clear hs; try dsimp only)
    | (intro s y (hs : Stored3 s); have hw := stored3_out hs; clear hs; try dsimp only)
    | (with_reducible intro s y hs; try dsimp only)
    | (with_reducible intro s hs; try dsimp only)
    | with_reducible refine ite_stored ?_ ?_
    | with_reducible refine ite_stored2 ?_ ?_
    | split
    | lift_lets
    | (fail_if_no_progress (dsimp only [Stored]; with_reducible refine stored_mk ?_))
    | (dsimp only)

theorem flashCtrlWrite_stored (s : State) (v : Nat) (hs : Stored s) : Stored (State.flashCtrlWrite s v) := by
  unfold State.flashCtrlWrite
  repeat' first
    | with_reducible assumption
    | with_reducible apply regFault_stored
    | with_reducible apply setFld_stored
    | (with_reducible intro x; refine with_fact (p := Stored x) (fun hx => ?_) ?_; (on_goal 1 => clear_value x); (on_goal 2 => subst x))
    | split
    | (fail_if_no_progress (dsimp only [Stored]; with_reducible refine stored_mk ?_))
    | (dsimp only)

theorem fillBuffer_stored (s : State) (bs : List Byte) (hs : Stored s) : Stored (State.fillBuffer s bs) := by
  unfold State.fillBuffer
  repeat' first
    | with_reducible assumption
    | with_reducible apply setReg_stored
    | with_reducible refine foldl_stored ?_ ?_
    | (with_reducible intro s hs; try dsimp only)

theorem flashDone_stored (s : State) (error : Bool) (hs : Stored s) : Stored (State.flashDone s error) := by
  unfold State.flashDone
  repeat' first
    | with_reducible assumption
    | with_reducible apply drawn_stored
    | with_reducible apply fillBuffer_stored
    | with_reducible apply flashGone_stored
    | with_reducible apply flashPut_stored
    | with_reducible apply setFld_stored
    | split
    | (fail_if_no_progress (dsimp only [Stored]; with_reducible refine stored_mk ?_))

/-! ## HostAccess -/

theorem clearRc_stored (s : State) (off : Nat) (met : Nat) (hs : Stored s) : Stored (State.clearRc s off met) := by
  unfold State.clearRc
  repeat' first
    | with_reducible assumption
    | with_reducible apply setFld_stored
    | with_reducible apply setSource_stored
    | with_reducible refine foldl_stored ?_ ?_
    | (with_reducible intro s hs; try dsimp only)
    | split
    | (dsimp only)

theorem capture_stored (s : State) (off : Nat) (hs : Stored s) : Stored (State.capture s off) := by
  unfold State.capture
  repeat' first
    | with_reducible assumption
    | with_reducible refine foldl_stored ?_ ?_
    | (with_reducible intro s y hs; try dsimp only)
    | (fail_if_no_progress (dsimp only [Stored]; with_reducible refine stored_mk ?_))

theorem readServed_stored (s : State) (off : Nat) (met : Nat) (hs : Stored s) : Stored (State.readServed s off met) := by
  unfold State.readServed
  repeat' first
    | with_reducible assumption
    | with_reducible apply capture_stored
    | with_reducible apply clearRc_stored
    | with_reducible apply drawn_stored
    | split
    | (fail_if_no_progress (dsimp only [Stored]; with_reducible refine stored_mk ?_))

theorem regRead_stored (s : State) (off : Nat) (met : Nat) (hs : Stored s) : Stored (State.regRead s off met) := by
  unfold State.regRead
  repeat' first
    | with_reducible assumption
    | with_reducible apply readServed_stored
    | split
    | (fail_if_no_progress (dsimp only [Stored]; with_reducible refine stored_mk ?_))

theorem misaligned_stored (s : State) (off : Nat) (isRead : Bool) (hs : Stored s) : Stored (State.misaligned s off isRead) := by
  unfold State.misaligned
  repeat' first
    | with_reducible assumption
    | with_reducible apply regFault_stored
    | split
    | (fail_if_no_progress (dsimp only [Stored]; with_reducible refine stored_mk ?_))

theorem eventServed_stored (s : State) (ev : Nat) (hs : Stored s) : Stored (State.eventServed s ev) := by
  unfold State.eventServed
  repeat' first
    | with_reducible assumption
    | with_reducible apply setFld_stored
    | split
    | (dsimp only)

theorem writePlain_stored (s : State) (off : Nat) (v : Nat) (met : Nat) (hs : Stored s) : Stored (State.writePlain s off v met) := by
  unfold State.writePlain
  repeat' first
    | with_reducible assumption
    | with_reducible apply eventServed_stored
    | with_reducible apply setReg_stored
    | with_reducible apply sendMsix_stored
    | with_reducible refine foldl_stored ?_ ?_
    | (with_reducible intro s y hs; try dsimp only)
    | split

theorem stageHost_stored (s : State) (key : Nat) (off : Nat) (v : Nat) (hs : Stored s) : Stored (State.stageHost s key off v) := by
  unfold State.stageHost
  repeat' first
    | with_reducible assumption
    | with_reducible apply regFault_stored
    | with_reducible apply stage_stored
    | split
    | (dsimp only)

theorem writeStaged_stored (s : State) (off : Nat) (v : Nat) (hs : Stored s) : Stored (State.writeStaged s off v) := by
  unfold State.writeStaged
  repeat' first
    | with_reducible assumption
    | with_reducible apply stageHost_stored
    | split
    | (dsimp only)

theorem writeFields_stored (s : State) (off : Nat) (v : Nat) (met : Nat) (hs : Stored s) : Stored (State.writeFields s off v met) := by
  unfold State.writeFields
  repeat' first
    | with_reducible assumption
    | with_reducible apply writePlain_stored
    | with_reducible apply writeStaged_stored

theorem tsEdgeWrite_stored (s : State) (c : Nat) (e : Nat) (v : Nat) (hs : Stored s) : Stored (State.tsEdgeWrite s c e v) := by
  unfold State.tsEdgeWrite
  repeat' first
    | with_reducible assumption
    | with_reducible apply stageHost_stored

theorem seGrWrite_stored (s : State) (sg : Nat) (k : Nat) (v : Nat) (hs : Stored s) : Stored (State.seGrWrite s sg k v) := by
  unfold State.seGrWrite
  repeat' first
    | with_reducible assumption
    | with_reducible apply regFault_stored
    | with_reducible apply setReg_stored
    | split

theorem seCtrlWrite_stored (s : State) (sg : Nat) (v : Nat) (hs : Stored s) : Stored (State.seCtrlWrite s sg v) := by
  unfold State.seCtrlWrite
  repeat' first
    | with_reducible assumption
    | with_reducible apply hostAbort_stored
    | split

theorem seTrapWrite_stored (s : State) (sg : Nat) (v : Nat) (hs : Stored s) : Stored (State.seTrapWrite s sg v) := by
  unfold State.seTrapWrite
  repeat' first
    | with_reducible assumption
    | with_reducible apply requestTrap_stored
    | split

theorem ucodeCtrlWrite_stored (s : State) (v : Nat) (hs : Stored s) : Stored (State.ucodeCtrlWrite s v) := by
  unfold State.ucodeCtrlWrite
  repeat' first
    | with_reducible assumption
    | with_reducible apply commitUcSvn_stored
    | split

theorem cmpCtrlWrite_stored (s : State) (sg : Nat) (v : Nat) (hs : Stored s) : Stored (State.cmpCtrlWrite s sg v) := by
  unfold State.cmpCtrlWrite
  repeat' first
    | with_reducible assumption
    | with_reducible apply clearCounts_stored
    | with_reducible apply regFault_stored
    | with_reducible apply setReg_stored
    | split

theorem logRdptrWrite_stored (s : State) (st : Nat) (v : Nat) (hs : Stored s) : Stored (State.logRdptrWrite s st v) := by
  unfold State.logRdptrWrite
  repeat' first
    | with_reducible assumption
    | with_reducible apply showFull_stored
    | with_reducible apply setReg_stored
    | with_reducible apply retryDenied_stored
    | with_reducible apply writeLost_stored
    | with_reducible apply regFault_stored
    | split
    | (dsimp only)

theorem cvRdptrWrite_stored (s : State) (u : Nat) (v : Nat) (hs : Stored s) : Stored (State.cvRdptrWrite s u v) := by
  unfold State.cvRdptrWrite
  repeat' first
    | with_reducible assumption
    | with_reducible apply regFault_stored
    | with_reducible apply setReg_stored
    | split
    | (dsimp only)

theorem srcWrptrWrite_stored (s : State) (u : Nat) (v : Nat) (hs : Stored s) : Stored (State.srcWrptrWrite s u v) := by
  unfold State.srcWrptrWrite
  repeat' first
    | with_reducible assumption
    | with_reducible apply regFault_stored
    | with_reducible apply ringLow_stored
    | with_reducible apply setReg_stored
    | split
    | (dsimp only)

theorem aqCtrlWrite_stored (s : State) (u : Nat) (v : Nat) (hs : Stored s) : Stored (State.aqCtrlWrite s u v) := by
  unfold State.aqCtrlWrite
  repeat' first
    | with_reducible assumption
    | with_reducible apply setAcq_stored

theorem tckCtrlWrite_stored (s : State) (v : Nat) (hs : Stored s) : Stored (State.tckCtrlWrite s v) := by
  unfold State.tckCtrlWrite
  repeat' first
    | with_reducible assumption
    | with_reducible apply bankClear_stored
    | with_reducible apply setFld_stored
    | split

theorem reefWrite_stored (s : State) (off : Nat) (v : Nat) (met : Nat) (hs : Stored s) : Stored (State.reefWrite s off v met) := by
  unfold State.reefWrite
  repeat' first
    | with_reducible assumption
    | with_reducible apply regFault_stored
    | with_reducible apply writeFields_stored
    | split

theorem flowCfgWrite_stored (s : State) (off : Nat) (v : Nat) (hs : Stored s) : Stored (State.flowCfgWrite s off v) := by
  unfold State.flowCfgWrite
  repeat' first
    | with_reducible assumption
    | with_reducible apply regFault_stored
    | with_reducible apply writeFields_stored
    | split

theorem fltCtrlWrite_stored (s : State) (v : Nat) (hs : Stored s) : Stored (State.fltCtrlWrite s v) := by
  unfold State.fltCtrlWrite
  repeat' first
    | with_reducible assumption
    | with_reducible apply clearFirst_stored
    | with_reducible apply releaseFault_stored
    | with_reducible apply unfence_stored
    | split

theorem timCtrlWrite_stored (s : State) (v : Nat) (hs : Stored s) : Stored (State.timCtrlWrite s v) := by
  unfold State.timCtrlWrite
  repeat' first
    | with_reducible assumption
    | with_reducible apply timeAccept_stored
    | with_reducible apply timeSet_stored
    | split

theorem linkCfgWrite_stored (s : State) (p : Nat) (v : Nat) (hs : Stored s) : Stored (State.linkCfgWrite s p v) := by
  unfold State.linkCfgWrite
  repeat' first
    | with_reducible assumption
    | with_reducible apply portDown_stored
    | with_reducible apply portUpFromDown_stored
    | with_reducible apply retrain_stored
    | with_reducible apply writeFields_stored
    | split
    | (dsimp only)

theorem pemWrite_stored (s : State) (q : Nat) (r : Nat) (off : Nat) (v : Nat) (met : Nat) (hs : Stored s) : Stored (State.pemWrite s q r off v met) := by
  unfold State.pemWrite
  repeat' first
    | with_reducible assumption
    | with_reducible apply companionRelease_stored
    | with_reducible apply pemCfgWrite_stored
    | with_reducible apply pidWrite_stored
    | with_reducible apply writeFields_stored
    | with_reducible apply xctlWrite_stored
    | split

theorem ttWrite_stored (s : State) (n : Nat) (r : Nat) (off : Nat) (v : Nat) (met : Nat) (hs : Stored s) : Stored (State.ttWrite s n r off v met) := by
  unfold State.ttWrite
  repeat' first
    | with_reducible assumption
    | with_reducible apply ttCfgWrite_stored
    | with_reducible apply ttRegWrite_stored
    | with_reducible apply writeFields_stored
    | split

theorem hifWrite_stored (s : State) (off : Nat) (v : Nat) (met : Nat) (hs : Stored s) : Stored (State.hifWrite s off v met) := by
  unfold State.hifWrite
  repeat' first
    | with_reducible assumption
    | with_reducible apply bulkAim_stored
    | with_reducible apply ringBaseWrite_stored
    | with_reducible apply ringCfgWrite_stored
    | with_reducible apply sendMsix_stored
    | with_reducible apply setFld_stored
    | with_reducible apply writeFields_stored
    | split
    | (dsimp only)

theorem sysWrite_stored (s : State) (off : Nat) (v : Nat) (met : Nat) (hs : Stored s) : Stored (State.sysWrite s off v met) := by
  unfold State.sysWrite
  repeat' first
    | with_reducible assumption
    | with_reducible apply flashCtrlWrite_stored
    | with_reducible apply powerRequest_stored
    | with_reducible apply sysCtrlWrite_stored
    | with_reducible apply writeFields_stored
    | split

theorem schWrite_stored (s : State) (off : Nat) (v : Nat) (met : Nat) (hs : Stored s) : Stored (State.schWrite s off v met) := by
  unfold State.schWrite
  repeat' first
    | with_reducible assumption
    | with_reducible apply reefWrite_stored
    | with_reducible apply clearCredit_stored
    | with_reducible apply writeFields_stored
    | with_reducible apply flowCfgWrite_stored
    | with_reducible apply tckCtrlWrite_stored
    | split

theorem fltWrite_stored (s : State) (off : Nat) (v : Nat) (met : Nat) (hs : Stored s) : Stored (State.fltWrite s off v met) := by
  unfold State.fltWrite
  repeat' first
    | with_reducible assumption
    | with_reducible apply attStart_stored
    | with_reducible apply dbgCtrlWrite_stored
    | with_reducible apply fltCtrlWrite_stored
    | with_reducible apply inject_stored
    | with_reducible apply pselRestore_stored
    | with_reducible apply shrCtrlWrite_stored
    | with_reducible apply srcCfgWrite_stored
    | with_reducible apply stickyWrite_stored
    | with_reducible apply writeFields_stored
    | split

theorem cnsRegWrite_stored (s : State) (off : Nat) (v : Nat) (met : Nat) (hs : Stored s) : Stored (State.cnsRegWrite s off v met) := by
  unfold State.cnsRegWrite
  repeat' first
    | with_reducible assumption
    | with_reducible apply bwCfgWrite_stored
    | with_reducible apply cnsCtrlWrite_stored
    | with_reducible apply cnsWrite_stored
    | with_reducible apply writeFields_stored
    | split

theorem peripheralWrite_stored (s : State) (off : Nat) (v : Nat) (met : Nat) (hs : Stored s) : Stored (State.peripheralWrite s off v met) := by
  unfold State.peripheralWrite
  repeat' first
    | with_reducible assumption
    | with_reducible apply calRunWrite_stored
    | with_reducible apply deepCommand_stored
    | with_reducible apply dramCtrlWrite_stored
    | with_reducible apply eyeWrite_stored
    | with_reducible apply linkCfgWrite_stored
    | with_reducible apply linkIdWrite_stored
    | with_reducible apply pemWrite_stored
    | with_reducible apply poolCommand_stored
    | with_reducible apply timAdjWrite_stored
    | with_reducible apply timCfgWrite_stored
    | with_reducible apply timCtrlWrite_stored
    | with_reducible apply ttWrite_stored
    | with_reducible apply writeFields_stored
    | split

theorem seHflagWrite_stored (s : State) (sg : Nat) (v : Nat) (hs : Stored s) : Stored (State.seHflagWrite s sg v) := by
  unfold State.seHflagWrite
  repeat' first
    | with_reducible assumption
    | with_reducible apply setEngine_stored
    | with_reducible apply writeFields_stored
    | split
    | (dsimp only)

theorem patternWrite_stored (s : State) (off : Nat) (v : Nat) (met : Nat) (hs : Stored s) : Stored (State.patternWrite s off v met) := by
  unfold State.patternWrite
  repeat' first
    | with_reducible assumption
    | with_reducible apply seTrapWrite_stored
    | with_reducible apply tsEdgeWrite_stored
    | with_reducible apply ucodeCtrlWrite_stored
    | with_reducible apply seHflagWrite_stored
    | with_reducible apply seGrWrite_stored
    | with_reducible apply writeFields_stored
    | with_reducible apply seCtrlWrite_stored
    | split

theorem channelWrite_stored (s : State) (off : Nat) (v : Nat) (met : Nat) (hs : Stored s) : Stored (State.channelWrite s off v met) := by
  unfold State.channelWrite
  repeat' first
    | with_reducible assumption
    | with_reducible apply aqCtrlWrite_stored
    | with_reducible apply cbWrite_stored
    | with_reducible apply cmpCtrlWrite_stored
    | with_reducible apply cvRdptrWrite_stored
    | with_reducible apply logRdptrWrite_stored
    | with_reducible apply srcWrptrWrite_stored
    | with_reducible apply writeFields_stored
    | split

theorem writeServed_stored (s : State) (off : Nat) (v : Nat) (met : Nat) (hs : Stored s) : Stored (State.writeServed s off v met) := by
  unfold State.writeServed
  repeat' first
    | with_reducible assumption
    | with_reducible apply channelWrite_stored
    | with_reducible apply cnsRegWrite_stored
    | with_reducible apply fltWrite_stored
    | with_reducible apply hifWrite_stored
    | with_reducible apply patternWrite_stored
    | with_reducible apply peripheralWrite_stored
    | with_reducible apply schWrite_stored
    | with_reducible apply sysWrite_stored
    | split

theorem regWrite_stored (s : State) (off : Nat) (v : Nat) (met : Nat) (hs : Stored s) : Stored (State.regWrite s off v met) := by
  unfold State.regWrite
  repeat' first
    | with_reducible assumption
    | with_reducible apply writeServed_stored
    | split

theorem bar2Write_stored (s : State) (n : Nat) (bytes : List Byte) (lost : List Nat) (hs : Stored s) : Stored (State.bar2Write s n bytes lost) := by
  unfold State.bar2Write
  repeat' first
    | with_reducible assumption
    | with_reducible apply bulkWrite_stored
    | split

theorem bar2Read_stored (s : State) (n : Nat) (len : Nat) (bad : Bool) (hs : Stored s) : Stored (State.bar2Read s n len bad) := by
  unfold State.bar2Read
  repeat' first
    | with_reducible assumption
    | with_reducible apply bulkRead_stored
    | split
    | (fail_if_no_progress (dsimp only [Stored]; with_reducible refine stored_mk ?_))

theorem sqDoorbell_stored (s : State) (k : Nat) (v : Nat) (hs : Stored s) : Stored (State.sqDoorbell s k v) := by
  unfold State.sqDoorbell
  repeat' first
    | with_reducible assumption
    | with_reducible apply doorbellWrite_stored
    | split

theorem cqDoorbell_stored (s : State) (k : Nat) (v : Nat) (hs : Stored s) : Stored (State.cqDoorbell s k v) := by
  unfold State.cqDoorbell
  repeat' first
    | with_reducible assumption
    | with_reducible apply doorbellWrite_stored
    | split

/-! ## Clocking -/

theorem countTime_stored (s : State) (hs : Stored s) : Stored (State.countTime s) := by
  unfold State.countTime
  repeat' first
    | with_reducible assumption
    | (fail_if_no_progress (dsimp only [Stored]; with_reducible refine stored_mk ?_))

theorem countHalted_stored (s : State) (hs : Stored s) : Stored (State.countHalted s) := by
  unfold State.countHalted
  repeat' first
    | with_reducible assumption
    | split
    | (fail_if_no_progress (dsimp only [Stored]; with_reducible refine stored_mk ?_))

theorem countRunning_stored (s : State) (hs : Stored s) : Stored (State.countRunning s) := by
  unfold State.countRunning
  repeat' first
    | with_reducible assumption
    | with_reducible apply cnsAdd_stored
    | with_reducible refine foldl_stored ?_ ?_
    | (with_reducible intro s y hs; try dsimp only)
    | split

theorem tick_stored (s : State) (hs : Stored s) : Stored (State.tick s) := by
  unfold State.tick
  repeat' first
    | with_reducible assumption
    | with_reducible apply idleBoundaries_stored
    | with_reducible apply countTime_stored
    | with_reducible apply countRunning_stored
    | with_reducible apply countHalted_stored
    | with_reducible apply tdcLapses_stored
    | with_reducible apply postCancels_stored
    | with_reducible apply wake_stored
    | with_reducible apply ringsCatchUp_stored
    | with_reducible apply ttCommit_stored
    | with_reducible apply sendIdle_stored
    | with_reducible apply microClock_stored
    | with_reducible refine foldl_stored ?_ ?_
    | (with_reducible intro s y hs; try dsimp only)
    | split

/-! ## Rows -/

theorem dispatchRow_stored (s : State) (slot : Nat) (op : Nat) (hs : Stored s) : Stored (State.dispatchRow s slot op) := by
  unfold State.dispatchRow
  repeat' first
    | with_reducible assumption
    | with_reducible apply enterChecking_stored
    | split
    | (dsimp only)

theorem timeoutRow_stored (s : State) (sg : Nat) (op : Nat) (hs : Stored s) : Stored (State.timeoutRow s sg op) := by
  unfold State.timeoutRow
  repeat' first
    | with_reducible assumption
    | with_reducible apply atBoundary_stored
    | with_reducible apply advance_stored
    | split
    | (dsimp only)

theorem stageHead_stored (s : State) (q : Nat) (hs : Stored s) : Stored (State.stageHead s q) := by
  unfold State.stageHead
  repeat' first
    | with_reducible assumption
    | with_reducible apply setQuad_stored
    | with_reducible apply stageRecord_stored
    | split

theorem stageQuadrants_stored (s : State) (hs : Stored s) : Stored (State.stageQuadrants s) := by
  unfold State.stageQuadrants
  repeat' first
    | with_reducible assumption
    | with_reducible apply writeLost_stored
    | with_reducible apply stageHead_stored
    | with_reducible refine foldl_stored ?_ ?_

theorem sealDue_stored (s : State) (st : Nat) (hs : Stored s) : Stored (State.sealDue s st) := by
  unfold State.sealDue
  repeat' first
    | with_reducible assumption
    | with_reducible apply sealChunk_stored
    | split

theorem ringReadAhead_stored (s : State) (u : Nat) (hs : Stored s) : Stored (State.ringReadAhead s u) := by
  unfold State.ringReadAhead
  repeat' first
    | with_reducible assumption
    | with_reducible apply srcReadWord_stored
    | split

theorem loRead_stored (s : State) (off : Nat) (hs : Stored s) : Stored (State.loRead s off) := by
  unfold State.loRead
  repeat' first
    | with_reducible assumption
    | with_reducible apply regRead_stored
    | split

/-! ## Answers -/

theorem answer_stored {s t u : State} (h : Stored t) (e : s.answer t = .next u) : Stored u := by
  cases e
  exact h

end Sys2Proof.Machine
end

