-- ==== Sys2Proof/Laws/Answers.lean ====
section
/-! SUPPORT. What every meaning answers keeps the stores in canonical form. -/
namespace Sys2Proof.Machine

theorem execRegisterWrite_stored (off : Fin 67108864) (value met : Word) (s : State) {u0 : State} (hs : Stored s) (h : execRegisterWrite off value met s = .next u0) : Stored u0 :=
  answer_stored (ite_stored (regWrite_stored (hs := hs) ..) (misaligned_stored (hs := hs) ..)) h

theorem execMisalignedRegisterAccess_stored (off : Fin 67108864) (isRead : Bool) (s : State) {u0 : State} (hs : Stored s) (h : execMisalignedRegisterAccess off isRead s = .next u0) : Stored u0 :=
  answer_stored (misaligned_stored (hs := hs) ..) h

theorem execRcFieldRead_stored (off : Fin 67108864) (met : Word) (s : State) {u0 : State} (hs : Stored s) (h : execRcFieldRead off met s = .next u0) : Stored u0 :=
  answer_stored (ite_stored (regRead_stored (hs := hs) ..) (misaligned_stored (hs := hs) ..)) h

theorem execLoReadCapture_stored (off : Fin 67108864) (s : State) {u0 : State} (hs : Stored s) (h : execLoReadCapture off s = .next u0) : Stored u0 :=
  answer_stored (loRead_stored (hs := hs) ..) h

theorem execCaptureWord_stored (u : Fin 16) (cycle : Nat) (sub : Fin 8) (s : State) {u0 : State} (hs : Stored s) (h : execCaptureWord u cycle sub s = .next u0) : Stored u0 :=
  answer_stored (captureWord_stored (hs := hs) ..) h

theorem execAcqPrefillDone_stored (u : Fin 16) (s : State) {u0 : State} (hs : Stored s) (h : execAcqPrefillDone u s = .next u0) : Stored u0 :=
  answer_stored (aqPrefillDone_stored (hs := hs) ..) h

theorem execAcqRecordClose_stored (u : Fin 16) (s : State) {u0 : State} (hs : Stored s) (h : execAcqRecordClose u s = .next u0) : Stored u0 :=
  answer_stored (aqRecordDone_stored (hs := hs) ..) h

theorem execAcqRearmEnd_stored (u : Fin 16) (s : State) {u0 : State} (hs : Stored s) (h : execAcqRearmEnd u s = .next u0) : Stored u0 :=
  answer_stored (aqRearmDone_stored (hs := hs) ..) h

theorem execAqArm_stored (u : Fin 16) (s : State) {u0 : State} (hs : Stored s) (h : execAqArm u s = .next u0) : Stored u0 :=
  answer_stored (regWrite_stored (hs := hs) ..) h

theorem execAqForce_stored (u : Fin 16) (s : State) {u0 : State} (hs : Stored s) (h : execAqForce u s = .next u0) : Stored u0 :=
  answer_stored (regWrite_stored (hs := hs) ..) h

theorem execAqStop_stored (u : Fin 16) (s : State) {u0 : State} (hs : Stored s) (h : execAqStop u s = .next u0) : Stored u0 :=
  answer_stored (regWrite_stored (hs := hs) ..) h

theorem execLocatorTransition_stored (u : Fin 16) (phase : Nat) (s : State) {u0 : State} (hs : Stored s) (h : execLocatorTransition u phase s = .next u0) : Stored u0 :=
  answer_stored (locate_stored (hs := hs) ..) h

theorem execCaptureSpillDrain_stored (u : Fin 16) (s : State) {u0 : State} (hs : Stored s) (h : execCaptureSpillDrain u s = .next u0) : Stored u0 :=
  answer_stored (spillDrain_stored (hs := hs) ..) h

theorem execFlashRead_stored (len : Fin 512) (s : State) {u0 : State} (hs : Stored s) (h : execFlashRead len s = .next u0) : Stored u0 :=
  answer_stored (regWrite_stored (hs := hs) ..) h

theorem execFlashProgram_stored (len : Fin 512) (s : State) {u0 : State} (hs : Stored s) (h : execFlashProgram len s = .next u0) : Stored u0 :=
  answer_stored (regWrite_stored (hs := hs) ..) h

theorem execFlashErase_stored (len : Fin 512) (s : State) {u0 : State} (hs : Stored s) (h : execFlashErase len s = .next u0) : Stored u0 :=
  answer_stored (regWrite_stored (hs := hs) ..) h

theorem execFlashOpDone_stored (error : Bool) (s : State) {u0 : State} (hs : Stored s) (h : execFlashOpDone error s = .next u0) : Stored u0 :=
  answer_stored (flashDone_stored (hs := hs) ..) h

theorem execBulkPortWrite_stored (n : Fin 16) (data : PortBytes) (s : State) {u0 : State} (hs : Stored s) (h : execBulkPortWrite n data s = .next u0) : Stored u0 :=
  answer_stored (bar2Write_stored (hs := hs) ..) h

theorem execBulkPortRead_stored (n : Fin 16) (part : DeepPart) (s : State) {u0 : State} (hs : Stored s) (h : execBulkPortRead n part s = .next u0) : Stored u0 :=
  answer_stored (bar2Read_stored (hs := hs) ..) h

theorem execCalRunStart_stored (banks : Fin 65536) (s : State) {u0 : State} (hs : Stored s) (h : execCalRunStart banks s = .next u0) : Stored u0 :=
  answer_stored (regWrite_stored (hs := hs) ..) h

theorem execCalRunAbort_stored (banks : Fin 65536) (s : State) {u0 : State} (hs : Stored s) (h : execCalRunAbort banks s = .next u0) : Stored u0 :=
  answer_stored (regWrite_stored (hs := hs) ..) h

theorem execCalBankComplete_stored (b : Fin 16) (r : BankReadings) (stored : Bool) (s : State) {u0 : State} (hs : Stored s) (h : execCalBankComplete b r stored s = .next u0) : Stored u0 :=
  answer_stored (calBankDone_stored (hs := hs) ..) h

theorem execFaultRegister_stored (s : State) {u0 : State} (hs : Stored s) (h : execFaultRegister s = .next u0) : Stored u0 :=
  answer_stored (faultRegister_stored (hs := hs) ..) h

theorem execFaultReaction_stored (s : State) {u0 : State} (hs : Stored s) (h : execFaultReaction s = .next u0) : Stored u0 :=
  answer_stored (faultReaction_stored (hs := hs) ..) h

theorem execBlockResetDone_stored (src : Fin 272) (ended : ResetEnd) (s : State) {u0 : State} (hs : Stored s) (h : execBlockResetDone src ended s = .next u0) : Stored u0 :=
  answer_stored (blockResetDone_stored (hs := hs) ..) h

theorem execFaultUnfence_stored (s : State) {u0 : State} (hs : Stored s) (h : execFaultUnfence s = .next u0) : Stored u0 :=
  answer_stored (regWrite_stored (hs := hs) ..) h

theorem execSelfCheckDone_stored (src : Fin 272) (passed : Bool) (s : State) {u0 : State} (hs : Stored s) (h : execSelfCheckDone src passed s = .next u0) : Stored u0 :=
  answer_stored (selfCheckDone_stored (hs := hs) ..) h

theorem execFaultClearFirst_stored (s : State) {u0 : State} (hs : Stored s) (h : execFaultClearFirst s = .next u0) : Stored u0 :=
  answer_stored (regWrite_stored (hs := hs) ..) h

theorem execFaultOutRelease_stored (s : State) {u0 : State} (hs : Stored s) (h : execFaultOutRelease s = .next u0) : Stored u0 :=
  answer_stored (regWrite_stored (hs := hs) ..) h

theorem execFaultInject_stored (src : Fin 1024) (kind : Fin 64) (s : State) {u0 : State} (hs : Stored s) (h : execFaultInject src kind s = .next u0) : Stored u0 :=
  answer_stored (regWrite_stored (hs := hs) ..) h

theorem execStickyClear_stored (src : Fin 320) (s : State) {u0 : State} (hs : Stored s) (h : execStickyClear src s = .next u0) : Stored u0 :=
  answer_stored (regWrite_stored (hs := hs) ..) h

theorem execI3cDaa_stored (q : Fin 4) (devices : List (Nat × Nat × Nat)) (s : State) {u0 : State} (hs : Stored s) (h : execI3cDaa q devices s = .next u0) : Stored u0 :=
  answer_stored (daa_stored (hs := hs) ..) h

theorem execI3cHotJoin_stored (q : Fin 4) (pid bcr dcr : Nat) (s : State) {u0 : State} (hs : Stored s) (h : execI3cHotJoin q pid bcr dcr s = .next u0) : Stored u0 :=
  answer_stored (hotJoin_stored (hs := hs) ..) h

theorem execI3cPoll_stored (q : Fin 4) (acks : Nat) (s : State) {u0 : State} (hs : Stored s) (h : execI3cPoll q acks s = .next u0) : Stored u0 :=
  answer_stored (poll_stored (hs := hs) ..) h

theorem execCompanionRelease_stored (q : Fin 4) (k : Fin 15) (s : State) {u0 : State} (hs : Stored s) (h : execCompanionRelease q k s = .next u0) : Stored u0 :=
  answer_stored (regWrite_stored (hs := hs) ..) h

theorem execI3cIbi_stored (q : Fin 4) (da : Fin 128) (mdb : Fin 256) (s : State) {u0 : State} (hs : Stored s) (h : execI3cIbi q da mdb s = .next u0) : Stored u0 :=
  answer_stored (ibi_stored (hs := hs) ..) h

theorem execI3cPrivateTransfer_stored (q : Fin 4) (da : Fin 128) (reads : Bool) (len : Fin 64) (s : State) {u0 : State} (hs : Stored s) (h : execI3cPrivateTransfer q da reads len s = .next u0) : Stored u0 :=
  answer_stored (regWrite_stored (hs := hs) ..) h

theorem execI3cTransferDone_stored (q : Fin 4) (nack : Bool) (bytes : List Byte) (s : State) {u0 : State} (hs : Stored s) (h : execI3cTransferDone q nack bytes s = .next u0) : Stored u0 :=
  answer_stored (xferDone_stored (hs := hs) ..) h

theorem execCnsCounterWrap_stored (k : Fin 8) (n : Nat) (s : State) {u0 : State} (hs : Stored s) (h : execCnsCounterWrap k n s = .next u0) : Stored u0 :=
  answer_stored (cnsWrap_stored (hs := hs) ..) h

theorem execCnsClearAll_stored (run : Bool) (s : State) {u0 : State} (hs : Stored s) (h : execCnsClearAll run s = .next u0) : Stored u0 :=
  answer_stored (regWrite_stored (hs := hs) ..) h

theorem execCnsCounterWrite_stored (k : Fin 8) (hi : Bool) (value : Word) (s : State) {u0 : State} (hs : Stored s) (h : execCnsCounterWrite k hi value s = .next u0) : Stored u0 :=
  answer_stored (regWrite_stored (hs := hs) ..) h

theorem execCnsCounterCheckError_stored (k : Fin 8) (s : State) {u0 : State} (hs : Stored s) (h : execCnsCounterCheckError k s = .next u0) : Stored u0 :=
  answer_stored (cnsCheckError_stored (hs := hs) ..) h

theorem execCnsBwWindowEnd_stored (s : State) {u0 : State} (hs : Stored s) (h : execCnsBwWindowEnd s = .next u0) : Stored u0 :=
  answer_stored (bwWindowEnd_stored (hs := hs) ..) h

theorem execTdcInputEdge_stored (u : Fin 64) (onB : Bool) (phase rings : Nat) (rising : Bool) (s : State) {u0 : State} (hs : Stored s) (h : execTdcInputEdge u onB phase rings rising s = .next u0) : Stored u0 :=
  answer_stored (tdcEdge_stored (hs := hs) ..) h

theorem execTdcMinwDecision_stored (u : Fin 64) (onB : Bool) (s : State) {u0 : State} (hs : Stored s) (h : execTdcMinwDecision u onB s = .next u0) : Stored u0 :=
  answer_stored (widthDecision_stored (hs := hs) ..) h

theorem execTdcConversionDone_stored (u : Fin 64) (s : State) {u0 : State} (hs : Stored s) (h : execTdcConversionDone u s = .next u0) : Stored u0 :=
  answer_stored (conversionDone_stored (hs := hs) ..) h

theorem execTdcRingUpdate_stored (u : Fin 64) (slow fast : Word) (s : State) {u0 : State} (hs : Stored s) (h : execTdcRingUpdate u slow fast s = .next u0) : Stored u0 :=
  answer_stored (ringUpdate_stored (hs := hs) ..) h

theorem execTdcStuckTimeout_stored (u : Fin 64) (onB : Bool) (s : State) {u0 : State} (hs : Stored s) (h : execTdcStuckTimeout u onB s = .next u0) : Stored u0 :=
  answer_stored (stuckTimeout_stored (hs := hs) ..) h

theorem execTdcGateEnd_stored (u : Fin 64) (s : State) {u0 : State} (hs : Stored s) (h : execTdcGateEnd u s = .next u0) : Stored u0 :=
  answer_stored (ite_stored (gateEnd_stored (hs := hs) ..) (hs)) h

theorem execTdcSetArm_stored (u : Fin 64) (s : State) {u0 : State} (hs : Stored s) (h : execTdcSetArm u s = .next u0) : Stored u0 :=
  answer_stored (tdcArmDue_stored (hs := hs) ..) h

theorem execTdcSetTimeout_stored (u : Fin 64) (s : State) {u0 : State} (hs : Stored s) (h : execTdcSetTimeout u s = .next u0) : Stored u0 :=
  answer_stored (tdcTimeout_stored (hs := hs) ..) h

theorem execTsEdgeWrite_stored (c : Fin 256) (e : Fin 6) (value : Word) (s : State) {u0 : State} (hs : Stored s) (h : execTsEdgeWrite c e value s = .next u0) : Stored u0 :=
  answer_stored (regWrite_stored (hs := hs) ..) h

theorem execStrobeJudgement_stored (c : Fin 256) (before after : Fin 4) (between : Option (Fin 4)) (s : State) {u0 : State} (hs : Stored s) (h : execStrobeJudgement c before after between s = .next u0) : Stored u0 :=
  answer_stored (judge_stored (hs := hs) ..) h

theorem execCmpClear_stored (sg : Fin 64) (s : State) {u0 : State} (hs : Stored s) (h : execCmpClear sg s = .next u0) : Stored u0 :=
  answer_stored (regWrite_stored (hs := hs) ..) h

theorem execFailRecordStage_stored (s : State) {u0 : State} (hs : Stored s) (h : execFailRecordStage s = .next u0) : Stored u0 :=
  answer_stored (stageQuadrants_stored (hs := hs) ..) h

theorem execFailLogDrain_stored (st : Fin 4) (s : State) {u0 : State} (hs : Stored s) (h : execFailLogDrain st s = .next u0) : Stored u0 :=
  answer_stored (drainNext_stored (hs := hs) ..) h

theorem execChunkSealTimeout_stored (st : Fin 4) (s : State) {u0 : State} (hs : Stored s) (h : execChunkSealTimeout st s = .next u0) : Stored u0 :=
  answer_stored (sealDue_stored (hs := hs) ..) h

theorem execCmpLogRdptrWrite_stored (st : Fin 4) (value : Word) (s : State) {u0 : State} (hs : Stored s) (h : execCmpLogRdptrWrite st value s = .next u0) : Stored u0 :=
  answer_stored (regWrite_stored (hs := hs) ..) h

theorem execTrainingSequenceRx_stored (p : Fin 4) (lane : Fin 4) (t : Training) (valid : Bool) (skew : Nat) (s : State) {u0 : State} (hs : Stored s) (h : execTrainingSequenceRx p lane t valid skew s = .next u0) : Stored u0 :=
  answer_stored (trainingRx_stored (hs := hs) ..) h

theorem execLinkTrainTimeout_stored (p : Fin 4) (s : State) {u0 : State} (hs : Stored s) (h : execLinkTrainTimeout p s = .next u0) : Stored u0 :=
  answer_stored (trainTimeout_stored (hs := hs) ..) h

theorem execTunePresetStep_stored (p : Fin 4) (eyes : List Nat) (s : State) {u0 : State} (hs : Stored s) (h : execTunePresetStep p eyes s = .next u0) : Stored u0 :=
  answer_stored (tuneStep_stored (hs := hs) ..) h

theorem execLinkFailure_stored (p : Fin 4) (loss : LinkLoss) (s : State) {u0 : State} (hs : Stored s) (h : execLinkFailure p loss s = .next u0) : Stored u0 :=
  answer_stored (linkLoss_stored (hs := hs) ..) h

theorem execLinkRetrain_stored (p : Fin 4) (value : Word) (s : State) {u0 : State} (hs : Stored s) (h : execLinkRetrain p value s = .next u0) : Stored u0 :=
  answer_stored (regWrite_stored (hs := hs) ..) h

theorem execFrameTx_stored (p : Fin 4) (phase : Fin 8192) (s : State) {u0 : State} (hs : Stored s) (h : execFrameTx p phase s = .next u0) : Stored u0 :=
  answer_stored (frameTx_stored (hs := hs) ..) h

theorem execDiscoverTimer_stored (p : Fin 4) (s : State) {u0 : State} (hs : Stored s) (h : execDiscoverTimer p s = .next u0) : Stored u0 :=
  answer_stored (discoverTimer_stored (hs := hs) ..) h

theorem execDiscoverRx_stored (p : Fin 4) (a : Arrival) (s : State) {u0 : State} (hs : Stored s) (h : execDiscoverRx p a s = .next u0) : Stored u0 :=
  answer_stored (discoverRx_stored (hs := hs) ..) h

theorem execSyncFrameRx_stored (p : Fin 4) (a : Arrival) (s : State) {u0 : State} (hs : Stored s) (h : execSyncFrameRx p a s = .next u0) : Stored u0 :=
  answer_stored (syncRx_stored (hs := hs) ..) h

theorem execSyncEventDelivery_stored (s : State) {u0 : State} (hs : Stored s) (h : execSyncEventDelivery s = .next u0) : Stored u0 :=
  answer_stored (deliverDue_stored (hs := hs) ..) h

theorem execLinkFrameRx_stored (p : Fin 4) (a : Arrival) (s : State) {u0 : State} (hs : Stored s) (h : execLinkFrameRx p a s = .next u0) : Stored u0 :=
  answer_stored (linkRx_stored (hs := hs) ..) h

theorem execLinkCreditTimer_stored (p : Fin 4) (s : State) {u0 : State} (hs : Stored s) (h : execLinkCreditTimer p s = .next u0) : Stored u0 :=
  answer_stored (creditTimer_stored (hs := hs) ..) h

theorem execFailFrameTimer_stored (p : Fin 4) (s : State) {u0 : State} (hs : Stored s) (h : execFailFrameTimer p s = .next u0) : Stored u0 :=
  answer_stored (failFrameTimer_stored (hs := hs) ..) h

theorem execFailFrameRx_stored (p : Fin 4) (a : Arrival) (s : State) {u0 : State} (hs : Stored s) (h : execFailFrameRx p a s = .next u0) : Stored u0 :=
  answer_stored (failRx_stored (hs := hs) ..) h

theorem execEyeScanStart_stored (p : Fin 4) (lane : Fin 4) (dwell voff poff : Fin 64) (s : State) {u0 : State} (hs : Stored s) (h : execEyeScanStart p lane dwell voff poff s = .next u0) : Stored u0 :=
  answer_stored (regWrite_stored (hs := hs) ..) h

theorem execEyeScanDone_stored (p : Fin 4) (errs : Nat) (s : State) {u0 : State} (hs : Stored s) (h : execEyeScanDone p errs s = .next u0) : Stored u0 :=
  answer_stored (eyeDone_stored (hs := hs) ..) h

theorem execTrainingSequenceTx_stored (p : Fin 4) (s : State) {u0 : State} (hs : Stored s) (h : execTrainingSequenceTx p s = .next u0) : Stored u0 :=
  answer_stored (trainingTx_stored (hs := hs) ..) h

theorem execPoolAccess_stored (bank : Fin 512) (arrivals : List PoolArrival) (ecc : EccResult) (s : State) {u0 : State} (hs : Stored s) (h : execPoolAccess bank arrivals ecc s = .next u0) : Stored u0 :=
  answer_stored (poolCycle_stored (hs := hs) ..) h

theorem execPoolStallPromotion_stored (bank : Fin 512) (s : State) {u0 : State} (hs : Stored s) (h : execPoolStallPromotion bank s = .next u0) : Stored u0 :=
  answer_stored (poolPromote_stored (hs := hs) ..) h

theorem execBistRegionTest_stored (yields : Bool) (finds : RegionFinds) (s : State) {u0 : State} (hs : Stored s) (h : execBistRegionTest yields finds s = .next u0) : Stored u0 :=
  answer_stored (regionTest_stored (hs := hs) ..) h

theorem execMemAllocCreate_stored (index : Fin 1024) (s : State) {u0 : State} (hs : Stored s) (h : execMemAllocCreate index s = .next u0) : Stored u0 :=
  answer_stored (regWrite_stored (hs := hs) ..) h

theorem execMemAllocFree_stored (index : Fin 1024) (s : State) {u0 : State} (hs : Stored s) (h : execMemAllocFree index s = .next u0) : Stored u0 :=
  answer_stored (regWrite_stored (hs := hs) ..) h

theorem execDeepAllocCreate_stored (index : Fin 1024) (s : State) {u0 : State} (hs : Stored s) (h : execDeepAllocCreate index s = .next u0) : Stored u0 :=
  answer_stored (regWrite_stored (hs := hs) ..) h

theorem execDeepAllocFree_stored (index : Fin 1024) (s : State) {u0 : State} (hs : Stored s) (h : execDeepAllocFree index s = .next u0) : Stored u0 :=
  answer_stored (regWrite_stored (hs := hs) ..) h

theorem execAllocCmdReserved_stored (isDeep : Bool) (index : Fin 1024) (s : State) {u0 : State} (hs : Stored s) (h : execAllocCmdReserved isDeep index s = .next u0) : Stored u0 :=
  answer_stored (regWrite_stored (hs := hs) ..) h

theorem execDramWriteDrain_stored (drain : DramDrain) (s : State) {u0 : State} (hs : Stored s) (h : execDramWriteDrain drain s = .next u0) : Stored u0 :=
  answer_stored (writeDrain_stored (hs := hs) ..) h

theorem execDramTempCheck_stored (temp : Int) (s : State) {u0 : State} (hs : Stored s) (h : execDramTempCheck temp s = .next u0) : Stored u0 :=
  answer_stored (tempCheck_stored (hs := hs) ..) h

theorem execDramRetrain_stored (n : Fin 8) (found : Bool) (temp : Int) (s : State) {u0 : State} (hs : Stored s) (h : execDramRetrain n found temp s = .next u0) : Stored u0 :=
  answer_stored (dramRetrain_stored (hs := hs) ..) h

theorem execDramCtrlFence_stored (n : Fin 8) (s : State) {u0 : State} (hs : Stored s) (h : execDramCtrlFence n s = .next u0) : Stored u0 :=
  answer_stored (regWrite_stored (hs := hs) ..) h

theorem execDramCtrlReset_stored (n : Fin 8) (s : State) {u0 : State} (hs : Stored s) (h : execDramCtrlReset n s = .next u0) : Stored u0 :=
  answer_stored (regWrite_stored (hs := hs) ..) h

theorem execDramCtrlResetDone_stored (n : Fin 8) (trained : Bool) (temp : Int) (s : State) {u0 : State} (hs : Stored s) (h : execDramCtrlResetDone n trained temp s = .next u0) : Stored u0 :=
  answer_stored (dramResetDone_stored (hs := hs) ..) h

theorem execSnapshotRequest_stored (sg : Fin 64) (s : State) {u0 : State} (hs : Stored s) (h : execSnapshotRequest sg s = .next u0) : Stored u0 :=
  answer_stored (regWrite_stored (hs := hs) ..) h

theorem execHkreqTrapRequest_stored (sg : Fin 64) (s : State) {u0 : State} (hs : Stored s) (h : execHkreqTrapRequest sg s = .next u0) : Stored u0 :=
  answer_stored (requestTrap_stored (hs := hs) ..) h

theorem execMicroTrapEntry_stored (sg : Fin 64) (s : State) {u0 : State} (hs : Stored s) (h : execMicroTrapEntry sg s = .next u0) : Stored u0 :=
  answer_stored (trapEntry_stored (hs := hs) ..) h

theorem execMicroTrapResume_stored (sg : Fin 64) (upset : Option (Fin 512)) (s : State) {u0 : State} (hs : Stored s) (h : execMicroTrapResume sg upset s = .next u0) : Stored u0 :=
  answer_stored (trapResume_stored (hs := hs) ..) h

theorem execTrapDeferralLimit_stored (sg : Fin 64) (s : State) {u0 : State} (hs : Stored s) (h : execTrapDeferralLimit sg s = .next u0) : Stored u0 :=
  answer_stored (trapLimit_stored (hs := hs) ..) h

theorem execLocalStoreCheckError_stored (sg : Fin 64) (addr : Fin 2048) (correctable : Bool) (s : State) {u0 : State} (hs : Stored s) (h : execLocalStoreCheckError sg addr correctable s = .next u0) : Stored u0 :=
  answer_stored (storeError_stored (hs := hs) ..) h

theorem execUcodeCommitSvn_stored (s : State) {u0 : State} (hs : Stored s) (h : execUcodeCommitSvn s = .next u0) : Stored u0 :=
  answer_stored (regWrite_stored (hs := hs) ..) h

theorem execFuseWriteDone_stored (firmware : Bool) (s : State) {u0 : State} (hs : Stored s) (h : execFuseWriteDone firmware s = .next u0) : Stored u0 :=
  answer_stored (fuseDone_stored (hs := hs) ..) h

theorem execPairArmRx_stored (p : Fin 4) (a : Arrival) (s : State) {u0 : State} (hs : Stored s) (h : execPairArmRx p a s = .next u0) : Stored u0 :=
  answer_stored (armRx_stored (hs := hs) ..) h

theorem execBackstayMatchDeadline_stored (sg : Fin 64) (s : State) {u0 : State} (hs : Stored s) (h : execBackstayMatchDeadline sg s = .next u0) : Stored u0 :=
  answer_stored (matchDeadline_stored (hs := hs) ..) h

theorem execDigestSend_stored (sg : Fin 64) (s : State) {u0 : State} (hs : Stored s) (h : execDigestSend sg s = .next u0) : Stored u0 :=
  answer_stored (digestSend_stored (hs := hs) ..) h

theorem execPairDigestRx_stored (p : Fin 4) (a : Arrival) (s : State) {u0 : State} (hs : Stored s) (h : execPairDigestRx p a s = .next u0) : Stored u0 :=
  answer_stored (digestRx_stored (hs := hs) ..) h

theorem execPartnerLostTimeout_stored (sg : Fin 64) (s : State) {u0 : State} (hs : Stored s) (h : execPartnerLostTimeout sg s = .next u0) : Stored u0 :=
  answer_stored (partnerLost_stored (hs := hs) ..) h

theorem execPairTakeoverRx_stored (p : Fin 4) (a : Arrival) (s : State) {u0 : State} (hs : Stored s) (h : execPairTakeoverRx p a s = .next u0) : Stored u0 :=
  answer_stored (takeoverRx_stored (hs := hs) ..) h

theorem execPselRestore_stored (banks : Fin 65536) (s : State) {u0 : State} (hs : Stored s) (h : execPselRestore banks s = .next u0) : Stored u0 :=
  answer_stored (regWrite_stored (hs := hs) ..) h

theorem execBurstStart_stored (sg : Fin 64) (s : State) {u0 : State} (hs : Stored s) (h : execBurstStart sg s = .next u0) : Stored u0 :=
  answer_stored (burstStart_stored (hs := hs) ..) h

theorem execVectorCycleIssue_stored (sg : Fin 64) (s : State) {u0 : State} (hs : Stored s) (h : execVectorCycleIssue sg s = .next u0) : Stored u0 :=
  answer_stored (vectorCycle_stored (hs := hs) ..) h

theorem execVec_stored (sg : Fin 64) (s : State) {u0 : State} (hs : Stored s) (h : execVec sg s = .next u0) : Stored u0 :=
  answer_stored (runInstr_stored (hs := hs) ..) h

theorem execRpt_stored (sg : Fin 64) (s : State) {u0 : State} (hs : Stored s) (h : execRpt sg s = .next u0) : Stored u0 :=
  answer_stored (runInstr_stored (hs := hs) ..) h

theorem execJmp_stored (sg : Fin 64) (s : State) {u0 : State} (hs : Stored s) (h : execJmp sg s = .next u0) : Stored u0 :=
  answer_stored (runInstr_stored (hs := hs) ..) h

theorem execJcf_stored (sg : Fin 64) (s : State) {u0 : State} (hs : Stored s) (h : execJcf sg s = .next u0) : Stored u0 :=
  answer_stored (runInstr_stored (hs := hs) ..) h

theorem execLbeg_stored (sg : Fin 64) (s : State) {u0 : State} (hs : Stored s) (h : execLbeg sg s = .next u0) : Stored u0 :=
  answer_stored (runInstr_stored (hs := hs) ..) h

theorem execLend_stored (sg : Fin 64) (s : State) {u0 : State} (hs : Stored s) (h : execLend sg s = .next u0) : Stored u0 :=
  answer_stored (runInstr_stored (hs := hs) ..) h

theorem execCall_stored (sg : Fin 64) (s : State) {u0 : State} (hs : Stored s) (h : execCall sg s = .next u0) : Stored u0 :=
  answer_stored (runInstr_stored (hs := hs) ..) h

theorem execRet_stored (sg : Fin 64) (s : State) {u0 : State} (hs : Stored s) (h : execRet sg s = .next u0) : Stored u0 :=
  answer_stored (runInstr_stored (hs := hs) ..) h

theorem execMatchLoop_stored (sg : Fin 64) (s : State) {u0 : State} (hs : Stored s) (h : execMatchLoop sg s = .next u0) : Stored u0 :=
  answer_stored (runInstr_stored (hs := hs) ..) h

theorem execMatchTimeout_stored (sg : Fin 64) (s : State) {u0 : State} (hs : Stored s) (h : execMatchTimeout sg s = .next u0) : Stored u0 :=
  answer_stored (timeoutRow_stored (hs := hs) ..) h

theorem execReact_stored (sg : Fin 64) (s : State) {u0 : State} (hs : Stored s) (h : execReact sg s = .next u0) : Stored u0 :=
  answer_stored (runInstr_stored (hs := hs) ..) h

theorem execReactRuleFire_stored (sg : Fin 64) (s : State) {u0 : State} (hs : Stored s) (h : execReactRuleFire sg s = .next u0) : Stored u0 :=
  answer_stored (advance_stored (hs := hs) ..) h

theorem execReactWindowEnd_stored (sg : Fin 64) (s : State) {u0 : State} (hs : Stored s) (h : execReactWindowEnd sg s = .next u0) : Stored u0 :=
  answer_stored (timeoutRow_stored (hs := hs) ..) h

theorem execTset_stored (sg : Fin 64) (s : State) {u0 : State} (hs : Stored s) (h : execTset sg s = .next u0) : Stored u0 :=
  answer_stored (runInstr_stored (hs := hs) ..) h

theorem execSrcStart_stored (sg : Fin 64) (s : State) {u0 : State} (hs : Stored s) (h : execSrcStart sg s = .next u0) : Stored u0 :=
  answer_stored (runInstr_stored (hs := hs) ..) h

theorem execSrcStop_stored (sg : Fin 64) (s : State) {u0 : State} (hs : Stored s) (h : execSrcStop sg s = .next u0) : Stored u0 :=
  answer_stored (runInstr_stored (hs := hs) ..) h

theorem execSrcJump_stored (sg : Fin 64) (s : State) {u0 : State} (hs : Stored s) (h : execSrcJump sg s = .next u0) : Stored u0 :=
  answer_stored (runInstr_stored (hs := hs) ..) h

theorem execTrigArm_stored (sg : Fin 64) (s : State) {u0 : State} (hs : Stored s) (h : execTrigArm sg s = .next u0) : Stored u0 :=
  answer_stored (runInstr_stored (hs := hs) ..) h

theorem execTrigForce_stored (sg : Fin 64) (s : State) {u0 : State} (hs : Stored s) (h : execTrigForce sg s = .next u0) : Stored u0 :=
  answer_stored (runInstr_stored (hs := hs) ..) h

theorem execTrigStop_stored (sg : Fin 64) (s : State) {u0 : State} (hs : Stored s) (h : execTrigStop sg s = .next u0) : Stored u0 :=
  answer_stored (runInstr_stored (hs := hs) ..) h

theorem execSyncSend_stored (sg : Fin 64) (s : State) {u0 : State} (hs : Stored s) (h : execSyncSend sg s = .next u0) : Stored u0 :=
  answer_stored (runInstr_stored (hs := hs) ..) h

theorem execSyncWait_stored (sg : Fin 64) (s : State) {u0 : State} (hs : Stored s) (h : execSyncWait sg s = .next u0) : Stored u0 :=
  answer_stored (runInstr_stored (hs := hs) ..) h

theorem execSyncWaitTimeout_stored (sg : Fin 64) (s : State) {u0 : State} (hs : Stored s) (h : execSyncWaitTimeout sg s = .next u0) : Stored u0 :=
  answer_stored (timeoutRow_stored (hs := hs) ..) h

theorem execStreamOpen_stored (sg : Fin 64) (s : State) {u0 : State} (hs : Stored s) (h : execStreamOpen sg s = .next u0) : Stored u0 :=
  answer_stored (runInstr_stored (hs := hs) ..) h

theorem execStreamClose_stored (sg : Fin 64) (s : State) {u0 : State} (hs : Stored s) (h : execStreamClose sg s = .next u0) : Stored u0 :=
  answer_stored (runInstr_stored (hs := hs) ..) h

theorem execSetg_stored (sg : Fin 64) (s : State) {u0 : State} (hs : Stored s) (h : execSetg sg s = .next u0) : Stored u0 :=
  answer_stored (runInstr_stored (hs := hs) ..) h

theorem execClf_stored (sg : Fin 64) (s : State) {u0 : State} (hs : Stored s) (h : execClf sg s = .next u0) : Stored u0 :=
  answer_stored (runInstr_stored (hs := hs) ..) h

theorem execHalt_stored (sg : Fin 64) (s : State) {u0 : State} (hs : Stored s) (h : execHalt sg s = .next u0) : Stored u0 :=
  answer_stored (runInstr_stored (hs := hs) ..) h

theorem execEngineAbort_stored (sg : Fin 64) (s : State) {u0 : State} (hs : Stored s) (h : execEngineAbort sg s = .next u0) : Stored u0 :=
  answer_stored (regWrite_stored (hs := hs) ..) h

theorem execBurstComplete_stored (sg : Fin 64) (s : State) {u0 : State} (hs : Stored s) (h : execBurstComplete sg s = .next u0) : Stored u0 :=
  answer_stored (burstComplete_stored (hs := hs) ..) h

theorem execSeGrWrite_stored (sg : Fin 64) (g : Fin 16) (value : Word) (s : State) {u0 : State} (hs : Stored s) (h : execSeGrWrite sg g value s = .next u0) : Stored u0 :=
  answer_stored (regWrite_stored (hs := hs) ..) h

theorem execDeepStreamBlockFetch_stored (read : DeepRead (Fin 64)) (s : State) {u0 : State} (hs : Stored s) (h : execDeepStreamBlockFetch read s = .next u0) : Stored u0 :=
  answer_stored (streamFetch_stored (hs := hs) ..) h

theorem execPowerStateRequest_stored (state : Fin 4) (s : State) {u0 : State} (hs : Stored s) (h : execPowerStateRequest state s = .next u0) : Stored u0 :=
  answer_stored (regWrite_stored (hs := hs) ..) h

theorem execPowerStateExitDone_stored (s : State) {u0 : State} (hs : Stored s) (h : execPowerStateExitDone s = .next u0) : Stored u0 :=
  answer_stored (exitDone_stored (hs := hs) ..) h

theorem execD3hotRetry_stored (s : State) {u0 : State} (hs : Stored s) (h : execD3hotRetry s = .next u0) : Stored u0 :=
  answer_stored (d3Retry_stored (hs := hs) ..) h

theorem execPciePowerStateChange_stored (d3hot : Bool) (s : State) {u0 : State} (hs : Stored s) (h : execPciePowerStateChange d3hot s = .next u0) : Stored u0 :=
  answer_stored (devicePower_stored (hs := hs) ..) h

theorem execPcieLinkTrained_stored (rate : Fin 7) (width : Fin 9) (s : State) {u0 : State} (hs : Stored s) (h : execPcieLinkTrained rate width s = .next u0) : Stored u0 :=
  answer_stored (linkTrained_stored (hs := hs) ..) h

theorem execDspJobComplete_stored (slot : Fin 4096) (s : State) {u0 : State} (hs : Stored s) (h : execDspJobComplete slot s = .next u0) : Stored u0 :=
  answer_stored (dspComplete_stored (hs := hs) ..) h

theorem execCpxCbWrite_stored (p : Fin 8) (b : Fin 8) (which : Fin 3) (value : Word) (s : State) {u0 : State} (hs : Stored s) (h : execCpxCbWrite p b which value s = .next u0) : Stored u0 :=
  answer_stored (regWrite_stored (hs := hs) ..) h

theorem execDescriptorFetch_stored (k : Fin 64) (s : State) {u0 : State} (hs : Stored s) (h : execDescriptorFetch k s = .next u0) : Stored u0 :=
  answer_stored (fetchRequest_stored (hs := hs) ..) h

theorem execFetchError_stored (k : Fin 64) (s : State) {u0 : State} (hs : Stored s) (h : execFetchError k s = .next u0) : Stored u0 :=
  answer_stored (fetchFails_stored (hs := hs) ..) h

theorem execCqWriteError_stored (k : Fin 64) (s : State) {u0 : State} (hs : Stored s) (h : execCqWriteError k s = .next u0) : Stored u0 :=
  answer_stored (cqWriteFails_stored (hs := hs) ..) h

theorem execIrqCoalesceTimeout_stored (k : Fin 64) (s : State) {u0 : State} (hs : Stored s) (h : execIrqCoalesceTimeout k s = .next u0) : Stored u0 :=
  answer_stored (coalesceTimeout_stored (hs := hs) ..) h

theorem execRingEnable_stored (k : Fin 64) (sqlog2 cqlog2 : Fin 32) (s : State) {u0 : State} (hs : Stored s) (h : execRingEnable k sqlog2 cqlog2 s = .next u0) : Stored u0 :=
  answer_stored (regWrite_stored (hs := hs) ..) h

theorem execRingDisable_stored (k : Fin 64) (sqlog2 cqlog2 : Fin 32) (s : State) {u0 : State} (hs : Stored s) (h : execRingDisable k sqlog2 cqlog2 s = .next u0) : Stored u0 :=
  answer_stored (regWrite_stored (hs := hs) ..) h

theorem execSqTailDoorbell_stored (k : Fin 64) (value : Word) (s : State) {u0 : State} (hs : Stored s) (h : execSqTailDoorbell k value s = .next u0) : Stored u0 :=
  answer_stored (sqDoorbell_stored (hs := hs) ..) h

theorem execCqHeadDoorbell_stored (k : Fin 64) (value : Word) (s : State) {u0 : State} (hs : Stored s) (h : execCqHeadDoorbell k value s = .next u0) : Stored u0 :=
  answer_stored (cqDoorbell_stored (hs := hs) ..) h

theorem execFunctionReset_stored (kind : Fin 3) (s : State) {u0 : State} (hs : Stored s) (h : execFunctionReset kind s = .next u0) : Stored u0 :=
  answer_stored (functionReset_stored (hs := hs) ..) h

theorem execPowerOnReset_stored (pin : Bool) (s : State) {u0 : State} (hs : Stored s) (h : execPowerOnReset pin s = .next u0) : Stored u0 :=
  answer_stored (powerOn_stored (hs := hs) ..) h

theorem execPwrgoodFall_stored (s : State) {u0 : State} (hs : Stored s) (h : execPwrgoodFall s = .next u0) : Stored u0 :=
  answer_stored (powerFall_stored (hs := hs) ..) h

theorem execResetRelease_stored (s : State) {u0 : State} (hs : Stored s) (h : execResetRelease s = .next u0) : Stored u0 :=
  answer_stored (resetRelease_stored (hs := hs) ..) h

theorem execChipReset_stored (clratt : Bool) (s : State) {u0 : State} (hs : Stored s) (h : execChipReset clratt s = .next u0) : Stored u0 :=
  answer_stored (regWrite_stored (hs := hs) ..) h

theorem execCatrainRequest_stored (s : State) {u0 : State} (hs : Stored s) (h : execCatrainRequest s = .next u0) : Stored u0 :=
  answer_stored (regWrite_stored (hs := hs) ..) h

theorem execTestEntry_stored (s : State) {u0 : State} (hs : Stored s) (h : execTestEntry s = .next u0) : Stored u0 :=
  answer_stored (regWrite_stored (hs := hs) ..) h

theorem execTestDone_stored (failed : Nat) (words : List Nat) (s : State) {u0 : State} (hs : Stored s) (h : execTestDone failed words s = .next u0) : Stored u0 :=
  answer_stored (testDone_stored (hs := hs) ..) h

theorem execTaskEnterChecking_stored (r : Resource) (s : State) {u0 : State} (hs : Stored s) (h : execTaskEnterChecking r s = .next u0) : Stored u0 :=
  answer_stored (enterChecking_stored (hs := hs) ..) h

theorem execReefGrant_stored (s : State) {u0 : State} (hs : Stored s) (h : execReefGrant s = .next u0) : Stored u0 :=
  answer_stored (reefGrant_stored (hs := hs) ..) h

theorem execReefQueueTimeout_stored (slot : Fin 4096) (s : State) {u0 : State} (hs : Stored s) (h : execReefQueueTimeout slot s = .next u0) : Stored u0 :=
  answer_stored (reefTimeout_stored (hs := hs) ..) h

theorem execTaskFinish_stored (slot : Fin 4096) (s : State) {u0 : State} (hs : Stored s) (h : execTaskFinish slot s = .next u0) : Stored u0 :=
  answer_stored (taskFinish_stored (hs := hs) ..) h

theorem execCascadeCancel_stored (s : State) {u0 : State} (hs : Stored s) (h : execCascadeCancel s = .next u0) : Stored u0 :=
  answer_stored (cascade_stored (hs := hs) ..) h

theorem execTaskDeadlineExpiry_stored (slot : Fin 4096) (s : State) {u0 : State} (hs : Stored s) (h : execTaskDeadlineExpiry slot s = .next u0) : Stored u0 :=
  answer_stored (deadlineExpiry_stored (hs := hs) ..) h

theorem execTaskRelease_stored (flow : Fin 32) (s : State) {u0 : State} (hs : Stored s) (h : execTaskRelease flow s = .next u0) : Stored u0 :=
  answer_stored (flowRelease_stored (hs := hs) ..) h

theorem execSlotClearCredit_stored (s : State) {u0 : State} (hs : Stored s) (h : execSlotClearCredit s = .next u0) : Stored u0 :=
  answer_stored (regWrite_stored (hs := hs) ..) h

theorem execFwCommitSvn_stored (s : State) {u0 : State} (hs : Stored s) (h : execFwCommitSvn s = .next u0) : Stored u0 :=
  answer_stored (regWrite_stored (hs := hs) ..) h

theorem execAttestationStart_stored (s : State) {u0 : State} (hs : Stored s) (h : execAttestationStart s = .next u0) : Stored u0 :=
  answer_stored (regWrite_stored (hs := hs) ..) h

theorem execAttestationDone_stored (s : State) {u0 : State} (hs : Stored s) (h : execAttestationDone s = .next u0) : Stored u0 :=
  answer_stored (attDone_stored (hs := hs) ..) h

theorem execLifecycleDeploy_stored (s : State) {u0 : State} (hs : Stored s) (h : execLifecycleDeploy s = .next u0) : Stored u0 :=
  answer_stored (regWrite_stored (hs := hs) ..) h

theorem execLifecycleReturn_stored (s : State) {u0 : State} (hs : Stored s) (h : execLifecycleReturn s = .next u0) : Stored u0 :=
  answer_stored (regWrite_stored (hs := hs) ..) h

theorem execDebugOpen_stored (s : State) {u0 : State} (hs : Stored s) (h : execDebugOpen s = .next u0) : Stored u0 :=
  answer_stored (regWrite_stored (hs := hs) ..) h

theorem execDebugEraseDone_stored (s : State) {u0 : State} (hs : Stored s) (h : execDebugEraseDone s = .next u0) : Stored u0 :=
  answer_stored (eraseDone_stored (hs := hs) ..) h

theorem execDebugClose_stored (s : State) {u0 : State} (hs : Stored s) (h : execDebugClose s = .next u0) : Stored u0 :=
  answer_stored (regWrite_stored (hs := hs) ..) h

theorem execExtestInstruction_stored (code : Fin 4) (s : State) {u0 : State} (hs : Stored s) (h : execExtestInstruction code s = .next u0) : Stored u0 :=
  answer_stored (extest_stored (hs := hs) ..) h

theorem execLifecycleProvision_stored (seed : Nat) (helper certificate : List Byte) (sets : List (Fin 2 × List Byte)) (s : State) {u0 : State} (hs : Stored s) (h : execLifecycleProvision seed helper certificate sets s = .next u0) : Stored u0 :=
  answer_stored (provision_stored (hs := hs) ..) h

theorem execThermNChange_stored (low : Bool) (s : State) {u0 : State} (hs : Stored s) (h : execThermNChange low s = .next u0) : Stored u0 :=
  answer_stored (thermChange_stored (hs := hs) ..) h

theorem execSensorRead_stored (temps : List Int) (s : State) {u0 : State} (hs : Stored s) (h : execSensorRead temps s = .next u0) : Stored u0 :=
  answer_stored (sensorRead_stored (hs := hs) ..) h

theorem execSrcBoundary_stored (u : Fin 16) (s : State) {u0 : State} (hs : Stored s) (h : execSrcBoundary u s = .next u0) : Stored u0 :=
  answer_stored (srcPass_stored (hs := hs) ..) h

theorem execSrcRingRead_stored (u : Fin 16) (s : State) {u0 : State} (hs : Stored s) (h : execSrcRingRead u s = .next u0) : Stored u0 :=
  answer_stored (ringReadAhead_stored (hs := hs) ..) h

theorem execSrcRingWrptrWrite_stored (u : Fin 16) (value : Word) (s : State) {u0 : State} (hs : Stored s) (h : execSrcRingWrptrWrite u value s = .next u0) : Stored u0 :=
  answer_stored (regWrite_stored (hs := hs) ..) h

theorem execTackCommit_stored (slot : Fin 4096) (s : State) {u0 : State} (hs : Stored s) (h : execTackCommit slot s = .next u0) : Stored u0 :=
  answer_stored (tackCommit_stored (hs := hs) ..) h

theorem execBankAClear_stored (s : State) {u0 : State} (hs : Stored s) (h : execBankAClear s = .next u0) : Stored u0 :=
  answer_stored (regWrite_stored (hs := hs) ..) h

theorem execBankBClear_stored (s : State) {u0 : State} (hs : Stored s) (h : execBankBClear s = .next u0) : Stored u0 :=
  answer_stored (regWrite_stored (hs := hs) ..) h

theorem execWbankSelect_stored (bank : Fin 2) (s : State) {u0 : State} (hs : Stored s) (h : execWbankSelect bank s = .next u0) : Stored u0 :=
  answer_stored (regWrite_stored (hs := hs) ..) h

theorem execBootRom_stored (s : State) {u0 : State} (hs : Stored s) (h : execBootRom s = .next u0) : Stored u0 :=
  answer_stored (bootRom_stored (hs := hs) ..) h

theorem execBootFirmware_stored (s : State) {u0 : State} (hs : Stored s) (h : execBootFirmware s = .next u0) : Stored u0 :=
  answer_stored (bootFirmware_stored (hs := hs) ..) h

theorem execBootMicrocode_stored (masterError : Bool) (s : State) {u0 : State} (hs : Stored s) (h : execBootMicrocode masterError s = .next u0) : Stored u0 :=
  answer_stored (bootMicrocode_stored (hs := hs) ..) h

theorem execBootSelftest_stored (failed : Nat) (words : List Nat) (s : State) {u0 : State} (hs : Stored s) (h : execBootSelftest failed words s = .next u0) : Stored u0 :=
  answer_stored (bootSelfTest_stored (hs := hs) ..) h

theorem execBootCalibration_stored (temps : List Int) (s : State) {u0 : State} (hs : Stored s) (h : execBootCalibration temps s = .next u0) : Stored u0 :=
  answer_stored (bootCalibration_stored (hs := hs) ..) h

theorem execBootMemory_stored (rate : Fin 64) (temp : Int) (found : List DramStart) (s : State) {u0 : State} (hs : Stored s) (h : execBootMemory rate temp found s = .next u0) : Stored u0 :=
  answer_stored (bootMemory_stored (hs := hs) ..) h

theorem execBootLinks_stored (s : State) {u0 : State} (hs : Stored s) (h : execBootLinks s = .next u0) : Stored u0 :=
  answer_stored (bootLinks_stored (hs := hs) ..) h

theorem execBootService_stored (s : State) {u0 : State} (hs : Stored s) (h : execBootService s = .next u0) : Stored u0 :=
  answer_stored (bootService_stored (hs := hs) ..) h

theorem execBootTimeout_stored (s : State) {u0 : State} (hs : Stored s) (h : execBootTimeout s = .next u0) : Stored u0 :=
  answer_stored (bootTimeout_stored (hs := hs) ..) h

theorem execMove_stored (slot : Fin 4096) (part : DeepPart) (s : State) {u0 : State} (hs : Stored s) (h : execMove slot part s = .next u0) : Stored u0 :=
  answer_stored (moveStep_stored (hs := hs) ..) h

theorem execTableWrite_stored (slot : Fin 4096) (n : Nat) (s : State) {u0 : State} (hs : Stored s) (h : execTableWrite slot n s = .next u0) : Stored u0 :=
  answer_stored (tableStep_stored (hs := hs) ..) h

theorem execLoad_stored (read : DeepRead (Fin 4096)) (s : State) {u0 : State} (hs : Stored s) (h : execLoad read s = .next u0) : Stored u0 :=
  answer_stored (loadStep_stored (hs := hs) ..) h

theorem execUnload_stored (slot : Fin 4096) (s : State) {u0 : State} (hs : Stored s) (h : execUnload slot s = .next u0) : Stored u0 :=
  answer_stored (unloadStep_stored (hs := hs) ..) h

theorem execBurst_stored (slot : Fin 4096) (s : State) {u0 : State} (hs : Stored s) (h : execBurst slot s = .next u0) : Stored u0 :=
  answer_stored (dispatchRow_stored (hs := hs) ..) h

theorem execCapture_stored (slot : Fin 4096) (s : State) {u0 : State} (hs : Stored s) (h : execCapture slot s = .next u0) : Stored u0 :=
  answer_stored (dispatchRow_stored (hs := hs) ..) h

theorem execMeasure_stored (slot : Fin 4096) (s : State) {u0 : State} (hs : Stored s) (h : execMeasure slot s = .next u0) : Stored u0 :=
  answer_stored (dispatchRow_stored (hs := hs) ..) h

theorem execDsp_stored (slot : Fin 4096) (n : Nat) (s : State) {u0 : State} (hs : Stored s) (h : execDsp slot n s = .next u0) : Stored u0 :=
  answer_stored (dspStep_stored (hs := hs) ..) h

theorem execRefill_stored (slot : Fin 4096) (n : Nat) (s : State) {u0 : State} (hs : Stored s) (h : execRefill slot n s = .next u0) : Stored u0 :=
  answer_stored (refillStep_stored (hs := hs) ..) h

theorem execLogUpload_stored (slot : Fin 4096) (part : DeepPart) (s : State) {u0 : State} (hs : Stored s) (h : execLogUpload slot part s = .next u0) : Stored u0 :=
  answer_stored (uploadStep_stored (hs := hs) ..) h

theorem execTack_stored (slot : Fin 4096) (s : State) {u0 : State} (hs : Stored s) (h : execTack slot s = .next u0) : Stored u0 :=
  answer_stored (tackRun_stored (hs := hs) ..) h

theorem execCancel_stored (slot : Fin 4096) (s : State) {u0 : State} (hs : Stored s) (h : execCancel slot s = .next u0) : Stored u0 :=
  answer_stored (cancelActs_stored (hs := hs) ..) h

theorem execNop_stored (slot : Fin 4096) (s : State) {u0 : State} (hs : Stored s) (h : execNop slot s = .next u0) : Stored u0 :=
  answer_stored (nopDone_stored (hs := hs) ..) h

theorem execAnnounceTimer_stored (p : Fin 4) (s : State) {u0 : State} (hs : Stored s) (h : execAnnounceTimer p s = .next u0) : Stored u0 :=
  answer_stored (announceTimer_stored (hs := hs) ..) h

theorem execTimeRequestTimer_stored (p : Fin 4) (s : State) {u0 : State} (hs : Stored s) (h : execTimeRequestTimer p s = .next u0) : Stored u0 :=
  answer_stored (requestTimer_stored (hs := hs) ..) h

theorem execTimeRequestRx_stored (p : Fin 4) (a : Arrival) (phase : Fin 8192) (s : State) {u0 : State} (hs : Stored s) (h : execTimeRequestRx p a phase s = .next u0) : Stored u0 :=
  answer_stored (requestRx_stored (hs := hs) ..) h

theorem execTimeResponseRx_stored (p : Fin 4) (a : Arrival) (phase : Fin 8192) (s : State) {u0 : State} (hs : Stored s) (h : execTimeResponseRx p a phase s = .next u0) : Stored u0 :=
  answer_stored (responseRx_stored (hs := hs) ..) h

theorem execTimeAnnounceRx_stored (p : Fin 4) (a : Arrival) (s : State) {u0 : State} (hs : Stored s) (h : execTimeAnnounceRx p a s = .next u0) : Stored u0 :=
  answer_stored (announceRx_stored (hs := hs) ..) h

theorem execAnnounceExpiry_stored (p : Fin 4) (s : State) {u0 : State} (hs : Stored s) (h : execAnnounceExpiry p s = .next u0) : Stored u0 :=
  answer_stored (announceExpires_stored (hs := hs) ..) h

theorem execTxqEntryExpiry_stored (p : Fin 4) (s : State) {u0 : State} (hs : Stored s) (h : execTxqEntryExpiry p s = .next u0) : Stored u0 :=
  answer_stored (stampExpires_stored (hs := hs) ..) h

theorem execTimeStepApply_stored (s : State) {u0 : State} (hs : Stored s) (h : execTimeStepApply s = .next u0) : Stored u0 :=
  answer_stored (stepApply_stored (hs := hs) ..) h

theorem execSlewComplete_stored (s : State) {u0 : State} (hs : Stored s) (h : execSlewComplete s = .next u0) : Stored u0 :=
  answer_stored (slewDone_stored (hs := hs) ..) h

theorem execAdjEffective_stored (s : State) {u0 : State} (hs : Stored s) (h : execAdjEffective s = .next u0) : Stored u0 :=
  answer_stored (adjEffective_stored (hs := hs) ..) h

theorem execTimAdjWrite_stored (value : Word) (s : State) {u0 : State} (hs : Stored s) (h : execTimAdjWrite value s = .next u0) : Stored u0 :=
  answer_stored (regWrite_stored (hs := hs) ..) h

theorem execTimeSet_stored (s : State) {u0 : State} (hs : Stored s) (h : execTimeSet s = .next u0) : Stored u0 :=
  answer_stored (regWrite_stored (hs := hs) ..) h

theorem execTimeAccept_stored (s : State) {u0 : State} (hs : Stored s) (h : execTimeAccept s = .next u0) : Stored u0 :=
  answer_stored (regWrite_stored (hs := hs) ..) h

theorem execTtEnable_stored (n : Fin 4) (periodic outen pol : Bool) (width : Fin 65536) (s : State) {u0 : State} (hs : Stored s) (h : execTtEnable n periodic outen pol width s = .next u0) : Stored u0 :=
  answer_stored (regWrite_stored (hs := hs) ..) h

theorem execTtDisable_stored (n : Fin 4) (value : Word) (s : State) {u0 : State} (hs : Stored s) (h : execTtDisable n value s = .next u0) : Stored u0 :=
  answer_stored (regWrite_stored (hs := hs) ..) h

theorem execTtFire_stored (n : Fin 4) (s : State) {u0 : State} (hs : Stored s) (h : execTtFire n s = .next u0) : Stored u0 :=
  answer_stored (ttFire_stored (hs := hs) ..) h

theorem execTtoutPulseEnd_stored (n : Fin 4) (s : State) {u0 : State} (hs : Stored s) (h : execTtoutPulseEnd n s = .next u0) : Stored u0 :=
  answer_stored (ttoutEnds_stored (hs := hs) ..) h

theorem execTtinEdge_stored (k : Fin 2) (onEdge : Bool) (s : State) {u0 : State} (hs : Stored s) (h : execTtinEdge k onEdge s = .next u0) : Stored u0 :=
  answer_stored (ttinEdge_stored (hs := hs) ..) h

end Sys2Proof.Machine
end

