-- ==== Sys2Proof/Laws/State.lean ====
section
/-! SUPPORT. The named updates of the state, field by field: each is true by unfolding the update once, here and nowhere else. -/
namespace Sys2Proof.Machine

variable (s : State)

/-! ## setReg -/

@[simp] theorem setReg_part (off v : Nat) : (s.setReg off v).part = s.part := rfl
@[simp] theorem setReg_clk (off v : Nat) : (s.setReg off v).clk = s.clk := rfl
@[simp] theorem setReg_now (off v : Nat) : (s.setReg off v).now = s.now := rfl
@[simp] theorem setReg_captured (off v : Nat) : (s.setReg off v).captured = s.captured := rfl
@[simp] theorem setReg_readData (off v : Nat) : (s.setReg off v).readData = s.readData := rfl
@[simp] theorem setReg_bankA (off v : Nat) : (s.setReg off v).bankA = s.bankA := rfl
@[simp] theorem setReg_bankB (off v : Nat) : (s.setReg off v).bankB = s.bankB := rfl
@[simp] theorem setReg_tables (off v : Nat) : (s.setReg off v).tables = s.tables := rfl
@[simp] theorem setReg_pool (off v : Nat) : (s.setReg off v).pool = s.pool := rfl
@[simp] theorem setReg_poolBad (off v : Nat) : (s.setReg off v).poolBad = s.poolBad := rfl
@[simp] theorem setReg_poolStuck (off v : Nat) : (s.setReg off v).poolStuck = s.poolStuck := rfl
@[simp] theorem setReg_deep (off v : Nat) : (s.setReg off v).deep = s.deep := rfl
@[simp] theorem setReg_host (off v : Nat) : (s.setReg off v).host = s.host := rfl
@[simp] theorem setReg_flash (off v : Nat) : (s.setReg off v).flash = s.flash := rfl
@[simp] theorem setReg_keep (off v : Nat) : (s.setReg off v).keep = s.keep := rfl
@[simp] theorem setReg_messages (off v : Nat) : (s.setReg off v).messages = s.messages := rfl
@[simp] theorem setReg_bulk (off v : Nat) : (s.setReg off v).bulk = s.bulk := rfl
@[simp] theorem setReg_rings (off v : Nat) : (s.setReg off v).rings = s.rings := rfl
@[simp] theorem setReg_slots (off v : Nat) : (s.setReg off v).slots = s.slots := rfl
@[simp] theorem setReg_fetched (off v : Nat) : (s.setReg off v).fetched = s.fetched := rfl
@[simp] theorem setReg_cancels (off v : Nat) : (s.setReg off v).cancels = s.cancels := rfl
@[simp] theorem setReg_cascades (off v : Nat) : (s.setReg off v).cascades = s.cascades := rfl
@[simp] theorem setReg_releasedAt (off v : Nat) : (s.setReg off v).releasedAt = s.releasedAt := rfl
@[simp] theorem setReg_tack (off v : Nat) : (s.setReg off v).tack = s.tack := rfl
@[simp] theorem setReg_groupPend (off v : Nat) : (s.setReg off v).groupPend = s.groupPend := rfl
@[simp] theorem setReg_reefQueue (off v : Nat) : (s.setReg off v).reefQueue = s.reefQueue := rfl
@[simp] theorem setReg_resv (off v : Nat) : (s.setReg off v).resv = s.resv := rfl
@[simp] theorem setReg_faultIn (off v : Nat) : (s.setReg off v).faultIn = s.faultIn := rfl
@[simp] theorem setReg_sources (off v : Nat) : (s.setReg off v).sources = s.sources := rfl
@[simp] theorem setReg_reactions (off v : Nat) : (s.setReg off v).reactions = s.reactions := rfl
@[simp] theorem setReg_nmiWait (off v : Nat) : (s.setReg off v).nmiWait = s.nmiWait := rfl
@[simp] theorem setReg_released (off v : Nat) : (s.setReg off v).released = s.released := rfl
@[simp] theorem setReg_journal (off v : Nat) : (s.setReg off v).journal = s.journal := rfl
@[simp] theorem setReg_compFence (off v : Nat) : (s.setReg off v).compFence = s.compFence := rfl
@[simp] theorem setReg_engines (off v : Nat) : (s.setReg off v).engines = s.engines := rfl
@[simp] theorem setReg_micros (off v : Nat) : (s.setReg off v).micros = s.micros := rfl
@[simp] theorem setReg_chans (off v : Nat) : (s.setReg off v).chans = s.chans := rfl
@[simp] theorem setReg_strobes (off v : Nat) : (s.setReg off v).strobes = s.strobes := rfl
@[simp] theorem setReg_quads (off v : Nat) : (s.setReg off v).quads = s.quads := rfl
@[simp] theorem setReg_logs (off v : Nat) : (s.setReg off v).logs = s.logs := rfl
@[simp] theorem setReg_cvs (off v : Nat) : (s.setReg off v).cvs = s.cvs := rfl
@[simp] theorem setReg_srcs (off v : Nat) : (s.setReg off v).srcs = s.srcs := rfl
@[simp] theorem setReg_mods (off v : Nat) : (s.setReg off v).mods = s.mods := rfl
@[simp] theorem setReg_acqs (off v : Nat) : (s.setReg off v).acqs = s.acqs := rfl
@[simp] theorem setReg_tdcs (off v : Nat) : (s.setReg off v).tdcs = s.tdcs := rfl
@[simp] theorem setReg_cpxs (off v : Nat) : (s.setReg off v).cpxs = s.cpxs := rfl
@[simp] theorem setReg_drams (off v : Nat) : (s.setReg off v).drams = s.drams := rfl
@[simp] theorem setReg_dramTempAt (off v : Nat) : (s.setReg off v).dramTempAt = s.dramTempAt := rfl
@[simp] theorem setReg_poolWait (off v : Nat) : (s.setReg off v).poolWait = s.poolWait := rfl
@[simp] theorem setReg_poolLast (off v : Nat) : (s.setReg off v).poolLast = s.poolLast := rfl
@[simp] theorem setReg_poolReplies (off v : Nat) : (s.setReg off v).poolReplies = s.poolReplies := rfl
@[simp] theorem setReg_bist (off v : Nat) : (s.setReg off v).bist = s.bist := rfl
@[simp] theorem setReg_ports (off v : Nat) : (s.setReg off v).ports = s.ports := rfl
@[simp] theorem setReg_clock (off v : Nat) : (s.setReg off v).clock = s.clock := rfl
@[simp] theorem setReg_i3cs (off v : Nat) : (s.setReg off v).i3cs = s.i3cs := rfl
@[simp] theorem setReg_frameSeq (off v : Nat) : (s.setReg off v).frameSeq = s.frameSeq := rfl
@[simp] theorem setReg_recentSync (off v : Nat) : (s.setReg off v).recentSync = s.recentSync := rfl
@[simp] theorem setReg_syncPend (off v : Nat) : (s.setReg off v).syncPend = s.syncPend := rfl
@[simp] theorem setReg_pairs (off v : Nat) : (s.setReg off v).pairs = s.pairs := rfl
@[simp] theorem setReg_pselHeld (off v : Nat) : (s.setReg off v).pselHeld = s.pselHeld := rfl
@[simp] theorem setReg_trims (off v : Nat) : (s.setReg off v).trims = s.trims := rfl
@[simp] theorem setReg_cal (off v : Nat) : (s.setReg off v).cal = s.cal := rfl
@[simp] theorem setReg_cnsStopped (off v : Nat) : (s.setReg off v).cnsStopped = s.cnsStopped := rfl
@[simp] theorem setReg_cnsLast (off v : Nat) : (s.setReg off v).cnsLast = s.cnsLast := rfl
@[simp] theorem setReg_bwNow (off v : Nat) : (s.setReg off v).bwNow = s.bwNow := rfl
@[simp] theorem setReg_bwStart (off v : Nat) : (s.setReg off v).bwStart = s.bwStart := rfl
@[simp] theorem setReg_fuses (off v : Nat) : (s.setReg off v).fuses = s.fuses := rfl
@[simp] theorem setReg_kept (off v : Nat) : (s.setReg off v).kept = s.kept := rfl
@[simp] theorem setReg_shroud (off v : Nat) : (s.setReg off v).shroud = s.shroud := rfl
@[simp] theorem setReg_boot (off v : Nat) : (s.setReg off v).boot = s.boot := rfl
@[simp] theorem setReg_pins (off v : Nat) : (s.setReg off v).pins = s.pins := rfl
@[simp] theorem setReg_free (off v : Nat) : (s.setReg off v).free = s.free := rfl
@[simp] theorem setReg_pending (off v : Nat) : (s.setReg off v).pending = s.pending := rfl

/-! ## setFld -/

@[simp] theorem setFld_part (f : Field) (v : Nat) : (s.setFld f v).part = s.part := rfl
@[simp] theorem setFld_clk (f : Field) (v : Nat) : (s.setFld f v).clk = s.clk := rfl
@[simp] theorem setFld_now (f : Field) (v : Nat) : (s.setFld f v).now = s.now := rfl
@[simp] theorem setFld_captured (f : Field) (v : Nat) : (s.setFld f v).captured = s.captured := rfl
@[simp] theorem setFld_readData (f : Field) (v : Nat) : (s.setFld f v).readData = s.readData := rfl
@[simp] theorem setFld_bankA (f : Field) (v : Nat) : (s.setFld f v).bankA = s.bankA := rfl
@[simp] theorem setFld_bankB (f : Field) (v : Nat) : (s.setFld f v).bankB = s.bankB := rfl
@[simp] theorem setFld_tables (f : Field) (v : Nat) : (s.setFld f v).tables = s.tables := rfl
@[simp] theorem setFld_pool (f : Field) (v : Nat) : (s.setFld f v).pool = s.pool := rfl
@[simp] theorem setFld_poolBad (f : Field) (v : Nat) : (s.setFld f v).poolBad = s.poolBad := rfl
@[simp] theorem setFld_poolStuck (f : Field) (v : Nat) : (s.setFld f v).poolStuck = s.poolStuck := rfl
@[simp] theorem setFld_deep (f : Field) (v : Nat) : (s.setFld f v).deep = s.deep := rfl
@[simp] theorem setFld_host (f : Field) (v : Nat) : (s.setFld f v).host = s.host := rfl
@[simp] theorem setFld_flash (f : Field) (v : Nat) : (s.setFld f v).flash = s.flash := rfl
@[simp] theorem setFld_keep (f : Field) (v : Nat) : (s.setFld f v).keep = s.keep := rfl
@[simp] theorem setFld_messages (f : Field) (v : Nat) : (s.setFld f v).messages = s.messages := rfl
@[simp] theorem setFld_bulk (f : Field) (v : Nat) : (s.setFld f v).bulk = s.bulk := rfl
@[simp] theorem setFld_rings (f : Field) (v : Nat) : (s.setFld f v).rings = s.rings := rfl
@[simp] theorem setFld_slots (f : Field) (v : Nat) : (s.setFld f v).slots = s.slots := rfl
@[simp] theorem setFld_fetched (f : Field) (v : Nat) : (s.setFld f v).fetched = s.fetched := rfl
@[simp] theorem setFld_cancels (f : Field) (v : Nat) : (s.setFld f v).cancels = s.cancels := rfl
@[simp] theorem setFld_cascades (f : Field) (v : Nat) : (s.setFld f v).cascades = s.cascades := rfl
@[simp] theorem setFld_releasedAt (f : Field) (v : Nat) : (s.setFld f v).releasedAt = s.releasedAt := rfl
@[simp] theorem setFld_tack (f : Field) (v : Nat) : (s.setFld f v).tack = s.tack := rfl
@[simp] theorem setFld_groupPend (f : Field) (v : Nat) : (s.setFld f v).groupPend = s.groupPend := rfl
@[simp] theorem setFld_reefQueue (f : Field) (v : Nat) : (s.setFld f v).reefQueue = s.reefQueue := rfl
@[simp] theorem setFld_resv (f : Field) (v : Nat) : (s.setFld f v).resv = s.resv := rfl
@[simp] theorem setFld_faultIn (f : Field) (v : Nat) : (s.setFld f v).faultIn = s.faultIn := rfl
@[simp] theorem setFld_sources (f : Field) (v : Nat) : (s.setFld f v).sources = s.sources := rfl
@[simp] theorem setFld_reactions (f : Field) (v : Nat) : (s.setFld f v).reactions = s.reactions := rfl
@[simp] theorem setFld_nmiWait (f : Field) (v : Nat) : (s.setFld f v).nmiWait = s.nmiWait := rfl
@[simp] theorem setFld_released (f : Field) (v : Nat) : (s.setFld f v).released = s.released := rfl
@[simp] theorem setFld_journal (f : Field) (v : Nat) : (s.setFld f v).journal = s.journal := rfl
@[simp] theorem setFld_compFence (f : Field) (v : Nat) : (s.setFld f v).compFence = s.compFence := rfl
@[simp] theorem setFld_engines (f : Field) (v : Nat) : (s.setFld f v).engines = s.engines := rfl
@[simp] theorem setFld_micros (f : Field) (v : Nat) : (s.setFld f v).micros = s.micros := rfl
@[simp] theorem setFld_chans (f : Field) (v : Nat) : (s.setFld f v).chans = s.chans := rfl
@[simp] theorem setFld_strobes (f : Field) (v : Nat) : (s.setFld f v).strobes = s.strobes := rfl
@[simp] theorem setFld_quads (f : Field) (v : Nat) : (s.setFld f v).quads = s.quads := rfl
@[simp] theorem setFld_logs (f : Field) (v : Nat) : (s.setFld f v).logs = s.logs := rfl
@[simp] theorem setFld_cvs (f : Field) (v : Nat) : (s.setFld f v).cvs = s.cvs := rfl
@[simp] theorem setFld_srcs (f : Field) (v : Nat) : (s.setFld f v).srcs = s.srcs := rfl
@[simp] theorem setFld_mods (f : Field) (v : Nat) : (s.setFld f v).mods = s.mods := rfl
@[simp] theorem setFld_acqs (f : Field) (v : Nat) : (s.setFld f v).acqs = s.acqs := rfl
@[simp] theorem setFld_tdcs (f : Field) (v : Nat) : (s.setFld f v).tdcs = s.tdcs := rfl
@[simp] theorem setFld_cpxs (f : Field) (v : Nat) : (s.setFld f v).cpxs = s.cpxs := rfl
@[simp] theorem setFld_drams (f : Field) (v : Nat) : (s.setFld f v).drams = s.drams := rfl
@[simp] theorem setFld_dramTempAt (f : Field) (v : Nat) : (s.setFld f v).dramTempAt = s.dramTempAt := rfl
@[simp] theorem setFld_poolWait (f : Field) (v : Nat) : (s.setFld f v).poolWait = s.poolWait := rfl
@[simp] theorem setFld_poolLast (f : Field) (v : Nat) : (s.setFld f v).poolLast = s.poolLast := rfl
@[simp] theorem setFld_poolReplies (f : Field) (v : Nat) : (s.setFld f v).poolReplies = s.poolReplies := rfl
@[simp] theorem setFld_bist (f : Field) (v : Nat) : (s.setFld f v).bist = s.bist := rfl
@[simp] theorem setFld_ports (f : Field) (v : Nat) : (s.setFld f v).ports = s.ports := rfl
@[simp] theorem setFld_clock (f : Field) (v : Nat) : (s.setFld f v).clock = s.clock := rfl
@[simp] theorem setFld_i3cs (f : Field) (v : Nat) : (s.setFld f v).i3cs = s.i3cs := rfl
@[simp] theorem setFld_frameSeq (f : Field) (v : Nat) : (s.setFld f v).frameSeq = s.frameSeq := rfl
@[simp] theorem setFld_recentSync (f : Field) (v : Nat) : (s.setFld f v).recentSync = s.recentSync := rfl
@[simp] theorem setFld_syncPend (f : Field) (v : Nat) : (s.setFld f v).syncPend = s.syncPend := rfl
@[simp] theorem setFld_pairs (f : Field) (v : Nat) : (s.setFld f v).pairs = s.pairs := rfl
@[simp] theorem setFld_pselHeld (f : Field) (v : Nat) : (s.setFld f v).pselHeld = s.pselHeld := rfl
@[simp] theorem setFld_trims (f : Field) (v : Nat) : (s.setFld f v).trims = s.trims := rfl
@[simp] theorem setFld_cal (f : Field) (v : Nat) : (s.setFld f v).cal = s.cal := rfl
@[simp] theorem setFld_cnsStopped (f : Field) (v : Nat) : (s.setFld f v).cnsStopped = s.cnsStopped := rfl
@[simp] theorem setFld_cnsLast (f : Field) (v : Nat) : (s.setFld f v).cnsLast = s.cnsLast := rfl
@[simp] theorem setFld_bwNow (f : Field) (v : Nat) : (s.setFld f v).bwNow = s.bwNow := rfl
@[simp] theorem setFld_bwStart (f : Field) (v : Nat) : (s.setFld f v).bwStart = s.bwStart := rfl
@[simp] theorem setFld_fuses (f : Field) (v : Nat) : (s.setFld f v).fuses = s.fuses := rfl
@[simp] theorem setFld_kept (f : Field) (v : Nat) : (s.setFld f v).kept = s.kept := rfl
@[simp] theorem setFld_shroud (f : Field) (v : Nat) : (s.setFld f v).shroud = s.shroud := rfl
@[simp] theorem setFld_boot (f : Field) (v : Nat) : (s.setFld f v).boot = s.boot := rfl
@[simp] theorem setFld_pins (f : Field) (v : Nat) : (s.setFld f v).pins = s.pins := rfl
@[simp] theorem setFld_free (f : Field) (v : Nat) : (s.setFld f v).free = s.free := rfl
@[simp] theorem setFld_pending (f : Field) (v : Nat) : (s.setFld f v).pending = s.pending := rfl

/-! ## report -/

@[simp] theorem report_part (src kind addr : Nat) : (s.report src kind addr).part = s.part := rfl
@[simp] theorem report_clk (src kind addr : Nat) : (s.report src kind addr).clk = s.clk := rfl
@[simp] theorem report_now (src kind addr : Nat) : (s.report src kind addr).now = s.now := rfl
@[simp] theorem report_regs (src kind addr : Nat) : (s.report src kind addr).regs = s.regs := rfl
@[simp] theorem report_captured (src kind addr : Nat) : (s.report src kind addr).captured = s.captured := rfl
@[simp] theorem report_readData (src kind addr : Nat) : (s.report src kind addr).readData = s.readData := rfl
@[simp] theorem report_bankA (src kind addr : Nat) : (s.report src kind addr).bankA = s.bankA := rfl
@[simp] theorem report_bankB (src kind addr : Nat) : (s.report src kind addr).bankB = s.bankB := rfl
@[simp] theorem report_tables (src kind addr : Nat) : (s.report src kind addr).tables = s.tables := rfl
@[simp] theorem report_pool (src kind addr : Nat) : (s.report src kind addr).pool = s.pool := rfl
@[simp] theorem report_poolBad (src kind addr : Nat) : (s.report src kind addr).poolBad = s.poolBad := rfl
@[simp] theorem report_poolStuck (src kind addr : Nat) : (s.report src kind addr).poolStuck = s.poolStuck := rfl
@[simp] theorem report_deep (src kind addr : Nat) : (s.report src kind addr).deep = s.deep := rfl
@[simp] theorem report_host (src kind addr : Nat) : (s.report src kind addr).host = s.host := rfl
@[simp] theorem report_flash (src kind addr : Nat) : (s.report src kind addr).flash = s.flash := rfl
@[simp] theorem report_keep (src kind addr : Nat) : (s.report src kind addr).keep = s.keep := rfl
@[simp] theorem report_messages (src kind addr : Nat) : (s.report src kind addr).messages = s.messages := rfl
@[simp] theorem report_bulk (src kind addr : Nat) : (s.report src kind addr).bulk = s.bulk := rfl
@[simp] theorem report_rings (src kind addr : Nat) : (s.report src kind addr).rings = s.rings := rfl
@[simp] theorem report_slots (src kind addr : Nat) : (s.report src kind addr).slots = s.slots := rfl
@[simp] theorem report_fetched (src kind addr : Nat) : (s.report src kind addr).fetched = s.fetched := rfl
@[simp] theorem report_cancels (src kind addr : Nat) : (s.report src kind addr).cancels = s.cancels := rfl
@[simp] theorem report_cascades (src kind addr : Nat) : (s.report src kind addr).cascades = s.cascades := rfl
@[simp] theorem report_releasedAt (src kind addr : Nat) : (s.report src kind addr).releasedAt = s.releasedAt := rfl
@[simp] theorem report_tack (src kind addr : Nat) : (s.report src kind addr).tack = s.tack := rfl
@[simp] theorem report_groupPend (src kind addr : Nat) : (s.report src kind addr).groupPend = s.groupPend := rfl
@[simp] theorem report_reefQueue (src kind addr : Nat) : (s.report src kind addr).reefQueue = s.reefQueue := rfl
@[simp] theorem report_resv (src kind addr : Nat) : (s.report src kind addr).resv = s.resv := rfl
@[simp] theorem report_sources (src kind addr : Nat) : (s.report src kind addr).sources = s.sources := rfl
@[simp] theorem report_reactions (src kind addr : Nat) : (s.report src kind addr).reactions = s.reactions := rfl
@[simp] theorem report_nmiWait (src kind addr : Nat) : (s.report src kind addr).nmiWait = s.nmiWait := rfl
@[simp] theorem report_released (src kind addr : Nat) : (s.report src kind addr).released = s.released := rfl
@[simp] theorem report_journal (src kind addr : Nat) : (s.report src kind addr).journal = s.journal := rfl
@[simp] theorem report_compFence (src kind addr : Nat) : (s.report src kind addr).compFence = s.compFence := rfl
@[simp] theorem report_engines (src kind addr : Nat) : (s.report src kind addr).engines = s.engines := rfl
@[simp] theorem report_micros (src kind addr : Nat) : (s.report src kind addr).micros = s.micros := rfl
@[simp] theorem report_chans (src kind addr : Nat) : (s.report src kind addr).chans = s.chans := rfl
@[simp] theorem report_strobes (src kind addr : Nat) : (s.report src kind addr).strobes = s.strobes := rfl
@[simp] theorem report_quads (src kind addr : Nat) : (s.report src kind addr).quads = s.quads := rfl
@[simp] theorem report_logs (src kind addr : Nat) : (s.report src kind addr).logs = s.logs := rfl
@[simp] theorem report_cvs (src kind addr : Nat) : (s.report src kind addr).cvs = s.cvs := rfl
@[simp] theorem report_srcs (src kind addr : Nat) : (s.report src kind addr).srcs = s.srcs := rfl
@[simp] theorem report_mods (src kind addr : Nat) : (s.report src kind addr).mods = s.mods := rfl
@[simp] theorem report_acqs (src kind addr : Nat) : (s.report src kind addr).acqs = s.acqs := rfl
@[simp] theorem report_tdcs (src kind addr : Nat) : (s.report src kind addr).tdcs = s.tdcs := rfl
@[simp] theorem report_cpxs (src kind addr : Nat) : (s.report src kind addr).cpxs = s.cpxs := rfl
@[simp] theorem report_drams (src kind addr : Nat) : (s.report src kind addr).drams = s.drams := rfl
@[simp] theorem report_dramTempAt (src kind addr : Nat) : (s.report src kind addr).dramTempAt = s.dramTempAt := rfl
@[simp] theorem report_poolWait (src kind addr : Nat) : (s.report src kind addr).poolWait = s.poolWait := rfl
@[simp] theorem report_poolLast (src kind addr : Nat) : (s.report src kind addr).poolLast = s.poolLast := rfl
@[simp] theorem report_poolReplies (src kind addr : Nat) : (s.report src kind addr).poolReplies = s.poolReplies := rfl
@[simp] theorem report_bist (src kind addr : Nat) : (s.report src kind addr).bist = s.bist := rfl
@[simp] theorem report_ports (src kind addr : Nat) : (s.report src kind addr).ports = s.ports := rfl
@[simp] theorem report_clock (src kind addr : Nat) : (s.report src kind addr).clock = s.clock := rfl
@[simp] theorem report_i3cs (src kind addr : Nat) : (s.report src kind addr).i3cs = s.i3cs := rfl
@[simp] theorem report_frameSeq (src kind addr : Nat) : (s.report src kind addr).frameSeq = s.frameSeq := rfl
@[simp] theorem report_recentSync (src kind addr : Nat) : (s.report src kind addr).recentSync = s.recentSync := rfl
@[simp] theorem report_syncPend (src kind addr : Nat) : (s.report src kind addr).syncPend = s.syncPend := rfl
@[simp] theorem report_pairs (src kind addr : Nat) : (s.report src kind addr).pairs = s.pairs := rfl
@[simp] theorem report_pselHeld (src kind addr : Nat) : (s.report src kind addr).pselHeld = s.pselHeld := rfl
@[simp] theorem report_trims (src kind addr : Nat) : (s.report src kind addr).trims = s.trims := rfl
@[simp] theorem report_cal (src kind addr : Nat) : (s.report src kind addr).cal = s.cal := rfl
@[simp] theorem report_cnsStopped (src kind addr : Nat) : (s.report src kind addr).cnsStopped = s.cnsStopped := rfl
@[simp] theorem report_cnsLast (src kind addr : Nat) : (s.report src kind addr).cnsLast = s.cnsLast := rfl
@[simp] theorem report_bwNow (src kind addr : Nat) : (s.report src kind addr).bwNow = s.bwNow := rfl
@[simp] theorem report_bwStart (src kind addr : Nat) : (s.report src kind addr).bwStart = s.bwStart := rfl
@[simp] theorem report_fuses (src kind addr : Nat) : (s.report src kind addr).fuses = s.fuses := rfl
@[simp] theorem report_kept (src kind addr : Nat) : (s.report src kind addr).kept = s.kept := rfl
@[simp] theorem report_shroud (src kind addr : Nat) : (s.report src kind addr).shroud = s.shroud := rfl
@[simp] theorem report_boot (src kind addr : Nat) : (s.report src kind addr).boot = s.boot := rfl
@[simp] theorem report_pins (src kind addr : Nat) : (s.report src kind addr).pins = s.pins := rfl
@[simp] theorem report_free (src kind addr : Nat) : (s.report src kind addr).free = s.free := rfl
@[simp] theorem report_pending (src kind addr : Nat) : (s.report src kind addr).pending = s.pending := rfl

/-! ## resetRegs -/

@[simp] theorem resetRegs_part (lo hi : Nat) : (s.resetRegs lo hi).part = s.part := rfl
@[simp] theorem resetRegs_clk (lo hi : Nat) : (s.resetRegs lo hi).clk = s.clk := rfl
@[simp] theorem resetRegs_now (lo hi : Nat) : (s.resetRegs lo hi).now = s.now := rfl
@[simp] theorem resetRegs_captured (lo hi : Nat) : (s.resetRegs lo hi).captured = s.captured := rfl
@[simp] theorem resetRegs_readData (lo hi : Nat) : (s.resetRegs lo hi).readData = s.readData := rfl
@[simp] theorem resetRegs_bankA (lo hi : Nat) : (s.resetRegs lo hi).bankA = s.bankA := rfl
@[simp] theorem resetRegs_bankB (lo hi : Nat) : (s.resetRegs lo hi).bankB = s.bankB := rfl
@[simp] theorem resetRegs_tables (lo hi : Nat) : (s.resetRegs lo hi).tables = s.tables := rfl
@[simp] theorem resetRegs_pool (lo hi : Nat) : (s.resetRegs lo hi).pool = s.pool := rfl
@[simp] theorem resetRegs_poolBad (lo hi : Nat) : (s.resetRegs lo hi).poolBad = s.poolBad := rfl
@[simp] theorem resetRegs_poolStuck (lo hi : Nat) : (s.resetRegs lo hi).poolStuck = s.poolStuck := rfl
@[simp] theorem resetRegs_deep (lo hi : Nat) : (s.resetRegs lo hi).deep = s.deep := rfl
@[simp] theorem resetRegs_host (lo hi : Nat) : (s.resetRegs lo hi).host = s.host := rfl
@[simp] theorem resetRegs_flash (lo hi : Nat) : (s.resetRegs lo hi).flash = s.flash := rfl
@[simp] theorem resetRegs_keep (lo hi : Nat) : (s.resetRegs lo hi).keep = s.keep := rfl
@[simp] theorem resetRegs_messages (lo hi : Nat) : (s.resetRegs lo hi).messages = s.messages := rfl
@[simp] theorem resetRegs_bulk (lo hi : Nat) : (s.resetRegs lo hi).bulk = s.bulk := rfl
@[simp] theorem resetRegs_rings (lo hi : Nat) : (s.resetRegs lo hi).rings = s.rings := rfl
@[simp] theorem resetRegs_slots (lo hi : Nat) : (s.resetRegs lo hi).slots = s.slots := rfl
@[simp] theorem resetRegs_fetched (lo hi : Nat) : (s.resetRegs lo hi).fetched = s.fetched := rfl
@[simp] theorem resetRegs_cancels (lo hi : Nat) : (s.resetRegs lo hi).cancels = s.cancels := rfl
@[simp] theorem resetRegs_cascades (lo hi : Nat) : (s.resetRegs lo hi).cascades = s.cascades := rfl
@[simp] theorem resetRegs_releasedAt (lo hi : Nat) : (s.resetRegs lo hi).releasedAt = s.releasedAt := rfl
@[simp] theorem resetRegs_tack (lo hi : Nat) : (s.resetRegs lo hi).tack = s.tack := rfl
@[simp] theorem resetRegs_groupPend (lo hi : Nat) : (s.resetRegs lo hi).groupPend = s.groupPend := rfl
@[simp] theorem resetRegs_reefQueue (lo hi : Nat) : (s.resetRegs lo hi).reefQueue = s.reefQueue := rfl
@[simp] theorem resetRegs_resv (lo hi : Nat) : (s.resetRegs lo hi).resv = s.resv := rfl
@[simp] theorem resetRegs_faultIn (lo hi : Nat) : (s.resetRegs lo hi).faultIn = s.faultIn := rfl
@[simp] theorem resetRegs_sources (lo hi : Nat) : (s.resetRegs lo hi).sources = s.sources := rfl
@[simp] theorem resetRegs_reactions (lo hi : Nat) : (s.resetRegs lo hi).reactions = s.reactions := rfl
@[simp] theorem resetRegs_nmiWait (lo hi : Nat) : (s.resetRegs lo hi).nmiWait = s.nmiWait := rfl
@[simp] theorem resetRegs_released (lo hi : Nat) : (s.resetRegs lo hi).released = s.released := rfl
@[simp] theorem resetRegs_journal (lo hi : Nat) : (s.resetRegs lo hi).journal = s.journal := rfl
@[simp] theorem resetRegs_compFence (lo hi : Nat) : (s.resetRegs lo hi).compFence = s.compFence := rfl
@[simp] theorem resetRegs_engines (lo hi : Nat) : (s.resetRegs lo hi).engines = s.engines := rfl
@[simp] theorem resetRegs_micros (lo hi : Nat) : (s.resetRegs lo hi).micros = s.micros := rfl
@[simp] theorem resetRegs_chans (lo hi : Nat) : (s.resetRegs lo hi).chans = s.chans := rfl
@[simp] theorem resetRegs_strobes (lo hi : Nat) : (s.resetRegs lo hi).strobes = s.strobes := rfl
@[simp] theorem resetRegs_quads (lo hi : Nat) : (s.resetRegs lo hi).quads = s.quads := rfl
@[simp] theorem resetRegs_logs (lo hi : Nat) : (s.resetRegs lo hi).logs = s.logs := rfl
@[simp] theorem resetRegs_cvs (lo hi : Nat) : (s.resetRegs lo hi).cvs = s.cvs := rfl
@[simp] theorem resetRegs_srcs (lo hi : Nat) : (s.resetRegs lo hi).srcs = s.srcs := rfl
@[simp] theorem resetRegs_mods (lo hi : Nat) : (s.resetRegs lo hi).mods = s.mods := rfl
@[simp] theorem resetRegs_acqs (lo hi : Nat) : (s.resetRegs lo hi).acqs = s.acqs := rfl
@[simp] theorem resetRegs_tdcs (lo hi : Nat) : (s.resetRegs lo hi).tdcs = s.tdcs := rfl
@[simp] theorem resetRegs_cpxs (lo hi : Nat) : (s.resetRegs lo hi).cpxs = s.cpxs := rfl
@[simp] theorem resetRegs_drams (lo hi : Nat) : (s.resetRegs lo hi).drams = s.drams := rfl
@[simp] theorem resetRegs_dramTempAt (lo hi : Nat) : (s.resetRegs lo hi).dramTempAt = s.dramTempAt := rfl
@[simp] theorem resetRegs_poolWait (lo hi : Nat) : (s.resetRegs lo hi).poolWait = s.poolWait := rfl
@[simp] theorem resetRegs_poolLast (lo hi : Nat) : (s.resetRegs lo hi).poolLast = s.poolLast := rfl
@[simp] theorem resetRegs_poolReplies (lo hi : Nat) : (s.resetRegs lo hi).poolReplies = s.poolReplies := rfl
@[simp] theorem resetRegs_bist (lo hi : Nat) : (s.resetRegs lo hi).bist = s.bist := rfl
@[simp] theorem resetRegs_ports (lo hi : Nat) : (s.resetRegs lo hi).ports = s.ports := rfl
@[simp] theorem resetRegs_clock (lo hi : Nat) : (s.resetRegs lo hi).clock = s.clock := rfl
@[simp] theorem resetRegs_i3cs (lo hi : Nat) : (s.resetRegs lo hi).i3cs = s.i3cs := rfl
@[simp] theorem resetRegs_frameSeq (lo hi : Nat) : (s.resetRegs lo hi).frameSeq = s.frameSeq := rfl
@[simp] theorem resetRegs_recentSync (lo hi : Nat) : (s.resetRegs lo hi).recentSync = s.recentSync := rfl
@[simp] theorem resetRegs_syncPend (lo hi : Nat) : (s.resetRegs lo hi).syncPend = s.syncPend := rfl
@[simp] theorem resetRegs_pairs (lo hi : Nat) : (s.resetRegs lo hi).pairs = s.pairs := rfl
@[simp] theorem resetRegs_pselHeld (lo hi : Nat) : (s.resetRegs lo hi).pselHeld = s.pselHeld := rfl
@[simp] theorem resetRegs_trims (lo hi : Nat) : (s.resetRegs lo hi).trims = s.trims := rfl
@[simp] theorem resetRegs_cal (lo hi : Nat) : (s.resetRegs lo hi).cal = s.cal := rfl
@[simp] theorem resetRegs_cnsStopped (lo hi : Nat) : (s.resetRegs lo hi).cnsStopped = s.cnsStopped := rfl
@[simp] theorem resetRegs_cnsLast (lo hi : Nat) : (s.resetRegs lo hi).cnsLast = s.cnsLast := rfl
@[simp] theorem resetRegs_bwNow (lo hi : Nat) : (s.resetRegs lo hi).bwNow = s.bwNow := rfl
@[simp] theorem resetRegs_bwStart (lo hi : Nat) : (s.resetRegs lo hi).bwStart = s.bwStart := rfl
@[simp] theorem resetRegs_fuses (lo hi : Nat) : (s.resetRegs lo hi).fuses = s.fuses := rfl
@[simp] theorem resetRegs_kept (lo hi : Nat) : (s.resetRegs lo hi).kept = s.kept := rfl
@[simp] theorem resetRegs_shroud (lo hi : Nat) : (s.resetRegs lo hi).shroud = s.shroud := rfl
@[simp] theorem resetRegs_boot (lo hi : Nat) : (s.resetRegs lo hi).boot = s.boot := rfl
@[simp] theorem resetRegs_pins (lo hi : Nat) : (s.resetRegs lo hi).pins = s.pins := rfl
@[simp] theorem resetRegs_free (lo hi : Nat) : (s.resetRegs lo hi).free = s.free := rfl
@[simp] theorem resetRegs_pending (lo hi : Nat) : (s.resetRegs lo hi).pending = s.pending := rfl

/-! ## drawn -/

@[simp] theorem drawn_part : (s.drawn).part = s.part := rfl
@[simp] theorem drawn_clk : (s.drawn).clk = s.clk := rfl
@[simp] theorem drawn_now : (s.drawn).now = s.now := rfl
@[simp] theorem drawn_regs : (s.drawn).regs = s.regs := rfl
@[simp] theorem drawn_captured : (s.drawn).captured = s.captured := rfl
@[simp] theorem drawn_readData : (s.drawn).readData = s.readData := rfl
@[simp] theorem drawn_bankA : (s.drawn).bankA = s.bankA := rfl
@[simp] theorem drawn_bankB : (s.drawn).bankB = s.bankB := rfl
@[simp] theorem drawn_tables : (s.drawn).tables = s.tables := rfl
@[simp] theorem drawn_pool : (s.drawn).pool = s.pool := rfl
@[simp] theorem drawn_poolBad : (s.drawn).poolBad = s.poolBad := rfl
@[simp] theorem drawn_poolStuck : (s.drawn).poolStuck = s.poolStuck := rfl
@[simp] theorem drawn_deep : (s.drawn).deep = s.deep := rfl
@[simp] theorem drawn_host : (s.drawn).host = s.host := rfl
@[simp] theorem drawn_flash : (s.drawn).flash = s.flash := rfl
@[simp] theorem drawn_keep : (s.drawn).keep = s.keep := rfl
@[simp] theorem drawn_messages : (s.drawn).messages = s.messages := rfl
@[simp] theorem drawn_bulk : (s.drawn).bulk = s.bulk := rfl
@[simp] theorem drawn_rings : (s.drawn).rings = s.rings := rfl
@[simp] theorem drawn_slots : (s.drawn).slots = s.slots := rfl
@[simp] theorem drawn_fetched : (s.drawn).fetched = s.fetched := rfl
@[simp] theorem drawn_cancels : (s.drawn).cancels = s.cancels := rfl
@[simp] theorem drawn_cascades : (s.drawn).cascades = s.cascades := rfl
@[simp] theorem drawn_releasedAt : (s.drawn).releasedAt = s.releasedAt := rfl
@[simp] theorem drawn_tack : (s.drawn).tack = s.tack := rfl
@[simp] theorem drawn_groupPend : (s.drawn).groupPend = s.groupPend := rfl
@[simp] theorem drawn_reefQueue : (s.drawn).reefQueue = s.reefQueue := rfl
@[simp] theorem drawn_resv : (s.drawn).resv = s.resv := rfl
@[simp] theorem drawn_faultIn : (s.drawn).faultIn = s.faultIn := rfl
@[simp] theorem drawn_sources : (s.drawn).sources = s.sources := rfl
@[simp] theorem drawn_reactions : (s.drawn).reactions = s.reactions := rfl
@[simp] theorem drawn_nmiWait : (s.drawn).nmiWait = s.nmiWait := rfl
@[simp] theorem drawn_released : (s.drawn).released = s.released := rfl
@[simp] theorem drawn_journal : (s.drawn).journal = s.journal := rfl
@[simp] theorem drawn_compFence : (s.drawn).compFence = s.compFence := rfl
@[simp] theorem drawn_engines : (s.drawn).engines = s.engines := rfl
@[simp] theorem drawn_micros : (s.drawn).micros = s.micros := rfl
@[simp] theorem drawn_chans : (s.drawn).chans = s.chans := rfl
@[simp] theorem drawn_strobes : (s.drawn).strobes = s.strobes := rfl
@[simp] theorem drawn_quads : (s.drawn).quads = s.quads := rfl
@[simp] theorem drawn_logs : (s.drawn).logs = s.logs := rfl
@[simp] theorem drawn_cvs : (s.drawn).cvs = s.cvs := rfl
@[simp] theorem drawn_srcs : (s.drawn).srcs = s.srcs := rfl
@[simp] theorem drawn_mods : (s.drawn).mods = s.mods := rfl
@[simp] theorem drawn_acqs : (s.drawn).acqs = s.acqs := rfl
@[simp] theorem drawn_tdcs : (s.drawn).tdcs = s.tdcs := rfl
@[simp] theorem drawn_cpxs : (s.drawn).cpxs = s.cpxs := rfl
@[simp] theorem drawn_drams : (s.drawn).drams = s.drams := rfl
@[simp] theorem drawn_dramTempAt : (s.drawn).dramTempAt = s.dramTempAt := rfl
@[simp] theorem drawn_poolWait : (s.drawn).poolWait = s.poolWait := rfl
@[simp] theorem drawn_poolLast : (s.drawn).poolLast = s.poolLast := rfl
@[simp] theorem drawn_poolReplies : (s.drawn).poolReplies = s.poolReplies := rfl
@[simp] theorem drawn_bist : (s.drawn).bist = s.bist := rfl
@[simp] theorem drawn_ports : (s.drawn).ports = s.ports := rfl
@[simp] theorem drawn_clock : (s.drawn).clock = s.clock := rfl
@[simp] theorem drawn_i3cs : (s.drawn).i3cs = s.i3cs := rfl
@[simp] theorem drawn_frameSeq : (s.drawn).frameSeq = s.frameSeq := rfl
@[simp] theorem drawn_recentSync : (s.drawn).recentSync = s.recentSync := rfl
@[simp] theorem drawn_syncPend : (s.drawn).syncPend = s.syncPend := rfl
@[simp] theorem drawn_pairs : (s.drawn).pairs = s.pairs := rfl
@[simp] theorem drawn_pselHeld : (s.drawn).pselHeld = s.pselHeld := rfl
@[simp] theorem drawn_trims : (s.drawn).trims = s.trims := rfl
@[simp] theorem drawn_cal : (s.drawn).cal = s.cal := rfl
@[simp] theorem drawn_cnsStopped : (s.drawn).cnsStopped = s.cnsStopped := rfl
@[simp] theorem drawn_cnsLast : (s.drawn).cnsLast = s.cnsLast := rfl
@[simp] theorem drawn_bwNow : (s.drawn).bwNow = s.bwNow := rfl
@[simp] theorem drawn_bwStart : (s.drawn).bwStart = s.bwStart := rfl
@[simp] theorem drawn_fuses : (s.drawn).fuses = s.fuses := rfl
@[simp] theorem drawn_kept : (s.drawn).kept = s.kept := rfl
@[simp] theorem drawn_shroud : (s.drawn).shroud = s.shroud := rfl
@[simp] theorem drawn_boot : (s.drawn).boot = s.boot := rfl
@[simp] theorem drawn_pins : (s.drawn).pins = s.pins := rfl
@[simp] theorem drawn_pending : (s.drawn).pending = s.pending := rfl

/-! ## What each update writes -/

@[simp] theorem setReg_regs (off v : Nat) : (s.setReg off v).regs = Sparse.set regReset s.regs off (BitVec.ofNat 32 v) := rfl
@[simp] theorem report_faultIn (src kind addr : Nat) :
    (s.report src kind addr).faultIn = insertFault s.faultIn ⟨s.cycle, src, kind, addr⟩ := rfl
@[simp] theorem drawn_free : s.drawn.free = s.free + 1 := rfl

end Sys2Proof.Machine
end

