-- ==== Sys2Proof/WellFormed.lean ====
section
/-! DEFINITION. Which commands are well formed: operands whose types are wider than what the rules let come from outside. Every meaning is
total and answers an ill-formed command too; no such command can come to the device. -/
namespace Sys2Proof

/-- A byte offset of an aligned 32-bit register access (R9). -/
def aligned (off : Nat) : Bool := off % 4 == 0

/-- A frame as its class allows it (R325): hops of 0 to 15, 16-bit ORIGIN and SEQ, and a payload of the class's size in bytes. -/
def Arrival.wf (a : Arrival) (bytes : Nat) : Bool :=
  decide (a.hops < 16) && decide (a.origin < 65536) && decide (a.seq < 65536) && decide (a.payload < 2 ^ (8 * bytes))

/-- A training sequence (R328): lane and port numbers and presets lie in their fields. -/
def Training.wf (t : Training) : Bool :=
  decide (t.lane < 16) && decide (t.port < 16) && decide (t.preset < 8) && decide (t.inUse < 8)

/-- A list of a fixed length. -/
def sized {α : Type} (n : Nat) (l : List α) : Bool := l.length == n

/-- What a calibration run reads (R370, R375): 40 cells of 96 lines, 16 readings of 128 quantities, and 16 of each phase step or of none. -/
def BankReadings.wf (r : BankReadings) : Bool :=
  sized 96 r.cells && r.cells.all (sized 40) && sized 128 r.readings && r.readings.all (sized 16) &&
  (r.steps.isEmpty || (sized 64 r.steps && r.steps.all (sized 16)))

/-- A pool request (R229, R234): a word of the 128 MiB pool, 32 byte enables and 256 data bits. -/
def PoolArrival.wf (a : PoolArrival) : Bool :=
  decide (a.word < 2 ^ 22) && match a.write with
    | some w => decide (w.1 < 2 ^ 32) && decide (w.2 < 2 ^ 256)
    | none => true

/-- A lane of a link port. -/
def LinkLoss.wf : LinkLoss → Bool
  | .clockLost lane => decide (lane < 4)
  | .codeError lane => decide (lane < 4)
  | .aligned arrival => arrival.length == 4
  | .noAlignment => true
  | .noDiscover => true

/-- A companion as ENTDAA finds it (R343): a 48-bit PID, BCR and DCR. -/
def companionWf (d : Nat × Nat × Nat) : Bool := decide (d.1 < 2 ^ 48) && decide (d.2.1 < 256) && decide (d.2.2 < 256)

/-- Well-formed commands: all those whose operands their types already bound, and of the others those within their rules' bounds. -/
def Instr.wf : Instr → Bool
  | .registerWrite off _ _ => aligned off
  | .rcFieldRead off _ => aligned off
  | .loReadCapture off => aligned off
  | .bulkPortWrite _ d => aligned d.bytes.length && !d.bytes.isEmpty && decide (d.bytes.length ≤ 512)
  | .bulkPortRead _ p => aligned p.n && p.n != 0 && decide (p.n ≤ 4096)
  | .locatorTransition _ phase => decide (phase < 2 ^ 96)
  | .tdcInputEdge _ _ phase rings _ => decide (phase < 2 ^ 96) && decide (rings < 1024)
  | .poolAccess _ arrivals _ => arrivals.all PoolArrival.wf
  | .sensorRead temps => sized 16 temps
  | .trainingSequenceRx _ _ t _ _ => t.wf
  | .tunePresetStep _ eyes => sized 4 eyes
  | .linkFailure _ loss => loss.wf
  | .discoverRx _ a => a.wf 16
  | .syncFrameRx _ a => a.wf 16
  | .linkFrameRx _ a => a.wf 8
  | .failFrameRx _ a => a.wf 64
  | .timeRequestRx _ a _ => a.wf 32
  | .timeResponseRx _ a _ => a.wf 32
  | .timeAnnounceRx _ a => a.wf 32
  | .pairArmRx _ a => a.wf 24
  | .pairDigestRx _ a => a.wf 24
  | .pairTakeoverRx _ a => a.wf 24
  | .eyeScanDone _ errs => decide (errs < 2 ^ 32)
  | .i3cDaa _ devices => devices.all companionWf
  | .i3cHotJoin _ pid bcr dcr => companionWf (pid, bcr, dcr)
  | .i3cPoll _ acks => decide (acks < 2 ^ 15)
  | .i3cTransferDone _ _ bytes => decide (bytes.length ≤ 32)
  | .calBankComplete _ r _ => r.wf
  | .bootSelftest failed words => decide (failed < 2 ^ 64) && words.all fun w => decide (w < 2 ^ 22)
  | .testDone failed words => decide (failed < 2 ^ 64) && words.all fun w => decide (w < 2 ^ 22)
  | .bootCalibration temps => sized 16 temps
  | .bootMemory _ _ found => sized 8 found
  | .pcieLinkTrained rate width => decide (3 ≤ rate.val) && [1, 2, 4, 8].contains width.val
  | .cnsCounterWrap _ n => decide (n ≤ 64)
  | .lifecycleProvision seed _ certificate _ => decide (seed < 2 ^ 256) && sized 160 certificate
  | _ => true

end Sys2Proof
end

