-- ==== Sys2Proof/Tests/Slice0.lean ====
section
/-! SUPPORT. Tests of the model's own: ill-formed commands that WellFormed refuses; and for each statement concrete states and operands
that meet its hypotheses, clause by clause, with what the rules give there. Values are small and chosen by hand from the spec's tables.
-/
namespace Sys2Proof.Tests
open Sys2Proof.Machine
set_option Elab.async false

/-! ### Helpers -/

/-- The state that a command answers. -/
def after (c : Instr) (s : State) : State := match exec c s with
  | .next t => t
  | _ => s

/-- Whether a command answers a next state. -/
def answers (c : Instr) (s : State) : Bool := match exec c s with
  | .next _ => true
  | _ => false

/-- A device in SERVICE, everything else as after reset. -/
def live : State := State.reset.setReg R.SYS_BOOT_STATE 0x88000000

/-- s with n bytes of the pool at a holding v. -/
def put (s : State) (a n v : Nat) : State := { s with pool := Sparse.setMany poolDefault s.pool a (toBytes n v) }

/-- s with n bytes of host memory at a holding v. -/
def putHost (s : State) (a n v : Nat) : State := { s with host := Sparse.setMany hostDefault s.host a (toBytes n v) }

/-- An instruction word: OPCODE, X, A and LINE (R38). -/
def instr (op x a line : Nat) : Nat := op * 2 ^ 56 + x * 2 ^ 52 + a * 2 ^ 28 + line

/-- Group 0 with a plain section at 0x1000: 1,000 instructions at 0x1400, lines at 0x3000, period 5 ns. -/
def loaded : State :=
  let s := (((live.setReg (R.PG_PERIOD_LO 0) 40960).setReg (R.PG_CFG 0) 1).setReg (R.SE_CHMAP 0 0) 1)
  let s := put (put (put s 0x1018 4 1000) 0x1020 4 0x400) 0x1024 4 0x2000
  s.setEngine 0 { Engine.idle with
    sec := some ⟨0, none, 0x1000, 0x4000, 0, false, false, 0, 0, false⟩
    slot := some 5
    start := some 0 }

/-- Group 0 in a burst at its first instruction. -/
def running (w : Nat) : State :=
  let s := put (loaded.setFld (F.SE_STATE.STATE 0) 2) 0x1400 8 w
  s.setEngine 0 { s.engine 0 with begun := true }

/-- A RUNNING engine is about to begin an instruction that can be read, with no earlier line open; b is the state at the boundary. -/
abbrev Ready (s b : State) : Prop :=
  (s.advance 0).issueDue 0 = true ∧ (s.advance 0).lineOpen 0 = false ∧ b.eState 0 = 2 ∧ (b.engine 0).cur = none ∧
    b.poisoned (b.pcAddr 0) 8 = false

/-- The command issues the first line of the instruction it begins, after f has done the instruction's own work. -/
abbrev begun (c : Instr) (s : State) (f : State → Engine → State) : Prop :=
  let b := (s.advance 0).atBoundary 0
  Ready s b ∧ after c s = Answered s ((f b (b.engine 0)).issueCurrent 0 (b.seCycle 0) (b.engine 0).nextStart) ∧ after c s ≠ s

/-- The command ends the burst with a cause at the line it would issue. -/
abbrev endsWith (c : Instr) (s : State) (cause : Nat) : Prop :=
  let b := (s.advance 0).atBoundary 0
  let e := b.engine 0
  Ready s b ∧ after c s = Answered s ((b.setEngine 0 { e with nextStart := e.nextStart + b.period 0 }).stopLine 0 (b.seCycle 0)
    e.nextStart cause) ∧ (after c s).fld (F.SE_CAUSE.CAUSE 0) = cause

/-- s with general register k of group 0 holding v. -/
def withGr (s : State) (k v : Nat) : State := s.setReg (R.SE_GR 0 k) v

/-- s with the engine of group 0 changed. -/
def withEng (s : State) (f : Engine → Engine) : State := s.setEngine 0 (f (s.engine 0))

/-! ### Sequence engines -/

theorem witness_straight :
    begun (.vec 0) (running (instr 1 0 3 0)) (fun b e => b.setEngine 0 { e with cur := some ⟨0, instr 1 0 3 0, 0, 0, 3, 1, 0, none, []⟩ }) ∧
    begun (.rpt 0) (running (instr 2 0 9 0)) (fun b e => b.setEngine 0 { e with cur := some ⟨0, instr 2 0 9 0, 0, 0, 9, 1, 0, none, []⟩ }) ∧
    begun (.jmp 0) (running (instr 3 0 7 0)) (fun b e => b.setEngine 0 { e with cur := oneLine e (instr 3 0 7 0) 0 7 }) ∧
    begun (.tset 0) (running (instr 0x0B 0 255 0)) (fun b e => b.setEngine 0 { e with
      ts := 255, cur := oneLine e (instr 0x0B 0 255 0) 0 1 }) ∧
    begun (.setg 0) (running (instr 0x10 15 0xFFFFFF 0)) (fun b e => (b.setEngine 0 { e with
      cur := oneLine e (instr 0x10 15 0xFFFFFF 0) 0 1 }).setReg (R.SE_GR 0 15) 0xFFFFFF) ∧
    begun (.clf 0) (running (instr 0x11 0 0 0)) (fun b e => b.setEngine 0 { e with
      clf := 0, cur := oneLine e (instr 0x11 0 0 0) 0 1 }) ∧
    begun (.halt 0) (running (instr 0x12 0 0 0)) (fun b e => b.setEngine 0 { e with cur := oneLine e (instr 0x12 0 0 0) 0 1 }) ∧
    after (.jmp 0) (running (instr 1 0 3 0)) = running (instr 1 0 3 0) := by decide +kernel

theorem test_halt_ends :
    let t := after (.halt 0) (running (instr 0x12 0 0 0))
    t.seCycle 0 = 1 ∧ (after (.vectorCycleIssue 0) t).eState 0 = 3 := by decide +kernel

theorem witness_loops :
    let level : LoopLevel := ⟨2, 0⟩
    begun (.lbeg 0) (running (instr 5 0 2 0)) (fun b e => b.setEngine 0 { e with
      loops := [level], cur := oneLine e (instr 5 0 2 0) 0 1 }) ∧
    begun (.lbeg 0) (withGr (running (instr 5 1 3 0)) 3 2) (fun b e => b.setEngine 0 { e with
      loops := [level], cur := oneLine e (instr 5 1 3 0) 0 1 }) ∧
    endsWith (.lbeg 0) (running (instr 5 0 0 0)) 8 ∧
    endsWith (.lbeg 0) (withEng (running (instr 5 0 0 0)) fun e => { e with loops := List.replicate 8 level }) 7 ∧
    begun (.lend 0) (withEng (running (instr 6 0 4 0)) fun e => { e with loops := [level] }) (fun b e => b.setEngine 0 { e with
      loops := [⟨1, 0⟩], cur := oneLine e (instr 6 0 4 0) 0 4 }) ∧
    begun (.lend 0) (withEng (running (instr 6 0 4 0)) fun e => { e with loops := [⟨1, 0⟩] }) (fun b e => b.setEngine 0 { e with
      loops := [], cur := oneLine e (instr 6 0 4 0) 0 1 }) ∧
    endsWith (.lend 0) (running (instr 6 0 4 0)) 7 ∧
    endsWith (.lend 0) (withEng (running (instr 6 0 4 0)) fun e => { e with loops := [level], calls := [9] }) 7 := by decide +kernel

theorem witness_calls :
    begun (.call 0) (withEng (running (instr 7 0 4 0)) fun e => { e with calls := List.replicate 15 9 }) (fun b e => b.setEngine 0 { e with
      calls := 1 :: List.replicate 15 9, cur := oneLine e (instr 7 0 4 0) 0 4 }) ∧
    endsWith (.call 0) (withEng (running (instr 7 0 4 0)) fun e => { e with calls := List.replicate 16 9 }) 6 ∧
    begun (.ret 0) (withEng (running (instr 8 0 0 0)) fun e => { e with calls := [9, 3] }) (fun b e => b.setEngine 0 { e with
      calls := [3], cur := oneLine e (instr 8 0 0 0) 0 9 }) ∧
    endsWith (.ret 0) (running (instr 8 0 0 0)) 6 := by decide +kernel

/-- MATCH of one line with its timeout in SE_GR4 (3 iterations) and its target in SE_GR5. -/
def matchWord : Nat := instr 9 0 (1 + 4 * 2 ^ 8 + 5 * 2 ^ 12) 0

/-- SYNC WAIT with its timeout in SE_GR4 and its target in SE_GR5. -/
def waitWord : Nat := instr 0x0E 1 (4 * 2 ^ 12 + 5 * 2 ^ 16) 0

theorem witness_conditional :
    let soon := fun e : Engine => { e with lastCond := some 0 }
    begun (.jcf 0) (running (instr 4 1 7 0)) (fun b e => b.setEngine 0 { e with
      lastCond := some 0, cur := oneLine e (instr 4 1 7 0) 0 1 }) ∧
    endsWith (.jcf 0) (withEng (running (instr 4 1 7 0)) soon) 9 ∧
    begun (.matchLoop 0) (withGr (withGr (running matchWord) 4 3) 5 999) (fun b e => (b.setReg (R.SE_MATCHST 0) 0).setEngine 0 { e with
      lastCond := some 0, iters := [], cur := some ⟨0, matchWord, 0, 0, 3, 1, 999, none, []⟩ }) ∧
    endsWith (.matchLoop 0) (withGr (running matchWord) 5 1000) 8 ∧
    endsWith (.matchLoop 0) (withGr (withGr (withEng (running matchWord) soon) 4 3) 5 1000) 9 ∧
    endsWith (.matchLoop 0) (withGr (withGr (running matchWord) 4 3) 5 1000) 0x0D ∧
    begun (.react 0) (running (instr 0x0A 2 6 0)) (fun b e => b.setEngine 0 { e with
      lastCond := some 0, rsamp := [], refs := [], fire := none
      cur := some ⟨0, instr 0x0A 2 6 0, 0, 0, 6, 1, 0, none, []⟩ }) ∧
    endsWith (.react 0) (withEng (running (instr 0x0A 2 6 0)) soon) 9 := by decide +kernel

theorem witness_sync_wait :
    let soon := fun e : Engine => { e with lastCond := some 0 }
    begun (.syncWait 0) (withGr (withGr (running waitWord) 4 3) 5 999) (fun b e => b.setEngine 0 { e with
      lastCond := some 0, cur := some ⟨0, waitWord, 0, 0, 3, 1, 999, none, []⟩ }) ∧
    endsWith (.syncWait 0) (running waitWord) 8 ∧
    endsWith (.syncWait 0) (withGr (withEng (running waitWord) soon) 4 3) 9 ∧
    endsWith (.syncWait 0) (withGr (withGr (running waitWord) 4 3) 5 1000) 0x0D := by decide +kernel

/-- Source unit 2 bound to group 0 with entry 0 playing samples of segment 0, of 16. -/
def withSrc (s : State) : State :=
  { s.setFld (F.SRC_CFG.EN 2) 1 with tables := Sparse.set (fun _ => 0) s.tables (spaceKey 3 (2 * 256 * 8 + 4)) 16 }

/-- Acquisition units 0 and 1 bound to group 0. -/
def withAcq (s : State) : State := (s.setFld (F.AQ_CFG.EN 0) 1).setFld (F.AQ_CFG.EN 1) 1

theorem witness_source_commands :
    begun (.srcStart 0) (withSrc (running (instr 0x0C 0 2 0))) (fun b e =>
      (b.setEngine 0 { e with cur := oneLine e (instr 0x0C 0 2 0) 0 1 }).srcStart 2 0) ∧
    begun (.srcStop 0) (withSrc (running (instr 0x0C 1 2 0))) (fun b e =>
      (b.setEngine 0 { e with cur := oneLine e (instr 0x0C 1 2 0) 0 1 }).srcStop 2) ∧
    begun (.srcJump 0) (withSrc (running (instr 0x0C 2 2 0))) (fun b e =>
      (b.setEngine 0 { e with cur := oneLine e (instr 0x0C 2 2 0) 0 1 }).srcJump 2 0) ∧
    endsWith (.srcStart 0) (running (instr 0x0C 0 2 0)) 0x0C := by decide +kernel

theorem witness_unit_triggers :
    begun (.trigArm 0) (withAcq (running (instr 0x0D 0 3 0))) (fun b e =>
      let b := b.setEngine 0 { e with cur := oneLine e (instr 0x0D 0 3 0) 0 1 }
      (b.setAcq 0 { b.acq 0 with trigs := [(0, 0)] }).setAcq 1 { b.acq 1 with trigs := [(0, 0)] }) ∧
    begun (.trigForce 0) (withAcq (running (instr 0x0D 1 2 0))) (fun b e =>
      let b := b.setEngine 0 { e with cur := oneLine e (instr 0x0D 1 2 0) 0 1 }
      b.setAcq 1 { b.acq 1 with trigs := [(0, 1)] }) ∧
    begun (.trigStop 0) (withAcq (running (instr 0x0D 2 1 0))) (fun b e =>
      let b := b.setEngine 0 { e with cur := oneLine e (instr 0x0D 2 1 0) 0 1 }
      b.setAcq 0 { b.acq 0 with trigs := [(0, 2)] }) ∧
    endsWith (.trigArm 0) (withAcq (running (instr 0x0D 0 4 0))) 0x0C ∧
    begun (.syncSend 0) (running (instr 0x0E 0 (0xFFF + 15 * 2 ^ 20) 0)) (fun b e =>
      (b.setEngine 0 { e with cur := oneLine e (instr 0x0E 0 (0xFFF + 15 * 2 ^ 20) 0) 0 1 }).syncSend 0xFFF 15 0) := by decide +kernel

/-- Stream blocks of group 0: deep allocation 7 at byte 0 of controller 0, one stream entry of two 8-byte lines. -/
def streaming : State :=
  let s := running (instr 0x0F 0 0 0)
  let s := put (put (put (put s 0x100E 2 6) 0x1029 1 2) 0x10B0 8 0) 0x10B8 8 16
  let s := put (put s 0x10C0 8 2) 0x10C8 4 0
  (((s.setReg (R.DRM_AT 7 0) 0).setReg (R.DRM_AT 7 1) 0x80000000).setReg (R.DRM_AT 7 2) 16).setReg (R.DRM_AT 7 3) 0x01000000 |>.setEngine 0
    { s.engine 0 with sec := some ⟨0, some 7, 0x1000, 0x4000, 0x10000, false, false, 0, 0, false⟩ }

theorem witness_stream_commands :
    begun (.streamOpen 0) streaming (fun b e => b.setEngine 0 { e with
      streamOpen := true, nextEntry := 1, stream := some (Stream.fresh 0), cur := oneLine e (instr 0x0F 0 0 0) 0 1 }) ∧
    begun (.streamOpen 0) { withEng streaming (fun e => { e with closedAt := some 0, nextStart := 163840000 }) with
      now := 163840000 * 2 ^ 19 } (fun b e => b.setEngine 0 { e with
      streamOpen := true, nextEntry := 1, stream := some (Stream.fresh 0), cur := oneLine e (instr 0x0F 0 0 0) 0 1 }) ∧
    endsWith (.streamOpen 0) { withEng streaming (fun e => { e with closedAt := some 0, nextStart := 163839999 }) with
      now := 163839999 * 2 ^ 19 } 0x0A ∧
    endsWith (.streamOpen 0) (withEng streaming fun e => { e with streamOpen := true }) 0x0A ∧
    begun (.streamClose 0) (withEng (put streaming 0x1400 8 (instr 0x0F 1 0 0)) fun e => { e with
        streamOpen := true, stream := some (Stream.fresh 0) }) (fun b e => b.setEngine 0 { e with
      streamOpen := false, closedAt := some 0, stream := some (Stream.fresh 1), cur := oneLine e (instr 0x0F 1 0 0) 0 1 }) ∧
    endsWith (.streamClose 0) (put streaming 0x1400 8 (instr 0x0F 1 0 0)) 0x0A := by decide +kernel

/-- An instruction in progress that has issued its lines. -/
def inProgress (w issued total timeout : Nat) : Current := ⟨0, w, 0, issued, total, 1, timeout, none, []⟩

theorem witness_take_line :
    let s := put (running 0) 0x3000 1 0x21
    let line (k : Nat) : Except Nat (List Byte) × State := (.ok (s.residentLine 0 k), s)
    let same (a b : Except Nat (List Byte) × State) : Bool := decide (a.2 = b.2) && match a.1, b.1 with
      | .ok x, .ok y => decide (x = y)
      | .error x, .error y => decide (x = y)
      | _, _ => false
    same (s.takeLine 0 (inProgress (instr 1 0 9 5) 3 9 0)) (line 8) ∧
    same (s.takeLine 0 (inProgress (instr 2 0 9 5) 3 9 0)) (line 5) ∧
    same (s.takeLine 0 (inProgress (instr 9 0 2 5) 3 9 0)) (line 6) ∧
    same (s.takeLine 0 (inProgress (instr 0x0A 0 9 5) 3 9 0)) (line 8) ∧
    same (s.takeLine 0 (inProgress (instr 0x0E 1 0 5) 3 9 0)) (line 5) ∧
    (let bad := { streaming with poolBad := [0x3040 / 8] }
     bad.poisoned 0x3040 8 = true ∧
     same (bad.takeLine 0 (inProgress (instr 1 0 9 5) 3 9 0)) (.error 0x03, bad.reportPoison 0x3040 8)) := by decide +kernel

theorem witness_continue_and_time_out :
    let at' := fun c : Current => withEng (running 0) fun e => { e with cur := some c }
    let jcf := inProgress (instr 4 8 7 0) 1 1 0
    let mat := inProgress matchWord 3 3 999
    let wait := inProgress waitWord 3 3 999
    let rea := inProgress (instr 0x0A 2 6 0) 6 6 0
    ((at' jcf).boundary 0 1).engine 0 = { (at' jcf).engine 0 with pc := 7, cur := none } ∧
    ((at' (inProgress (instr 4 0 7 0) 1 1 0)).boundary 0 1).engine 0 = { (at' jcf).engine 0 with pc := 1, cur := none } ∧
    ((at' mat).advance 0).issueDue 0 = true ∧
    ((at' mat).advance 0).lineOpen 0 = false ∧
    ((at' mat).advance 0).groupPend = [] ∧
    after (.matchTimeout 0) (at' mat) = (((at' mat).setReg (R.SE_MATCHST 0) ((at' mat).matchSites 0 mat)).setEngine 0
      { (at' mat).engine 0 with mf := false, pc := 999, cur := none }).selectArm 0 otherArm ∧
    after (.syncWaitTimeout 0) (at' wait) =
      (withEng (at' wait) (fun e => { e with mf := false, pc := 999, cur := none })).selectArm 0 otherArm ∧
    after (.reactWindowEnd 0) (at' rea) =
      withEng (((at' rea).setReg (R.RCT_RSTAT 0 2) 6).selectArm 0 windowArm) (fun e => { e with
        rf := false, rsamp := [], watch := [], pc := 1, cur := none }) := by
  decide +kernel

/-- A decision makes the arm of the path taken the main queue, and its held operations act (R76, R83). -/
theorem test_arm_selected :
    let cmd : LineCmd := ⟨1, 0, 3, 0, 0, 1, 7, 1, 9⟩
    let s := (running 0).setMicro 0 { Micro.blank with arms := [[], [cmd], [], [], []], ahead := [none, none, some 40, none, none, none] }
    let m := (s.selectArm 0 otherArm).micro 0
    m.main = [cmd] ∧ m.arms = Micro.noArms ∧ m.loops.length = 1 ∧ m.calls = [9] ∧ m.ia = 40 := by decide +kernel

theorem witness_no_burst :
    let s := (loaded.setReg (R.PG_CFG 0) 0).setChan 0 { Chan.off with drv := true, den := true }
    s.eState 0 ≠ 2 ∧ s.issueDue 0 = true ∧ s.lineOpen 0 = false ∧ s.groupPend = [] ∧ s.flag (F.PG_CFG.EN 0) = false ∧ s.isMember 0 0 = true ∧
    ((after (.vectorCycleIssue 0) s).chan 0).drv = false := by decide +kernel

theorem witness_running_cycles :
    let s := running (instr 1 0 3 0)
    let t := { after (.vec 0) s with now := 40960 * 2 ^ 19 }
    let bad := running (instr 0x0C 0 2 0)
    after (.vectorCycleIssue 0) s = after (.vec 0) s ∧
    t.eState 0 = 2 ∧
    t.issueDue 0 = true ∧
    t.lineOpen 0 = false ∧
    ((t.atBoundary 0).engine 0).cur ≠ none ∧
    after (.vectorCycleIssue 0) t = Answered t (((t.advance 0).atBoundary 0).issueCurrent 0 1 40960) ∧
    (after (.vectorCycleIssue 0) bad).fld (F.SE_CAUSE.CAUSE 0) = 0x0C ∧
    (let late := withEng s fun e => { e with nextStart := 49153 }
     late.issueDue 0 = false ∧ after (.vectorCycleIssue 0) late = late) := by decide +kernel

/-- An instruction in a pool word that cannot be corrected ends the burst (R233). -/
theorem witness_poisoned_instruction :
    let s := { running (instr 1 0 3 0) with poolBad := [0x1400 / 8] }
    let b := (s.advance 0).atBoundary 0
    s.issueDue 0 = true ∧ (s.advance 0).lineOpen 0 = false ∧ b.poisoned (b.pcAddr 0) 8 = true ∧
    (after (.vectorCycleIssue 0) s).fld (F.SE_CAUSE.CAUSE 0) = 3 := by decide +kernel

theorem witness_abort :
    let s := running (instr 1 0 3 0)
    let t := after (.engineAbort 0) s
    s.inUse = true ∧
    t = s.enterEnding 0 1 ∧
    t.eState 0 = 3 ∧
    t.fld (F.SE_CAUSE.CAUSE 0) = 1 ∧
    after (.engineAbort 0) t = t.setFld (F.SE_CAUSE.ABORT_SEEN 0) 1 ∧
    after (.engineAbort 0) loaded = loaded := by decide +kernel

theorem witness_burst_start :
    let armed := fun t0 : Nat => withEng (loaded.setFld (F.SE_STATE.STATE 0) 1) fun e => { e with start := some t0 }
    (armed 49152).eState 0 = 1 ∧ (armed 49152).paired 0 = false ∧ (armed 49152).groupPend = [] ∧
    (after (.burstStart 0) (armed 49152)).eState 0 = 2 ∧
    ((after (.burstStart 0) (armed 49152)).engine 0).nextStart = 49152 ∧
    after (.burstStart 0) (armed 49153) = armed 49153 ∧
    after (.burstStart 0) loaded = loaded := by decide +kernel

theorem witness_burst_complete :
    let s := withEng ((loaded.setFld (F.SE_STATE.STATE 0) 3).setFld (F.SE_CAUSE.CAUSE 0) 1) fun e => { e with endOffered := true }
    let s := s.setSlot 5 { Task.none with state := .running }
    let t := after (.burstComplete 0) s
    s.strobesPending 0 = false ∧ s.recordsPending 0 = false ∧ s.pairSettled 0 = true ∧
    t.eState 0 = 0 ∧
    (t.engine 0).slot = none ∧
    (t.slot 5).done = some (s.burstStatus 0, 1, 0) := by decide +kernel

theorem witness_general_registers :
    let ended := { (loaded.engine 0) with sec := some ⟨0, none, 0x1000, 0x4000, 0, true, false, 0, 0, false⟩ }
    let secret := loaded.setEngine 0 ended
    let busy := running 0
    after (.seGrWrite 0 15 7) loaded = loaded.setReg (R.SE_GR 0 15) 7 ∧
    busy.eState 0 = 2 ∧
    after (.seGrWrite 0 15 7) busy = busy.report 249 kRegAccess (R.SE_GR 0 15) ∧
    secret.hidden 0 = true ∧
    after (.seGrWrite 0 15 7) secret = secret.report 249 kRegAccess (R.SE_GR 0 15) := by decide +kernel

theorem witness_stream_block :
    let s := withEng streaming fun e => { e with stream := some (Stream.fresh 0) }
    let d : DeepAlloc := ⟨7, 0, 65536, 1, 0, false, false⟩
    let t := Stream.fresh 0
    let t' := s.fetchPlain 0 d t
    s.deepAlloc 7 = some d ∧
    s.deepWaits d = false ∧
    s.streamEntry 0 0 0x10 8 = 2 ∧
    t'.produced = 2 ∧
    after (.deepStreamBlockFetch ⟨0, false⟩) s =
      ((withEng s fun e => { e with stream := some t' }).countRead d 0 (t'.pos - 0)) ∧
    (after (.deepStreamBlockFetch ⟨0, true⟩) s).engine 0 = { s.engine 0 with stream := some { t with failAt := some 0 } } ∧
    (let full := withEng s fun e => { e with stream := some t' }
     after (.deepStreamBlockFetch ⟨0, false⟩) full = full) ∧
    (put s 0x10C8 4 1).fetchBlock 0 d t = { t with failAt := some 0 } := by decide +kernel

/-! ### Reactive rules and microcode -/

/-- A REACT of rule 2 with V = v in progress; slot 0 of the rule, channel 0, has a sample in sub-cycle 0; alternative 0 at GR6. -/
def reacting (v : Nat) : State :=
  let s := withGr (running (instr 0x0A 2 v 0)) 6 500
  let s := (s.setReg (R.RCT_RCFG 0 2) 0xFF000601).setReg (R.RCT_RSLOTEN 0 2) 1
  withEng s fun e => { e with rsamp := [(0, 5)], cur := some ⟨0, instr 0x0A 2 v 0, 0, 1, v, 1, 0, none, []⟩ }

/-- The edge strobe of channel 0 that the slot of rule 2 takes, in sub-cycle 0 of vector cycle 0. -/
def ruleStrobe : Strobe := ⟨0, 0, false, false, 1, 0, 0, 0, 0, 0, 0⟩

theorem witness_reference :
    let s := { reacting 2 with strobes := [ruleStrobe] }
    s.ruleStrobes 0 2 0 0 = [ruleStrobe] ∧
    s.tsEdge 0 0 4 = 0 ∧
    s.reference 0 2 0 0 7 = some (7 + 40960) ∧
    (reacting 2).reference 0 2 0 0 7 = none ∧
    (s.setReg (R.RCT_RCFG 0 2) 0xFE000601).reference 0 2 0 0 7 = none := by decide +kernel

theorem witness_decision :
    let c : Current := ⟨0, instr 0x0A 2 2 0, 0, 1, 2, 1, 0, none, []⟩
    let s := reacting 2
    let u := (s.setReg (R.RCT_RT_CARE_LO 0 2 0) 3).setReg (R.RCT_RT_VAL_LO 0 2 0) 2
    s.firstTerm 0 2 0 = some 0 ∧
    s.evaluateOne 0 c 0 40960 [(1, 9)] = withEng s (fun e => { e with refs := [], fire := some ⟨0, 500, 40960⟩ }) ∧
    u.firstTerm 0 2 0 = none ∧
    u.evaluateOne 0 c 0 40960 [(1, 9)] = withEng u (fun e => { e with refs := [(1, 9)] }) := by decide +kernel

/-- A line of the REACT in hand whose one sub-cycle begins at a tick. -/
def partAt (start : Nat) : PartLine := ⟨1, start, 40960, [0], 0, 0, [.none], 0, []⟩

theorem witness_rule_fires :
    let c : Current := ⟨0, instr 0x0A 2 2 0, 0, 2, 2, 1, 0, none, []⟩
    let f : Splice := ⟨0, 500, 40960⟩
    let s := withEng (reacting 2) fun e => { e with cur := some c, fire := some f, part := some (partAt 40960) }
    let open' := { withEng s (fun e => { e with fire := none, refs := [(0, 40960)] }) with strobes := [ruleStrobe] }
    let early := withEng s fun e => { e with part := some (partAt 40959) }
    let none' := withEng (reacting 2) fun e => { e with heard := [(3, 1)] }
    s.evaluateNow 0 = s ∧ s.held 0 (partAt 40960) = false ∧
    s.advanceLine 0 1 = (s.spliceLine 0 c (partAt 40960) f).advanceLine 0 0 ∧
    (after (.reactRuleFire 0) s).flag (F.RCT_RSTAT.FIRED 0 2) = true ∧
    open'.evaluateNow 0 = open' ∧ open'.held 0 (partAt 40960) = true ∧ after (.reactRuleFire 0) open' = open' ∧
    early.held 0 (partAt 40959) = false ∧ early.advanceLine 0 1 = early.formatHere 0 (partAt 40959) ∧
    none'.lineOpen 0 = false ∧ none'.eState 0 = 2 ∧ none'.evaluateNow 0 = none' ∧ after (.reactRuleFire 0) none' = reacting 2 := by
  decide +kernel

/-- R146: a REACT that ended while strobes were awaited watches on; a match then is late, and no match sets nothing. -/
theorem test_late_match :
    let s := withEng (reacting 1) fun e => { e with rsamp := [], cur := none, watch := [⟨2, 0, [0], [0], [], true⟩] }
    let u := (s.setReg (R.RCT_RT_CARE_LO 0 2 0) 3).setReg (R.RCT_RT_VAL_LO 0 2 0) 2
    let hit := s.lateSample ruleStrobe 1
    hit.fld (F.RCT_RSTAT.LATE 0 2) = 1 ∧ hit.fld (F.RCT_RCOUNT.LATES 0 2) = 1 ∧ (hit.engine 0).watch = [] ∧
    (u.lateSample ruleStrobe 1).fld (F.RCT_RSTAT.LATE 0 2) = 0 ∧ ((u.lateSample ruleStrobe 1).engine 0).watch = [] ∧
    ((({ s with strobes := [ruleStrobe] } : State).lateSample { ruleStrobe with ch := 5 } 1).engine 0).watch = (s.engine 0).watch := by
  decide +kernel

/-- R20, R149: a cycle that issues behind an open line is counted, and settled with it; an abort leaves the open line in hand. -/
theorem witness_issue_behind :
    let c : Current := ⟨0, instr 0x0A 2 2 0, 0, 2, 2, 1, 0, none, []⟩
    let s := { withEng (reacting 2) (fun e => { e with
        cur := some c, refs := [(0, 40960)], part := some (partAt 40960), nextStart := 40961 }) with strobes := [ruleStrobe] }
    let t := after (.vectorCycleIssue 0) s
    s.issueDue 0 = true ∧ (s.advance 0).lineOpen 0 = true ∧ t = s.issueAhead 0 ∧
    (t.engine 0).ahead = [⟨0, 40961, false⟩] ∧ t.seCycle 0 = 1 ∧
    ((s.enterEnding 0 1).engine 0).part = some (partAt 40960) ∧ ((s.enterEnding 0 1).engine 0).cur = some c := by decide +kernel

theorem witness_trap_requests :
    let t := after (.snapshotRequest 0) live
    let u := after (.hkreqTrapRequest 0) t
    (t.engine 0).traps = [⟨1, 0⟩] ∧
    t.fld (F.SE_TRAPST.PENDING 0) = 2 ∧
    after (.snapshotRequest 0) t = t ∧
    u.fld (F.SE_TRAPST.PENDING 0) = 6 ∧
    (u.engine 0).traps = [⟨1, 0⟩, ⟨2, 0⟩] := by decide +kernel

/-- Group 0, IDLE with a SNAPSHOT pending for a core cycle and a loop and two calls on its stacks. -/
def trapped : State := { withEng (after (.snapshotRequest 0) (put loaded 0x1400 8 (instr 1 2 3 4))) (fun e => { e with
  loops := [⟨3, 2⟩], calls := [7, 8] }) with clk := 1 }

theorem witness_trap :
    let t := after (.microTrapEntry 0) trapped
    let early := { trapped with clk := 0 }
    (trapped.trapPoint 0).isSome = true ∧ (trapped.engine 0).trapActive = none ∧ trapped.exitDecided 0 = false ∧
    trapped.trapDue 0 = some 1 ∧
    (t.engine 0).trapActive = some 1 ∧ t.fld (F.SE_SNAPDEPTH.LOOP 0) = 1 ∧ t.fld (F.SE_SNAPDEPTH.CALL 0) = 2 ∧
    bitsOf (t.savedArea 0) 448 64 = instr 1 2 3 4 ∧ bitsOf (t.savedArea 0) 413 11 = 0 ∧ (t.micro 0).upc = 0x02D ∧
    early.trapDue 0 = none ∧ after (.microTrapEntry 0) early = early ∧
    after (.microTrapEntry 0) loaded = loaded := by decide +kernel

/-- R71–R74: a microword that jumps, one that calls, one that loops and one that is held. -/
theorem witness_microwords :
    let s := loaded
    let m := { Micro.blank with upc := 5, ulc := 2, stack := [1, 2, 3, 4], main := List.replicate 48 ⟨1, 0, 1, 0, 0, 0, 0, 0, 0⟩ }
    let seq (k : Nat) : Nat := k * 2 ^ 244 + 77 * 2 ^ 233
    let push := 2 ^ 223
    (s.microRun 0 m (seq 0)).upc = 6 ∧
    (s.microRun 0 m (seq 1)).upc = 77 ∧
    (s.microRun 0 { m with word := instr 9 0 0 0 } (seq 3)).upc = 9 ∧
    (s.microRun 0 m (seq 4)).stack = [6, 1, 2, 3] ∧
    (s.microRun 0 m (seq 5)).upc = 1 ∧
    (s.microRun 0 m (seq 6)).upc = 5 ∧ (s.microRun 0 m (seq 6)).ulc = 1 ∧
    (s.microRun 0 { m with ulc := 0 } (seq 6)).upc = 6 ∧
    (s.microRun 0 m push).upc = 5 ∧
    (s.microRun 0 { m with main := [] } push).main.length = 1 := by decide +kernel

/-- Group 0 with a trap running and a save area of zeros, and its CRC-32C. -/
def inTrap : State := (withEng loaded fun e => { e with trapActive := some 1 }).setReg (R.SE_SAVE 0 0) 1510671665

theorem witness_trap_resume :
    let s := inTrap
    let bad := s.setReg (R.SE_SAVE 0 15) (2 ^ 31)
    let ended (t : State) : State := ((withEng t fun e => { e with trapActive := none }).setFld (F.SE_TRAPST.ACTIVE 0) 0).setMicro 0
      ((t.micro 0).restored (t.savedArea 0))
    crc32c (toBytes 60 (s.savedArea 0 / 2 ^ 32)) = s.savedArea 0 % 2 ^ 32 ∧
    after (.microTrapResume 0 none) s = ended s ∧
    after (.microTrapResume 0 (some 511)) s = ((ended bad).fenceEngine 0).report 0 kCheck 0 ∧
    after (.microTrapEntry 0) s = s ∧
    after (.microTrapResume 0 none) loaded = loaded := by decide +kernel

theorem witness_trap_deferral :
    let s := withEng ((reacting 2).setReg (R.SE_TRAPLIM 0) 1) fun e => { e with traps := [⟨0, 0⟩] }
    let late := { s with clk := 1000 }
    let early := { s with clk := 999 }
    s.fld (F.SE_TRAPLIM.LIMIT 0) = 1 ∧ s.trapPoint 0 = none ∧
    late.cycle = 1600 ∧ (after (.trapDeferralLimit 0) late).fld (F.SE_CAUSE.CAUSE 0) = 4 ∧
    (after (.trapDeferralLimit 0) late).faultIn.length = 1 ∧
    after (.trapDeferralLimit 0) early = early := by decide +kernel

theorem test_local_store :
    let t := after (.localStoreCheckError 63 2047 true) (live.setFld (F.SE_UCERR.CORRECTED 63) 65535)
    let u := after (.localStoreCheckError 0 5 false) (loaded.setFld (F.SE_STATE.STATE 0) 1)
    (t.micro 63).upsets = [2047] ∧ ((t.scrub 63).micro 63).upsets = [] ∧
    t.fld (F.SE_UCERR.LASTADDR 63) = 2047 ∧ t.fld (F.SE_UCERR.CORRECTED 63) = 65535 ∧
    u.eState 0 = 4 ∧ u.fld (F.SE_CAUSE.CAUSE 0) = 5 ∧ u.faultIn = [⟨0, 0, kUncorrectable, 5⟩] := by decide +kernel

theorem witness_commit_svn :
    let uc := (live.setFld F.SEQ_UCODE_STATUS.SOURCE 1).setFld F.SEQ_UCODE_SVN.RUNNING 64
    let fw := live.setFld F.SHR_FWSVN.RUNNING 64
    let uc' := after .ucodeCommitSvn uc
    let fw' := after .fwCommitSvn fw
    uc'.fuses.ucWrite = some 64 ∧ uc'.flag F.SEQ_UCODE_SVN.COMMIT_BUSY = true ∧
    fw'.fuses.fwWrite = some 64 ∧ fw'.flag F.SHR_FWSVN.COMMIT_BUSY = true ∧
    (after (.fuseWriteDone false) uc').fuses.ucMin = 64 ∧
    (after (.fuseWriteDone true) fw').fuses.fwMin = 64 ∧
    (let s := uc.setFld F.SEQ_UCODE_SVN.RUNNING 65
     after .ucodeCommitSvn s = s) ∧
    after .fwCommitSvn live = live := by decide +kernel

/-! ### Edge timing, compare and the fail log -/

theorem test_ts_edge :
    let s := live.setReg (R.CH_TSSEL 255) 255
    let key := 2 ^ 26 + (255 * 256 + 255) * 32 + 20
    let t := after (.tsEdgeWrite 255 5 77) s
    s.bankA.locked = false ∧ t.bankA.vals = [(key, 77)] ∧ t.tsEdge 255 255 5 = 0 ∧
    (let l := { s with bankA := ⟨true, []⟩ }
     after (.tsEdgeWrite 255 5 77) l = l.report 249 kRegAccess (R.TS_EDGE 255 5)) := by decide +kernel

/-- Channel 0 of group 0 with one placed edge strobe of a mode. -/
def strobed (mode : Nat) : State := { loaded with strobes := [⟨0, 0, false, false, mode, 0, 0, 0, 0, 0, 0⟩] }

theorem witness_judgement :
    let fails (s : State) : Bool := decide <| s.regN (R.CMP_FAILCNT 0) = 1 ∧ bitOf (s.fld (F.CMP_SITEFAIL.FAIL 0)) 0 = true ∧ s.strobes = []
    let passes (s : State) : Bool := decide <| s.regN (R.CMP_FAILCNT 0) = 0 ∧ s.fld (F.CMP_SITEFAIL.FAIL 0) = 0 ∧ s.strobes = []
    (∀ u, u < 32 → (strobed 1).cvServes u 0 = false) ∧ (strobed 1).discards ⟨0, 0, false, false, 1, 0, 0, 0, 0, 0, 0⟩ = false ∧
    passes (after (.strobeJudgement 0 1 0 none) (strobed 1)) ∧ fails (after (.strobeJudgement 0 2 0 none) (strobed 1)) ∧
    passes (after (.strobeJudgement 0 2 0 none) (strobed 2)) ∧ fails (after (.strobeJudgement 0 1 0 none) (strobed 2)) ∧
    passes (after (.strobeJudgement 0 0 0 none) (strobed 3)) ∧ fails (after (.strobeJudgement 0 2 0 none) (strobed 3)) ∧
    passes (after (.strobeJudgement 0 1 0 none) (strobed 4)) ∧ fails (after (.strobeJudgement 0 0 0 none) (strobed 4)) ∧
    passes (after (.strobeJudgement 0 2 0 none) ((strobed 1).setFld (F.CMP_CHCFG.MASK 0) 1)) := by decide +kernel

theorem test_crossed :
    let t := live.crossed 255 3
    t.fld (F.CMP_CHSTAT.CROSSED 255) = 1 ∧ t.fld (F.CMP_CHSTAT.CROSSCNT 255) = 1 ∧ t.flag (evPend 95) = true ∧
    live.crossed 255 2 = live := by decide +kernel

theorem witness_compare_clear :
    let s := ((loaded.setReg (R.CMP_FAILCNT 0) 9).setReg (R.CMP_FAILCNT 1) 9).setReg (R.CMP_SITEFAIL 0) 1
    let t := after (.cmpClear 0) s
    s.eState 0 = 0 ∧ t.regN (R.CMP_FAILCNT 0) = 0 ∧ t.regN (R.CMP_FAILCNT 1) = 9 ∧ t.regN (R.CMP_SITEFAIL 0) = 0 ∧
    after (.cmpClear 0) (running 0) = (running 0).report 249 kRegAccess (R.CMP_SGCTRL 0) ∧
    (let armed (keep : Nat) : State := ((s.setReg (R.CMP_FF_3 0 15) 7).setFld (F.SE_STATE.STATE 0) 1).setFld (F.CMP_SGCFG.KEEPCNT 0) keep
     let u (keep : Nat) : State := after (.burstStart 0) (armed keep)
     (u 0).regN (R.CMP_SITEFAIL 0) = 0 ∧ (u 0).regN (R.CMP_FAILCNT 0) = 0 ∧ (u 0).regN (R.CMP_FF_3 0 15) = 0 ∧
     (u 1).regN (R.CMP_SITEFAIL 0) = 0 ∧ (u 1).regN (R.CMP_FAILCNT 0) = 9 ∧ (u 1).regN (R.CMP_FF_3 0 15) = 7) := by decide +kernel

/-- Log stream 1 with a region of one page and DEEP = 1. -/
def logging : State := (((live.setReg (R.DRM_AT 7 1) 0x80000000).setReg (R.DRM_AT 7 2) 16).setReg (R.DRM_AT 7 3) 0x01000000).setReg
    (R.CMP_LOG_CFG 1) 5 |>.setReg (R.CMP_LOG_SIZE 1) 1 |>.setLog 1 { LogStream.off with staged := [7, 8] }

theorem witness_log_drain :
    let t := after (.failLogDrain 1) logging
    logging.regionWaits 1 = false ∧
    (t.log 1).staged = [8] ∧ t.regN (R.CMP_LOG_WRPTR 1) = 16 ∧
    (let s := logging.setReg (R.CMP_LOG_RDPTR 1) 16
     s.regionRoom 1 = false ∧ (after (.failLogDrain 1) s).regN (R.CMP_LOG_DROP 1) = 1) ∧
    after (.failLogDrain 0) logging = logging ∧
    (let training := logging.setFld (F.DRM_DC_STAT.STATE 0) 1
     training.regionWaits 1 = true ∧ after (.failLogDrain 1) training = training) := by decide +kernel

theorem witness_fail_writer :
    let room := logging.setReg (R.CMP_LOG_CFG 1) 1
    let full := room.setReg (R.CMP_LOG_RDPTR 1) 16
    let denied := full.stageRecord 1 9 true
    let two := logging.setQuad 2 { logging.quad 2 with queue := [⟨1, 5⟩, ⟨1, 6⟩] }
    room.stageRoom 1 = true ∧ (room.stageRecord 1 9 true) = room.accept 1 9 true ∧
    full.stageRoom 1 = false ∧ denied.fld (F.CMP_LOG_STAT.LOST 1) = 1 ∧ denied.regN (R.CMP_LOG_DROP 1) = 1 ∧
    ((after (.cmpLogRdptrWrite 1 0) denied).regN (R.CMP_LOG_DROP 1) = 0) ∧
    ((after .failRecordStage two).quad 2).queue = [⟨1, 6⟩] ∧
    ((after .failRecordStage two).log 1).staged = [7, 8, 5] := by decide +kernel

theorem witness_log_read_pointer :
    let s := logging.setReg (R.CMP_LOG_WRPTR 1) 32
    (after (.cmpLogRdptrWrite 1 32) s).regN (R.CMP_LOG_RDPTR 1) = 32 ∧
    after (.cmpLogRdptrWrite 1 48) s = s.report 249 kRegAccess (R.CMP_LOG_RDPTR 1) ∧
    after (.cmpLogRdptrWrite 1 4096) s = s.report 249 kRegAccess (R.CMP_LOG_RDPTR 1) ∧
    ((after (.cmpLogRdptrWrite 1 32) (s.setLog 1 { LogStream.off with lost := 3 })).log 1).lost = 0 := by decide +kernel

/-- R6: a channel that leaves its group for none is not driven; one that stays a member keeps its drive. -/
theorem test_leaving_a_group :
    let s := (loaded.setReg (R.SE_CHMAP 0 0) 3).setChan 0 { Chan.off with den := true } |>.setChan 1 { Chan.off with den := true }
    let t := s.applyValue 0 (spaceKey 0 (R.SE_CHMAP 0 0)) 2
    t.regN (R.SE_CHMAP 0 0) = 2 ∧ (t.chan 0).den = false ∧ (t.chan 1).den = true := by decide +kernel

theorem witness_chunk_waits :
    let s := { logging.setLog 1 { LogStream.off with chunk := [7], chunkSince := 1 } with clk := 1000000 }
    s.clk < (s.log 1).chunkSince + 1000000 ∧ after (.chunkSealTimeout 1) s = s ∧
    ({ s with clk := 1000001 }.log 1).chunk ≠ [] := by decide +kernel

/-! ### Source units, acquisition and interval measurement -/

/-- Source unit 3 PLAYING entry 5 at the end of its segment of one sample, with r repeats done of 4; NEXT = 9. -/
def playing (r : Nat) (ends : Bool) (jump : Option PendingJump) : State :=
  let s := ((live.setFld (F.SRC_CFG.EN 3) 1).setFld (F.SRC_STAT.STATE 3) 1).setFld (F.SRC_STAT.ENTRY 3) 5
  let a := (3 * 1024 + 5) * 8
  let s := s.setFld (F.SRC_STAT.REPDONE 3) r
  { s with
    tables := [(spaceKey 4 a, 0x30000), (spaceKey 4 (a + 4), if ends then 0x80000009 else 9)]
    srcs := [(3, { SrcUnit.off with k := 1, jump := jump })] }

theorem witness_source_boundary :
    let at' (s : State) (state entry reps : Nat) (j : Option PendingJump) : Bool :=
      let t := after (.srcBoundary 3) s
      decide (t.srcState 3 = state ∧ t.fld (F.SRC_STAT.ENTRY 3) = entry ∧ t.fld (F.SRC_STAT.REPDONE 3) = reps ∧ (t.src 3).jump = j)
    at' (playing 2 true none) 1 5 3 none ∧ at' (playing 3 false none) 1 9 0 none ∧ at' (playing 3 true none) 0 5 4 none ∧
    at' (playing 2 true (some ⟨1023, 12, 0⟩)) 1 1023 0 none ∧
    (after (.srcBoundary 3) (playing 2 true (some ⟨1023, 12, 0⟩))).fld (F.SRC_JSTAT.FOLLOWING 3) = 0 ∧
    (after (.srcBoundary 3) (playing 2 true (some ⟨1023, 11, 0⟩))).fld (F.SRC_JSTAT.FOLLOWING 3) = 1 ∧
    at' (playing 2 true (some ⟨7, 11, 1⟩)) 1 5 3 (some ⟨7, 11, 0⟩) ∧
    at' (playing 3 false (some ⟨7, 11, 1⟩)) 1 9 0 (some ⟨7, 11, 0⟩) ∧ at' (playing 3 true (some ⟨7, 11, 1⟩)) 0 5 4 none ∧
    (after (.srcBoundary 3) (playing 3 true (some ⟨7, 11, 1⟩))).fld (F.SRC_JSTAT.DISCARDED 3) = 1 ∧
    after (.srcBoundary 3) live = live := by decide +kernel

theorem witness_source_ring :
    let p := (playing 0 false none).setReg (R.SRC_RING_SIZE 3) 1
    let s := { p with
      tables := (spaceKey 3 (3 * 256 * 8), 16 * 2 ^ 24) :: (spaceKey 3 (3 * 256 * 8 + 4), 2 ^ 31) :: p.tables, srcs := [(3, SrcUnit.off)] }
    let f := s.setReg (R.SRC_RING_WRPTR 3) 64
    (after (.srcRingWrptrWrite 3 4064) s).regN (R.SRC_RING_WRPTR 3) = 4064 ∧
    after (.srcRingWrptrWrite 3 4080) s = s.report 249 kRegAccess (R.SRC_RING_WRPTR 3) ∧
    after (.srcRingWrptrWrite 3 4096) s = s.report 249 kRegAccess (R.SRC_RING_WRPTR 3) ∧
    after (.srcRingWrptrWrite 3 32) f = f.report 249 kRegAccess (R.SRC_RING_WRPTR 3) ∧
    after (.srcRingWrptrWrite 3 64) State.reset = State.reset ∧
    f.wordDistance 3 = some 0 ∧ p.wordDistance 3 = none ∧ after (.srcRingRead 3) p = p ∧
    (after (.srcRingRead 3) f).regN (R.SRC_RING_RDPTR 3) = 32 ∧ ((after (.srcRingRead 3) f).src 3).words = [some 0] ∧
    ((after (.srcRingRead 3) s).src 3).words = [none] ∧
    after (.srcRingRead 3) (after (.srcRingRead 3) s) = after (.srcRingRead 3) s := by decide +kernel

/-- Acquisition unit 1, with task 6 of two records, in a state, PRE = POST = 4. -/
def acquiring (state record fill post : Nat) : State :=
  let s := (((live.setFld (F.AQ_CFG.EN 1) 1).setReg (R.AQ_PRE 1) 4).setReg (R.AQ_POST 1) 4).setFld (F.AQ_CFG.SUBMASK 1) 1
  let s := ((s.setFld (F.AQ_STAT.STATE 1) state).setFld (F.AQ_STAT.RECORD 1) record).setSlot 6 { Task.none with state := .running }
  s.setAcq 1 { AcqUnit.off with slot := some 6, nrec := 2, fill := fill, post := post, rearm := fill }

theorem witness_acquisition_transitions :
    let closed := after (.acqRecordClose 1) (acquiring 4 0 8 4)
    let last := after (.acqRecordClose 1) (acquiring 4 1 8 4)
    (after (.acqPrefillDone 1) (acquiring 2 0 4 0)).aqState 1 = 3 ∧ after (.acqPrefillDone 1) (acquiring 2 0 3 0) = acquiring 2 0 3 0 ∧
    closed.aqState 1 = 5 ∧ closed.fld (F.AQ_STAT.RECORD 1) = 1 ∧ (closed.acq 1).fill = 0 ∧
    last.aqState 1 = 0 ∧ (last.slot 6).done = some (stOk, 0, 2) ∧
    after (.acqRecordClose 1) (acquiring 4 0 8 3) = acquiring 4 0 8 3 ∧
    (after (.acqRearmEnd 1) (acquiring 5 1 8 0)).aqState 1 = 2 ∧ after (.acqRearmEnd 1) (acquiring 5 1 7 0) = acquiring 5 1 7 0 := by
  decide +kernel

theorem witness_acquisition_requests :
    let s := (acquiring 2 0 0 0).setFld (F.AQ_LOC.EN 1) 1
    let w := s.setAcq 1 { s.acq 1 with spill := [(0, [7])] }
    ((after (.aqArm 1) s).acq 1).reqArm = true ∧ ((after (.aqForce 1) s).acq 1).reqForce = true ∧
    ((after (.aqStop 1) s).acq 1).reqStop = true ∧
    ((after (.locatorTransition 1 3) s).acq 1).locs = [192] ∧
    after (.locatorTransition 1 3) (acquiring 2 0 0 0) = acquiring 2 0 0 0 ∧
    (w.aqSpillAlloc 1).any w.deepWaits = false ∧ ((after (.captureSpillDrain 1) w).acq 1).spill = [] ∧
    after (.captureSpillDrain 1) s = s ∧
    (let trains := ((w.setReg (R.DRM_AT 0 1) 0x80000000).setReg (R.DRM_AT 0 2) 16).setReg (R.DRM_AT 0 3) 0x01000000 |>.setReg
      (R.AQ_SPILL_SIZE 1) 1 |>.setFld (F.DRM_DC_STAT.STATE 0) 1
     (trains.aqSpillAlloc 1).any trains.deepWaits = true ∧ after (.captureSpillDrain 1) trains = trains) := by decide +kernel

theorem witness_capture_words :
    let seen := fun s : State => s.setReg (R.SE_CYCLE_LO 0) 1
    let armed := (seen (acquiring 0 0 0 0)).setAcq 1 { AcqUnit.off with reqArm := true }
    let filling := after (.captureWord 1 0 0) (seen (acquiring 2 0 3 0))
    (seen (acquiring 2 0 3 0)).aqProduces 1 0 0 = true ∧ (acquiring 2 0 3 0).aqProduces 1 0 0 = false ∧
    after (.captureWord 1 0 0) (acquiring 2 0 3 0) = acquiring 2 0 3 0 ∧
    (after (.captureWord 1 0 0) armed).fld (F.AQ_FLAGS.NOTASK 1) = 1 ∧
    filling.aqIndex 1 = 1 ∧ filling.aqState 1 = 2 ∧ (filling.acq 1).fill = 4 ∧
    (let holds := fun s : State => ((seen s).setFld (F.AQ_TC_CFG.EN 1 0) 1).setAcq 1 { s.acq 1 with qual := 1, fill := 3 }
     let hit := after (.captureWord 1 0 0) (holds (acquiring 3 0 4 0))
     hit.aqState 1 = 4 ∧ hit.fld (F.AQ_FLAGS.TRIGD 1) = 1 ∧ (hit.acq 1).trigMap = 1 ∧ (hit.acq 1).post = 1 ∧
     (after (.captureWord 1 0 0) (holds (acquiring 2 0 3 0))).fld (F.AQ_IGN.PREFILL 1) = 1) := by decide +kernel

theorem witness_rings :
    let s := live.setFld (F.TDC_STAT.FALLBACK 63) 0
    let good := after (.tdcRingUpdate 63 503316 499122) s
    let bad := after (.tdcRingUpdate 63 503316 503316) s
    let sixteenth := (live.setFld (F.TDC_STAT.FALLBACK 63) 1).setTdc 63 { TdcUnit.off with plausible := 15 }
    (good.tdc 63).slow = 503316 ∧ (good.tdc 63).plausible = 1 ∧ good.regN (R.TDC_RINGF 63) = 499122 ∧
    (bad.tdc 63).slow = 0 ∧ bad.flag (F.TDC_STAT.FALLBACK 63) = true ∧ bad.flag (F.TDC_STAT.FBSEEN 63) = true ∧
    (after (.tdcRingUpdate 63 503316 499122) sixteenth).flag (F.TDC_STAT.FALLBACK 63) = false ∧
    (good.tdc 63).updated = some 0 ∧
    after (.tdcRingUpdate 63 503316 499122) { good with clk := 2047 } = { good with clk := 2047 } ∧
    ((after (.tdcRingUpdate 63 503316 499122) { good with clk := 2048 }).tdc 63).plausible = 2 ∧
    ((after (.tdcRingUpdate 63 520000 516000) { good with clk := 2048 }).tdc 63).plausible = 0 ∧
    ((after (.tdcRingUpdate 63 503316 499961) s).tdc 63).plausible = 0 ∧
    ((after (.tdcRingUpdate 63 503316 499960) s).tdc 63).plausible = 1 := by decide +kernel

/-- Interval unit 2 armed in a mode with task 6 of two results, at ring periods of zero. -/
def measuring (mode : Nat) (d : TdcUnit) : State :=
  let s := ((live.setFld (F.TDC_CFG.EN 2) 1).setFld (F.TDC_CFG.MODE 2) mode).setFld (F.TDC_STAT.STATE 2) 1
  (s.setSlot 6 { Task.none with state := .running }).setTdc 2 { d with slot := some 6, nres := 2, armedAt := some 0 }

theorem witness_interval_edges :
    let s := measuring 0 TdcUnit.off
    let edge (s : State) : TdcUnit := (after (.tdcInputEdge 2 false 300 0 true) s).tdc 2
    let last (n : Int) : TdcUnit := { TdcUnit.off with inA := { TdcInput.off with lastPass := some n } }
    after (.tdcInputEdge 2 true 300 0 true) s = s ∧
    ((after (.tdcInputEdge 2 false 300 0 true) (s.setFld (F.TDC_COND.MINW 2) 1)).tdc 2).inA.waiting = [⟨300, 0, true, false⟩] ∧
    (edge (s.setFld (F.TDC_INA.POL 2) 1)).conv = [] ∧
    (after (.tdcInputEdge 2 false 300 0 true) ((measuring 0 (last (237 * 2 ^ 25))).setFld (F.TDC_COND.HOLDOFF 2) 1)).fld (F.TDC_IGN.HOLD 2) = 1 ∧
    (edge ((measuring 0 (last (236 * 2 ^ 25))).setFld (F.TDC_COND.HOLDOFF 2) 1)).conv.length = 1 ∧
    (edge ((measuring 2 TdcUnit.off).setFld (F.TDC_CFG.PRESCALE 2) 1)).inA.prescale = 1 ∧
    (after (.tdcInputEdge 2 false 300 0 true) (measuring 0 { TdcUnit.off with lastConv := some (96 * 2 ^ 25) })).regN (R.TDC_DROP 2) = 1 ∧
    (edge (measuring 0 { TdcUnit.off with lastConv := some (95 * 2 ^ 25) })).lastConv = some (300 * 2 ^ 25) := by decide +kernel

theorem witness_minimum_width :
    let wait (l : List TdcEdge) : State := (measuring 0 { TdcUnit.off with inA := { TdcInput.off with waiting := l } }).setFld
      (F.TDC_COND.MINW 2) 4
    let due (l : List TdcEdge) : State := { wait l with now := 14 * 2 ^ 25 }
    after (.tdcMinwDecision 2 false) (wait []) = wait [] ∧
    after (.tdcMinwDecision 2 false) (wait [⟨10, 0, true, false⟩]) = wait [⟨10, 0, true, false⟩] ∧
    (after (.tdcMinwDecision 2 false) (due [⟨10, 0, true, false⟩, ⟨13, 0, false, false⟩])).fld (F.TDC_IGN.NARROW 2) = 1 ∧
    ((after (.tdcMinwDecision 2 false) (due [⟨10, 0, true, false⟩, ⟨14, 0, false, false⟩])).tdc 2).conv.length = 1 ∧
    ((after (.tdcMinwDecision 2 false) ((due [⟨10, 0, true, false⟩]).setFld (F.TDC_INA.POL 2) 1)).tdc 2).conv = [] ∧
    (let s := { (measuring 0 TdcUnit.off).setFld (F.TDC_STUCK.TIMEOUT 2) 1 with clk := 1000 }
     (after (.tdcStuckTimeout 2 false) s).fld (F.TDC_STAT.STUCK 2) = 1 ∧
     after (.tdcStuckTimeout 2 false) { s with clk := 999 } = { s with clk := 999 }) := by decide +kernel

theorem witness_interval_results :
    let c (t : Int) (b : Bool) (n : Nat) : Conversion := ⟨t, b, true, false, n⟩
    let one (mode : Nat) (start : Option Conversion) (x : Conversion) : State :=
      after (.tdcConversionDone 2) ((measuring mode { TdcUnit.off with conv := [x], start := start }).setReg (R.TDC_PERIODS 2) 2)
    (one 0 none (c 5 false 1)).poolNum 0 16 = ofBytes (tdcRecord 0 false false true 0 5) ∧ (one 0 none (c 5 false 1)).regN (R.TDC_DONE 2) = 1 ∧
    ((one 1 none (c 5 false 1)).tdc 2).start = some (c 5 false 1) ∧
    (one 1 (some (c 5 false 1)) (c 9 true 2)).poolNum 0 16 = ofBytes (tdcRecord 1 false false true 0 4) ∧
    (one 1 (some (c 5 false 1)) (c 4 true 2)).regN (R.TDC_DONE 2) = 0 ∧ (one 2 none (c 5 false 1)).regN (R.TDC_DONE 2) = 0 ∧
    (one 2 (some (c 5 false 1)) (c 9 false 3)).poolNum 0 16 = ofBytes (tdcRecord 2 false false true 2 4) ∧
    (one 2 (some (c 5 false 1)) (c 9 false 2)).regN (R.TDC_DONE 2) = 0 := by decide +kernel

/-- R210: INTERVAL takes its edges by their times, whichever was converted first. -/
theorem witness_intervals_by_time :
    let c (t : Int) (b : Bool) : Conversion := ⟨t, b, true, false, 1⟩
    let s (d : TdcUnit) (x : Conversion) : State := measuring 1 { d with conv := [x] }
    let free := { TdcUnit.off with freeB := [c 9 true] }
    let closed := { TdcUnit.off with closedB := some 9 }
    (after (.tdcConversionDone 2) (s free (c 5 false))).poolNum 0 16 = ofBytes (tdcRecord 1 false false true 0 4) ∧
    ((after (.tdcConversionDone 2) (s free (c 10 false))).tdc 2).start = some (c 10 false) ∧
    ((after (.tdcConversionDone 2) (s TdcUnit.off (c 9 true))).tdc 2).freeB = [c 9 true] ∧
    ((after (.tdcConversionDone 2) (s closed (c 8 false))).tdc 2).start = none ∧
    ((after (.tdcConversionDone 2) (s closed (c 9 false))).tdc 2).start = some (c 9 false) ∧
    (let idle := (s free (c 5 false)).setFld (F.TDC_STAT.STATE 2) 0
     after (.tdcConversionDone 2) idle = idle.setTdc 2 { idle.tdc 2 with conv := [] }) := by decide +kernel

theorem witness_sets_of_results :
    let x : Conversion := ⟨5, false, true, false, 1⟩
    let last := after (.tdcConversionDone 2) ((measuring 0 { TdcUnit.off with conv := [x] }).setReg (R.TDC_DONE 2) 1)
    let waiting := ((live.setReg (R.TDC_TSTART_LO 2) 7).setReg (R.TDC_DONE 2) 3).setTdc 2 { TdcUnit.off with slot := some 6 }
    let timed := (measuring 0 TdcUnit.off).setReg (R.TDC_TIMEOUT 2) 1
    last.fld (F.TDC_STAT.STATE 2) = 0 ∧ (last.slot 6).done = some (stOk, 0, 2) ∧
    after (.tdcSetArm 2) { waiting with now := 7 * 2 ^ 32 - 1 } = { waiting with now := 7 * 2 ^ 32 - 1 } ∧
    (after (.tdcSetArm 2) { waiting with now := 7 * 2 ^ 32 }).tdcArmed 2 = true ∧
    (after (.tdcSetArm 2) { waiting with now := 7 * 2 ^ 32 }).regN (R.TDC_DONE 2) = 0 ∧
    (after (.tdcSetTimeout 2) { timed with clk := 1000 }).fld (F.TDC_STAT.TIMEOUT 2) = 1 ∧
    after (.tdcSetTimeout 2) { timed with clk := 999 } = { timed with clk := 999 } ∧
    (let busy := { timed.setTdc 2 { timed.tdc 2 with conv := [x] } with clk := 1000 }
     after (.tdcSetTimeout 2) busy = busy.setTdc 2 { busy.tdc 2 with lapsed := some busy.cycle }) := by decide +kernel

theorem witness_gate :
    let x (t : Int) (n : Nat) : Conversion := ⟨t, false, true, false, n⟩
    let s := (measuring 3 { TdcUnit.off with start := some (x 5 1), lastEdge := some (x 25 3) }).setReg (R.TDC_GATE 2) 10
    let s := { s with now := 2 ^ 62 }
    s.gateDue 2 = true ∧ (after (.tdcGateEnd 2) s).regN (R.TDC_DONE 2) = 1 ∧
    (after (.tdcGateEnd 2) s).poolNum 0 16 = ofBytes (tdcRecord 3 false false true 2 20) ∧
    after (.tdcGateEnd 2) (measuring 0 TdcUnit.off) = measuring 0 TdcUnit.off := by decide +kernel

/-! ### Capture processors and memory -/

/-- A job block of 128 bytes at 0x8000 of two elements, with lanes: A at 0x9000, 16-bit signed, D at 0xA000, 4-byte; task 6 runs it on
processor 5 and has done n elements. -/
def jobbing (op lanes flags param n : Nat) (c : Cpx) : State :=
  let gen (base stride fmt : Nat) : Nat := base + stride * 2 ^ 32 + fmt * 2 ^ 160
  let block := 0x10 + op * 2 ^ 32 + lanes * 2 ^ 40 + flags * 2 ^ 48 + 2 * 2 ^ 64 + 0x7000 * 2 ^ 96 +
    gen 0x9000 2 0xF05 * 2 ^ 128 + gen 0x9000 2 0xF05 * 2 ^ 320 + gen 0xA000 4 0x1F02 * 2 ^ 512 + param * 2 ^ 704
  let s := put (put live 0x8000 128 block) 0x9000 2 0xFFFD
  let s := (s.setSlot 6 { Task.none with state := .running, desc := 8 + 5 * 2 ^ 192 + 0x8000 * 2 ^ 224 }).setFld (F.CPX_STAT.STATE 5) 1
  { s with cpxs := [(5, { c with slot := some 6, elems := n })] }

theorem witness_capture_jobs :
    let mac := after (.dsp 6 1) (jobbing 0 2 0 0 0 Cpx.off)
    let full := after (.dsp 6 1) (jobbing 0 1 0 0 0 { Cpx.off with acc := (2 ^ 79 - 5) :: List.replicate 15 0 })
    let hist (bins off : Nat) : State := after (.dsp 6 1) (jobbing 1 0 0 (bins + off * 2 ^ 32) 0 Cpx.off)
    let s := jobbing 0 2 0 0 0 Cpx.off
    s.works 6 8 = true ∧ s.jobPoisoned 5 (s.job 0x8000) 0 = false ∧ (s.job 0x8000).n = 2 ∧
    (mac.cpx 5).elems = 1 ∧ (mac.cpx 5).acc.take 3 = [9, 9, 0] ∧
    (full.cpx 5).acc.take 1 = [2 ^ 79 - 1] ∧ full.fld (F.CPX_AOV.LANES 5) = 1 ∧
    ((hist 4 (2 ^ 32 - 3)).poolNum 0xA000 4) = 1 ∧ ((hist 4 0).cpx 5).under = 1 ∧ ((hist 4 (2 ^ 32 - 7)).cpx 5).above = 1 ∧
    ((after (.dsp 6 1) (jobbing 2 0 0 0 0 Cpx.off)).cpx 5).low = some (-3, 0) ∧
    ((after (.dsp 6 1) (jobbing 2 0 0 0 0 { Cpx.off with high := some (-3, 1) })).cpx 5).high = some (-3, 1) ∧
    (after (.dsp 6 1) (jobbing 3 1 8 (1 * 2 ^ 24) 0 Cpx.off)).poolNum 0xA000 4 = 2 ^ 32 - 1 := by decide +kernel

/-- An element in a pool word that cannot be corrected interrupts the task once, and then ends it (R230, R233). -/
theorem witness_poisoned_element :
    let s := { jobbing 0 2 0 0 0 Cpx.off with poolBad := [0x9000 / 8] }
    let again := s.setSlot 6 { s.slot 6 with replayed := true }
    s.works 6 8 = true ∧ s.jobPoisoned 5 (s.job 0x8000) 0 = true ∧ (s.job 0x8000).group 0 = [0] ∧
    ((after (.dsp 6 1) s).slot 6).replay = true ∧ ((after (.dsp 6 1) s).cpx 5).slot = none ∧
    ((after (.dsp 6 1) again).slot 6).done = some (stTesterFault, 0, 0) := by decide +kernel

theorem witness_job_completes :
    let s := jobbing 0 2 0 0 2 Cpx.off
    let t := after (.dspJobComplete 6) s
    t.fld (F.CPX_STAT.STATE 5) = 0 ∧ t.fld (F.CPX_STAT.JOBS 5) = 1 ∧ (t.slot 6).done = some (stOk, 0, 2) ∧
    ((after (.dspJobComplete 6) (s.setFld (F.CPX_AOV.LANES 5) 2)).slot 6).done = some (stOverflow, 2, 2) ∧
    after (.dspJobComplete 6) (jobbing 0 2 0 0 1 Cpx.off) = jobbing 0 2 0 0 1 Cpx.off := by decide +kernel

theorem witness_buffer_writes :
    let busy := jobbing 0 2 0 0 0 Cpx.off
    let held := after (.cpxCbWrite 5 7 0 64) busy
    let set := (live.setReg (R.CPX_CB_LEN 5 7) 64).setReg (R.CPX_CB_PTR 5 7) 63
    after (.cpxCbWrite 5 7 0 32) live = live.report 249 kRegAccess (R.CPX_CB_BASE 5 7) ∧
    after (.cpxCbWrite 5 7 1 0) live = live.report 249 kRegAccess (R.CPX_CB_LEN 5 7) ∧
    held.regN (R.CPX_CB_BASE 5 7) = 0 ∧ (held.cpx 5).held = [(21, 64)] ∧ bitOf (held.regN (R.CPX_CB_PEND 5 7)) 0 = true ∧
    (after (.cpxCbWrite 5 7 2 64) set).regN (R.CPX_CB_PTR 5 7) = 0 ∧
    (after (.cpxCbWrite 5 7 2 62) set).regN (R.CPX_CB_PTR 5 7) = 62 := by decide +kernel

theorem witness_pool_service :
    let w (v : Nat) (en : Nat) : Option (Nat × Nat) := some (en, v)
    let one (l : List PoolArrival) (e : EccResult) : State := after (.poolAccess 511 l e) live
    let lone := one [⟨.bulk 0, 511, w 0xABCD 1⟩] .good
    let two := one [⟨.fetch 0, 511, w 1 1⟩, ⟨.bulk 3, 1023, w 2 1⟩] .good
    let clash := one [⟨.fetch 0, 511, w 1 3⟩, ⟨.bulk 3, 511, w 0x203 2⟩] .good
    let taskLoses := one [⟨.fetch 0, 511, w 1 3⟩, ⟨.task 9, 511, w 0x203 2⟩] .good
    let acqLoses := one [⟨.fetch 0, 511, w 1 3⟩, ⟨.acquisition 3, 511, w 0x203 2⟩] .good
    let both := one [⟨.fetch 0, 511, w 0x1 1⟩, ⟨.bulk 3, 511, w 0x203 2⟩] .good
    lone.poolNum (511 * 32) 2 = 0xCD ∧ (one [⟨.bulk 0, 511, none⟩] .corrected).fld F.MEM_ECC.CORRECTED = 1 ∧
    (one [⟨.bulk 0, 511, none⟩] (.uncorrectable 3)).regN R.MEM_ECCADDR = 511 * 32 ∧
    two.poolWait = [(511, [⟨.bulk 3, 6, 3, 1023, 0, false, w 2 1⟩])] ∧ clash.poolNum (511 * 32) 2 = 1 ∧
    clash.fld F.MEM_COLL.CLASS = 5 ∧ clash.faultIn.length = 1 ∧ (taskLoses.slot 9).collided = true ∧
    acqLoses.fld F.MEM_COLL.COUNT = 1 ∧ both.poolNum (511 * 32) 2 = 0x201 ∧
    (let meets := one [⟨.fetch 0, 511, w 0xABCD 1⟩, ⟨.bulk 3, 511, none⟩] .good
     meets.poolNum (511 * 32) 2 = 0xCD ∧ meets.poolWait = [] ∧
     meets.poolReplies = [(6 * 8192 + 3, ⟨511, 0, false, 6⟩)]) ∧
    after (.poolAccess 511 [] .good) live = live := by decide +kernel

theorem witness_pool_upkeep :
    let r : PoolReq := ⟨.acquisition 0, 3, 0, 511, 0, false, none⟩
    let s := { live with poolWait := [(511, [r, { r with rank := 2 }])], clk := 640 }
    let t := { (live.setReg R.MEM_BIST_CFG 0x80000000).setFld F.MEM_BIST_CFG.EN 1 with clk := 1000 }
    let y := { t with bist := ⟨131071, 15, 0⟩ }
    s.cycle = 1024 ∧ (after (.poolStallPromotion 511) s).poolWait = [(511, [{ r with promoted := true }, { r with rank := 2 }])] ∧
    after (.poolStallPromotion 511) { s with clk := 639 } = { s with clk := 639 } ∧
    (after (.bistRegionTest true ⟨[], []⟩) t).bist = ⟨0, 1, 1000⟩ ∧ (after (.bistRegionTest true ⟨[], []⟩) y).bist = ⟨0, 0, 1000⟩ ∧
    (after (.bistRegionTest true ⟨[], []⟩) y).fld F.MEM_BIST_STAT.SKIPS = 1 ∧
    (after (.bistRegionTest false ⟨[], []⟩) y).fld F.MEM_BIST_STAT.FAILS = 0 ∧
    (after (.bistRegionTest true ⟨[(31, 1)], []⟩) t).faultIn = [⟨1600, 242, kPoolTest, 992⟩] ∧
    (after (.bistRegionTest false ⟨[], [(31, .corrected)]⟩) t).fld F.MEM_ECC.CORRECTED = 1 ∧
    (after (.bistRegionTest false ⟨[], [(31, .uncorrectable 2)]⟩) t).fld F.MEM_ECC.POISONED = 1 ∧
    (after (.bistRegionTest true ⟨[(31, 1)], []⟩) t).fld F.MEM_BIST_STAT.FAILS = 1 ∧
    after (.bistRegionTest false ⟨[], []⟩) { t with clk := 999 } = { t with clk := 999 } := by decide +kernel

theorem witness_pool_allocations :
    let want (b u : Nat) : State := (live.setReg R.MEM_AW_BASE b).setReg R.MEM_AW_SIZE u
    let made := after (.memAllocCreate 1023) (want 0 32768)
    let result (s : State) : Nat := s.fld F.MEM_ARESULT.RESULT
    made.poolAlloc 1023 = some ⟨1023, 0, 2 ^ 27, false⟩ ∧ result made = 0 ∧
    result (after (.memAllocCreate 0) (want 4096 32768)) = 3 ∧ result (after (.memAllocCreate 0) (want 1 1)) = 3 ∧
    result (after (.memAllocCreate 0) (want 0 0)) = 3 ∧ result (after (.memAllocCreate 1023) made) = 2 ∧
    result (after (.memAllocCreate 0) made) = 1 ∧ (after (.memAllocFree 1023) made).poolAlloc 1023 = none ∧
    result (after (.memAllocFree 0) made) = 3 ∧
    result (after (.memAllocFree 1023) (made.setFld ⟨R.MEM_AT_SIZE 1023, 30, 1⟩ 1)) = 2 ∧
    result (after (.allocCmdReserved false 5) live) = 3 := by decide +kernel

theorem witness_deep_allocations :
    let want (b u ch loc : Nat) : State :=
      (((live.setReg R.DRM_AW_BASE_LO b).setReg R.DRM_AW_SIZE u).setReg R.DRM_AW_CHMASK ch).setReg R.DRM_AW_LOCAL loc
    let made := after (.deepAllocCreate 7) (want 0 2 0x81 0)
    let result (s : State) : Nat := s.fld F.DRM_ARESULT.RESULT
    let fenced := (want 0 2 0x81 0).setFld (F.DRM_DC_STAT.STATE 7) 3
    made.deepAlloc 7 = some ⟨7, 0, 8192, 0x81, 0, false, false⟩ ∧ result made = 0 ∧
    result (after (.deepAllocCreate 0) (want 0 3 0x81 0)) = 3 ∧ result (after (.deepAllocCreate 0) (want 0 2 0 0)) = 3 ∧
    result (after (.deepAllocCreate 0) (want 0 2 0x81 0x80000)) = 3 ∧ result (after (.deepAllocCreate 7) fenced) = 4 ∧
    result (after (.deepAllocCreate 7) made) = 2 ∧ result (after (.deepAllocCreate 0) made) = 1 ∧
    result (after (.deepAllocCreate 0) (made.setReg R.DRM_AW_BASE_LO 8192)) = 1 ∧
    (after (.deepAllocFree 7) made).deepAlloc 7 = none ∧ result (after (.deepAllocFree 0) made) = 3 ∧
    result (after (.deepAllocFree 7) (made.setFld ⟨R.DRM_AT 7 1, 30, 1⟩ 1)) = 2 := by decide +kernel

/-- Controller 2 with n queued writes since core cycle 0. -/
def queued (n : Nat) : State := live.setDram 2 { Dram.idle with queue := (List.range n).map fun u => ⟨u, [(0, 1)], 0⟩ }

theorem witness_controllers :
    let d := after (.dramWriteDrain ⟨2, []⟩) (queued 48)
    let old := { queued 17 with clk := 4000 }
    let hot := after (.dramTempCheck 20) { live with clk := 1000000 }
    let due := { live with now := 2000000 * 2 ^ 32, clk := 2000000 }
    let lost (n : Nat) : State := after (.dramRetrain 2 false 0) (due.setFld (F.DRM_DC_TRAIN.CONSEC 2) n)
    d.fld (F.DRM_DC_WQ.DEPTH 2) = 16 ∧ d.fld (F.DRM_DC_WQ.DRAINS 2) = 1 ∧ after (.dramWriteDrain ⟨2, []⟩) (queued 47) = queued 47 ∧
    ((after (.dramWriteDrain ⟨2, []⟩) old).dram 2).queue = [] ∧
    (after (.dramWriteDrain ⟨2, [true]⟩) (queued 48)).faultIn = [⟨0, 234, kDramWrite, 0⟩] ∧
    (let training := (queued 48).setFld (F.DRM_DC_STAT.STATE 2) 1
     training.training 2 = true ∧ after (.dramWriteDrain ⟨2, []⟩) training = training) ∧
    (hot.dram 7).trigger = some 0 ∧ after (.dramTempCheck 20) { live with clk := 999999 } = { live with clk := 999999 } ∧
    due.retrainDue 2 = true ∧ after (.dramRetrain 2 true 80) live = live ∧
    ((after (.dramRetrain 2 true 80) due).dram 2).trainedAt = 80 ∧ (lost 1).fld (F.DRM_DC_TRAIN.CONSEC 2) = 2 ∧
    (lost 1).dramFenced 2 = false ∧ (lost 2).dramFenced 2 = true := by decide +kernel

theorem witness_controller_fence :
    let s := { queued 3 with resv := [⟨1, 4, 100⟩, ⟨1, 8, 100⟩] }
    let s := ((s.setReg (R.DRM_AT 7 1) 0x80000000).setReg (R.DRM_AT 7 2) 16).setReg (R.DRM_AT 7 3) 0x04000000
    let f := after (.dramCtrlFence 2) s
    let r := after (.dramCtrlReset 2) f
    f.dramFenced 2 = true ∧ f.fld (F.DRM_DC_STAT.CAUSE 2) = 4 ∧ (f.dram 2).queue = [] ∧ f.resv = [⟨1, 8, 100⟩] ∧
    bitOf (f.regN (R.DRM_AT 7 1)) 28 = true ∧ after (.dramCtrlFence 2) f = f ∧ after (.dramCtrlReset 2) live = live ∧
    (r.dram 2).resetting = true ∧ after (.dramCtrlResetDone 2 true 0) live = live ∧
    (after (.dramCtrlResetDone 2 false 0) r).dramFenced 2 = true ∧
    (after (.dramCtrlResetDone 2 true 40) r).fld (F.DRM_DC_STAT.STATE 2) = 0 := by decide +kernel

/-- A state with a pool allocation, a deep allocation, queued writes and data is stored in canonical form. -/
theorem witness_stored : Stored (put (putHost (after (.memAllocCreate 1023) (((queued 3).setReg R.MEM_AW_SIZE 32768).setReg
    (R.DRM_AT 7 1) 0x80000000)) 16 2 0x101) 8 2 0x202) := by
  unfold Stored StoresWf
  decide +kernel

/-! ### Register access, rings, doorbells and bulk ports -/

theorem witness_register_writes :
    let off : Fin 67108864 := 0x10400C
    let fault := live.report 249 kRegAccess
    let irq : Fin 67108864 := ⟨R.HIF_RING_IRQ 63, by decide⟩
    let pend : Fin 67108864 := ⟨R.HIF_EVPEND 7, by decide⟩
    let staged : Fin 67108864 := ⟨R.SRC_MEM_BASE 15, by decide⟩
    let played : Fin 67108864 := ⟨R.SRC_PLAYED_LO 15, by decide⟩
    after (.registerWrite 0x101 7 0) live = fault 0x101 ∧ after (.misalignedRegisterAccess 0x103 false) live = fault 0x103 ∧
    State.reset.serves off = false ∧ after (.registerWrite off 7 0) State.reset = State.reset ∧
    after (.registerWrite 0xFFFFFC 7 0) live = live ∧ after (.registerWrite irq 7 0) live = live.setReg irq 7 ∧
    (after (.registerWrite pend 3 2) (live.setReg pend 7)).regN pend = 6 ∧
    (after (.registerWrite staged 64 0) live).bankA.vals = [(staged.val, 64)] ∧
    (after (.registerWrite staged 64 0) live).regN staged = 0 ∧
    after (.registerWrite staged 64 0) { live with bankA := ⟨true, []⟩ } = { live with bankA := ⟨true, []⟩ }.report 249 kRegAccess staged ∧
    after (.registerWrite played 7 0) live = live ∧
    (let stat : Fin 67108864 := ⟨R.TDC_STAT 0, by decide⟩
     let s := live.setReg stat 0xF
     (after (.registerWrite stat 0xD 4) s).regN stat = 0x6) ∧
    (let cfg : Fin 67108864 := ⟨R.TDC_CFG 0, by decide⟩
     let t := after (.registerWrite cfg 0x80000000 0) live
     t.regN cfg = 0 ∧ t.bankA.vals = [(cfg.val, 0x80000000)] ∧
     (after (.registerWrite cfg 0x80000000 0) { live with bankA := ⟨true, []⟩ }).faultIn.length = 1) := by decide +kernel

theorem witness_register_reads :
    let irq : Fin 67108864 := ⟨R.HIF_RING_IRQ 63, by decide⟩
    let coll : Fin 67108864 := ⟨R.MEM_COLL, by decide⟩
    let now : Fin 67108864 := ⟨R.TIM_NOW_NS_LO, by decide⟩
    let hi : Fin 67108864 := ⟨R.TIM_NOW_NS_HI, by decide⟩
    let boot := State.reset.setReg R.SYS_BOOT_STATE 0x30000000
    let lost := live.setReg R.MEM_COLL 0x00050002
    let t := after (.loReadCapture now) { live with now := 5 * 2 ^ 64 + 7 * 2 ^ 32 + 9 }
    after (.rcFieldRead 0 0) { State.reset with readData := [1] } = State.reset ∧
    boot.answers = true ∧ boot.serves irq = false ∧ (after (.rcFieldRead irq 0) boot).readData = [0] ∧
    (after (.rcFieldRead 2 0) boot).readData = [0xFFFFFFFF] ∧ (after (.misalignedRegisterAccess 1 true) boot).faultIn.length = 1 ∧
    (after (.rcFieldRead irq 0) (live.setReg irq 7)).readData = [7] ∧
    (after (.rcFieldRead coll 0) lost).readData = [0x00050002] ∧ (after (.rcFieldRead coll 0) lost).fld F.MEM_COLL.COUNT = 0 ∧
    (after (.rcFieldRead coll 0xFFFF0000) lost).readData = [0x00040002] ∧
    (after (.rcFieldRead coll 0xFFFF0000) lost).fld F.MEM_COLL.COUNT = 1 ∧
    (let rc : Fin 67108864 := ⟨R.RCT_RCOUNT 0 0, by decide⟩
     let s := live.setReg rc 0x00050002
     let r := after (.rcFieldRead rc 0x0000FFFF) s
     Sparse.find? s.captured rc = none ∧ r.readData = [0x00050001] ∧ r.regN rc = 1) ∧
    t.readData = [7] ∧ (after (.rcFieldRead hi 0) t).readData = [5] ∧ after (.loReadCapture irq) live = live := by decide +kernel

/-- Ring 63 in RUN, 64 entries each way, its SQ at host address 0x10000 and its CQ at 0x20000. -/
def ringed : State :=
  ((after (.ringEnable 63 6 6) live).setReg (R.HIF_RING_SQBASE_LO 63) 0x10000).setReg (R.HIF_RING_CQBASE_LO 63) 0x20000

theorem witness_rings_states :
    let state (s : State) : Nat := s.fld (F.HIF_RING_STAT.STATE 63)
    let busy := ringed.setFld (F.HIF_RING_STAT.OUTSTANDING 63) 1
    let off := R.HIF_RING_CFG 63
    let one := ringed.setRing 63 { ringed.ring 63 with sqTail := 1 }
    let lost := { ringed with rings := [(63, { Ring.off with last := some ⟨0x20000, [7, 7], 9⟩ })] }
    state ringed = 1 ∧ ringed.sqSize 63 = 64 ∧ (ringed.ring 63).phase = true ∧
    after (.ringEnable 63 5 6) live = live.report 249 kRegAccess off ∧ after (.ringEnable 63 17 6) live = live.report 249 kRegAccess off ∧
    state (after (.ringEnable 63 16 6) live) = 1 ∧ after (.ringEnable 63 6 6) ringed = ringed ∧
    after (.ringEnable 63 7 6) ringed = ringed.report 249 kRegAccess off ∧
    after (.ringDisable 63 7 6) ringed = ringed.report 249 kRegAccess off ∧ state (after (.ringDisable 63 6 6) ringed) = 0 ∧
    state (after (.ringDisable 63 6 6) busy) = 2 ∧
    after (.ringDisable 63 6 6) (after (.ringDisable 63 6 6) busy) = after (.ringDisable 63 6 6) busy ∧
    (after (.ringDisable 63 9 6) live).sqSize 63 = 512 ∧ one.mayFetch 63 = true ∧ state (after (.fetchError 63) one) = 3 ∧
    after (.fetchError 63) live = live ∧ after (.cqWriteError 63) ringed = ringed ∧
    (after (.cqWriteError 63) lost).regN (R.HIF_RING_LOSTTAG 63) = 9 := by decide +kernel

theorem witness_doorbells :
    let full := ringed.setRing 63 { ringed.ring 63 with unreleased := 64 }
    let some3 := ringed.setRing 63 { ringed.ring 63 with unreleased := 3 }
    after (.sqTailDoorbell 63 7) live = live ∧ ((after (.sqTailDoorbell 63 63) ringed).ring 63).sqTail = 63 ∧
    (after (.sqTailDoorbell 63 64) ringed).fld (F.HIF_RING_STAT.ERRCAUSE 63) = 1 ∧
    (after (.sqTailDoorbell 63 63) (ringed.setFld (F.HIF_RING_POS.SQHEAD 63) 63)).fld (F.HIF_RING_STAT.ERRCAUSE 63) = 1 ∧
    ((after (.sqTailDoorbell 63 62) (ringed.setFld (F.HIF_RING_POS.SQHEAD 63) 63)).ring 63).sqTail = 62 ∧
    (let t := after (.sqTailDoorbell 63 9) ringed
     (t.ring 63).fetchTail 0 = 0 ∧ (t.ring 63).fetchTail 1 = 9) ∧
    doorbellRead 8 = 0 ∧ ringed.doorbellWrite 63 8 7 = ringed ∧
    ((after (.cqHeadDoorbell 63 0) full).ring 63).unreleased = 0 ∧ ((after (.cqHeadDoorbell 63 3) some3).ring 63).cqHead = 3 ∧
    (after (.cqHeadDoorbell 63 4) some3).fld (F.HIF_RING_STAT.ERRCAUSE 63) = 1 ∧
    (after (.cqHeadDoorbell 63 64) some3).fld (F.HIF_RING_STAT.ERRCAUSE 63) = 1 := by decide +kernel

theorem witness_coalescing_and_credits :
    let s := (ringed.setFld (F.HIF_RING_IRQ.USEC 63) 1).setRing 63 { ringed.ring 63 with since := 1, oldest := 5 }
    let due := { s with clk := 1005 }
    let c := (live.setSlot 4095 { Task.none with count := 7 }).setFld F.SCH_SLOTSEL.SLOT 4095
    let w := c.setSlot 4095 { Task.none with state := .waiting, count := 7 }
    (after (.irqCoalesceTimeout 63) due).flag (evPend 63) = true ∧ after (.irqCoalesceTimeout 63) { s with clk := 1004 } = { s with clk := 1004 } ∧
    ((after .slotClearCredit c).slot 4095).count = 0 ∧ after .slotClearCredit w = w := by decide +kernel

/-- A NOP descriptor of TAG 9 for slot 4095 with WAITS and flow 31. -/
def nop (waits : Nat) : Nat := 0x0D + 31 * 2 ^ 16 + 9 * 2 ^ 32 + 4095 * 2 ^ 64 + waits * 2 ^ 80

theorem witness_fetch :
    let sub (d : Nat) : State := (putHost ringed 0x10000 64 d).setRing 63 { ringed.ring 63 with sqTail := 1 }
    let bad := after (.descriptorFetch 63) (sub 0)
    let good := after (.descriptorFetch 63) (sub (nop 2))
    let ready := after (.descriptorFetch 63) ((sub (nop 2)).setSlot 4095 { Task.none with count := 2 })
    (sub 0).mayFetch 63 = true ∧ (sub 0).fetchCount 63 = 1 ∧ headerOk 0 = false ∧ headerOk (nop 2) = true ∧
    bad.fld (F.HIF_RING_POS.SQHEAD 63) = 1 ∧ bad.slots = [] ∧ ofBytes (bad.hostRead 0x20004 1) = stInconsistent ∧
    (bad.ring 63).unreleased = 1 ∧ good.fld (F.HIF_RING_STAT.OUTSTANDING 63) = 1 ∧ (good.slot 4095).state = .waiting ∧
    (good.slot 4095).count = 2 ∧ good.fld (F.SCH_FLOW_STAT.HELD 31) = 1 ∧ (ready.slot 4095).state = .ready ∧
    after (.descriptorFetch 63) live = live := by decide +kernel

/-- Bulk port 15 aimed at the pool allocation 0, of 4,096 bytes, at an address. -/
def bulked (a : Nat) : State :=
  let s := (after (.memAllocCreate 0) (live.setReg R.MEM_AW_SIZE 1)).setReg (R.HIF_BP_CTRL 15) 1
  { s with bulk := [(15, ⟨true, 4096⟩)] }.setReg (R.HIF_BP_ADDR_LO 15) a

theorem witness_bulk_ports :
    let s := bulked 4088
    let t := after (.bulkPortWrite 15 ⟨[1, 2, 3, 4, 5, 6, 7, 8], []⟩) s
    let past := after (.bulkPortWrite 15 ⟨[1, 2, 3, 4], []⟩) t
    let lost := after (.bulkPortWrite 15 ⟨[1, 2, 3, 4, 5, 6, 7, 8], [1]⟩) (bulked 28)
    s.bulkMay 15 8 = true ∧ s.bulkPasses 15 8 = false ∧ s.bulkWaits 15 = false ∧
    t.poolNum 4088 8 = 0x0807060504030201 ∧ t.bulkAddr 15 = 4096 ∧
    past.flag (F.HIF_BP_STAT.END 15) = true ∧ past.bulkAddr 15 = 4096 ∧ past.faultIn.length = 1 ∧
    after (.bulkPortWrite 15 ⟨[1, 2, 3], []⟩) s = s ∧
    lost.poolNum 28 8 = 0x04030201 ∧ lost.fld F.MEM_COLL.CLASS = 5 ∧ lost.faultIn.length = 1 ∧ lost.bulkAddr 15 = 36 ∧
    after (.bulkPortWrite 15 ⟨[1, 2, 3, 4], []⟩) live = live := by decide +kernel

theorem witness_bulk_reads :
    let t := after (.bulkPortWrite 15 ⟨[1, 2, 3, 4, 5, 6, 7, 8], []⟩) (bulked 4088)
    let back := t.setReg (R.HIF_BP_ADDR_LO 15) 4088
    let deep := (((live.setReg (R.DRM_AT 7 1) 0x80000000).setReg (R.DRM_AT 7 2) 16).setReg (R.DRM_AT 7 3) 0x01000000).setReg (R.HIF_BP_CTRL 15) 2
    let deep := { deep with bulk := [(15, ⟨true, 65536⟩)] }
    let gone := deep.setFld ⟨R.DRM_AT 7 1, 28, 1⟩ 1
    let trains := deep.setFld (F.DRM_DC_STAT.STATE 0) 1
    (after (.bulkPortRead 15 ⟨4, false⟩) t).readData = [0xFFFFFFFF] ∧
    (after (.bulkPortRead 15 ⟨8, false⟩) back).readData = [0x04030201, 0x08070605] ∧
    (after (.bulkPortRead 15 ⟨8, false⟩) { back with poolBad := [511] }).readData = [0xFFFFFFFF, 0xFFFFFFFF] ∧
    (after (.bulkPortRead 15 ⟨6, false⟩) back).readData = [0xFFFFFFFF] ∧
    (after (.bulkPortRead 15 ⟨8, false⟩) live).readData = [0xFFFFFFFF, 0xFFFFFFFF] ∧
    deep.bulkSpace 15 = 2 ∧ deep.bulkMay 15 8 = true ∧ (after (.bulkPortRead 15 ⟨4, true⟩) deep).readData = [0xFFFFFFFF] ∧
    (after (.bulkPortRead 15 ⟨4, true⟩) deep).faultIn.length = 1 ∧ (after (.bulkPortRead 15 ⟨4, true⟩) deep).bulkAddr 15 = 4 ∧
    gone.bulkGone 15 = true ∧ after (.bulkPortWrite 15 ⟨[1, 2, 3, 4], []⟩) gone = gone ∧
    trains.bulkWaits 15 = true ∧ after (.bulkPortRead 15 ⟨4, false⟩) trains = trains := by decide +kernel

/-! ### Tasks, Tack and Reef -/

/-- s with slot 6 holding a task of an opcode, with its body bytes from 0x18 on, in a state. -/
def withTask (s : State) (st : TaskState) (op body : Nat) : State :=
  s.setSlot 6 { Task.none with state := st, desc := op + body * 2 ^ 192 }

theorem witness_moves :
    let mv (len fromTo : Nat) : Nat := 0x100 + 0x200 * 2 ^ 64 + len * 2 ^ 128 + fromTo * 2 ^ 192
    let run (body : Nat) : State := withTask (put live 0x100 4 0x04030201) .running 1 body
    let a := after (.move 6 ⟨3, false⟩) (run (mv 4 5))
    let done := after (.move 6 ⟨9, false⟩) a
    let played := ((loaded.setFld (F.SRC_CFG.EN 2) 1).setFld (F.SE_STATE.STATE 0) 2).setReg (R.SRC_MEM_BASE 2) 0x200
    (run (mv 4 5)).works 6 1 = true ∧ a.poolNum 0x200 4 = 0x030201 ∧ (a.slot 6).moved = 3 ∧ (a.slot 6).done = none ∧
    done.poolNum 0x200 4 = 0x04030201 ∧ (done.slot 6).done = some (stOk, 0, 4) ∧
    ofBytes ((after (.move 6 ⟨4, false⟩) (run (mv 4 1))).hostRead 0x200 4) = 0x04030201 ∧
    after (.move 6 ⟨4, false⟩) live = live ∧
    (let p := withTask (played.setReg (R.SRC_MEM_SIZE 2) 1) .running 1 (mv 4 5)
     p.playedRange 0x200 4 = true ∧ ((after (.move 6 ⟨4, false⟩) p).slot 6).done = some (stInconsistent, 0, 0)) := by decide +kernel

/-- R233, R247: a source that cannot be read interrupts the task, which is replayed; the second time it ends TESTER_FAULT. -/
theorem witness_interrupted_moves :
    let bad (s : State) : State := { s with poolBad := [0x100 / 8] }
    let poor (op body : Nat) : State := bad (withTask live .running op body)
    let mv := 0x100 + 0x200 * 2 ^ 64 + 4 * 2 ^ 128 + 5 * 2 ^ 192
    let deep := withTask ((((live.setReg (R.DRM_AT 7 1) 0x80000000).setReg (R.DRM_AT 7 2) 16).setReg (R.DRM_AT 7 3) 0x01000000)) .running 1
      (0x200 * 2 ^ 64 + 4 * 2 ^ 128 + 6 * 2 ^ 192)
    let cut (t : State) : Bool := decide <| (t.slot 6).replay = true ∧ (t.slot 6).replayed = true ∧ t.faultIn.length = 1
    let again := poor 1 mv
    cut (after (.move 6 ⟨4, false⟩) (poor 1 mv)) ∧
    cut (after (.tableWrite 6 64) (poor 2 (0x100 + 1 * 2 ^ 64 + 32 * 2 ^ 128))) ∧
    cut (after (.refill 6 33) (poor 9 (0x100 + 1 * 2 ^ 64 + 3 * 2 ^ 72 + 64 * 2 ^ 96))) ∧
    (deep.deepHolding 0 1).isSome = true ∧ cut (after (.move 6 ⟨4, true⟩) deep) ∧
    ((after (.move 6 ⟨4, false⟩) (again.setSlot 6 { again.slot 6 with replayed := true })).slot 6).done = some (stTesterFault, 0, 0) := by
  decide +kernel

theorem witness_table_writes :
    let tw (space off len : Nat) : Nat := 0x100 + 1 * 2 ^ 64 + space * 2 ^ 72 + off * 2 ^ 96 + len * 2 ^ 128
    let s := put (put live 0x100 8 0x0807060504030201) 0x114 8 0x1716151413121110
    let go (b : Nat) : State := after (.tableWrite 6 64) (withTask s .running 2 b)
    (go (tw 0 0 32)).bankA.vals = [(spaceKey 1 0, 0x04030201), (spaceKey 1 4, 0x08070605), (spaceKey 1 8, 0), (spaceKey 1 12, 0),
      (spaceKey 1 16, 0), (spaceKey 1 20, 0x13121110)] ∧
    ((go (tw 0 0 32)).slot 6).done = some (stOk, 0, 32) ∧ ((go (tw 0 0 68)).slot 6).done = none ∧
    ((after (.tableWrite 6 64) { withTask s .running 2 (tw 0 0 32) with bankA := ⟨true, []⟩ }).slot 6).done = some (stInconsistent, 0, 0) ∧
    (go (tw 6 8 4)).bankA.vals = [(spaceKey 7 8, 0x04030201)] := by decide +kernel

theorem witness_refill_and_upload :
    let rf := 0x100 + 1 * 2 ^ 64 + 3 * 2 ^ 72 + 64 * 2 ^ 96
    let s := ((put live 0x100 32 7).setReg (R.SRC_RING_SIZE 3) 1).setReg (R.SRC_RING_BASE 3) 0x8000
    let s := s.setReg (R.SRC_RING_WRPTR 3) 4064
    let u := after (.refill 6 33) (withTask s .running 9 rf)
    let lu := 0x200 + 1 * 2 ^ 64 + 16 * 2 ^ 96
    let l := (((put live 0x5000 16 9).setReg (R.CMP_LOG_CFG 1) 1).setReg (R.CMP_LOG_SIZE 1) 1).setReg (R.CMP_LOG_BASE_LO 1) 0x5000
    let l := withTask (l.setReg (R.CMP_LOG_WRPTR 1) 32) .running 0x0A lu
    let once := after (.logUpload 6 ⟨1, false⟩) l
    u.poolNum 0x8FE0 32 = 7 ∧ u.regN (R.SRC_RING_WRPTR 3) = 0 ∧ (u.slot 6).moved = 32 ∧
    ofBytes (once.hostRead 0x200 16) = 9 ∧ (once.slot 6).moved = 16 ∧ once.regN (R.CMP_LOG_RDPTR 1) = 0 ∧
    (let bad := { l with poolBad := [0x5000 / 8] }
     bad.poisoned (bad.regionBase 1 + 0) 16 = true ∧ ((after (.logUpload 6 ⟨1, false⟩) bad).slot 6).replay = true) ∧
    (let deep := ((l.setReg (R.CMP_LOG_CFG 1) 5).setReg (R.DRM_AT 7 1) 0x80000000).setReg (R.DRM_AT 7 2) 16 |>.setReg (R.DRM_AT 7 3) 0x01000000
     deep.logDeep 1 = true ∧ (deep.deepHolding (deep.regionBase 1) 1).isSome = true ∧
     ((after (.logUpload 6 ⟨1, true⟩) deep).slot 6).replay = true) ∧
    ((after (.logUpload 6 ⟨1, false⟩) once).slot 6).done = some (stOk, 0, 16) ∧
    (after (.logUpload 6 ⟨1, false⟩) once).regN (R.CMP_LOG_RDPTR 1) = 16 := by decide +kernel

/-- A LOAD, in slot 6, of section 0 of the image at 0x4000 into allocation 1, at 0x10000, for group 0: a section of one HALT line in
0x2C4 bytes at 0x4200. -/
def loading (bytes word flags : Nat) : State :=
  let s := (loaded.setEngine 0 Engine.idle).setReg (R.MEM_AT_BASE 1) 0x10000 |>.setReg (R.MEM_AT_SIZE 1) 0x80000001
  let s := put (put (put (put s 0x4018 4 0x100) 0x4102 2 flags) 0x4104 4 bytes) 0x4108 8 0x200
  let s := put (put (put (put s 0x4200 4 2) 0x4204 4 0x2C4) 0x420B 1 4) 0x420C 4 (1 + 5 * 2 ^ 16)
  let s := put (put (put (put s 0x4218 4 1) 0x421C 4 1) 0x4220 4 0x2B0) 0x4224 4 0x2C0
  let s := put (put (put s 0x4228 1 1) 0x4230 4 77) 0x44B0 8 word
  withTask s .running 3 (0x4000 + 0x1000 * 2 ^ 32 + 1 * 2 ^ 96 + 0xFFFF * 2 ^ 112)

/-- The section's bytes. -/
def plain (s : State) (n : Nat) : List Byte := s.poolRead 0x4200 n

/-- s with the digest of its section in the directory entry. -/
def signed' (s : State) (n : Nat) : State := s.poolWrite 0x4138 (toBytes 64 (Config.sha512 (plain s n) % 2 ^ 512))

theorem signed_reads (s : State) (m a n : Nat) (h : a + n ≤ 0x4138 ∨ 0x4178 ≤ a) : (signed' s m).poolRead a n = s.poolRead a n :=
  Sparse.getMany_setMany_other _ _ _ _ _ _ (by rw [toBytes_length]; omega)

theorem signed_digest (s : State) (n : Nat) : (signed' s n).poolNum 0x4138 64 = Config.sha512 (plain s n) % 2 ^ 512 := by
  have h : (signed' s n).poolRead 0x4138 64 = toBytes 64 (Config.sha512 (plain s n) % 2 ^ 512) := by
    have := Sparse.getMany_setMany_same poolDefault s.pool 0x4138 (toBytes 64 (Config.sha512 (plain s n) % 2 ^ 512))
    rwa [toBytes_length] at this
  rw [State.poolNum, h, ofBytes_toBytes, show (256 : Nat) ^ 64 = 2 ^ 512 by decide +kernel, Nat.mod_mod]

theorem decrypted_signed (s : State) (n : Nat)
    (h : s.poolNum 0x4018 4 = 0x100 ∧ s.poolNum 0x4102 2 = 0 ∧ s.poolNum 0x4104 4 = n ∧ s.poolNum 0x4108 8 = 0x200)
    (hd : ldImage (s.slot 6).desc = 0x4000 ∧ ldSection (s.slot 6).desc = 0 ∧ ldDa (s.slot 6).desc = none) :
    (signed' s n).decrypted (s.slot 6).desc = some (plain s n) := by
  have e : ∀ a m, (a + m ≤ 0x4138 ∨ 0x4178 ≤ a) → (signed' s n).poolNum a m = s.poolNum a m := fun a m h => by
    rw [State.poolNum, State.poolNum, signed_reads s n a m h]
  simp only [State.decrypted, State.dirField, State.imgField, hd.1, hd.2.1, hd.2.2, Option.bind_none, List.append_nil]
  norm_num
  rw [e 0x4018 4 (by omega), h.1]
  norm_num
  rw [e 0x4102 2 (by omega), e 0x4108 8 (by omega), e 0x4104 4 (by omega), h.2.1, h.2.2.1, h.2.2.2]
  norm_num
  rw [signed_reads s n _ _ (by omega), signed_digest]
  have r : (signed' s n).poolRead 16896 n = s.poolRead 16896 n := signed_reads s n _ _ (by omega)
  simp [bitOf, plain, r]

/-- The plaintext of an image whose directory entry holds the digest is its section. -/
theorem witness_load_digest :
    (signed' (loading 0x2C4 (instr 0x12 0 0 0) 0) 0x2C4).decrypted ((loading 0x2C4 (instr 0x12 0 0 0) 0).slot 6).desc =
      some (plain (loading 0x2C4 (instr 0x12 0 0 0) 0) 0x2C4) ∧
    (signed' (loading 0 0 0) 0).decrypted ((loading 0 0 0).slot 6).desc = some (plain (loading 0 0 0) 0) :=
  ⟨decrypted_signed _ _ (by decide +kernel) (by decide +kernel), decrypted_signed _ _ (by decide +kernel) (by decide +kernel)⟩

/-- A state with the section's bytes in its allocation. -/
def placed (s : State) (bytes : List Byte) : State := (s.setPoolProt 1 true).poolWrite 0x10000 bytes

theorem poolReads_beside (m : List Host.Cell) (l bytes : List Byte) (a c b n : Nat) (hl : l.length = 64) (h : a + 64 ≤ b ∨ b + n ≤ a) :
    Sparse.getMany poolDefault (Sparse.setMany poolDefault (Sparse.setMany poolDefault m a l) c bytes) b n =
      Sparse.getMany poolDefault (Sparse.setMany poolDefault m c bytes) b n := by
  refine Sparse.getMany_congr _ _ _ _ _ fun j h1 h2 => ?_
  rw [Sparse.get_setMany, Sparse.get_setMany, Sparse.get_setMany]
  split
  · rename_i hc
    split
    · rw [List.getD_eq_getElem?_getD (l := l), List.getElem?_eq_none (by omega)]
      rfl
    · rfl
  · split
    · rw [List.getD_eq_getElem?_getD (l := l), List.getElem?_eq_none (by omega)]
      rfl
    · rfl

theorem poolWrite_setFld (s : State) (f : Field) (v a : Nat) (l : List Byte) :
    (s.poolWrite a l).setFld f v = (s.setFld f v).poolWrite a l := rfl

theorem secField_beside (s : State) (l bytes : List Byte) (hl : l.length = 64) (a c off n : Nat) (h : a + 64 ≤ c) :
    ((s.poolWrite a l).poolWrite c bytes).secField c off n = (s.poolWrite c bytes).secField c off n :=
  congrArg ofBytes (poolReads_beside s.pool l bytes a c (c + off) n hl (by omega))

theorem fits_beside (s : State) (l bytes : List Byte) (hl : l.length = 64) (a c n sg : Nat) (h : a + 64 ≤ c) :
    ((s.poolWrite a l).poolWrite c bytes).headerValid c n = (s.poolWrite c bytes).headerValid c n ∧
    ((s.poolWrite a l).poolWrite c bytes).instrsValid c = (s.poolWrite c bytes).instrsValid c ∧
    ((s.poolWrite a l).poolWrite c bytes).sectionFits sg c = (s.poolWrite c bytes).sectionFits sg c := by
  refine ⟨?_, ?_, ?_⟩
  · simp only [State.headerValid, secField_beside s l bytes hl a c _ _ h]
  · simp only [State.instrsValid, secField_beside s l bytes hl a c _ _ h]
  · simp only [State.sectionFits, secField_beside s l bytes hl a c _ _ h]
    rfl

theorem placed_fits (s : State) (m : Nat) (bytes : List Byte) :
    (placed (signed' s m) bytes).headerValid 0x10000 0x2C4 = (placed s bytes).headerValid 0x10000 0x2C4 ∧
    (placed (signed' s m) bytes).instrsValid 0x10000 = (placed s bytes).instrsValid 0x10000 ∧
    (placed (signed' s m) bytes).sectionFits 0 0x10000 = (placed s bytes).sectionFits 0 0x10000 := by
  rw [placed, signed', State.setPoolProt, poolWrite_setFld]
  exact fits_beside _ _ bytes (toBytes_length _ _) 0x4138 0x10000 0x2C4 0 (by decide)

theorem witness_load :
    let s := loading 0x2C4 (instr 0x12 0 0 0) 0
    let l := placed (signed' s 0x2C4) (plain s 0x2C4)
    l.headerValid 0x10000 0x2C4 = true ∧ l.instrsValid 0x10000 = true ∧ l.committed.sectionFits 0 0x10000 = true := by
  have c (s : State) (h : s.groupPend = []) : s.committed = s := by
    rw [State.committed, h]
    rfl
  have h := placed_fits (loading 0x2C4 (instr 0x12 0 0 0) 0) 0x2C4 (plain (loading 0x2C4 (instr 0x12 0 0 0) 0) 0x2C4)
  dsimp only
  rw [c _ rfl, h.1, h.2.1, h.2.2]
  decide +kernel

theorem witness_load_fails :
    let bad := loading 0 0 1
    let t := after (.load ⟨6, false⟩) bad
    bad.works 6 3 = true ∧ bad.poolAlloc 1 = some ⟨1, 0x10000, 4096, false⟩ ∧ bad.headerValid 0x10000 0 = false ∧
    bad.decrypted (bad.slot 6).desc = none ∧ (t.slot 6).done = some (stAuthFail, 8, 0) ∧ t.fld F.SHR_AUTHFAIL.LOAD = 1 ∧
    after (.load ⟨6, false⟩) live = live ∧
    (let cut := { bad with poolBad := [0x4018 / 8] }
     (cut.loadReads (cut.slot 6).desc).any (fun r => cut.poisoned r.1 r.2) = true ∧ ((after (.load ⟨6, false⟩) cut).slot 6).replay = true) := by
  decide +kernel

theorem witness_unload :
    let c : Section := ⟨1, none, 0x10000, 0x2C4, 0, false, false, 0, 0, false⟩
    let s := withTask (put (loading 0 0 0) 0x10000 8 77) .running 4 0
    let s := s.setEngine 0 { s.engine 0 with sec := some c }
    let t := after (.unload 6) s
    s.works 6 4 = true ∧ (t.slot 6).done = some (stOk, 0, 0) ∧ (t.engine 0).sec = none ∧ t.poolNum 0x10000 8 = 0 ∧
    t.poolNum 0x4204 4 = 0x2C4 ∧ after (.unload 6) live = live := by decide +kernel

theorem witness_checking :
    let dsp := withTask live .ready 8 5
    let dsp := { dsp with slots := [(6, { dsp.slot 6 with desc := 8 + 5 * 2 ^ 192 })] }
    let t := after (.taskEnterChecking (.cpx 5)) dsp
    let poor := dsp.setFld F.REEF_BUDGET.UNITS 399
    let burst := withTask live .ready 5 0
    let mv := withTask live .ready 1 (4 * 2 ^ 128 + 5 * 2 ^ 192)
    dsp.readyHead (.cpx 5) = some 6 ∧ dsp.isFree (.cpx 5) (dsp.slot 6) = true ∧ dsp.cancelDue 6 = false ∧
    (dsp.setSlot 6 { dsp.slot 6 with state := .checking }).verdict 6 = .grant 10 ∧ 10 ≤ dsp.grantable ∧
    (t.slot 6).state = .checking ∧ t.reefQueue = [⟨6, 10, 0⟩] ∧
    ((after (.taskEnterChecking (.cpx 5)) poor).slot 6).status = stNoGrant ∧
    ((after (.taskEnterChecking (.engine 0)) burst).slot 6).status = stAuthFail ∧
    ((after (.taskEnterChecking (.engine 0)) burst).slot 6).detail = 1 ∧
    ((after (.taskEnterChecking .moveEngine) mv).slot 6).state = .running ∧
    (after (.taskEnterChecking .moveEngine) mv).journal = [6] ∧ after (.taskEnterChecking .loader) mv = mv := by decide +kernel

theorem witness_checking_rows :
    let s := (put (put loaded 0x1018 4 1) 0x1028 1 1).setReg (R.TS_VALID 0 0) 1
    let s := ((s.setEngine 0 { s.engine 0 with slot := none, start := none }).setReg (R.PEM_Q_BIND 0 0) 0).setFld (F.PEM_Q_SLOT_STAT.STATE 0 0) 2
    let burst := withTask s .ready 5 0
    let cap := withTask live .ready 6 (1 * 2 ^ 16)
    let meas := withTask s .ready 7 0
    let grants (r : Resource) (s : State) : Bool := match s.verdict 6 with | .grant c => decide (c ≤ s.grantable ∧ s.readyHead r = some 6) | _ => false
    let tack := withTask live .ready 0x0B 1
    let idle := withTask live .ready 0x0D 0
    grants (.engine 0) burst ∧ ((after (.burst 6) burst).slot 6).state = .checking ∧ after (.burst 5) burst = burst ∧
    grants (.acq 0) cap ∧ ((after (.capture 6) cap).slot 6).state = .checking ∧ after (.capture 6) live = live ∧
    grants (.tdc 0) meas ∧ ((after (.measure 6) meas).slot 6).state = .checking ∧ after (.measure 6) live = live ∧
    (after (.taskEnterChecking .tack) tack).bankB.locked = true ∧ (after (.taskEnterChecking .tack) tack).fld F.TCK_PEND.BANK = 1 ∧
    ((after (.nop 6) idle).slot 6).state = .finished ∧ after (.nop 5) idle = idle := by decide +kernel

theorem witness_finish :
    let d := 0x0D + 31 * 2 ^ 16 + 0x8000 * 2 ^ 96 + 7 * 2 ^ 96
    let run (status : Nat) (m : Task) : State := (live.setSlot 6 { Task.none with
      state := .running, desc := d, done := some (status, 3, 9) }).setSlot 7 m
    let ok (m : Task) : State := after (.taskFinish 6) (run stOk m)
    let wait (n : Nat) : Task := { Task.none with state := .waiting, count := n }
    let bad := after (.taskFinish 6) ((run stDeadline (wait 2)).setFld (F.SCH_FLOW_CFG.CASCADE 31) 1)
    dNotify d = [7] ∧ ((ok Task.none).slot 6).state = .finished ∧ ((ok Task.none).slot 6).detail = 3 ∧
    ((ok Task.none).slot 6).result = 9 ∧ ((ok Task.none).slot 7).count = 1 ∧ ((ok (wait 1)).slot 7).state = .ready ∧
    ((ok (wait 2)).slot 7).count = 1 ∧ (ok { wait 0 with state := .ready }).regN R.SCH_UNDER = 1 ∧
    (ok (wait 0)).regN R.SCH_UNDER = 1 ∧ bad.cascades = [⟨0, [(7, 0)]⟩] ∧ (bad.slot 7).count = 2 ∧
    (ok { wait 0 with state := .finished, waited := true }).regN R.SCH_UNDER = 0 ∧
    (ok { wait 0 with state := .finished }).regN R.SCH_UNDER = 1 ∧
    (after (.taskFinish 6) ((run stDeadline Task.none).setFld (F.SCH_FLOW_CFG.CASCADE 31) 1)).cascades = [] ∧
    after (.taskFinish 6) live = live := by decide +kernel

theorem witness_cascade_and_deadline :
    let w : Task := { Task.none with state := .waiting, count := 2, desc := 31 * 2 ^ 16 + 5 * 2 ^ 128 }
    let s := { live.setSlot 7 w with cascades := [⟨0, [(7, 0)]⟩], clk := 1 }
    let t := after .cascadeCancel s
    (t.slot 7).status = stCancelled ∧ t.fld (F.SCH_FLOW_STAT.CASCADED 31) = 1 ∧
    after .cascadeCancel { s with clk := 0 } = { s with clk := 0 } ∧
    (let other := { s with cascades := [⟨0, [(7, 1)]⟩] }
     (after .cascadeCancel other).slot 7 = w ∧ (after .cascadeCancel other).cascades = []) ∧
    ((after (.taskDeadlineExpiry 7) { s with now := 5 * 2 ^ 32 }).slot 7).status = stDeadline ∧
    (after (.taskDeadlineExpiry 7) { s with now := 5 * 2 ^ 32 }).fld (F.SCH_FLOW_STAT.DLMISS 31) = 1 ∧
    after (.taskDeadlineExpiry 7) { s with now := 5 * 2 ^ 32 - 1 } = { s with now := 5 * 2 ^ 32 - 1 } := by decide +kernel

theorem witness_release_and_cancel :
    let done : Task := { Task.none with state := .finished, status := stOk, desc := 0x0D + 31 * 2 ^ 16 + 9 * 2 ^ 32, ring := 63 }
    let s := ringed.setSlot 7 done |>.setFld (F.HIF_RING_POS.CQTAIL 63) 63
    let t := after (.taskRelease 31) s
    let c (k : Task) : State := { loaded.setSlot 5 k with cancels := [⟨5, 0, 0, false, none⟩] }
    let burst := (c { Task.none with state := .running, desc := 5 }).setFld (F.SE_STATE.STATE 0) 1
    s.oldestOf 31 = some 7 ∧ t.slot 7 = Task.none ∧ ofBytes (t.hostRead (0x20000 + 32 * 63) 4) = 9 ∧
    t.fld (F.HIF_RING_POS.CQTAIL 63) = 0 ∧ after (.taskRelease 30) s = s ∧
    (let two := (t.setSlot 7 { done with order := 1 })
     two.oldestOf 31 = some 7 ∧ Sparse.get (fun _ => 0) two.releasedAt 31 = 1 ∧ after (.taskRelease 31) two = two) ∧
    (after (.taskRelease 31) { s with cancels := [⟨7, 0, 0, true, none⟩] }).cancels = [⟨7, 0, 0, true, some 0⟩] ∧ (c Task.none).cancelDue 5 = true ∧
    ((after (.cancel 5) (c { Task.none with state := .ready, desc := 13 })).slot 5).status = stCancelled ∧
    (after (.cancel 5) burst).eState 0 = 3 ∧ after (.cancel 5) loaded = loaded := by decide +kernel

theorem witness_reef_grants :
    let queue (op body cost : Nat) (s : State) : State := { withTask s .checking op body with reefQueue := [⟨6, cost, 0⟩] }
    let dsp := after .reefGrant (queue 8 5 10 live)
    let cap := after .reefGrant (queue 6 (15 + 3 * 2 ^ 16) 2 live)
    let burst := after .reefGrant (queue 5 0 4 { (put loaded 0x1070 4 7).setEngine 0 { loaded.engine 0 with slot := none } with now := 2 ^ 40 })
    let tight := queue 8 5 1111 live
    let late := { queue 8 5 1111 (live.setFld F.REEF_QWAIT.USEC 1) with clk := 1000 }
    live.reefFits 1110 = true ∧ live.reefFits 1111 = false ∧ dsp.fld (F.CPX_STAT.STATE 5) = 1 ∧ dsp.fld F.REEF_GRANTED.UNITS = 10 ∧
    dsp.reefQueue = [] ∧ (dsp.cpx 5).slot = some 6 ∧ cap.fld (F.AQ_STAT.STATE 15) = 1 ∧ (cap.acq 15).nrec = 3 ∧
    burst.eState 0 = 1 ∧ (burst.engine 0).pc = 7 ∧ (burst.engine 0).start = some (toTick (2 ^ 40 + 4000 * 2 ^ 32)) ∧
    (let fenced := queue 8 5 10 (live.setFld (F.CPX_STAT.STATE 5) 2)
     fenced.fencedSince (fenced.slot 6).desc = some 5 ∧ fenced.claimsFree 6 = true ∧
     ((after .reefGrant fenced).slot 6).status = stFenced ∧ ((after .reefGrant fenced).slot 6).grant = 0) ∧
    (let pair := queue 7 2 2 ((live.setFld (F.TDC_CFG.MODE 2) 1).setFld (F.TDC_STAT.STATE 3) 1)
     pair.claimsFree 6 = false ∧ after .reefGrant pair = pair) ∧
    after .reefGrant tight = tight ∧ after .reefGrant live = live ∧ ((after (.reefQueueTimeout 6) late).slot 6).status = stNoGrant ∧
    (after (.reefQueueTimeout 6) late).fld F.REEF_REFUSED.POWER = 1 ∧
    after (.reefQueueTimeout 6) { late with clk := 999 } = { late with clk := 999 } := by decide +kernel

/-- A TACK of bank A in slot 6, WHEN = w for group g, with staged values. -/
def tacking (w g : Nat) (passed : Bool) (vals : SMap Word) : State :=
  { withTask live .running 0x0B (w * 2 ^ 8 + g * 2 ^ 16) with tack := some ⟨6, 0, passed, 0, false, [], []⟩, bankA := ⟨true, vals⟩ }

theorem witness_tack_checks :
    let slope := spaceKey 1 0
    let empty := after (.tack 6) (tacking 0 0 false [])
    let idle := after (.tack 6) (tacking 1 5 false [(slope, 7)])
    let bad := after (.tack 6) (tacking 0 0 false [(R.CMP_LOG_BASE_LO 1, 1), (R.CMP_LOG_CFG 1, 1)])
    let good := after (.tack 6) (tacking 0 0 false [(slope, 7)])
    (empty.slot 6).state = .finished ∧ (empty.slot 6).status = stOk ∧ (idle.slot 6).detail = 2 ∧ idle.fld F.TCK_ERR.CHECK = 2 ∧
    idle.bankA = ⟨false, [(slope, 7)]⟩ ∧ (bad.slot 6).status = stInconsistent ∧ (bad.slot 6).detail = 6 ∧
    ((tacking 0 0 false [(slope, 7)]).tackView 0).firstCheck = none ∧ (good.slot 6).state = .running ∧
    (let period := tacking 0 0 false [(R.PG_PERIOD_LO 0, 40959)]
     let v := period.tackView 0
     v.drains = [] ∧ 0 ∈ v.groups ∧ (after (.tack 6) period).reg (R.TMG_SG_ERR 0) = BitVec.ofNat 32 (v.n.timingWord v.s 0)) ∧
    good.tack = some ⟨6, 0, true, 0, false, [], []⟩ ∧ good.bankA.locked = true ∧ after (.tack 6) live = live ∧
    after (.tack 5) (tacking 0 0 false []) = tacking 0 0 false [] := by decide +kernel

theorem witness_tack_commit :
    let k := spaceKey 1 0
    let t := after (.tackCommit 6) (tacking 0 0 true [(k, 7)])
    let own := (((tacking 0 0 true [(k, 7)]).setReg (R.SE_CHMAP 3 0) 1).setFld (F.PG_CFG.EN 3) 1)
    let early := { tacking 2 0 true [(k, 7)] with slots := [(6, { (tacking 2 0 true []).slot 6 with desc := 0x0B + 2 * 2 ^ 200 + 5 * 2 ^ 256 })] }
    let ended := tacking 1 0 true [(k, 7)]
    t.table 1 0 = 7 ∧ t.fld F.TCK_STAT.COMMITS = 1 ∧ t.bankA = ⟨false, []⟩ ∧ (t.slot 6).status = stOk ∧
    ((own.tackView 0).actsIn 11 k = some 3) ∧ (after (.tackCommit 6) own).table 1 0 = 0 ∧
    (after (.tackCommit 6) own).groupPend = [⟨3, none, 61440, [(k, 7)]⟩] ∧
    (let started := withEng (own.setFld (F.SE_STATE.STATE 3) 2) id
     let started := started.setEngine 3 { started.engine 3 with start := some 0 }
     (after (.tackCommit 6) started).groupPend = [⟨3, none, 0, [(k, 7)]⟩]) ∧
    early.commitState ⟨6, 0, true, 0, false, [], []⟩ (early.slot 6).desc = .waits ∧ after (.tackCommit 6) early = early ∧
    ((after (.tackCommit 6) ended).slot 6).status = stDeadline ∧ after (.tackCommit 6) live = live := by decide +kernel

/-- R25: a Tack that commits at a burst's start instant, 6 ns, gives the group its values from cycle 0, and commits then. -/
theorem witness_tack_meets_burst :
    let k := spaceKey 1 0
    let job : TackJob := ⟨6, 0, true, 0, false, [], []⟩
    let s := withEng (loaded.setFld (F.SE_STATE.STATE 0) 1) fun e => { e with start := some 49152 }
    let s : State := { s.setSlot 6 { Task.none with state := .running, desc := 0x0B + 2 * 2 ^ 200 + 6 * 2 ^ 256 } with
      tack := some job, bankA := ⟨true, [(k, 7)]⟩ }
    let t := after (.burstStart 0) s
    s.eState 0 = 1 ∧ s.paired 0 = false ∧ tkWhen (s.slot 6).desc = 2 ∧
    toTick (tkAt (s.slot 6).desc * 2 ^ 32 + tkFrac (s.slot 6).desc) = 49152 ∧
    t = Answered s ((s.takeAhead job 0 none 49152 (s.tackView 0)).startBurst 0 49152) ∧
    t.table 1 0 = 7 ∧ t.eState 0 = 2 ∧ t.tack = some { job with met := [0], before := [(k, 0)] } ∧
    (after (.tackCommit 6) { t with now := 6 * 2 ^ 32 }).groupPend = [] ∧
    ((after (.tackCommit 6) { t with now := 6 * 2 ^ 32 }).slot 6).status = stOk := by decide +kernel

/-- R421: a Tack that would place a time-interval unit's results in a protected allocation is refused at check 11; in another it is not. -/
theorem test_tack_protected :
    let s (prot : Nat) : State := (((live.setReg (R.MEM_AT_BASE 3) 0x4000).setReg (R.MEM_AT_SIZE 3) (2 ^ 31 + prot * 2 ^ 30 + 1))).setReg
      (R.TDC_RES_SIZE 2) 1
    let t (prot : Nat) : State := { (s prot) with bankA := ⟨true, [(R.TDC_RES_BASE 2, 0x4000)]⟩ }
    (t 0).poolHolding 0x4000 4096 = some ⟨3, 0x4000, 4096, false⟩ ∧
    (t 1).poolHolding 0x4000 4096 = some ⟨3, 0x4000, 4096, true⟩ ∧
    (t 0).unitsHeld 0x4000 1 = true ∧ (t 1).unitsHeld 0x4000 1 = false := by decide +kernel

theorem witness_bank_commands :
    let s := { live with bankA := ⟨false, [(4, 5)]⟩, bankB := ⟨true, [(4, 6)]⟩ }
    (after .bankAClear s).bankA.vals = [] ∧ (after .bankAClear s).bankB = s.bankB ∧ (after .bankBClear s).bankB = s.bankB ∧
    (after .bankBClear s).faultIn.length = 1 ∧ (after (.wbankSelect 1) s).fld F.TCK_CTRL.WBANK = 1 ∧
    (after .bankBClear { s with bankB := ⟨false, [(4, 6)]⟩ }).bankB.vals = [] ∧
    (after .bankAClear { s with bankA := ⟨true, [(4, 6)]⟩ }).faultIn.length = 1 := by decide +kernel

theorem witness_thermal :
    let due := { live with clk := 1000000 }
    let temps := 420 :: List.replicate 15 (0 : Int)
    live.housekeeping = true ∧ State.reset.housekeeping = false ∧ live.fld F.REEF_ALARM.TEMP = 100 ∧
    due.cal.readAt + 1000000 ≤ due.clk ∧ reading temps 0 = 420 ∧ reading temps 15 = 0 ∧
    after (.sensorRead temps) live = live ∧ (after (.thermNChange true) live).flag (evPend 208) = true ∧
    (after (.thermNChange true) live).flag F.REEF_ALARM.ACTIVE = true ∧
    (after (.thermNChange true) State.reset).pins.thermLow = true := by decide +kernel

/-! ### Links, companions and device time -/

/-- Port 3 in a state with column lock, changed by f. -/
def port (st : Nat) (f : Port → Port) : State := (live.setFld (F.LNK_P_STAT.STATE 3) st).setPort 3 (f { Port.off with locked := true })

/-- A valid training sequence of lane 0. -/
def ts (lane : Nat) (seen : Bool) : Training := ⟨lane, 3, seen, false, 0, 0⟩

theorem witness_training :
    let rx (seen : Bool) (l : Nat) (skew : Nat) (s : State) : State := after (.trainingSequenceRx 3 0 (ts l seen) true skew) s
    let acq := port 1 fun v => { v with tsRun := [7, 8, 8, 8] }
    let ali (l1 l2 l3 : Nat) : State := port 2 fun v => { v with laneNo := [9, l1, l2, l3] }
    let hs (sent : Nat) : State := port 4 fun v => { v with tsSeen := [63, 64, 64, 64], tsSent := sent }
    (rx false 0 0 acq).portState 3 = 2 ∧ (rx false 0 0 (port 1 id)).portState 3 = 1 ∧
    (rx false 0 32 ((ali 1 2 3).setFld (F.LNK_P_CFG.AUTOTX 3) 0)).portState 3 = 4 ∧ (rx false 0 33 (ali 1 2 3)).portState 3 = 2 ∧
    (rx false 0 32 (ali 1 2 3)).portState 3 = 3 ∧
    (rx false 3 32 (ali 2 1 0)).flag (F.LNK_P_STAT.LANEREV 3) = true ∧ (rx false 0 0 (ali 2 1 0)).portState 3 = 1 ∧
    (rx false 0 0 (ali 2 1 0)).fld (F.LNK_P_STAT.RETRAINS 3) = 1 ∧ (rx true 0 0 (hs 16)).portState 3 = 5 ∧
    (rx true 0 0 (hs 16)).fld (F.LNK_P_FAIL.CREDITS 3) = 64 ∧ (rx true 0 0 (hs 15)).portState 3 = 4 ∧
    (rx false 0 0 (hs 16)).portState 3 = 4 ∧ rx true 0 0 (port 0 id) = port 0 id := by decide +kernel

theorem witness_training_sent :
    let hs (sent : Nat) : State := port 4 fun v => { v with tsSeen := [64, 64, 64, 64], tsSent := sent }
    let late := { port 2 id with clk := 2000000 }
    let tune (k : Nat) : State := { port 3 fun v => { v with tuneStep := k, tuneBest := some (2, 5) } with clk := 10000 }
    (after (.trainingSequenceTx 3) (hs 15)).portState 3 = 5 ∧ (after (.trainingSequenceTx 3) (hs 14)).portState 3 = 4 ∧
    ((after (.trainingSequenceTx 3) (port 1 id)).port 3).tsOut = some ⟨0, 3, false, false, 0, 0⟩ ∧
    (after (.linkTrainTimeout 3) late).portState 3 = 1 ∧ after (.linkTrainTimeout 3) { late with clk := 1999999 } = { late with clk := 1999999 } ∧
    ((after (.tunePresetStep 3 [9, 6, 7, 8]) (tune 6)).port 3).tuneBest = some (6, 6) ∧
    ((after (.tunePresetStep 3 [9, 5, 7, 8]) (tune 6)).port 3).request = some 7 ∧
    (after (.tunePresetStep 3 [9, 5, 7, 8]) (tune 7)).portState 3 = 4 ∧
    (after (.tunePresetStep 3 [9, 5, 7, 8]) (tune 7)).fld (F.LNK_P_STAT.RXPRESET 3) = 2 ∧
    after (.tunePresetStep 3 [9]) { tune 6 with clk := 9999 } = { tune 6 with clk := 9999 } := by decide +kernel

theorem witness_link_falls :
    let up := { port 5 id with clk := 4000000 }
    let codes (n : Nat) : State := { port 5 fun v => { v with codeErrs := List.replicate n (1, 0), badFrames := List.replicate n 1 } with clk := 9 }
    let bad : Arrival := ⟨1, 7, 0, 0, false⟩
    let down (s : State) : Bool := decide (s.portState 3 = 1 ∧ s.faultIn.length = 1 ∧ s.fld (F.LNK_P_STAT.RETRAINS 3) = 1)
    down (after (.linkFailure 3 (.clockLost 0)) up) ∧ down (after (.linkFailure 3 .noAlignment) up) ∧
    down (after (.linkFailure 3 .noDiscover) up) ∧
    after (.linkFailure 3 .noDiscover) { up with clk := 3999999 } = { up with clk := 3999999 } ∧
    down (after (.linkFailure 3 (.codeError 0)) (codes 15)) ∧ (after (.linkFailure 3 (.codeError 0)) (codes 14)).portState 3 = 5 ∧
    (after (.linkFailure 3 (.codeError 1)) (codes 15)).portState 3 = 5 ∧ down (after (.trainingSequenceRx 3 0 (ts 0 true) true 0) up) ∧
    down (after (.linkRetrain 3 0xC0000000) up) ∧ (after (.linkRetrain 3 0x40000000) up).portState 3 = 0 ∧
    down (after (.discoverRx 3 bad) (codes 15)) ∧ (after (.failFrameRx 3 bad) (codes 14)).fld (F.LNK_P_ERR.CRC 3) = 1 ∧
    (let deaf := port 5 fun v => { v with locked := false }
     after (.discoverRx 3 bad) deaf = deaf) ∧
    (let col (l : List Nat) : Port := (after (.linkFailure 3 (.aligned l)) up).port 3
     (col [3, 1, 35, 30]).locked = false ∧ (col [3, 1, 33, 30]).locked = true ∧ (col [3, 1, 33, 30]).deskew = [30, 32, 0, 3] ∧
     (col [3, 1, 33, 30]).rxAligned = up.column) ∧
    after (.linkFrameRx 3 bad) live = live ∧ after (.syncFrameRx 3 bad) live = live := by decide +kernel

/-- Port 3 UP with a partner of ID 2; this device has ID 1. -/
def attached (f : Port → Port) : State :=
  (((port 5 f).setFld (F.LNK_P_STAT.ATTACHED 3) 1).setFld F.LNK_ID.ID 1).setFld (F.LNK_P_PART_ID.ID 3) 2

theorem witness_frames_sent :
    let fr (cls : Nat) : Frame := ⟨cls, 1, 0, 0, 0⟩
    let q := attached fun v => { v with txq := [fr 5, fr 2, fr 1, fr 1] }
    let noCredit := attached fun v => { v with txq := [fr 5], failSent := 64 }
    let late (n : Nat) (s : State) : State := { s with clk := n }
    let packed := late 1000 (attached fun v => { v with packing := [7] })
    (attached id).carries 3 = true ∧ ((after (.frameTx 3 0) q).port 3).txq.length = 3 ∧
    (((after (.frameTx 3 0) q).port 3).sent.map fun f => framePriority f.cls) = some ((q.port 3).txq.foldl (fun m f => min m (framePriority f.cls)) 99) ∧
    ((after (.frameTx 3 0) noCredit).port 3).txq = [fr 5] ∧ ((after (.frameTx 3 0) noCredit).port 3).failSent = 64 ∧
    ((after (.frameTx 3 0) q).port 3).txFree = q.column + frameColumns 1 ∧
    (let sending := attached fun v => { v with txq := [fr 2], txFree := 1 }
     sending.column = 0 ∧ after (.frameTx 3 0) sending = sending) ∧ ((after (.frameTx 3 0) (attached fun v => { v with txq := [fr 5] })).port 3).failSent = 1 ∧
    ((after (.discoverTimer 3) (late 1000000 (attached id))).port 3).txq.map (·.cls) = [2] ∧
    after (.discoverTimer 3) (late 999999 (attached id)) = late 999999 (attached id) ∧
    ((after (.linkCreditTimer 3) (attached fun v => { v with rxFreed := 16 })).port 3).txq.map (·.payload) = [16] ∧
    after (.linkCreditTimer 3) (attached fun v => { v with rxFreed := 15 }) = attached (fun v => { v with rxFreed := 15 }) ∧
    ((after (.failFrameTimer 3) packed).port 3).txq.map (·.payload) = [7 + (15 * 2 ^ 124) * (2 ^ 128 + 2 ^ 256 + 2 ^ 384)] ∧
    after (.failFrameTimer 3) (late 999 packed) = late 999 packed := by decide +kernel

theorem witness_frames_received :
    let d := after (.discoverRx 3 ⟨1, 2, 0, 0xABC + 2 * 2 ^ 64, true⟩) (port 5 id)
    let l := after (.linkFrameRx 3 ⟨1, 2, 0, 5, true⟩) (attached fun v => { v with failSent := 7 })
    let f := after (.failFrameRx 3 ⟨1, 2, 12, 0, true⟩) (attached fun v => { v with failSeq := some 10 })
    d.flag (F.LNK_P_STAT.ATTACHED 3) = true ∧ d.regN (R.LNK_P_PART_LO 3) = 0xABC ∧ d.fld (F.LNK_P_PART_ID.ID 3) = 2 ∧
    d.flag (evPend 203) = true ∧ l.fld (F.LNK_P_FAIL.CREDITS 3) = 62 ∧ f.fld (F.LNK_P_FAIL.GAPS 3) = 8 ∧ (f.port 3).rxFreed = 1 ∧
    (f.port 3).failSeq = some 13 ∧ after (.failFrameRx 3 ⟨1, 2, 12, 0, true⟩) (port 5 id) = port 5 id := by decide +kernel

theorem witness_sync_frames :
    let free := (attached id).setFld F.TIM_STAT.STATE 1
    let body (stamp : Nat) : Nat := 9 + stamp * 2 ^ 32
    let fwd := ((free.setFld (F.LNK_P_STAT.STATE 0) 5).setFld (F.LNK_P_STAT.ATTACHED 0) 1).setFld (F.LNK_P_PART_ID.ID 0) 3
    let fwd := fwd.setFld (F.LNK_P_CFG.FWD 3) 9
    let rx (hops seq stamp : Nat) (s : State) : State := after (.syncFrameRx 3 ⟨hops, 7, seq, body stamp, true⟩) s
    let t := rx 1 5 1000 fwd
    t.syncPend = [⟨3, 9, (payloadTime (body 1000) 4) + 24 * 2 ^ 32, false⟩] ∧ t.recentSync = [(7, 5)] ∧
    (t.port 0).txq.map (fun f => (f.cls, f.hops, f.seq)) = [(3, 2, 5)] ∧ (t.port 3).txq = [] ∧
    (rx 1 5 1000 t).fld (F.LNK_P_SYNC.DUP 3) = 1 ∧ ((rx 15 5 1000 fwd).port 0).txq = [] ∧
    (rx 1 5 1000 { fwd with now := 2 ^ 62 }).fld (F.LNK_P_SYNC.LATE 3) = 1 ∧ (rx 1 5 1000 (port 5 id)) = port 5 id := by decide +kernel

theorem witness_sync_delivery :
    let c : Current := inProgress (waitWord + 9 * 2 ^ 28) 1 3 999
    let s := withEng (running 0) fun e => { e with cur := some c, nextStart := 40960 }
    let open' := withEng (running 0) fun e => { e with part := some (partAt 0), nextStart := 40960 }
    let s := { (s.setReg (R.SE_CYCLE_LO 0) 1).setFld (F.SE_CFG.FLAT 0) 4 with syncPend := [⟨3, 9, 0, false⟩] }
    let t := after .syncEventDelivery s
    open'.lineOpen 0 = true ∧
    ((after .syncEventDelivery { open'.setReg (R.SE_CYCLE_LO 0) 1 with syncPend := [⟨3, 9, 0, false⟩] }).engine 0).heard = [(9, 0)] ∧
    t.syncPend = [] ∧ ((t.engine 0).cur.map (·.exitAt)) = some (some 4) ∧ t.regs = s.regs ∧
    (let w := { s with syncPend := [⟨3, 9, 1, false⟩] }
     after .syncEventDelivery w = w) := by decide +kernel

theorem witness_eye_scan :
    let s := port 5 id
    let t := after (.eyeScanStart 3 2 6 63 63) s
    t.flag (F.LNK_P_EYE_CTRL.BUSY 3) = true ∧ t.fld (F.LNK_P_EYE_CTRL.LANE 3) = 2 ∧ (t.port 3).scan = some 2 ∧
    after (.eyeScanStart 3 2 6 63 63) t = t.report 249 kRegAccess (R.LNK_P_EYE_CTRL 3) ∧
    after (.eyeScanStart 3 2 6 63 63) live = live.report 249 kRegAccess (R.LNK_P_EYE_CTRL 3) ∧
    (after (.eyeScanDone 3 (2 ^ 32)) { t with clk := 2 }).regN (R.LNK_P_EYE_ERRS 3) = 2 ^ 32 - 1 ∧
    after (.eyeScanDone 3 0) { t with clk := 1 } = { t with clk := 1 } ∧ after (.eyeScanDone 3 0) live = live := by decide +kernel

/-- Quadrant 3's companion controller running; slot 14 expects PID 0xAB and is in a state with channels 192 to 199 bound to it. -/
def companion (st : Nat) (c : I3c) : State :=
  let s := ((live.setFld (F.PEM_Q_CFG.EN 3) 1).setReg (R.PEM_Q_SLOT_PID_LO 3 14) 0xAB).setFld (F.PEM_Q_SLOT_STAT.STATE 3 14) st
  { (s.setFld (F.PEM_Q_SLOT_STAT.DA 3 14) 0x1E).setReg (R.PEM_Q_BIND 3 0) 0xEEEEEEEE with i3cs := [(3, c)] }

theorem witness_companions :
    let found := after (.i3cDaa 3 [(0xAB, 0x101, 2)]) (companion 0 { I3c.off with due := true })
    let unk := after (.i3cHotJoin 3 0xCD 1 2) (companion 0 I3c.off)
    let nack (n : Nat) : State := { companion 2 { I3c.off with nacks := List.replicate 14 0 ++ [n], pollAt := 0 } with clk := 1000000 }
    let lost := after (.i3cPoll 3 0) (nack 2)
    found.slotState 3 14 = 2 ∧ found.fld (F.PEM_Q_SLOT_STAT.DA 3 14) = 0x1E ∧ found.fld (F.PEM_Q_SLOT_STAT.BCR 3 14) = 1 ∧
    unk.fld (F.PEM_Q_UNK.COUNT 3) = 1 ∧ unk.fld (F.PEM_Q_UNK.DA 3) = 0x30 ∧ unk.flag (evPend 207) = true ∧
    (nack 2).fld (F.PEM_Q_CFG.POLL 3) = 1 ∧ lost.slotState 3 14 = 3 ∧ lost.compFence = (List.range 8).map (fun j => (192 + j, 62)) ∧
    lost.faultIn = [⟨1600000, 259, kCompanion, 14⟩] ∧ nth ((after (.i3cPoll 3 0) (nack 1)).i3c 3).nacks 14 0 = 2 ∧
    nth ((after (.i3cPoll 3 (2 ^ 14)) (nack 2)).i3c 3).nacks 14 0 = 0 ∧ after (.i3cPoll 3 0) live = live ∧
    after (.i3cDaa 3 [(0xAB, 1, 2)]) (companion 0 I3c.off) = companion 0 I3c.off ∧
    (after (.companionRelease 3 14) { companion 2 I3c.off with compFence := [(5, 0), (192, 62)] }).compFence = [(5, 0)] ∧
    (after (.companionRelease 3 14) lost).faultIn.length = 2 ∧
    (let early := { nack 2 with clk := 999999 }
     after (.i3cPoll 3 0) early = early) := by decide +kernel

theorem witness_transfers :
    let s := companion 2 I3c.off
    let x := after (.i3cPrivateTransfer 3 0x1E true 2) s
    let t := after (.i3cTransferDone 3 false [5, 6, 7]) x
    (after (.i3cIbi 3 0x1E 9) s).fld (F.PEM_Q_IBI.MDB 3) = 9 ∧ after (.i3cIbi 3 0x1D 9) s = s ∧
    (x.i3c 3).xfer = some (true, 2) ∧ x.flag (F.PEM_Q_XCTL.BUSY 3) = true ∧
    ((after (.i3cPrivateTransfer 3 0x1E true 3) x).i3c 3).xfer = some (true, 2) ∧ t.regN (R.PEM_Q_XDATA 3 0) = 0x0605 ∧
    t.flag (F.PEM_Q_XCTL.BUSY 3) = false ∧ (after (.i3cTransferDone 3 true []) x).fld (F.PEM_Q_XCTL.STATUS 3) = 1 ∧
    (after (.i3cPrivateTransfer 3 0x1D true 2) s).fld (F.PEM_Q_XCTL.STATUS 3) = 2 ∧ after (.i3cTransferDone 3 true []) s = s := by decide +kernel

/-- Port 3 carries frames and a master lies behind it, of PRIO 1; device time is 1,012 ns in a time state; one REQUEST sent at 1,000 ns waits. -/
def slave (st : Nat) : State :=
  { (attached id).setFld F.TIM_STAT.STATE st with
    now := 1012 * 2 ^ 32
    clock := { Clock.off with anns := [(3, ⟨1, 2, 0, 77, 0, 0, 0⟩)], txq := [(3, [⟨5, 1000 * 2 ^ 32, 0, 0⟩])] } }

/-- A RESPONSE to SEQ 5 of a synchronised device, received 1,001 ns and sent 1,011 ns, both k ns late. -/
def response (k : Nat) : Arrival := ⟨1, 2, 9, 2 + 2 ^ 8 + 5 * 2 ^ 16 + (1001 + k) * 2 ^ 64 + (1011 + k) * 2 ^ 160, true⟩

theorem witness_time_frames :
    let s := slave 3
    let late (n : Nat) : State := { s with clk := n }
    let sent (d : Nat) : State := attached fun v => { v with txq := [⟨4, 1, 1, 9, d⟩] }
    let req : Arrival := ⟨1, 2, 9, 1, true⟩
    s.carries 3 = true ∧ s.upstream = some 3 ∧ ((after (.announceTimer 3) (late 1000000)).port 3).txq.map (·.cls) = [4] ∧
    after (.announceTimer 3) (late 999999) = late 999999 ∧
    ((after (.timeRequestTimer 3) (late 125000)).port 3).txq.map (·.payload % 2 ^ 8) = [1] ∧
    after (.timeRequestTimer 3) (late 124999) = late 124999 ∧
    ((after (.timeRequestRx 3 req 7) s).port 3).txq.map (fun f => (f.payload % 2 ^ 8, dget f.payload 2 2, dget f.payload 4 2)) = [(2, 9, 7)] ∧
    after (.timeRequestRx 3 req 7) (port 5 id) = port 5 id ∧
    (after (.frameTx 3 8) (sent 1)).txq 3 = [⟨9, 0, 8, 0⟩] ∧
    ((after (.frameTx 3 8) (sent 2)).port 3).sent = some ⟨4, 1, 1, 9, 2 + 8 * 2 ^ 48⟩ ∧
    (after (.txqEntryExpiry 3) (late 1000000)).txq 3 = [] ∧ (after (.txqEntryExpiry 3) (late 999999)).txq 3 = s.txq 3 ∧
    (after (.timeResponseRx 3 (response 0) 0) (attached id)).fld (F.TIM_P_TXQ.NOMATCH 3) = 1 := by decide +kernel

theorem witness_exchange :
    let rx (k : Nat) (s : State) : State := after (.timeResponseRx 3 (response k) 0) s
    let refusing (accept : Bool) (n : Nat) : State :=
      { slave 6 with clock := { (slave 6).clock with accept := accept, refused := n } }
    let unsynced : Arrival := { response 0 with payload := (response 0).payload - 2 ^ 8 }
    let armed := loaded.setFld (F.SE_STATE.STATE 0) 1
    let busy := { slave 2 with regs := ((slave 2).setFld (F.SE_STATE.STATE 0) 1).regs, engines := armed.engines }
    let heldUp := { slave 3 with clock := { (slave 3).clock with held := some (.gain 1) } }
    (rx 0 (slave 3)).fld F.TIM_MEAS.DELAY = 8192 ∧ (rx 0 (slave 3)).timeState = 3 ∧ (rx 0 (slave 3)).txq 3 = [] ∧
    (rx 0 (slave 5)).timeState = 3 ∧ (rx 100 (slave 3)).timeState = 4 ∧ (rx 100 (slave 3)).clock.slew = 100 * 2 ^ 32 ∧
    (rx 101 (slave 3)).timeState = 6 ∧ (rx 101 (slave 3)).clock.refused = 1 ∧ (rx 101 (slave 2)).timeState = 3 ∧
    (rx 101 (slave 2)).now = 1113 * 2 ^ 32 ∧ (rx 101 busy).clock.held = some (.gain (101 * 2 ^ 32)) ∧ (rx 101 busy).timeState = 2 ∧
    (rx 9 (refusing false 15)).clock.refused = 16 ∧ (rx 9 (refusing true 0)).timeState = 3 ∧
    (rx 9 (refusing false 16)).timeState = 6 ∧ (rx 9 ((refusing false 16).setFld F.TIM_CFG.RELOCK 1)).timeState = 3 ∧
    (rx 9 (slave 4)).timeState = 4 ∧ (rx 9 heldUp).clock.slew = 0 ∧
    (after (.timeResponseRx 3 unsynced 0) (slave 3)).fld (F.TIM_P_TXQ.BADEX 3) = 1 ∧
    (after (.timeResponseRx 3 (response 0) 8191) (slave 3)).fld (F.TIM_P_TXQ.BADEX 3) = 0 := by decide +kernel

theorem witness_time_steps :
    let held (h : HeldStep) : State := { live with clock := { Clock.off with held := some h } }
    let armed (s : State) : State := s.setFld (F.SE_STATE.STATE 0) 1
    let aim (s : State) : State := (s.setReg R.TIM_SET_NS_LO 50).setReg R.TIM_SET_FRAC 9
    let pend (now : Nat) : State := { live with now := now, clock := { Clock.off with pend := some (7, 2 ^ 25) } }
    let st (n : Nat) (s : State) : State := s.setFld F.TIM_STAT.STATE n
    after .timeStepApply live = live ∧ after .timeStepApply (armed (held (.load 5))) = armed (held (.load 5)) ∧
    (after .timeStepApply (held (.load 5))).now = 5 ∧ (after .timeStepApply (st 2 (held (.gain 6)))).timeState = 3 ∧
    (after .timeSet (st 2 live)) = (st 2 live).report 249 kRegAccess R.TIM_CTRL ∧ (after .timeSet (aim live)).now = 50 * 2 ^ 32 + 9 ∧
    (after .timeSet (armed (aim live))).clock.held = some (.load (50 * 2 ^ 32 + 9)) ∧
    (after .timeAccept (st 6 live)).clock.accept = true ∧ after .timeAccept live = live ∧
    (after .slewComplete (slave 4)).timeState = 3 ∧ (after .slewComplete (st 4 live)).timeState = 5 ∧ after .slewComplete live = live ∧
    after (.timAdjWrite 7) (st 2 live) = (st 2 live).report 249 kRegAccess R.TIM_ADJ ∧
    (after (.timAdjWrite 7) live).clock.pend = some (7, 2 ^ 25) ∧
    (after (.timAdjWrite 7) { live with now := 2 ^ 56 + 1 }).clock.pend = some (7, 2 ^ 26) ∧ after .adjEffective live = live ∧
    after .adjEffective (pend (2 ^ 57 - 1)) = pend (2 ^ 57 - 1) ∧ (after .adjEffective (pend (2 ^ 57))).regN R.TIM_ADJ = 7 := by decide +kernel

theorem witness_masters :
    let ann (prio hops adj eff : Nat) : Arrival := ⟨1, 2, 1, 3 + prio * 2 ^ 16 + hops * 2 ^ 24 + adj * 2 ^ 32 + 77 * 2 ^ 64 + 8 * 2 ^ 128 + eff * 2 ^ 160, true⟩
    let rx (a : Arrival) (s : State) : State := after (.timeAnnounceRx 3 a) s
    let own (n : Nat) (s : State) : State := s.setFld F.TIM_CFG.PRIO n
    let two := { slave 3 with clock := { (slave 3).clock with anns := [(0, ⟨2, 0, 0, 5, 0, 0, 0⟩), (3, ⟨1, 2, 0, 77, 0, 0, 0⟩)] } }
    let late (s : State) : State := { s with clk := 4000000 }
    (rx (ann 1 2 0 0) (attached id)).timeState = 2 ∧ (rx (ann 1 2 0 0) (attached id)).fld F.TIM_STAT.HOPS = 3 ∧
    (rx (ann 1 2 0 0) (attached id)).reg64 R.TIM_MASTER_LO R.TIM_MASTER_HI = 77 ∧
    (rx (ann 9 2 0 0) (own 8 (attached id))).timeState = 1 ∧ (rx (ann 1 15 0 0) (own 255 (attached id))).timeState = 0 ∧
    (rx (ann 1 2 7 0) (slave 3)).timeState = 2 ∧ (rx (ann 1 2 7 0) (slave 3)).regN R.TIM_ADJ = 7 ∧
    (rx (ann 1 2 7 6) (slave 3)).clock.pend = some (8, 6) ∧ (rx (ann 1 2 7 6) (slave 3)).timeState = 3 ∧
    (rx (ann 3 2 7 0) two).clock.anns.length = 2 ∧ (rx (ann 3 2 7 0) two).upstream = some 0 ∧ (rx (ann 3 2 7 0) two).regN R.TIM_ADJ = 0 ∧
    rx (ann 1 2 0 0) (port 5 id) = port 5 id ∧ after (.announceExpiry 3) live = live ∧
    after (.announceExpiry 3) { slave 3 with clk := 3999999 } = { slave 3 with clk := 3999999 } ∧
    (after (.announceExpiry 3) (late (own 255 (slave 3)))).timeState = 5 ∧ (after (.announceExpiry 3) (late two)).timeState = 5 ∧
    (after (.announceExpiry 3) (late two)).upstream = some 0 := by decide +kernel

theorem witness_triggers :
    let on (periodic outen : Bool) (width : Fin 65536) (s : State) : State := after (.ttEnable 2 periodic outen false width) s
    let sched (start period : Nat) : State := { (live.setReg (R.TT_START_LO 2) start).setReg (R.TT_PERIOD_LO 2) period with now := 1000 * 2 ^ 32 }
    let bad (s : State) : State := s.report 249 kRegAccess (R.TT_CFG 2)
    let t := on false true 4 (sched 1101 0)
    let p := on true true 4 (sched 1101 8)
    let due (i : Nat) : State := { t with now := i, clk := 20, clock := { t.clock with tts := [(2, ⟨1, 1, [1101 * 2 ^ 32], false⟩)] } }
    let fired := after (.ttFire 2) (due (1101 * 2 ^ 32))
    t.flag (F.TT_CFG.EN 2) = true ∧ on false true 4 t = bad t ∧ on false true 3 (sched 1101 0) = bad (sched 1101 0) ∧
    on true false 4 (sched 1101 7) = bad (sched 1101 7) ∧ on true false 4 (sched 1101 7) = bad (sched 1101 7) ∧
    on true true 5 (sched 1101 8) = bad (sched 1101 8) ∧ p.flag (F.TT_CFG.MODE 2) = true ∧
    (on false true 4 (sched 1099 0)).flag (F.TT_CFG.EN 2) = false ∧ (on false true 4 (sched 1099 0)).fld (F.TT_STAT.MISSED 2) = 1 ∧
    (on false true 4 (sched 1100 0)).flag (F.TT_CFG.EN 2) = true ∧
    (after (.ttDisable 2 0x40000003) live).regN (R.TT_CFG 2) = 0x40000003 ∧ (after (.ttDisable 2 0) t).flag (F.TT_CFG.EN 2) = false ∧
    (after (.ttDisable 2 0) (due 5)).flag (F.TT_CFG.EN 2) = true ∧ after (.ttFire 2) live = live ∧
    after (.ttFire 2) (due (1101 * 2 ^ 32 - 1)) = due (1101 * 2 ^ 32 - 1) ∧ fired.fld (F.TT_STAT.FIRED 2) = 1 ∧ fired.flag (evPend 198) = true ∧
    nth fired.pins.ttoutEnd 2 none = some 24 ∧ (after (.ttoutPulseEnd 2) { fired with clk := 24 }).ttout 2 = false ∧
    after (.ttoutPulseEnd 2) { fired with clk := 23 } = { fired with clk := 23 } ∧ after (.ttoutPulseEnd 2) live = live ∧
    (let a := after (.ttinEdge 1 false) (sched 0 0)
     a.reg64 (R.TIM_TTIN_LO 1) (R.TIM_TTIN_HI 1) = 1001 ∧ a.fld F.TIM_TTINCNT.CNT1 = 1) ∧
    (after (.ttinEdge 0 true) (sched 0 0)).reg64 (R.TIM_TTIN_LO 0) (R.TIM_TTIN_HI 0) = 1000 := by decide +kernel

/-! ### Calibration -/

/-- A store whose slot 0 holds a set record of KIND and erased bytes, closed by the CRC of its bytes. -/
def setBytes : List Host.Cell := [(0x40000, 0x50), (0x40001, 0), (0x40002, 0), (0x40003, 0)]
def setCrc : Nat := crc32c (Sparse.getMany erasedDefault setBytes 0x40000 slotLen)
def factoryKeep (c : Nat) : List Host.Cell := setBytes ++ [(0x42240, BitVec.ofNat 8 c), (0x42241, BitVec.ofNat 8 (c / 256)),
  (0x42242, BitVec.ofNat 8 (c / 256 / 256)), (0x42243, BitVec.ofNat 8 (c / 256 / 256 / 256))]

/-- A device whose slot 0 holds a FACTORY set for bank 0, which measures alone. -/
def calibrating : State :=
  { ((live.setFld (F.CAL_SET_INFO.SOURCE 0) 1).setFld (F.CAL_SET_INFO.BANKS 0) 1).setFld F.CAL_RUNSTAT.STATE 1 with
    keep := factoryKeep setCrc
    cal := ⟨1, [], 0⟩ }

theorem crcStep_lt (n : Nat) (b : Bool) (h : n < 2 ^ 32) : crcStep 32 (crcPoly 3) true n b < 2 ^ 32 := by
  have hp : reverseBits 32 (crcPoly 3) < 2 ^ 32 := by decide +kernel
  simp only [crcStep, if_true]
  split
  · exact Nat.xor_lt_two_pow (by omega) hp
  · omega

theorem crc32c_lt (l : List Byte) : crc32c l < 2 ^ 32 := by
  have h (bs : List Bool) (n : Nat) (hn : n < 2 ^ 32) : bs.foldl (crcStep 32 (crcPoly 3) true) n < 2 ^ 32 := by
    induction bs generalizing n with
    | nil => exact hn
    | cons b t ih => exact ih _ (crcStep_lt n b hn)
  exact Nat.xor_lt_two_pow (h _ _ (by decide)) (by decide)

theorem factoryKeep_get (c j : Nat) (h : j < 0x42240) : Sparse.get erasedDefault (factoryKeep c) j = Sparse.get erasedDefault setBytes j := by
  have h1 : j ≠ 0x42240 := by omega
  simp only [Sparse.get, factoryKeep, setBytes, List.cons_append, List.nil_append, Sparse.find?]
  repeat' split
  all_goals rfl

theorem factoryKeep_crc (c : Nat) : Sparse.getMany erasedDefault (factoryKeep c) 0x42240 4 = toBytes 4 c := rfl

theorem calibrating_record : calibrating.recordGood 0x40000 0x50 slotLen = true := by
  have hk : calibrating.keepNum 0x40000 4 = 0x50 := by decide +kernel
  have hr : calibrating.keepRead 0x40000 slotLen = Sparse.getMany erasedDefault setBytes 0x40000 slotLen :=
    Sparse.getMany_congr erasedDefault _ _ _ _ fun j _ hj => factoryKeep_get setCrc j (by simpa [slotLen] using hj)
  have hc : calibrating.keepNum (0x40000 + slotLen) 4 = setCrc := by
    have h : calibrating.keepNum (0x40000 + slotLen) 4 = ofBytes (toBytes 4 setCrc) := congrArg ofBytes (factoryKeep_crc setCrc)
    rw [h, ofBytes_toBytes]
    exact Nat.mod_eq_of_lt (crc32c_lt _)
  simp only [State.recordGood, hk, hc, hr, setCrc, BEq.rfl, Bool.and_self]

theorem slotCopy_first (s : State) (ha : s.recordGood 0x40000 0x50 slotLen = true) (hb : s.recordGood 0x44000 0x50 slotLen = false) :
    s.slotCopy 0 = some 0x40000 := by
  simp only [State.slotCopy, State.copyInEffect, slotAt, Nat.zero_mul, Nat.add_zero, Nat.one_mul, Nat.reduceAdd, ha, hb]

theorem calSets_first (s : State) (hs : s.slotCopy 0 = some 0x40000) (h0 : s.fld (F.CAL_SET_INFO.SOURCE 0) = 1)
    (hb : s.fld (F.CAL_SET_INFO.BANKS 0) = 1) (hn : ∀ k ∈ [1, 2, 3, 4, 5, 6, 7], s.fld (F.CAL_SET_INFO.SOURCE k) = 0) :
    s.calSets = [(0, 0x40000, 1, true)] := by
  have hr : List.range 8 = [0, 1, 2, 3, 4, 5, 6, 7] := rfl
  simp [State.calSets, hr, h0, hb, hs, hn]

theorem calibrating_sets : calibrating.calSets = [(0, 0x40000, 1, true)] :=
  calSets_first calibrating (slotCopy_first calibrating calibrating_record (by decide +kernel)) (by decide +kernel) (by decide +kernel)
    (by decide +kernel)

/-- Readings of bank 0 at a change, all n but for a spread in the first. -/
def readings (change : Nat) (spread : Int) : BankReadings :=
  ⟨0, change, List.replicate 96 (List.replicate 40 128), (List.replicate 15 0 ++ [spread]) :: List.replicate 127 (List.replicate 16 0), []⟩

/-- How a bank is judged: 0 it passes, 1 it has no sets, else 2 + the result. -/
def verdict (j : Except (Option CalFail) CalBank) : Nat := match j with
  | .ok _ => 0
  | .error none => 1
  | .error (some f) => 2 + f.1

theorem witness_judged :
    calibrating.fld F.CAL_RUNSTAT.STATE = 1 ∧ bitOf calibrating.cal.measuring 0 = true ∧ calibrating.cal.measuring = 2 ^ 0 ∧
    calibrating.cal.passed = [] ∧ setsOf calibrating.calSets 0 true ≠ [] ∧
    verdict (calibrating.judgeBank 0 (readings 4 99)) = 0 ∧ verdict (calibrating.judgeBank 0 (readings 4 100)) = 9 ∧
    verdict (calibrating.judgeBank 0 (readings 5 0)) = 6 ∧ (readings 4 99).wf = true := by
  simp only [State.judgeBank, calibrating_sets]
  decide +kernel

theorem witness_calibration :
    let start (banks : Fin 65536) (s : State) : State := after (.calRunStart banks) s
    let t := start 5 live
    let busy := start 1 ((live.setFld (F.SE_STATE.STATE 0) 2).setReg (R.SE_CHMAP 0 0) 1)
    let a := after (.calRunAbort 0) t
    let done (s : State) : State := after (.calBankComplete 2 (readings 9 9) true) s
    t.cal.measuring = 5 ∧ t.fld F.CAL_RUNSTAT.STATE = 1 ∧ start 1 t = t.report 249 kRegAccess R.CAL_RUN ∧
    (start 0 live).fld F.CAL_RUNSTAT.STATE = 0 ∧ busy.fld (calResult 0) = 2 ∧ busy.fld F.CAL_RUNSTAT.STATE = 0 ∧
    a.cal.measuring = 0 ∧ a.fld (calResult 2) = 3 ∧ a.fld (calResult 1) = 0 ∧ done live = live ∧ setsOf t.calSets 2 true = [] ∧
    (done t).fld (calResult 2) = 8 ∧ (done t).cal.measuring = 1 ∧ (selectCells (List.replicate 40 96 ++ [95, 161])).length = 32 := by
  decide +kernel

theorem judge_cal (s : State) (c : Cal) (b : Nat) (r : BankReadings) : { s with cal := c }.judgeBank b r = s.judgeBank b r := rfl

/-! ### Faults, replay and pairs -/

/-- A device in SERVICE, in core cycle 8, with fault messages on their way. -/
def faulty (l : List FaultMsg) : State := { live with clk := 5, faultIn := l }

theorem witness_registration :
    let m : FaultMsg := ⟨8, 20, kCheck, 3⟩
    let s := faulty [m]
    let t := after .faultRegister s
    let full := s.setSource 20 { s.source 20 with count := 0xFFFF }
    let self := (faulty [⟨8, 271, 1, 2⟩]).setSource 271 { s.source 271 with count := 0xFFFF }
    let again := after .faultRegister { t with faultIn := [⟨8, 20, kCheck, 4⟩, ⟨8, 3, kCheck, 0⟩] }
    (s.faultIn.find? s.receives = some m) ∧ (t.source 20).count = 1 ∧ t.flag (stickyBit 20) = true ∧
    (t.source 20).record = faultWord s.ns 3 kCheck 20 ∧ t.firstFault = faultWord s.ns 3 kCheck 20 ∧ t.faultIn = [] ∧ t.reactions.length = 1 ∧
    (again.source 20).count = 1 ∧ (again.source 3).count = 1 ∧ again.firstFault = faultWord s.ns 0 kCheck 3 ∧
    (after .faultRegister { again with clk := 10, faultIn := [⟨8, 20, kCheck, 4⟩] }).firstFault = again.firstFault ∧
    (after .faultRegister { again with clk := 10, faultIn := [⟨8, 20, kCheck, 4⟩] }).reactions.map (·.again) = [false, false, true] ∧
    (let out (c : Nat) : State := after .faultRegister { s.setSource 20 { s.source 20 with cfg := 0x20 } with released := c }
     (out 9).flag F.FLT_STAT.FAULTOUT = true ∧ (out 8).flag F.FLT_STAT.FAULTOUT = false) ∧
    (after .faultRegister full).fld F.FLT_STAT.FAILED = 1 ∧ (after .faultRegister full).faultIn = [⟨8, 271, kCheck, 20⟩] ∧
    (after .faultRegister self).fld F.FLT_STAT.FAILED = 1 ∧ (after .faultRegister self).faultIn = [] ∧
    after .faultRegister (faulty [⟨9, 20, 1, 1⟩]) = faulty [⟨9, 20, 1, 1⟩] ∧
    after .faultRegister (s.setReg R.SYS_BOOT_STATE 0xAA000000) = s.setReg R.SYS_BOOT_STATE 0xAA000000 := by decide +kernel

theorem witness_reactions :
    let react (src cfg : Nat) (again : Bool) (s : State) : State := after .faultReaction { s with reactions := [⟨7, src, cfg, again⟩] }
    let s := faulty []
    let inWindow (src : Nat) (fenced : Bool) : State := s.setSource src { s.source src with window := true, fenced := fenced }
    (react 20 16 true s).bootState = 1 ∧ (react 20 16 false s).regN R.SYS_RESETCAUSE = 0x38000014 ∧
    (react 20 0x2F true s).flag F.FLT_STAT.FAULTOUT = true ∧ ((react 20 0x2F true s).source 20).fenced = false ∧
    (react 20 1 false s).flag (evPend 194) = true ∧ (react 20 0x20 false s).flag F.FLT_STAT.FAULTOUT = true ∧
    ((react 80 8 false s).source 80).fenced = true ∧ ((react 143 8 false s).source 143).fenced = true ∧
    ((react 256 4 false s).source 256).resetting = some 8 ∧ ((react 259 4 false s).i3c 3).due = true ∧
    ((react 20 4 false (inWindow 20 false)).source 20).fenced = true ∧ (react 20 4 false (inWindow 20 false)).eState 20 = 4 ∧
    (react 20 0x44 false (inWindow 20 true)).bootState = 1 ∧ (react 20 0x48 false (inWindow 20 true)).bootState = 1 ∧
    (let w : State := { s with reactions := [⟨8, 20, 16, false⟩] }
     after .faultReaction w = w) ∧ after .faultReaction s = s := by decide +kernel

theorem witness_recovery :
    let s := faulty []
    let sel (src : Nat) (s : State) : State := s.setFld F.FLT_SRCSEL.SOURCE src
    let out := (s.setFld F.FLT_STAT.FAULTOUT 1)
    let justNow : State := { out with reactions := [⟨8, 1, 0x20, false⟩] }
    let set (latest : Option (Nat × Nat)) : State := (s.setFld (stickyBit 319) 1).setSource 319 ⟨0, 1, 7, false, false, none, none, latest⟩
    let eng := sel 63 (s.setFld (F.SE_STATE.STATE 63) 4)
    let path := sel 64 (s.setSource 64 { s.source 64 with fenced := true })
    (after .faultOutRelease out).flag F.FLT_STAT.FAULTOUT = false ∧ (after .faultOutRelease out).released = 9 ∧ after .faultOutRelease justNow = justNow ∧
    (after .faultClearFirst (s.setReg (R.FLT_FIRST 2) 5)).firstFault = 0 ∧ after (.faultInject 271 9) s = s.report 271 kInjected 0xFFFFFFFFFFFF ∧
    after (.faultInject 272 9) s = s ∧ ((after (.stickyClear 319) (set (some (9, 8)))).source 319).record = 9 ∧
    ((after (.stickyClear 319) (set (some (9, 7)))).source 319).record = 0 ∧
    (after (.stickyClear 319) (set none)).flag (stickyBit 319) = false ∧ after .faultUnfence (sel 272 s) = sel 272 s ∧
    after .faultUnfence (sel 232 s) = sel 232 s ∧ after .faultUnfence (sel 63 s) = sel 63 s ∧
    ((after .faultUnfence eng).source 63).resetting = some 8 ∧ (after .faultUnfence eng).eState 63 = 4 ∧
    hasReset 64 = false ∧ hasFence 64 = true ∧ ((after .faultUnfence path).source 64).checking = some 8 := by decide +kernel

theorem witness_reset_ends :
    let s := faulty []
    let resetting (src : Nat) : State := (s.setFld (F.SE_STATE.STATE 9) 4).setSource src { s.source src with resetting := some 3, fenced := true }
    let checking := s.setSource 64 { s.source 64 with checking := some 3, fenced := true }
    after (.blockResetDone 9 ⟨true, false⟩) s = s ∧ ((after (.blockResetDone 9 ⟨true, false⟩) (resetting 9)).source 9).fenced = false ∧
    (after (.blockResetDone 9 ⟨true, false⟩) (resetting 9)).eState 9 = 0 ∧
    (after (.blockResetDone 9 ⟨true, false⟩) ((resetting 9).setEngine 9 { s.engine 9 with slot := some 5 })).eState 9 = 3 ∧
    ((after (.blockResetDone 239 ⟨true, false⟩) (resetting 239)).source 239).fenced = true ∧
    ((after (.blockResetDone 9 ⟨false, false⟩) (resetting 9)).source 9).fenced = true ∧ (after (.blockResetDone 9 ⟨false, false⟩) (resetting 9)).eState 9 = 4 ∧
    (after (.blockResetDone 9 ⟨false, false⟩) (resetting 9)).faultIn.map (·.src) = [9] ∧
    ((after (.blockResetDone 9 ⟨true, true⟩) (resetting 9)).source 9).fenced = true ∧ (after (.blockResetDone 9 ⟨true, true⟩) (resetting 9)).eState 9 = 4 ∧
    ((after (.blockResetDone 239 ⟨false, true⟩) (resetting 239)).source 239).fenced = true ∧
    ((after (.blockResetDone 9 ⟨true, false⟩) (resetting 9)).micro 9).image = romImage ∧ imageBase s.sourceImage = 0 ∧ after (.selfCheckDone 64 true) s = s ∧
    ((after (.selfCheckDone 64 true) checking).source 64).fenced = false ∧ ((after (.selfCheckDone 64 false) checking).source 64).fenced = true ∧
    (after (.selfCheckDone 64 false) checking).faultIn.map (·.kind) = [kCheck] := by decide +kernel

/-- Group 0 paired on port 3 as primary, with a burst from 2,500 ns in slot 5, in an engine state. -/
def paired (st : Nat) (v : PairSg) : State :=
  let s := ((attached id).setReg R.BKS_SGMASK_LO 1).setFld F.BKS_CFG.ROLE 1
  let s := (((s.setFld F.BKS_CFG.PORT 3).setFld F.TIM_STAT.STATE 1).setReg (R.SE_CHMAP 0 0) 1).setFld (F.SE_STATE.STATE 0) st
  ((s.setSlot 5 { Task.none with state := .running, desc := 5 }).setPair 0 v).setEngine 0
    { Engine.idle with slot := some 5, start := some (2500 * 8192) }

/-- A pair frame of group 0. -/
def pairFrame (type cycle digest : Nat) (clean : Bool) : Arrival := ⟨1, 2, 0, type * 64 + 9 * 2 ^ 16 + cycle * 2 ^ 32 + digest * 2 ^ 96, clean⟩

theorem witness_pair_frames :
    let s := paired 1 PairSg.off
    let digest := s.armDigest 5 % 2 ^ 62 + 2 * 2 ^ 62
    let arm (d : Nat) : Instr := .pairArmRx 3 (pairFrame 1 2500 d true)
    let rx (d : Nat) : State := after (.pairDigestRx 3 (pairFrame 0 4095 d true)) ((paired 2 { PairSg.off with matched := true, own := [(false, 4095, 7, 0)] }))
    let two (d : Nat) : State := after (.pairDigestRx 3 (pairFrame 0 4095 d true)) ((paired 2 { PairSg.off with matched := true, disagreed := true, own := [(false, 4095, 7, 0)] }))
    (s.carries 3 && s.paired 0) = true ∧ ((after (arm digest) s).pair 0).matched = true ∧ ((after (arm 0) s).pair 0).matched = false ∧
    (after (arm 0) s).fld (F.BKS_SGSTAT.PBURST 0) = 9 ∧ after (arm digest) (attached id) = attached id ∧ after (arm 0) live = live ∧
    after (.pairArmRx 3 (pairFrame 1 0 0 false)) s = Answered s (s.discardFrame 3) ∧
    (after (.pairTakeoverRx 3 (pairFrame 2 0 0 true)) (s.setFld F.BKS_CFG.ROLE 2)).flag (F.BKS_SGSTAT.CARRIED 0) = true ∧
    (rx 7).faultIn = [] ∧ ((rx 7).pair 0).own = [] ∧ (rx 8).faultIn = [⟨0, 270, kDigest, 0⟩] ∧ (rx 8).fld F.BKS_STAT.DISAGREE = 1 ∧
    (two 8).faultIn = [] ∧ ((two 8).pair 0).disagreed = true := by decide +kernel

theorem witness_pair_times :
    let s := paired 1 PairSg.off
    let at' (n : Nat) (s : State) : State := { s with now := n * 2 ^ 32, clk := n }
    let t := after (.backstayMatchDeadline 0) (at' 500 s)
    let lost := (paired 2 { PairSg.off with matched := true, own := [(false, 4095, 7, 0)] })
    let m := (((paired 2 { PairSg.off with matched := true }).setReg (R.SE_CYCLE_LO 0) 4098).setFld (F.SE_CFG.FLAT 0) 3).setReg (R.PG_PERIOD_LO 0) 40960
    let m := m.setEngine 0 { m.engine 0 with begun := true, nextStart := 0 }
    let held := { lost with pselHeld := 5 }
    after (.backstayMatchDeadline 0) (at' 499 s) = at' 499 s ∧ t.eState 0 = 0 ∧ (t.slot 5).done = some (stDeadline, 0, 0) ∧
    t.flag (F.BKS_SGSTAT.NOARM 0) = true ∧ after (.backstayMatchDeadline 0) (at' 500 live) = at' 500 live ∧ after (.digestSend 0) s = s ∧
    (m.pair 0).taken + 4095 + m.flat 0 = m.seCycle 0 ∧ m.eState 0 = 2 ∧ (m.engine 0).nextStart ≤ toTick m.now ∧
    (after (.partnerLostTimeout 0) (at' 4000 lost)).faultIn = [⟨6400, 270, kPartner, 0⟩] ∧
    ((after (.partnerLostTimeout 0) (at' 4000 lost)).pair 0).silent = true ∧ after (.partnerLostTimeout 0) (at' 3999 lost) = at' 3999 lost ∧
    bitOf (after (.pselRestore 4) held).pselHeld 2 = false ∧ (after (.pselRestore 4) held).faultIn = [] ∧
    bitOf (after (.pselRestore 1) held).pselHeld 0 = true ∧ (after (.pselRestore 1) held).faultIn.length = 1 := by decide +kernel

/-! ### Shroud and Crow's Nest -/

/-- A device in SERVICE in a lifecycle state, with an unprotected allocation of 4,096 bytes at 0x1000 and a protected one behind it. -/
def guarded (life : Nat) : State :=
  let s := ((live.setReg (R.MEM_AT_BASE 0) 0x1000).setReg (R.MEM_AT_SIZE 0) 0x80000001).setReg (R.MEM_AT_BASE 1) 0x2000
  put (((s.setReg (R.MEM_AT_SIZE 1) 0xC0000001).setFld F.SHR_STAT.LIFECYCLE life).setFld F.SHR_STAT.IDENT 1) 0x2FFF 1 0xAA

/-- A report is requested into an offset. -/
def attesting (life a : Nat) : State :=
  { ((guarded life).setReg R.SHR_ATT_ADDR a).setFld F.SHR_ATT_CTRL.BUSY 1 with shroud := { Shroud.off with keys := some (3, 4) } }

theorem witness_attestation :
    let s := attesting 2 0x1000
    let result (s : State) : Nat := (after .attestationDone s).fld F.SHR_ATT_CTRL.RESULT
    let holds (a n : Nat) : Bool := match (guarded 2).poolHolding a n with | some p => !p.prot | none => false
    let fused (n : Nat) (next : Option Nat) : State := { live with fuses := { live.fuses with lifecycle := n, lcNext := next } }
    let moved (c : Instr) (n : Nat) (next : Option Nat) : Option Nat := (after c (fused n next)).fuses.lcNext
    after .attestationStart s = s.report 249 kRegAccess R.SHR_ATT_CTRL ∧ (after .attestationStart live).flag F.SHR_ATT_CTRL.BUSY = true ∧
    after .attestationDone live = live ∧ s.flag F.SHR_STAT.IDENT = true ∧ s.fld F.SHR_STAT.DEBUG = 0 ∧ holds 0x1000 512 = true ∧
    holds 0x1E00 512 = true ∧ holds 0x1E40 512 = false ∧ holds 0x2000 512 = false ∧ result (attesting 2 0x1E40) = 2 ∧
    result (attesting 2 0x1001) = 2 ∧ result (attesting 2 0x2000) = 2 ∧ result (attesting 0 0x1000) = 1 ∧
    result { s with shroud := Shroud.off } = 1 ∧ moved .lifecycleDeploy 1 none = some 2 ∧ moved .lifecycleReturn 1 none = some 3 ∧
    moved .lifecycleReturn 2 none = some 3 ∧ moved .lifecycleReturn 1 (some 2) = some 3 ∧
    after .lifecycleDeploy (fused 2 none) = (fused 2 none).report 249 kRegAccess R.SHR_CTRL ∧
    after .lifecycleReturn (fused 3 none) = (fused 3 none).report 249 kRegAccess R.SHR_CTRL := by decide +kernel

theorem witness_lifecycle :
    let provision : Instr := .lifecycleProvision 77 [1] [2, 3] []
    let s := live.setFld F.SHR_STAT.DEBUG 2
    let t := after provision s
    let busy := live.setFld (F.SE_STATE.STATE 63) 2
    t.fuses.seed = some 77 ∧ t.fuses.lcNext = some 1 ∧ t.kept.certificate = [2, 3] ∧ after provision live = live ∧ after provision t = t ∧
    (after (.extestInstruction 3) live).pins.scan = 3 ∧ (after (.extestInstruction 3) busy).pins.scan = 0 := by decide +kernel

/-- A debug request of a level is written; the nonce in force is n. -/
def requesting (life level n : Nat) : State :=
  (((guarded life).setReg (R.SHR_DBG_REQ 0) 0x60).setReg (R.SHR_DBG_REQ 1) level).setReg (R.SHR_DBG_NONCE 0) n

theorem witness_debug_open :
    let asks (s : State) : Option Nat := s.openFails
    let ok := requesting 0 2 0
    let busy := ok.setFld F.SHR_DBG_CTRL.BUSY 1
    let part := { ok with part := { ok.part with uid := 1 } }
    (asks (ok.setFld (F.SE_STATE.STATE 63) 1) = some 6 ∧ asks (withTask ok .checking 3 0) = some 6 ∧ asks (ok.setFld F.SHR_STAT.DEBUG 1) = some 6 ∧
      asks (ok.setFld F.SYS_PWR.STATE 1) = some 6) ∧
    (asks (requesting 0 3 0) = some 2 ∧ asks (requesting 0 0 0) = some 2 ∧ asks part = some 2 ∧ asks (ok.setReg (R.SHR_DBG_REQ 23) (2 ^ 31)) = some 2) ∧
    asks (requesting 0 2 1) = some 3 ∧ asks (requesting 0 1 0) = some 5 ∧ asks (requesting 2 2 0) = some 5 ∧ after .debugOpen busy = busy ∧
    ok.flag F.SHR_DBG_CTRL.BUSY = false ∧ ok.openFails = none ∧ (ok.poolAllocs.any fun p => p.prot) = true ∧ ok.poolRead 0x2FFF 1 = [0xAA] := by
  decide +kernel

/-- A request of level 2 in PROVISIONED by a key whose digest is not the fused one is not signed as R428 asks. -/
def unsigned' : State :=
  { requesting 1 2 0 with fuses := { (requesting 1 2 0).fuses with dbgKey := Config.sha512 (toBytes 32 0) % 2 ^ 256 + 1 } }

theorem witness_debug_unsigned :
    unsigned'.lifecycle = 1 ∧ unsigned'.dbgReq 4 1 = 2 ∧ unsigned'.dbgReq 0x30 32 = 0 ∧
    Config.sha512 (toBytes 32 0) % 2 ^ 256 ≠ unsigned'.fuses.dbgKey := by
  have h : unsigned'.fuses.dbgKey = Config.sha512 (toBytes 32 0) % 2 ^ 256 + 1 := rfl
  refine ⟨by decide +kernel, by decide +kernel, by decide +kernel, ?_⟩
  rw [h]
  omega

theorem witness_erase : Stored (requesting 0 2 0) ∧ (requesting 0 2 0).inUse = true := by
  unfold Stored StoresWf
  decide +kernel

theorem witness_debug_close :
    let owner := (guarded 1).setFld F.SHR_STAT.DEBUG 1
    let t := after .debugClose owner
    let erasing (level : Nat) : State := { attesting 1 0 with shroud := { (attesting 1 0).shroud with erase := some level } }
    let ended (level : Nat) : State := after .debugEraseDone (erasing level)
    after .debugClose live = live.report 249 kRegAccess R.SHR_DBG_CTRL ∧ t.shroud.erase = some 0 ∧ t.poolRead 0x2FFF 1 = [0] ∧
    after .debugEraseDone live = live ∧ (ended 0).fld F.SHR_DBG_CTRL.RESULT = 7 ∧ (ended 1).fld F.SHR_STAT.DEBUG = 1 ∧
    (ended 1).shroud.keys = some (3, 4) ∧ (ended 2).flag F.SHR_STAT.IDENT = false ∧ (ended 2).shroud.keys = none := by decide +kernel

/-- Counter 7 counts event 3 with a value and CFG bits. -/
def counting (v : Nat) (sample mode : Nat) : State :=
  let s := ((live.setFld F.CNS_GCTRL.RUN 1).setFld (F.CNS_CTR_CFG.EN 7) 1).setFld (F.CNS_CTR_CFG.EVENT 7) 3
  ((s.setFld (F.CNS_CTR_CFG.SAMPLE 7) sample).setFld (F.CNS_CTR_CFG.MODE 7) mode).setCns 7 v

theorem witness_counters :
    let wrap (n : Nat) (s : State) : State := after (.cnsCounterWrap 7 n) s
    let top := 2 ^ 48 - 2
    let held := { wrap 2 (counting top 1 0) with clk := 5 }.setCns 7 top
    let err := after (.cnsCounterCheckError 7) (counting top 0 0)
    (wrap 2 (counting top 0 0)).cns 7 = 0 ∧ (wrap 5 (counting top 0 0)).cns 7 = 3 ∧ bitOf ((wrap 2 (counting top 0 0)).fld F.CNS_OVF.WRAPPED) 7 = true ∧
    wrap 1 (counting top 0 0) = counting top 0 0 ∧ wrap 9 (counting top 0 1) = counting top 0 1 ∧ (wrap 9 (counting (top + 1) 0 1)).cns 7 = 0 ∧
    wrap 2 live = live ∧ (wrap 2 (counting top 1 0)).flag F.CNS_SAMPSTAT.VALID = true ∧ (wrap 2 (counting top 1 0)).fld F.CNS_SAMPSTAT.CTRS = 128 ∧
    held.cnsCycle ≠ 0 ∧ (wrap 2 held).fld F.CNS_SAMPSTAT.LOST = 1 ∧ err.cns 7 = 0 ∧ err.cnsCounts 7 3 = false ∧
    err.faultIn = [⟨0, 269, kCheck, 0⟩] ∧ 7 ∉ (after (.cnsCounterWrite 7 false 9) (err.setFld (F.CNS_CTR_CFG.EN 7) 0)).cnsStopped := by decide +kernel

theorem witness_counter_writes :
    let c := counting 9 0 0
    let window (n : Nat) : State := { (live.setFld F.CNS_BWCFG.EN 1).setFld F.CNS_BWCFG.WIN 2 with clk := n, bwNow := [5, 0, 0, 0, 0, 0, 0, 0, 0, 0, 0, 7] }
    let t := after .cnsBwWindowEnd (window 2000)
    after (.cnsClearAll true) c = (c.report 249 kRegAccess R.CNS_GCTRL).setFld F.CNS_GCTRL.RUN 1 ∧
    (after (.cnsClearAll true) (c.setFld F.CNS_GCTRL.RUN 0)).cns 7 = 0 ∧ (after (.cnsClearAll true) (c.setFld F.CNS_GCTRL.RUN 0)).flag F.CNS_GCTRL.RUN = true ∧
    after (.cnsCounterWrite 7 true 9) c = c.report 249 kRegAccess (R.CNS_CTR_HI 7) ∧
    (after (.cnsCounterWrite 6 true 0x10009) c).cns 6 = 9 * 2 ^ 32 ∧ (after (.cnsCounterWrite 6 false 9) c).cns 6 = 9 ∧
    t.reg64 (R.CNS_BW_LO 11) (R.CNS_BW_HI 11) = 7 ∧ t.reg64 (R.CNS_BW_LO 0) (R.CNS_BW_HI 0) = 5 ∧ t.bwStart = 2000 ∧ nth t.bwNow 11 9 = 0 ∧
    after .cnsBwWindowEnd (window 1999) = window 1999 := by decide +kernel

/-! ### Start-up, resets, power and the boot flash -/

/-- A device in a boot state since 0 ns, at n ns. -/
def starting (st n : Nat) : State := { State.reset.setReg R.SYS_BOOT_STATE (st * 0x11000000) with clk := n }

theorem witness_resets :
    let low := after (.powerOnReset true) live
    let off := { live with boot := { live.boot with pwrgood := false } }
    let fusing := { live with fuses := { live.fuses with fwWrite := some 5 } }
    let rom := after .resetRelease { State.reset with fuses := { live.fuses with lcNext := some 1 } }
    let chip := after (.chipReset true) { live with kept := { live.kept with attempts := 3 } }
    low.bootState = 0 ∧ low.kept.cause = 0x18000000 ∧ (after (.powerOnReset true) State.reset).boot.resetN = false ∧
    after (.powerOnReset false) live = live ∧ (after (.powerOnReset false) off).kept.cause = 0x08000000 ∧ after .pwrgoodFall off = off ∧
    (after .pwrgoodFall fusing).fuses.fwWrite = none ∧ (after .pwrgoodFall fusing).bootState = 0 ∧
    (after .resetRelease { off with regs := [] }).bootState = 0 ∧ (after .resetRelease live).bootState = 8 ∧ rom.bootState = 1 ∧
    rom.fuses.lifecycle = 1 ∧ rom.fuses.lcNext = none ∧ rom.fld F.SYS_BOOT_STATE.ATTEMPTS = 1 ∧ live.answers = true ∧
    chip.bootState = 1 ∧ chip.kept.attempts = 1 ∧ chip.regN R.SYS_RESETCAUSE = 0x28000000 ∧
    (after .catrainRequest (live.setFld F.SHR_STAT.LIFECYCLE 1)).boot.catrain = true ∧
    after .catrainRequest (live.setFld F.SHR_STAT.LIFECYCLE 2) = (live.setFld F.SHR_STAT.LIFECYCLE 2).report 249 kRegAccess R.SYS_CTRL := by
  decide +kernel

theorem witness_flash_reset :
    let low := after (.powerOnReset true) { live with clk := 77 }
    let out := after .resetRelease { low with clk := 100 }
    low.flashRstN = false ∧ low.boot.resetN = false ∧ out.boot.resetN = true ∧ out.bootState = 1 ∧
    State.flashRstN { out with clk := 10099 } = false ∧ State.flashRstN { out with clk := 10100 } = true := by decide +kernel

theorem witness_function_reset :
    let s := (loaded.setFld (F.SE_STATE.STATE 0) 2).setSlot 5 { Task.none with state := .running, desc := 5 }
    let s := (s.setSlot 6 { Task.none with state := .ready, desc := 1 }).setFld F.REEF_GRANTED.UNITS 9
    let t := after (.functionReset 2) (s.setReg R.HIF_LINK 7)
    (s.slots.all fun p => p.2.state != .running || dOpcode p.2.desc == 5) = true ∧ s.busySg 0 = true ∧ s.bootState = 8 ∧
    s.boot.d3hot = false ∧ t.slots = [] ∧ t.eState 0 = 3 ∧ t.fld (F.SE_CAUSE.CAUSE 0) = 1 ∧ t.fld F.REEF_GRANTED.UNITS = 0 ∧
    t.regN R.HIF_LINK = 0 ∧ (after (.functionReset 0) (s.setReg R.HIF_LINK 7)).regN R.HIF_LINK = 7 ∧
    (after (.functionReset 1) (starting 7 0)).bootState = 7 := by decide +kernel

/-- A start in ROM, with a first firmware copy of 4 bytes of code in the flash and the signer's key digest in the fuses. -/
def imaged : State :=
  let head := toBytes 4 0x11 ++ toBytes 4 132 ++ toBytes 8 9 ++ toBytes 4 4 ++ toBytes 44 0
  { starting 1 25000000 with
    flash := (List.range 64).zipWith (fun i b => (0x100000 + i, b)) head
    fuses := { live.fuses with fwKey := Config.sha512 (toBytes 32 Config.firmwareKey) } }

/-- The first copy passes where its signature is good, which alone is not the model's to say. -/
theorem witness_firmware
    (signed : Config.ed25519 Config.firmwareKey (imaged.flashRead 0x100000 68) (imaged.flashNum 0x100044 64) = true) :
    imaged.firmwareGood 0x100000 = true := by
  have code : imaged.flashNum 0x100010 4 = 4 := by decide +kernel
  have head : (imaged.flashNum 0x100000 4 == 0x11 && imaged.flashNum 0x100004 4 == 132 && imaged.flashNum 0x10000F 1 == 0 &&
      imaged.flashNum 0x100018 40 == 0 && decide (imaged.flashNum 0x10000E 1 ≤ imaged.fld F.SYS_PART_ID.STEPPING) &&
      decide (imaged.fuses.fwMin ≤ imaged.flashNum 0x10000C 2)) = true := by decide +kernel
  have key : imaged.fuses.fwKey = Config.sha512 (toBytes 32 Config.firmwareKey) := rfl
  simp only [Bool.and_eq_true] at head
  simp [State.firmwareGood, code, key, head, signed]

theorem witness_rom :
    let late (st : Nat) : State := starting st (bootBound st + 1)
    let out (st : Nat) : State := after .bootTimeout (late st)
    (starting 1 25000000).working 1 = true ∧ after .bootRom (late 1) = late 1 ∧ (starting 1 0).firmwareGood 0x100000 = false ∧
    (starting 1 0).firmwareGood 0x600000 = false ∧ (starting 1 0).kept.attempts ≤ 3 ∧ (after .bootFirmware (starting 2 5000000)).bootState = 3 ∧
    after .bootFirmware (late 2) = late 2 ∧ (out 6).bootState = 1 ∧ (out 6).regN R.SYS_RESETCAUSE = 0x46000000 ∧ (out 9).bootState = 1 ∧
    after .bootTimeout (starting 6 150000000) = starting 6 150000000 ∧ after .bootTimeout live = live := by decide +kernel

/-- A start in MICROCODE with a patch image of one record in the flash. -/
def patched (stepping svn : Nat) : State :=
  let head := toBytes 4 0x10 ++ toBytes 4 168 ++ toBytes 4 7 ++ toBytes 2 svn ++ toBytes 1 stepping ++ toBytes 1 0 ++ toBytes 4 1 ++ toBytes 4 40 ++
    toBytes 40 0
  { (starting 3 0).setReg R.SYS_PART_ID 1 with
    flash := (List.range 64).zipWith (fun i b => (0xB00000 + i, b)) head
    fuses := { live.fuses with ucMin := 3 } }

/-- The patch is LOADED where its signature and tag are good and its plaintext holds records: that alone is not the model's to say. -/
theorem witness_patch (m : SMap Nat)
    (signed : Config.ed25519 Config.patchSigner ((patched 1 3).flashRead 0xB00000 104) ((patched 1 3).flashNum 0xB00068 64) = true)
    (tagged : Config.gcmTag Config.patchKey ((patched 1 3).flashNum 0xB00018 12) ((patched 1 3).flashRead 0xB00000 0x18)
      ((patched 1 3).flashRead 0xB00040 40) ((patched 1 3).flashNum 0xB00028 16) = true)
    (records : patchRecords 1 ((patched 1 3).stagePatch.stagedPatch 40) [] = some m) : (patched 1 3).patchCheck = (1, m) := by
  have head : (patched 1 3).flashNum 0xB00000 4 = 0x10 ∧ (patched 1 3).flashNum 0xB00004 4 = 168 ∧ (patched 1 3).flashNum 0xB0000C 2 = 3 ∧
      (patched 1 3).flashNum 0xB0000E 1 = 1 ∧ (patched 1 3).flashNum 0xB0000F 1 = 0 ∧ (patched 1 3).flashNum 0xB00010 4 = 1 ∧
      (patched 1 3).flashNum 0xB00014 4 = 40 ∧ (patched 1 3).flashNum 0xB00024 4 = 0 ∧ (patched 1 3).flashNum 0xB00038 8 = 0 ∧
      (patched 1 3).fld F.SYS_PART_ID.STEPPING = 1 ∧ (patched 1 3).fuses.ucMin = 3 := by decide +kernel
  obtain ⟨h0, h4, hC, hE, hF, h10, h14, h24, h38, hs, hm⟩ := head
  simp only [State.patchCheck, Nat.add_zero, Nat.reduceAdd, h0, h4, hC, hE, hF, h10, h14, h24, h38, hs, hm, signed, tagged, records]
  simp

theorem witness_stages :
    let none' := after (.bootMicrocode false) (starting 3 0)
    let bad (stepping svn : Nat) : State := after (.bootMicrocode false) (patched stepping svn)
    let t := after (.bootSelftest (2 ^ 63) [0, 2]) { starting 4 0 with pool := [(5, 1)] }
    let test := after .testEntry live
    let busy := live.setFld (F.SE_STATE.STATE 3) 1
    none'.bootState = 4 ∧ none'.fld F.SEQ_UCODE_STATUS.RESULT = 0 ∧ (bad 2 3).fld F.SEQ_UCODE_STATUS.RESULT = 3 ∧
    (bad 2 3).flag (evPend 193) = true ∧ (bad 1 2).fld F.SEQ_UCODE_STATUS.RESULT = 4 ∧ t.bootState = 5 ∧ t.pool = [] ∧
    t.poolBad = [0, 1, 2, 3, 8, 9, 10, 11] ∧ t.eState 63 = 4 ∧ t.eState 62 = 0 ∧ test.bootState = 9 ∧ (after (.testDone 0 []) test).bootState = 8 ∧
    after .testEntry busy = busy.report 249 kRegAccess R.SYS_CTRL ∧ after (.bootSelftest 0 []) live = live := by decide +kernel

theorem witness_stores :
    let spoilt := after (.bootMicrocode true) (patched 1 3)
    let erased := after (.bootMicrocode false) { starting 3 0 with boot := { (starting 3 0).boot with staging := [(0x2800, 5)] } }
    let test := after .testEntry live
    let fenced := after (.bootMicrocode false) ((starting 3 0).setFld (F.SE_STATE.STATE 9) 4)
    let keyed := live.setReg (R.MEM_AT_SIZE 5) 0xC0000001
    spoilt.fld F.SEQ_UCODE_STATUS.RESULT = 8 ∧ spoilt.flag F.SEQ_UCODE_STATUS.SOURCE = false ∧ spoilt.flag (evPend 193) = true ∧
    ({ starting 3 0 with boot := { (starting 3 0).boot with staging := [(0x2800, 5)] } } : State).masterWord 0x2800 = 5 ∧ erased.masterWord 0x2800 = 0 ∧
    (erased.micro 63).image = romImage ∧ (fenced.micro 9).image = 0 ∧ (fenced.micro 10).image = romImage ∧ (test.micro 3).image = diagnosticImage ∧
    imageBase diagnosticImage = 0x800 ∧ imageBase romImage = 0 ∧ imageBase patchedImage = 0x2000 ∧
    ((after (.testDone 0 []) test).micro 3).image = romImage ∧ after .testEntry keyed = keyed.report 249 kRegAccess R.SYS_CTRL := by decide +kernel

theorem witness_to_service :
    let cal := starting 5 10000000
    let ok : DramStart := ⟨true, true, 1, true⟩
    let found : List DramStart := [⟨true, true, 1, false⟩, ok, ⟨false, true, 1, true⟩, ⟨true, true, 2, true⟩, ok, ok, ok, ok]
    let begin' (catrain : Bool) : State :=
      { starting 6 0 with kept := { live.kept with board := 255 }, boot := { live.boot with catrain := catrain } }
    let mem := after (.bootMemory 9 30 found) (begin' false)
    let links := after .bootLinks ((starting 7 0).setFld (F.LNK_P_CFG.EN 2) 1)
    let service := after .bootService { links with clk := 3000000 }
    cal.working 5 = true ∧ cal.slotCopy 7 = none ∧ after (.bootCalibration []) live = live ∧ mem.bootState = 7 ∧ mem.fld (F.DRM_DC_STAT.CAUSE 0) = 1 ∧
    mem.fld (F.DRM_DC_STAT.CAUSE 2) = 2 ∧ mem.fld (F.DRM_DC_STAT.CAUSE 3) = 3 ∧ mem.dramFenced 1 = false ∧
    mem.fld F.SYS_BOOT_STATE.DCFENCED = 13 ∧ (after (.bootMemory 9 30 found) (begin' true)).kept.board = 255 ∧ links.portState 2 = 1 ∧
    links.boot.linksDone = true ∧ service.bootState = 8 ∧ service.fld F.SYS_BOOT_STATE.BOOTMS = 3 ∧ after .bootLinks links = links ∧
    after .bootService live = live := by decide +kernel

theorem witness_power :
    let ask (v : Fin 4) (s : State) : State := after (.powerStateRequest v) s
    let in' (v : Nat) : State := live.setFld F.SYS_PWR.STATE v
    let leaving (n v : Nat) : State := { (in' v).setFld F.SYS_PWR.PENDING 1 with clk := n, boot := { live.boot with leaving := some v } }
    let up := { (starting 7 0).setFld F.SYS_PWR.STATE 3 with boot := { live.boot with leaving := some 3, linksDone := true } }
    let d3 (n : Nat) : State := { live with clk := n, boot := { live.boot with d3hot := true } }
    (ask 1 live).fld F.SYS_PWR.STATE = 1 ∧ (ask 2 live).fld F.SYS_PWR.STATE = 2 ∧ (ask 3 live).fld F.SYS_PWR.STATE = 3 ∧ Stored live ∧
    (ask 1 (live.setFld (F.AQ_STAT.STATE 15) 1)).fld F.SYS_PWR.RESULT = 1 ∧ (ask 2 (live.setFld (F.SE_STATE.STATE 63) 1)).fld F.SYS_PWR.RESULT = 1 ∧
    (ask 0 (in' 2)).boot.leaving = some 2 ∧ (ask 1 (in' 2)).boot.leaveTo = 1 ∧ (ask 0 (in' 3)).bootState = 4 ∧ ask 2 (in' 2) = (in' 2).setFld F.SYS_PWR.RESULT 0 ∧
    (after .powerStateExitDone (leaving 20000 1)).fld F.SYS_PWR.STATE = 0 ∧ after .powerStateExitDone (leaving 19999 1) = leaving 19999 1 ∧
    (after .powerStateExitDone (leaving 1000000 2)).fld F.SYS_PWR.STATE = 0 ∧ after .powerStateExitDone (leaving 999999 2) = leaving 999999 2 ∧
    (after .powerStateExitDone up).bootState = 8 ∧ after .powerStateExitDone (leaving 0 3) = leaving 0 3 ∧ after .powerStateExitDone live = live ∧
    (after (.pciePowerStateChange true) live).fld F.SYS_PWR.STATE = 3 ∧ after (.pciePowerStateChange false) live = live ∧
    (after .d3hotRetry (d3 1000000)).fld F.SYS_PWR.STATE = 3 ∧ after .d3hotRetry (d3 999999) = d3 999999 := by
  unfold Stored StoresWf
  decide +kernel

theorem witness_flash :
    let at' (addr : Nat) : State := { live.setReg R.SYS_FLASH_ADDR addr with flash := [(0x1FC, 1)] }
    let refused (s : State) : State := s.report 249 kRegAccess R.SYS_FLASH_CTRL
    let r := after (.flashRead 4) (at' 0x1FC)
    let p := after (.flashProgram 4) ((at' 0x1FC).setReg (R.SYS_FLASH_DATA 0) 0xAB)
    let e := after (.flashErase 4) (at' 0x1FC)
    live.flashServed = true ∧ after (.flashRead 8) (at' 0x1FC) = refused (at' 0x1FC) ∧ after (.flashErase 3) (at' 0) = refused (at' 0) ∧
    after (.flashProgram 260) (at' 0) = refused (at' 0) ∧ after (.flashErase 8) (at' 0x1FC) ≠ refused (at' 0x1FC) ∧
    after (.flashRead 4) r = refused r ∧ r.boot.flash = some ⟨0, 0x1FC, 4⟩ ∧
    (after (.flashOpDone false) r).regN (R.SYS_FLASH_DATA 0) = 0xFFFFFF01 ∧ (after (.flashOpDone false) p).flashRead 0x1FC 4 = [0xAB, 0, 0, 0] ∧
    (after (.flashOpDone false) e).flash = [] ∧ (after (.flashOpDone true) e).fld F.SYS_FLASH_CTRL.RESULT = 1 ∧
    after (.flashOpDone true) live = live ∧ (after (.pcieLinkTrained 6 8) live).regN R.HIF_LINK = 48 * 2 ^ 16 + 8 * 16 + 6 := by decide +kernel

/-! ### The machine -/

theorem witness_steps :
    let waits := { live with pending := [Instr.timeAccept, .timeSet] }
    let stepped (s : State) : State := match step s with
      | .next t => t
      | _ => s
    stepped waits = { waits with pending := [.timeSet] } ∧ (stepped (stepped waits)).pending = [] ∧ stepped State.reset = State.reset ∧
    stepped live = { live with clk := 1, now := 2 ^ 32 } := by decide +kernel

/-- The pool of a device with a protected allocation, and the same with another secret there. -/
theorem witness_secrets :
    let s := guarded 0
    let pool' : List Host.Cell := [(0x2FFF, 0xBB)]
    ∀ x, Sparse.get poolDefault pool' x ≠ Sparse.get poolDefault s.pool x →
      ∃ p ∈ s.poolAllocs, p.prot = true ∧ p.base ≤ x ∧ x < p.base + p.bytes := by
  intro s pool' x h
  have hp : s.pool = [(0x2FFF, 0xAA)] := by decide +kernel
  have hx : x = 0x2FFF := by
    by_contra hx
    apply h
    simp [pool', hp, Sparse.get, Sparse.find?, hx]
  subst hx
  have ha : ⟨1, 0x2000, 4096, true⟩ ∈ s.poolAllocs := by decide +kernel
  exact ⟨_, ha, rfl, by decide, by decide⟩

/-! ### Well-formed commands -/

/-- Of each check of WellFormed: a command at its boundary passes, one beyond it is refused. -/
theorem test_wellformed_access :
    (Instr.registerWrite 4 0 0).wf = true ∧ (Instr.registerWrite 2 0 0).wf = false ∧ (Instr.rcFieldRead 1 0).wf = false ∧
    (Instr.loReadCapture 3).wf = false ∧ (Instr.bulkPortWrite 0 ⟨[], []⟩).wf = false ∧ (Instr.bulkPortWrite 0 ⟨[1, 2, 3], []⟩).wf = false ∧
    (Instr.bulkPortWrite 0 ⟨(List.replicate 512 7), [16]⟩).wf = true ∧ (Instr.bulkPortWrite 0 ⟨(List.replicate 516 7), []⟩).wf = false ∧
    (Instr.bulkPortRead 0 ⟨4096, false⟩).wf = true ∧
    (Instr.bulkPortRead 0 ⟨4100, true⟩).wf = false ∧ (Instr.bulkPortRead 0 ⟨0, true⟩).wf = false ∧ (Instr.bulkPortRead 0 ⟨6, true⟩).wf = false := by decide +kernel

theorem test_wellformed_units :
    (Instr.locatorTransition 0 (2 ^ 96)).wf = false ∧ (Instr.sensorRead [0, 0, 0]).wf = false ∧ (Instr.cnsCounterWrap 0 65).wf = false ∧
    (Instr.calBankComplete 0 ⟨0, 0, [], [], []⟩ true).wf = false ∧ (Instr.calBankComplete 0 (readings 0 0) true).wf = true ∧
    (Instr.calBankComplete 0 { readings 0 0 with steps := [[]] } true).wf = false ∧
    (Instr.tdcInputEdge 0 false (2 ^ 96) 0 true).wf = false ∧ (Instr.tdcInputEdge 0 false 0 1024 true).wf = false ∧
    (Instr.poolAccess 0 [⟨.fetch 0, 2 ^ 22, none⟩] .good).wf = false ∧
    (Instr.poolAccess 0 [⟨.fetch 0, 0, some (2 ^ 32, 0)⟩] .good).wf = false := by decide +kernel

theorem test_wellformed_links :
    let a (hops origin seq payload : Nat) : Arrival := ⟨hops, origin, seq, payload, true⟩
    (Instr.trainingSequenceRx 0 0 ⟨16, 0, false, false, 0, 0⟩ true 0).wf = false ∧
    (Instr.trainingSequenceRx 0 0 ⟨0, 0, false, false, 8, 0⟩ true 0).wf = false ∧ (Instr.tunePresetStep 0 [1, 2, 3]).wf = false ∧
    (Instr.linkFailure 0 (.codeError 4)).wf = false ∧ (Instr.linkFailure 0 (.aligned [0, 1, 2])).wf = false ∧ (Instr.linkFailure 0 (.aligned [0, 1, 2, 33])).wf = true ∧ (Instr.linkFailure 0 (.clockLost 3)).wf = true ∧
    (Instr.discoverRx 0 (a 15 65535 65535 (2 ^ 128 - 1))).wf = true ∧ (Instr.discoverRx 0 (a 16 0 0 0)).wf = false ∧
    (Instr.syncFrameRx 0 (a 0 65536 0 0)).wf = false ∧ (Instr.linkFrameRx 0 (a 0 0 65536 0)).wf = false ∧
    (Instr.linkFrameRx 0 (a 0 0 0 (2 ^ 64))).wf = false ∧ (Instr.failFrameRx 0 (a 0 0 0 (2 ^ 512))).wf = false ∧
    (Instr.timeRequestRx 0 (a 0 0 0 (2 ^ 256)) 0).wf = false ∧ (Instr.timeResponseRx 0 (a 0 0 0 (2 ^ 256)) 0).wf = false ∧
    (Instr.timeAnnounceRx 0 (a 0 0 0 (2 ^ 256))).wf = false ∧ (Instr.pairArmRx 0 (a 0 0 0 (2 ^ 192))).wf = false ∧
    (Instr.pairDigestRx 0 (a 0 0 0 (2 ^ 192))).wf = false ∧ (Instr.pairTakeoverRx 0 (a 0 0 0 (2 ^ 192))).wf = false ∧
    (Instr.eyeScanDone 0 (2 ^ 32)).wf = false ∧ (Instr.i3cDaa 0 [(2 ^ 48, 0, 0)]).wf = false ∧ (Instr.i3cHotJoin 0 0 256 0).wf = false ∧
    (Instr.i3cPoll 0 (2 ^ 15)).wf = false ∧ (Instr.i3cTransferDone 0 true (List.replicate 33 0)).wf = false := by decide +kernel

theorem test_wellformed_start :
    (Instr.bootSelftest (2 ^ 64) []).wf = false ∧ (Instr.bootSelftest 0 [2 ^ 22]).wf = false ∧ (Instr.testDone (2 ^ 64) []).wf = false ∧
    (Instr.testDone 0 [2 ^ 22]).wf = false ∧ (Instr.bootCalibration []).wf = false ∧ (Instr.bootMemory 0 0 []).wf = false ∧
    (Instr.pcieLinkTrained 2 8).wf = false ∧ (Instr.pcieLinkTrained 6 3).wf = false ∧ (Instr.pcieLinkTrained 6 8).wf = true ∧
    (Instr.lifecycleProvision (2 ^ 256) [] (List.replicate 160 0) []).wf = false ∧ (Instr.lifecycleProvision 0 [] [] []).wf = false := by
  decide +kernel

end Sys2Proof.Tests
end

section
/-! SUPPORT. The bits of a word as a register write merges them, and a sparse map in canonical form written with what it holds. -/
namespace Sys2Proof

theorem bitOf_eq_testBit (n i : Nat) : bitOf n i = n.testBit i := by
  rw [Nat.testBit_eq_decide_div_mod_eq]; rfl

@[simp] theorem bitOf_and (a b i : Nat) : bitOf (a &&& b) i = (bitOf a i && bitOf b i) := by
  simp only [bitOf_eq_testBit, Nat.testBit_and]

@[simp] theorem bitOf_or (a b i : Nat) : bitOf (a ||| b) i = (bitOf a i || bitOf b i) := by
  simp only [bitOf_eq_testBit, Nat.testBit_or]

/-- The bits of a that b does not have, within the width. -/
theorem bitOf_andNot {width i : Nat} (a b : Nat) (hi : i < width) :
    bitOf (andNot width a b) i = (bitOf a i && !bitOf b i) := by
  simp only [andNot, bitOf_eq_testBit, Nat.testBit_and, Nat.sub_sub, Nat.add_comm 1,
    Nat.testBit_two_pow_sub_succ (Nat.mod_lt b (Nat.two_pow_pos width)), Nat.testBit_mod_two_pow, hi, decide_true, Bool.true_and]

theorem bitOf_mod_two_pow {width i : Nat} (n : Nat) (hi : i < width) : bitOf (n % 2 ^ width) i = bitOf n i := by
  simp only [bitOf_eq_testBit, Nat.testBit_mod_two_pow, hi, decide_true, Bool.true_and]

@[simp] theorem bitOf_zero (i : Nat) : bitOf 0 i = false := by simp [bitOf_eq_testBit]

theorem bitOf_all_ones {width i : Nat} (hi : i < width) : bitOf (2 ^ width - 1) i = true := by
  simp [bitOf_eq_testBit, Nat.testBit_two_pow_sub_one, hi]

theorem bitsOf_mod_two_pow {b lo width : Nat} (n : Nat) (h : lo + width ≤ b) : bitsOf (n % 2 ^ b) lo width = bitsOf n lo width := by
  apply Nat.eq_of_testBit_eq
  intro i
  simp only [bitsOf, Nat.testBit_mod_two_pow, Nat.testBit_div_two_pow]
  by_cases hi : i < width
  · simp [hi, show i + lo < b by omega]
  · simp [hi]

theorem and_all_ones {width n : Nat} (hn : n < 2 ^ width) : n &&& (2 ^ width - 1) = n := by
  rw [Nat.and_two_pow_sub_one_eq_mod, Nat.mod_eq_of_lt hn]

theorem zero_andNot (width b : Nat) : andNot width 0 b = 0 := Nat.zero_and _

theorem andNot_all_ones (width n : Nat) : andNot width n (2 ^ width - 1) = 0 := by
  rw [andNot, Nat.mod_eq_of_lt (Nat.sub_lt (Nat.two_pow_pos width) Nat.one_pos), Nat.sub_self, Nat.and_zero]

theorem andNot_zero {width n : Nat} (hn : n < 2 ^ width) : andNot width n 0 = n := by
  rw [andNot, Nat.zero_mod, Nat.sub_zero, and_all_ones hn]

/-- A field apart from the one that was put reads as before. -/
theorem bitsOf_putBits_apart (n lo w v lo' w' : Nat) (h : lo + w ≤ lo' ∨ lo' + w' ≤ lo) :
    bitsOf (putBits n lo w v) lo' w' = bitsOf n lo' w' :=
  h.elim (bitsOf_putBits_above n lo w v lo' w') (bitsOf_putBits_below n lo w v lo' w')

end Sys2Proof

namespace Sys2Proof.Sparse

variable {V : Type}

theorem mem_of_find {m : List (Nat × V)} {k : Nat} {v : V} (h : find? m k = some v) : (k, v) ∈ m := by
  induction m with
  | nil => simp [find?] at h
  | cons p t ih =>
    obtain ⟨j, w⟩ := p
    by_cases hk : k = j
    · subst hk; simp_all [find?]
    · by_cases hlt : k < j
      · simp [find?, hk, hlt] at h
      · simp only [find?, hk, hlt, if_false] at h
        exact List.mem_cons_of_mem _ (ih h)

/-- Listing again what is listed changes nothing. -/
theorem insert_found {m : List (Nat × V)} {b k : Nat} {v : V} (hm : risingFrom b m = true) (h : find? m k = some v) :
    insert m k v = m := by
  induction m generalizing b with
  | nil => simp [find?] at h
  | cons p t ih =>
    obtain ⟨j, w⟩ := p
    simp only [risingFrom, Bool.and_eq_true, decide_eq_true_eq] at hm
    by_cases hk : k = j
    · subst hk
      simp only [find?, if_true, Option.some.injEq] at h
      simp [insert, h, dropTo_rising t hm.2 (Nat.lt_succ_self k)]
    · by_cases hlt : k < j
      · simp [find?, hk, hlt] at h
      · simp only [find?, hk, hlt, if_false] at h
        simp [insert, hk, hlt, ih hm.2 h]

/-- Unlisting a key that is not listed changes nothing. -/
theorem erase_unlisted {m : List (Nat × V)} {k : Nat} (h : find? m k = none) : erase m k = m := by
  induction m with
  | nil => rfl
  | cons p t ih =>
    obtain ⟨j, w⟩ := p
    by_cases hk : k = j
    · simp [find?, hk] at h
    · by_cases hlt : k < j
      · simp [erase, hk, hlt]
      · simp only [find?, hk, hlt, if_false] at h
        simp [erase, hk, hlt, ih h]

/-- A map in canonical form is not changed by writing at a key what the key reads as. -/
theorem set_get_self [DecidableEq V] (d : Nat → V) {m : List (Nat × V)} (hm : wf d m = true) (k : Nat) :
    set d m k (get d m k) = m := by
  simp only [wf, Bool.and_eq_true, List.all_eq_true] at hm
  obtain ⟨hrise, hlisted⟩ := hm
  cases hf : find? m k with
  | none => simp [set, get, hf, erase_unlisted hf]
  | some v =>
    have hv : v ≠ d k := by simpa using hlisted _ (mem_of_find hf)
    simp [set, get, hf, hv, insert_found hrise hf]

end Sys2Proof.Sparse
end

section
/-! SUPPORT. The register cards: what the fields of every card keep to, and what that says of the bits of each access type. -/
namespace Sys2Proof

/-- Two spans of bits do not overlap. -/
abbrev BitsApart (lo width lo' width' : Nat) : Prop := lo + width ≤ lo' ∨ lo' + width' ≤ lo

/-- The bits of a card that have an access type. -/
def Card.mask (c : Card) (a : Access) : Nat :=
  sumNat (c.fields.map fun f => if f.acc = a then (2 ^ f.width - 1) * 2 ^ f.lo else 0)

/-- A card's fields hold a bit or more each, lie in the register's 32 bits and do not overlap, and no bit is both RW and W1C. -/
abbrev Card.Laid (c : Card) : Prop :=
  (∀ f ∈ c.fields, 0 < f.width ∧ f.lo + f.width ≤ 32) ∧
  (c.fields.Pairwise fun f g => BitsApart f.lo f.width g.lo g.width) ∧ c.mask .rw &&& c.mask .w1c = 0

theorem ite_laid {p : Prop} [Decidable p] {a b : List Card} (ha : ∀ c ∈ a, c.Laid) (hb : ∀ c ∈ b, c.Laid) :
    ∀ c ∈ (if p then a else b), c.Laid := by
  split <;> assumption

theorem windowCards_laid (off : Nat) : ∀ c ∈ windowCards off, c.Laid := by
  unfold windowCards
  repeat' with_reducible apply ite_laid
  all_goals decide +kernel

theorem cardAt_laid {off : Nat} {c : Card} (h : cardAt off = some c) : c.Laid :=
  windowCards_laid off c (List.mem_of_find?_eq_some h)

/-- No bit of a register is both RW and W1C. -/
theorem accessMask_rw_and_w1c (off : Nat) : accessMask .rw off &&& accessMask .w1c off = 0 := by
  unfold accessMask
  cases h : cardAt off with
  | none => rfl
  | some c => exact (cardAt_laid h).2.2

theorem not_w1c_of_rw {off i : Nat} (h : bitOf (accessMask .rw off) i = true) : bitOf (accessMask .w1c off) i = false := by
  have hb := congrArg (bitOf · i) (accessMask_rw_and_w1c off)
  simpa [h] using hb

theorem accessMask_ringIrq : ∀ k < 64, accessMask .rw (R.HIF_RING_IRQ k) = 2 ^ 32 - 1 ∧
    accessMask .w1c (R.HIF_RING_IRQ k) = 0 ∧ accessMask .st (R.HIF_RING_IRQ k) = 0 := by decide +kernel

theorem accessMask_evPend : ∀ w < 8, accessMask .rw (R.HIF_EVPEND w) = 0 ∧
    accessMask .w1c (R.HIF_EVPEND w) = 2 ^ 32 - 1 ∧ accessMask .st (R.HIF_EVPEND w) = 0 := by decide +kernel

theorem accessMask_srcMemBase : ∀ u < 16, accessMask .rw (R.SRC_MEM_BASE u) = 0 ∧
    accessMask .w1c (R.SRC_MEM_BASE u) = 0 ∧ accessMask .st (R.SRC_MEM_BASE u) = 2 ^ 32 - 1 := by decide +kernel

theorem accessMask_srcPlayedLo : ∀ u < 16, accessMask .rw (R.SRC_PLAYED_LO u) = 0 ∧
    accessMask .w1c (R.SRC_PLAYED_LO u) = 0 ∧ accessMask .st (R.SRC_PLAYED_LO u) = 0 := by decide +kernel

end Sys2Proof
end

section
/-! SUPPORT. Register writes: which are served, where each window sends them, and what a write by its fields changes. -/
namespace Sys2Proof.Machine

/-! ## The commands and their answers -/

theorem exec_registerWrite (off : Fin 67108864) (value met : Word) (s : State) :
    exec (.registerWrite off value met) s = execRegisterWrite off value met s := rfl

theorem exec_misalignedRegisterAccess (off : Fin 67108864) (isRead : Bool) (s : State) :
    exec (.misalignedRegisterAccess off isRead) s = execMisalignedRegisterAccess off isRead s := rfl

theorem exec_rcFieldRead (off : Fin 67108864) (met : Word) (s : State) :
    exec (.rcFieldRead off met) s = execRcFieldRead off met s := rfl

theorem exec_loReadCapture (off : Fin 67108864) (s : State) :
    exec (.loReadCapture off) s = execLoReadCapture off s := rfl

/-- A command whose effect leaves the queue and the part alone answers that effect. -/
theorem answer_of_kept {s t : State} (hq : t.pending = s.pending) (hp : t.part = s.part) : s.answer t = .next t := by
  rw [State.answer, ← hq, ← hp]

theorem answer_eq (s t : State) : s.answer t = .next (Answered s t) := rfl

@[simp] theorem answered_regN (s t : State) (off : Nat) : (Answered s t).regN off = t.regN off := rfl
@[simp] theorem answered_bank (s t : State) (b : Nat) : (Answered s t).bank b = t.bank b := rfl

/-! ## Which accesses are served -/

theorem answers_of_inUse {s : State} (h : s.inUse = true) : s.answers = true := by
  simp only [State.inUse, Bool.and_eq_true, beq_iff_eq] at h
  simp [State.answers, h.1]

theorem serves_of_inUse {s : State} (h : s.inUse = true) (off : Nat) : s.serves off = true := by
  simp [State.serves, answers_of_inUse h, h]

theorem not_serves_of_not_answers {s : State} (h : s.answers = false) (off : Nat) : s.serves off = false := by
  simp [State.serves, h]

theorem registerWrite_unserved {off : Fin 67108864} {s : State} (h : s.serves off = false) (value met : Word) :
    exec (.registerWrite off value met) s = .next s := by
  have hw : s.regWrite off value.toNat met.toNat = s := by simp [State.regWrite, h]
  have hm : s.misaligned off false = s := by simp [State.misaligned, h]
  rw [exec_registerWrite, execRegisterWrite, hw, hm, ite_self]
  exact answer_of_kept rfl rfl

theorem misalignedWrite_unserved {off : Fin 67108864} {s : State} (h : s.serves off = false) :
    exec (.misalignedRegisterAccess off false) s = .next s := by
  have hm : s.misaligned off false = s := by simp [State.misaligned, h]
  rw [exec_misalignedRegisterAccess, execMisalignedRegisterAccess, hm]
  exact answer_of_kept rfl rfl

theorem misaligned_write {off : Nat} {s : State} (ha : s.answers = true) (hs : s.serves off = true) :
    s.misaligned off false = s.report 249 kRegAccess off := by
  simp [State.misaligned, ha, hs, State.regFault]

theorem misalignedWrite_served {off : Fin 67108864} {s : State} (ha : s.answers = true) (hs : s.serves off = true) :
    exec (.misalignedRegisterAccess off false) s = .next (s.report 249 kRegAccess off) := by
  rw [exec_misalignedRegisterAccess, execMisalignedRegisterAccess, misaligned_write ha hs]
  exact answer_of_kept rfl rfl

theorem registerWrite_unaligned {off : Fin 67108864} {s : State} (ha : s.answers = true) (hs : s.serves off = true)
    (hoff : off.val % 4 ≠ 0) (value met : Word) :
    exec (.registerWrite off value met) s = .next (s.report 249 kRegAccess off) := by
  rw [exec_registerWrite, execRegisterWrite, if_neg hoff, misaligned_write ha hs]
  exact answer_of_kept rfl rfl

theorem registerWrite_inUse {off : Fin 67108864} {s : State} (h : s.inUse = true) (hoff : off.val % 4 = 0) (value met : Word) :
    exec (.registerWrite off value met) s = s.answer (s.writeServed off value.toNat met.toNat) := by
  rw [exec_registerWrite, execRegisterWrite, if_pos hoff, State.regWrite, if_pos (serves_of_inUse h off)]

/-! ## Where each window sends a write -/

theorem instanceOf_outside {base stride count off : Nat} (h : off < base ∨ base + stride * count ≤ off) :
    instanceOf base stride count off = none := by
  rw [instanceOf, if_neg (by omega)]

theorem instanceOf_at {base stride count : Nat} (k r : Nat) (hk : k < count) (hr : r < stride) :
    instanceOf base stride count (base + stride * k + r) = some (k, r) := by
  have hlt : stride * k + r < stride * count := calc
    stride * k + r < stride * (k + 1) := by rw [Nat.mul_succ]; omega
    _ ≤ stride * count := Nat.mul_le_mul_left _ hk
  have hsub : base + stride * k + r - base = stride * k + r := by omega
  have hpos : 0 < stride := by omega
  rw [instanceOf, if_pos (by omega), hsub, Nat.mul_add_div hpos, Nat.div_eq_of_lt hr, Nat.mul_add_mod, Nat.mod_eq_of_lt hr, Nat.add_zero]

/-- The offsets of the timing, rule and interval windows. -/
def PlainOffset (off : Nat) : Prop :=
  (0x1500000 ≤ off ∧ off < 0x1800000) ∨ (0x1C00000 ≤ off ∧ off < 0x1E00000) ∨ (0x2800000 ≤ off ∧ off < 0x2C00000)

theorem writeServed_pattern {off : Nat} (h : 0x1000000 ≤ off ∧ off < 0x1800000) (s : State) (v met : Nat) :
    s.writeServed off v met = s.patternWrite off v met := by
  simp only [State.writeServed]
  repeat rw [if_neg (by omega)]
  rw [if_pos (by omega)]

theorem writeServed_channel {off : Nat} (h : 0x1800000 ≤ off) (s : State) (v met : Nat) :
    s.writeServed off v met = s.channelWrite off v met := by
  simp only [State.writeServed]
  repeat rw [if_neg (by omega)]

theorem patternWrite_fields {off : Nat} (h : 0x1500000 ≤ off) (s : State) (v met : Nat) :
    s.patternWrite off v met = s.writeFields off v met := by
  have hctrl : off ≠ R.SEQ_UCODE_CTRL := by simp only [R.SEQ_UCODE_CTRL]; omega
  simp only [State.patternWrite, if_neg hctrl, instanceOf_outside (off := off) (base := 0x1000000) (stride := 0x4000) (count := 64) (by omega),
    instanceOf_outside (off := off) (base := 0x1400000) (stride := 0x1000) (count := 256) (by omega)]

/-- No channel unit with a register of its own write meaning lies in the rule and interval windows. -/
theorem channelWrite_fields {off : Nat} (h : (0x1C00000 ≤ off ∧ off < 0x1E00000) ∨ (0x2800000 ≤ off ∧ off < 0x2C00000))
    (s : State) (v met : Nat) : s.channelWrite off v met = s.writeFields off v met := by
  simp only [State.channelWrite, instanceOf_outside (off := off) (base := 0x1820000) (stride := 0x400) (count := 64) (by omega),
    instanceOf_outside (off := off) (base := 0x1840000) (stride := 0x100) (count := 4) (by omega),
    instanceOf_outside (off := off) (base := 0x1E00000) (stride := 0x100) (count := 32) (by omega),
    instanceOf_outside (off := off) (base := 0x2000000) (stride := 0x1000) (count := 16) (by omega),
    instanceOf_outside (off := off) (base := 0x2400000) (stride := 0x1000) (count := 16) (by omega),
    instanceOf_outside (off := off) (base := 0x2C00000) (stride := 0x1000) (count := 8) (by omega)]

theorem writeServed_plain {off : Nat} (h : PlainOffset off) (s : State) (v met : Nat) :
    s.writeServed off v met = s.writeFields off v met := by
  rcases h with h | h
  · rw [writeServed_pattern (by omega), patternWrite_fields h.1]
  · rw [writeServed_channel (by omega), channelWrite_fields h]

theorem writeServed_reserved {off : Nat} (h : 0xE00000 ≤ off ∧ off < 0x1000000) (s : State) (v met : Nat) :
    s.writeServed off v met = s := by
  simp only [State.writeServed]
  repeat rw [if_neg (by omega)]
  rw [if_pos (by omega)]

theorem writeServed_hif {off : Nat} (h : 0x100000 ≤ off ∧ off < 0x200000) (s : State) (v met : Nat) :
    s.writeServed off v met = s.hifWrite off v met := by
  simp only [State.writeServed]
  rw [if_neg (by omega), if_pos (by omega)]

theorem writeServed_ringIrq {k : Nat} (hk : k < 64) (s : State) (v met : Nat) :
    s.writeServed (R.HIF_RING_IRQ k) v met = s.writeFields (R.HIF_RING_IRQ k) v met := by
  have hat : R.HIF_RING_IRQ k = 0x101000 + 0x20 * k + 0x14 := by simp only [R.HIF_RING_IRQ]; omega
  rw [writeServed_hif (by omega), State.hifWrite, hat, instanceOf_at k 0x14 hk (by decide)]
  simp

theorem writeServed_evPend {w : Nat} (hw : w < 8) (s : State) (v met : Nat) :
    s.writeServed (R.HIF_EVPEND w) v met = s.writeFields (R.HIF_EVPEND w) v met := by
  have hat : R.HIF_EVPEND w = 0x103100 + 4 * w := rfl
  rw [writeServed_hif (by omega), State.hifWrite]
  simp only [instanceOf_outside (off := R.HIF_EVPEND w) (base := 0x101000) (stride := 0x20) (count := 64) (by omega),
    instanceOf_outside (off := R.HIF_EVPEND w) (base := 0x102000) (stride := 0x10) (count := 16) (by omega),
    instanceOf_outside (off := R.HIF_EVPEND w) (base := 0x1F0000) (stride := 0x10) (count := 64) (by omega)]

/-- Of the registers of a source unit, SRC_RING_WRPTR alone has a write of its own meaning. -/
theorem writeServed_source {u r : Nat} (hu : u < 16) (hr : r < 0x1000) (hptr : r ≠ 0x18) (s : State) (v met : Nat) :
    s.writeServed (0x2000000 + 0x1000 * u + r) v met = s.writeFields (0x2000000 + 0x1000 * u + r) v met := by
  rw [writeServed_channel (by omega), State.channelWrite, instanceOf_at u r hu hr,
    instanceOf_outside (base := 0x1820000) (by omega), instanceOf_outside (base := 0x1840000) (by omega),
    instanceOf_outside (base := 0x1E00000) (by omega)]
  simp only [if_neg hptr]

theorem writeServed_srcMemBase {u : Nat} (hu : u < 16) (s : State) (v met : Nat) :
    s.writeServed (R.SRC_MEM_BASE u) v met = s.writeFields (R.SRC_MEM_BASE u) v met := by
  have hat : R.SRC_MEM_BASE u = 0x2000000 + 0x1000 * u + 4 := by simp only [R.SRC_MEM_BASE]; omega
  rw [hat, writeServed_source hu (by decide) (by decide)]

theorem writeServed_srcPlayedLo {u : Nat} (hu : u < 16) (s : State) (v met : Nat) :
    s.writeServed (R.SRC_PLAYED_LO u) v met = s.writeFields (R.SRC_PLAYED_LO u) v met := by
  have hat : R.SRC_PLAYED_LO u = 0x2000000 + 0x1000 * u + 0x30 := by simp only [R.SRC_PLAYED_LO]; omega
  rw [hat, writeServed_source hu (by decide) (by decide)]

/-! ## The RW and W1C fields of a write -/

/-- The value that a write leaves in a register, from the value before, the masks of its RW and W1C bits, the value written and the W1C
bits that an event of the same core cycle sets. -/
def mergedWrite (old rw w1c v met : Nat) : Nat := andNot 32 (andNot 32 old rw ||| (v &&& rw)) (andNot 32 (v &&& w1c) met)

theorem bitOf_mergedWrite {old rw w1c v met i : Nat} (hi : i < 32) (hd : bitOf rw i = true → bitOf w1c i = false) :
    bitOf (mergedWrite old rw w1c v met) i =
      if bitOf rw i then bitOf v i else if bitOf w1c i then bitOf old i && (!bitOf v i || bitOf met i) else bitOf old i := by
  simp only [mergedWrite, bitOf_andNot _ _ hi, bitOf_or, bitOf_and]
  cases hrw : bitOf rw i with
  | true => simp [hd hrw]
  | false => cases bitOf w1c i <;> simp

/-- A register without RW and W1C bits keeps its value. -/
theorem mergedWrite_readOnly {old : Nat} (hold : old < 2 ^ 32) (v met : Nat) : mergedWrite old 0 0 v met = old := by
  simp only [mergedWrite, Nat.and_zero, zero_andNot, Nat.or_zero, andNot_zero hold]

/-- A register of RW bits alone takes the value. -/
theorem mergedWrite_allRw {v : Nat} (hv : v < 2 ^ 32) (old met : Nat) : mergedWrite old (2 ^ 32 - 1) 0 v met = v := by
  rw [mergedWrite, andNot_all_ones, and_all_ones hv, Nat.zero_or, Nat.and_zero, zero_andNot, andNot_zero hv]

theorem bitOf_regN_merged (s : State) (off v met : Nat) {i : Nat} (hi : i < 32) :
    bitOf ((s.setReg off (mergedWrite (s.regN off) (accessMask .rw off) (accessMask .w1c off) v met)).regN off) i =
      if bitOf (accessMask .rw off) i then bitOf v i
      else if bitOf (accessMask .w1c off) i then bitOf (s.regN off) i && (!bitOf v i || bitOf met i) else bitOf (s.regN off) i := by
  rw [regN_setReg_same, bitOf_mod_two_pow _ hi, bitOf_mergedWrite hi not_w1c_of_rw]

/-- Outside HIF_EVPEND the RW and W1C fields of a write change the register alone. -/
theorem writePlain_eq {off : Nat} (hev : off < R.HIF_EVPEND 0 ∨ R.HIF_EVPEND 7 < off) (s : State) (v met : Nat) :
    s.writePlain off v met = s.setReg off (mergedWrite (s.regN off) (accessMask .rw off) (accessMask .w1c off) v met) := by
  rw [State.writePlain, if_neg (by omega)]
  rfl

/-- In a stored state, giving a register the value it has changes nothing. -/
theorem setReg_self {s : State} (hs : Stored s) (off : Nat) : s.setReg off (s.regN off) = s := by
  have h : BitVec.ofNat 32 (s.regN off) = s.reg off := by simp [State.regN]
  rw [State.setReg, h, State.reg, Sparse.set_get_self regReset (stored_regs hs)]

/-- In a stored state, a write to a register without RW and W1C bits changes none. -/
theorem writePlain_readOnly {s : State} (hs : Stored s) {off : Nat} (hev : off < R.HIF_EVPEND 0 ∨ R.HIF_EVPEND 7 < off)
    (hrw : accessMask .rw off = 0) (hw1c : accessMask .w1c off = 0) (v met : Nat) : s.writePlain off v met = s := by
  rw [writePlain_eq hev, hrw, hw1c, mergedWrite_readOnly (regN_lt s off), setReg_self hs]

/-! ## The pending events of a write to HIF_EVPEND -/

/-- What an event served or a message sent leaves alone: the pool and every register below the MSI-X pending-bit array. -/
structure KeepsBelowPba (s t : State) : Prop where
  pool : t.pool = s.pool
  regs : ∀ x, x < 0x1F8000 → t.regN x = s.regN x

theorem KeepsBelowPba.trans {s t u : State} (h : KeepsBelowPba s t) (h' : KeepsBelowPba t u) : KeepsBelowPba s u :=
  ⟨h'.pool.trans h.pool, fun x hx => (h'.regs x hx).trans (h.regs x hx)⟩

theorem KeepsBelowPba.foldl {α : Type} {f : State → α → State} (hf : ∀ s a, KeepsBelowPba s (f s a)) (l : List α) (s : State) :
    KeepsBelowPba s (l.foldl f s) := by
  induction l generalizing s with
  | nil => exact ⟨rfl, fun _ _ => rfl⟩
  | cons a l ih => exact (hf s a).trans (ih (f s a))

theorem keepsBelowPba_refl (s : State) : KeepsBelowPba s s := ⟨rfl, fun _ _ => rfl⟩

theorem setReg_keepsBelowPba {off : Nat} (h : 0x1F8000 ≤ off) (s : State) (v : Nat) : KeepsBelowPba s (s.setReg off v) :=
  ⟨rfl, fun x hx => regN_setReg_other s off v x (by omega)⟩

theorem eventServed_keepsBelowPba (s : State) (ev : Nat) : KeepsBelowPba s (s.eventServed ev) := by
  unfold State.eventServed
  dsimp only
  split
  · exact setReg_keepsBelowPba (Nat.le_add_right _ _) _ _
  · exact keepsBelowPba_refl s

theorem sendMsix_keepsBelowPba (s : State) (vec : Nat) : KeepsBelowPba s (s.sendMsix vec) := by
  unfold State.sendMsix
  split
  · exact setReg_keepsBelowPba (Nat.le_add_right _ _) _ _
  · exact ⟨rfl, fun _ _ => rfl⟩

/-- Serving and sending events again leaves what the fields of the write gave the register. -/
theorem writePlain_keepsBelowPba (s : State) (off v met : Nat) :
    KeepsBelowPba (s.setReg off (mergedWrite (s.regN off) (accessMask .rw off) (accessMask .w1c off) v met)) (s.writePlain off v met) := by
  unfold State.writePlain
  dsimp only
  split
  · refine (KeepsBelowPba.foldl (fun t j => eventServed_keepsBelowPba t _) _ _).trans (KeepsBelowPba.foldl (fun t ev => ?_) _ _)
    split
    · exact sendMsix_keepsBelowPba t _
    · exact keepsBelowPba_refl t
  · exact keepsBelowPba_refl _

/-! ## The ST fields of a write -/

theorem mem_insertFault_self (l : List FaultMsg) (m : FaultMsg) : m ∈ insertFault l m := by
  induction l with
  | nil => simp [insertFault]
  | cons a t ih =>
    unfold insertFault
    split <;> simp [ih]

/-- A stage bank replaced: the bank holds the new one, and of the rest only TCK_STAT may change. -/
structure BankReplaced (s t : State) (b : Nat) (bank : Bank) : Prop where
  bank : t.bank b = bank
  regs : ∀ x, x ≠ R.TCK_STAT → t.regN x = s.regN x
  faultIn : t.faultIn = s.faultIn
  tables : t.tables = s.tables
  pool : t.pool = s.pool
  deep : t.deep = s.deep
  host : t.host = s.host
  engines : t.engines = s.engines
  readData : t.readData = s.readData

theorem setBank_zero (s : State) {b : Nat} (hb : b = 0) (bank : Bank) :
    ∃ code, s.setBank b bank = ({ s with bankA := bank }).setFld F.TCK_STAT.STATEA code := ⟨_, if_pos hb⟩

theorem setBank_other (s : State) {b : Nat} (hb : b ≠ 0) (bank : Bank) :
    ∃ code, s.setBank b bank = ({ s with bankB := bank }).setFld F.TCK_STAT.STATEB code := ⟨_, if_neg hb⟩

theorem setBank_replaced (s : State) (b : Nat) (bank : Bank) : BankReplaced s (s.setBank b bank) b bank := by
  by_cases hb : b = 0
  · obtain ⟨code, h⟩ := setBank_zero s hb bank
    rw [h]
    exact ⟨by rw [State.bank, if_pos hb, setFld_bankA], fun x hx => regN_setFld_other _ _ _ x hx, setFld_faultIn _ _ _, setFld_tables _ _ _,
      setFld_pool _ _ _, setFld_deep _ _ _, setFld_host _ _ _, setFld_engines _ _ _, setFld_readData _ _ _⟩
  · obtain ⟨code, h⟩ := setBank_other s hb bank
    rw [h]
    exact ⟨by rw [State.bank, if_neg hb, setFld_bankB], fun x hx => regN_setFld_other _ _ _ x hx, setFld_faultIn _ _ _,
      setFld_tables _ _ _, setFld_pool _ _ _, setFld_deep _ _ _, setFld_host _ _ _, setFld_engines _ _ _, setFld_readData _ _ _⟩

theorem canonKey_spaceZero {off : Nat} (h : off < 0x1400000 ∨ 0x1500000 ≤ off) : canonKey (spaceKey 0 off) = off := by
  have hk : spaceKey 0 off = off := by simp [spaceKey]
  rw [hk, canonKey, if_neg (by omega)]

theorem writeStaged_unstaged {off : Nat} (hst : accessMask .st off = 0) (s : State) (v : Nat) : s.writeStaged off v = s := by
  simp [State.writeStaged, hst]

theorem writeStaged_locked {s : State} {off : Nat} (hst : accessMask .st off ≠ 0)
    (hl : (s.bank (s.fld F.TCK_CTRL.WBANK)).locked = true) (v : Nat) : s.writeStaged off v = s.report 249 kRegAccess off := by
  simp [State.writeStaged, hst, State.stageHost, hl, State.regFault]

/-- The ST bits of a write go into the bank that WBANK names, at the register's own key. -/
theorem writeStaged_open {s : State} {off : Nat} (hst : accessMask .st off ≠ 0)
    (hl : (s.bank (s.fld F.TCK_CTRL.WBANK)).locked = false) (hkey : off < 0x1400000 ∨ 0x1500000 ≤ off) (v : Nat) :
    BankReplaced s (s.writeStaged off v) (s.fld F.TCK_CTRL.WBANK)
      { s.bank (s.fld F.TCK_CTRL.WBANK) with
        vals := Sparse.insert (s.bank (s.fld F.TCK_CTRL.WBANK)).vals off (BitVec.ofNat 32 (v &&& accessMask .st off)) } := by
  simp only [State.writeStaged, if_neg hst, State.stageHost, hl, Bool.false_eq_true, if_false, State.stage, canonKey_spaceZero hkey]
  exact setBank_replaced s _ _

/-! ## The writes of the statement -/

section
variable {off : Fin 67108864} {s : State}

theorem registerWrite_plain (hu : s.inUse = true) (hal : off.val % 4 = 0) (hplain : PlainOffset off) (value met : Word) :
    let v := value.toNat
    let b := s.fld F.TCK_CTRL.WBANK
    let rw := accessMask .rw off
    let w1c := accessMask .w1c off
    let st := accessMask .st off
    ∃ t, exec (.registerWrite off value met) s = .next t ∧
      (∀ i, i < 32 → bitOf (t.regN off) i =
        if bitOf rw i then bitOf v i
        else if bitOf w1c i then bitOf (s.regN off) i && (!bitOf v i || bitOf met.toNat i) else bitOf (s.regN off) i) ∧
      (∀ x, x ≠ off.val → x ≠ R.TCK_STAT → t.regN x = s.regN x) ∧
      (st = 0 → t.bankA = s.bankA ∧ t.bankB = s.bankB ∧ t.faultIn = s.faultIn) ∧
      (st ≠ 0 → (s.bank b).locked = true → t.bankA = s.bankA ∧ t.bankB = s.bankB ∧
        ∃ m ∈ t.faultIn, m.src = 249 ∧ m.kind = kRegAccess ∧ m.addr = off) ∧
      (st ≠ 0 → (s.bank b).locked = false → t.faultIn = s.faultIn ∧
        Sparse.find? (t.bank b).vals off = some (BitVec.ofNat 32 (v &&& st)) ∧
        ∀ key, key ≠ off.val → Sparse.find? (t.bank b).vals key = Sparse.find? (s.bank b).vals key) ∧
      t.tables = s.tables ∧ t.pool = s.pool ∧ t.deep = s.deep ∧ t.host = s.host ∧ t.engines = s.engines ∧ t.readData = s.readData := by
  intro v b rw w1c st
  have hwin : 0x1500000 ≤ off.val := by rcases hplain with h | h | h <;> omega
  have hstat : off.val ≠ R.TCK_STAT := by simp only [R.TCK_STAT]; omega
  have hctrl : R.TCK_CTRL ≠ off.val := by simp only [R.TCK_CTRL]; omega
  have hev : off.val < R.HIF_EVPEND 0 ∨ R.HIF_EVPEND 7 < off.val := by simp only [R.HIF_EVPEND]; omega
  set w := mergedWrite (s.regN off) rw w1c v met.toNat
  have hb : (s.setReg off w).fld F.TCK_CTRL.WBANK = b := fld_setReg_other s off w F.TCK_CTRL.WBANK hctrl
  have hreg := fun i (hi : i < 32) => bitOf_regN_merged s off v met.toNat hi
  have hother : ∀ x, x ≠ off.val → (s.setReg off w).regN x = s.regN x := fun x hx => regN_setReg_other s off w x hx
  refine ⟨Answered s ((s.setReg off w).writeStaged off v), ?_, ?_⟩
  · rw [registerWrite_inUse hu hal, writeServed_plain hplain, State.writeFields, writePlain_eq hev, answer_eq]
  by_cases hst : st = 0
  · rw [writeStaged_unstaged hst]
    exact ⟨hreg, fun x hx _ => hother x hx, fun _ => ⟨rfl, rfl, rfl⟩, fun h => absurd hst h, fun h => absurd hst h,
      rfl, rfl, rfl, rfl, rfl, rfl⟩
  cases hl : (s.bank b).locked with
  | true =>
    rw [writeStaged_locked hst (by rw [hb]; exact hl)]
    exact ⟨hreg, fun x hx _ => hother x hx, fun h => absurd h hst,
      fun _ _ => ⟨rfl, rfl, _, mem_insertFault_self _ _, rfl, rfl, rfl⟩, fun _ h => by simp at h, rfl, rfl, rfl, rfl, rfl, rfl⟩
  | false =>
    have h := writeStaged_open (s := s.setReg off w) hst (by rw [hb]; exact hl) (Or.inr hwin) v
    rw [hb] at h
    obtain ⟨hbank, hregs, hfault, htables, hpool, hdeep, hhost, hengines, hdata⟩ := h
    refine ⟨fun i hi => ?_, fun x hx hx' => (hregs x hx').trans (hother x hx), fun h => absurd h hst, fun _ h => by simp at h,
      fun _ _ => ⟨hfault, ?_, fun key hkey => ?_⟩, htables, hpool, hdeep, hhost, hengines, hdata⟩
    · rw [answered_regN, hregs off hstat, hreg i hi]
    · rw [answered_bank, hbank, Sparse.find_insert, if_pos rfl]
    · rw [answered_bank, hbank, Sparse.find_insert, if_neg hkey]
      rfl

theorem registerWrite_reserved (hu : s.inUse = true) (hwin : 0xE00000 ≤ off.val ∧ off.val < 0x1000000) (hal : off.val % 4 = 0)
    (value met : Word) : exec (.registerWrite off value met) s = .next s := by
  rw [registerWrite_inUse hu hal, writeServed_reserved hwin]
  exact answer_of_kept rfl rfl

theorem registerWrite_ringIrq (hu : s.inUse = true) {k : Nat} (hk : k < 64) (hoff : off.val = R.HIF_RING_IRQ k) (value met : Word) :
    exec (.registerWrite off value met) s = .next (s.setReg off value.toNat) := by
  have hat : R.HIF_RING_IRQ k = 0x101014 + 0x20 * k := rfl
  obtain ⟨hrw, hw1c, hst⟩ := accessMask_ringIrq k hk
  rw [registerWrite_inUse hu (by omega), hoff, writeServed_ringIrq hk, State.writeFields, writeStaged_unstaged hst,
    writePlain_eq (Or.inl (by simp only [R.HIF_EVPEND]; omega)), hrw, hw1c, mergedWrite_allRw value.isLt]
  exact answer_of_kept rfl rfl

theorem registerWrite_evPend (hu : s.inUse = true) {w : Nat} (hw : w < 8) (hoff : off.val = R.HIF_EVPEND w) (value met : Word) :
    ∃ t, exec (.registerWrite off value met) s = .next t ∧ t.pool = s.pool ∧
      ∀ i, i < 32 → bitOf (t.regN off) i = (bitOf (s.regN off) i && (!bitOf value.toNat i || bitOf met.toNat i)) := by
  have hat : R.HIF_EVPEND w = 0x103100 + 4 * w := rfl
  obtain ⟨hrw, hw1c, hst⟩ := accessMask_evPend w hw
  have hkept := writePlain_keepsBelowPba s off value.toNat met.toNat
  refine ⟨Answered s (s.writePlain off value.toNat met.toNat), ?_, hkept.pool, fun i hi => ?_⟩
  · rw [registerWrite_inUse hu (by omega), hoff, writeServed_evPend hw, State.writeFields, writeStaged_unstaged hst, answer_eq]
  · rw [answered_regN, hkept.regs off (by omega), bitOf_regN_merged _ _ _ _ hi, hoff, hrw, hw1c, bitOf_zero,
      bitOf_all_ones hi, if_neg Bool.false_ne_true, if_pos rfl]

theorem registerWrite_srcMemBase (hs : Stored s) (hu : s.inUse = true) {u : Nat} (hsrc : u < 16) (hoff : off.val = R.SRC_MEM_BASE u)
    (value met : Word) :
    let b := s.fld F.TCK_CTRL.WBANK
    ((s.bank b).locked = true → exec (.registerWrite off value met) s = .next (s.report 249 kRegAccess off)) ∧
    ((s.bank b).locked = false → ∃ t, exec (.registerWrite off value met) s = .next t ∧ t.regN off = s.regN off ∧
      Sparse.find? (t.bank b).vals off = some value ∧
      ∀ key, key ≠ off.val → Sparse.find? (t.bank b).vals key = Sparse.find? (s.bank b).vals key) := by
  intro b
  have hat : R.SRC_MEM_BASE u = 0x2000004 + 0x1000 * u := rfl
  obtain ⟨hrw, hw1c, hst⟩ := accessMask_srcMemBase u hsrc
  rw [← hoff] at hrw hw1c hst
  have hst' : accessMask .st off ≠ 0 := by rw [hst]; decide
  have hwrite : exec (.registerWrite off value met) s = s.answer (s.writeStaged off value.toNat) := by
    rw [registerWrite_inUse hu (by omega), hoff, writeServed_srcMemBase hsrc, ← hoff, State.writeFields,
      writePlain_readOnly hs (Or.inr (by simp only [R.HIF_EVPEND]; omega)) hrw hw1c]
  constructor
  · intro hl
    rw [hwrite, writeStaged_locked hst' hl]
    exact answer_of_kept rfl rfl
  · intro hl
    have hvalue : BitVec.ofNat 32 (value.toNat &&& accessMask .st off) = value := by
      rw [hst, and_all_ones value.isLt]
      simp
    have h := writeStaged_open hst' hl (Or.inr (by omega)) value.toNat
    refine ⟨Answered s (s.writeStaged off value.toNat), hwrite, h.regs off (by simp only [R.TCK_STAT]; omega), ?_, fun key hkey => ?_⟩
    · rw [answered_bank, h.bank, Sparse.find_insert, if_pos rfl, hvalue]
    · rw [answered_bank, h.bank, Sparse.find_insert, if_neg hkey]

theorem registerWrite_srcPlayedLo (hs : Stored s) (hu : s.inUse = true) {u : Nat} (hsrc : u < 16) (hoff : off.val = R.SRC_PLAYED_LO u)
    (value met : Word) : exec (.registerWrite off value met) s = .next s := by
  have hat : R.SRC_PLAYED_LO u = 0x2000030 + 0x1000 * u := rfl
  obtain ⟨hrw, hw1c, hst⟩ := accessMask_srcPlayedLo u hsrc
  rw [registerWrite_inUse hu (by omega), hoff, writeServed_srcPlayedLo hsrc, State.writeFields, writeStaged_unstaged hst,
    writePlain_readOnly hs (Or.inr (by simp only [R.HIF_EVPEND]; omega)) hrw hw1c]
  exact answer_of_kept rfl rfl

end

end Sys2Proof.Machine
end

section
/-! SUPPORT. Register reads: the value a read returns, the RC fields it clears and the registers that it captures. -/
namespace Sys2Proof.Machine

/-! ## The RC fields of a register -/

/-- The RC fields of an offset lie in it as the fields of its card do. -/
theorem rcFields_within {off : Nat} {f : Field} (hf : f ∈ rcFields off) : f.off = off ∧ 0 < f.width ∧ f.lo + f.width ≤ 32 := by
  unfold rcFields at hf
  cases hc : cardAt off with
  | none => simp [hc] at hf
  | some c =>
    simp only [hc, List.mem_map, List.mem_filter] at hf
    obtain ⟨g, ⟨hg, -⟩, rfl⟩ := hf
    exact ⟨rfl, (cardAt_laid hc).1 g hg⟩

theorem rcFields_apart (off : Nat) : (rcFields off).Pairwise fun f g => BitsApart f.lo f.width g.lo g.width := by
  unfold rcFields
  cases hc : cardAt off with
  | none => exact List.Pairwise.nil
  | some c => exact List.pairwise_map.2 ((cardAt_laid hc).2.1.filter _)

theorem rcFields_memColl : rcFields R.MEM_COLL = [F.MEM_COLL.COUNT] := by decide +kernel
theorem rcFields_srcStat : rcFields R.FLT_SRCSTAT ≠ [] := by decide +kernel
theorem rcFields_timNowLo : rcFields R.TIM_NOW_NS_LO = [] := by decide +kernel

/-! ## The value returned -/

/-- One step of readValue: a field that an event of this core cycle met shows its value from before the event. -/
def showBefore (met w : Nat) (f : Field) : Nat := shown w f (beforeEvent w met f)

theorem readValue_eq (s : State) (off met : Nat) :
    s.readValue off met = ((rcFields off).filter (fieldMet met)).foldl (showBefore met) (s.lookAt off) := rfl

theorem beforeEvent_congr {w w' : Nat} {f : Field} (h : bitsOf w f.lo f.width = bitsOf w' f.lo f.width) (met : Nat) :
    beforeEvent w met f = beforeEvent w' met f := by
  simp only [beforeEvent, h]

theorem foldl_showBefore_apart {l : List Field} {lo width : Nat} (h : ∀ f ∈ l, BitsApart f.lo f.width lo width) (met w : Nat) :
    bitsOf (l.foldl (showBefore met) w) lo width = bitsOf w lo width := by
  induction l generalizing w with
  | nil => rfl
  | cons g l ih =>
    rw [List.foldl_cons, ih fun f hf => h f (List.mem_cons_of_mem g hf)]
    exact bitsOf_putBits_apart _ _ _ _ _ _ (h g List.mem_cons_self)

theorem foldl_showBefore_mem {l : List Field} (hl : l.Pairwise fun f g => BitsApart f.lo f.width g.lo g.width) {f : Field} (hf : f ∈ l)
    (met w : Nat) : bitsOf (l.foldl (showBefore met) w) f.lo f.width = beforeEvent w met f % 2 ^ f.width := by
  induction l generalizing w with
  | nil => cases hf
  | cons g l ih =>
    obtain ⟨hg, hl⟩ := List.pairwise_cons.1 hl
    rw [List.foldl_cons]
    rcases List.mem_cons.1 hf with rfl | hf
    · rw [foldl_showBefore_apart fun h hh => (hg h hh).symm]
      exact bitsOf_putBits_same _ _ _ _
    · rw [ih hl hf, beforeEvent_congr]
      exact bitsOf_putBits_apart _ _ _ _ _ _ (hg f hf)

/-- Beside the RC fields that an event met, a read returns what the offset shows. -/
theorem bitsOf_readValue_beside {off met lo width : Nat}
    (h : ∀ f ∈ rcFields off, fieldMet met f = true → BitsApart f.lo f.width lo width) (s : State) :
    bitsOf (s.readValue off met) lo width = bitsOf (s.lookAt off) lo width := by
  rw [readValue_eq]
  exact foldl_showBefore_apart (fun f hf => h f (List.mem_of_mem_filter hf) (List.mem_filter.1 hf).2) _ _

/-- A counter that an event met, neither at 0 nor at its greatest value, returns one less than it shows. -/
theorem bitsOf_readValue_met {s : State} {off met : Nat} {f : Field} (hf : f ∈ rcFields off) (hmet : fieldMet met f = true)
    (hpos : 0 < bitsOf (s.lookAt off) f.lo f.width) (hlt : bitsOf (s.lookAt off) f.lo f.width < 2 ^ f.width - 1) :
    bitsOf (s.readValue off met) f.lo f.width = bitsOf (s.lookAt off) f.lo f.width - 1 := by
  have hbefore : beforeEvent (s.lookAt off) met f = bitsOf (s.lookAt off) f.lo f.width - 1 := by
    simp only [beforeEvent]
    rw [if_neg (by omega)]
  rw [readValue_eq, foldl_showBefore_mem ((rcFields_apart off).filter _) (List.mem_filter.2 ⟨hf, hmet⟩), hbefore,
    Nat.mod_eq_of_lt (by omega)]

theorem readValue_of_unmet {off met : Nat} (h : ∀ f ∈ rcFields off, fieldMet met f = false) (s : State) :
    s.readValue off met = s.lookAt off := by
  have hnone : (rcFields off).filter (fieldMet met) = [] := List.filter_eq_nil_iff.2 fun f hf => by simp [h f hf]
  rw [readValue_eq, hnone, List.foldl_nil]

theorem fieldMet_zero (f : Field) : fieldMet 0 f = false := by simp [fieldMet, bitsOf]

/-! ## The RC fields cleared -/

/-- One step of clearRc: a field is cleared, or holds 1 after an event of this core cycle met it. -/
def clearField (met : Nat) (s : State) (f : Field) : State := s.setFld f (b2n (fieldMet met f))

/-- t is s with fields of the register at off cleared: no other bit and no other register changed. -/
structure FieldsCleared (s t : State) (l : List Field) (off met : Nat) : Prop where
  other : ∀ x, x ≠ off → t.regN x = s.regN x
  beside : ∀ lo width, (∀ f ∈ l, BitsApart f.lo f.width lo width) → bitsOf (t.regN off) lo width = bitsOf (s.regN off) lo width
  cleared : ∀ f ∈ l, t.fld f = b2n (fieldMet met f)
  pool : t.pool = s.pool
  faultIn : t.faultIn = s.faultIn
  readData : t.readData = s.readData

theorem b2n_lt_two_pow (b : Bool) {width : Nat} (h : 0 < width) : b2n b < 2 ^ width :=
  lt_of_lt_of_le (by cases b <;> decide : b2n b < 2 ^ 1) (Nat.pow_le_pow_right (by decide) h)

theorem foldl_clearField {l : List Field} {off : Nat} (hin : ∀ f ∈ l, f.off = off ∧ 0 < f.width ∧ f.lo + f.width ≤ 32)
    (hl : l.Pairwise fun f g => BitsApart f.lo f.width g.lo g.width) (met : Nat) (s : State) :
    FieldsCleared s (l.foldl (clearField met) s) l off met := by
  induction l generalizing s with
  | nil => exact ⟨fun _ _ => rfl, fun _ _ _ => rfl, fun _ hf => (List.not_mem_nil hf).elim, rfl, rfl, rfl⟩
  | cons g l ih =>
    obtain ⟨hg, hl⟩ := List.pairwise_cons.1 hl
    obtain ⟨rfl, hpos, hwidth⟩ := hin g List.mem_cons_self
    have hreg : (clearField met s g).regN g.off = putBits (s.regN g.off) g.lo g.width (b2n (fieldMet met g)) :=
      regN_setFld_same s g _ hwidth
    have hrest := ih (fun f hf => hin f (List.mem_cons_of_mem g hf)) hl (clearField met s g)
    rw [List.foldl_cons]
    refine ⟨fun x hx => ?_, fun lo width h => ?_, fun f hf => ?_, hrest.pool.trans (setFld_pool s g _),
      hrest.faultIn.trans (setFld_faultIn s g _), hrest.readData.trans (setFld_readData s g _)⟩
    · rw [hrest.other x hx]
      exact regN_setFld_other s g _ x hx
    · rw [hrest.beside lo width fun f hf => h f (List.mem_cons_of_mem g hf), hreg,
        bitsOf_putBits_apart _ _ _ _ _ _ (h g List.mem_cons_self)]
    · rcases List.mem_cons.1 hf with rfl | hf
      · rw [State.fld, hrest.beside f.lo f.width fun h hh => (hg h hh).symm, hreg, bitsOf_putBits_same,
          Nat.mod_eq_of_lt (b2n_lt_two_pow _ hpos)]
      · exact hrest.cleared f hf

/-- Beside the registers, a read clears at most the count of a fault source. -/
theorem clearRc_eq (s : State) (off met : Nat) :
    ∃ sources, s.clearRc off met = { (rcFields off).foldl (clearField met) s with sources := sources } := by
  unfold State.clearRc
  dsimp only
  split
  · exact ⟨_, rfl⟩
  · exact ⟨_, rfl⟩

theorem clearRc_cleared (s : State) (off met : Nat) : FieldsCleared s (s.clearRc off met) (rcFields off) off met := by
  obtain ⟨sources, h⟩ := clearRc_eq s off met
  have hc := foldl_clearField (fun f => rcFields_within (off := off)) (rcFields_apart off) met s
  rw [h]
  exact ⟨hc.other, hc.beside, hc.cleared, hc.pool, hc.faultIn, hc.readData⟩

theorem clearRc_of_none {off : Nat} (h : rcFields off = []) (s : State) (met : Nat) : s.clearRc off met = s := by
  have hoff : off ≠ R.FLT_SRCSTAT := fun e => rcFields_srcStat (e ▸ h)
  simp [State.clearRc, h, hoff]

/-! ## Captures -/

theorem capture_eq (s : State) (off : Nat) : ∃ m, s.capture off = { s with captured := m } := by
  unfold State.capture
  generalize captures off = l
  induction l generalizing s with
  | nil => exact ⟨s.captured, rfl⟩
  | cons a l ih => exact ih _

theorem capture_of_none {off : Nat} (h : captures off = []) (s : State) : s.capture off = s := by
  rw [State.capture, h, List.foldl_nil]

theorem captures_timNowLo : captures R.TIM_NOW_NS_LO = [R.TIM_NOW_NS_HI, R.TIM_NOW_FRAC] := by decide +kernel

/-! ## What the registers of the statement show -/

theorem not_flashReg {off : Nat} (h : 0x200 ≤ off) : flashReg off = false := by
  have haddr : off ≠ R.SYS_FLASH_ADDR := by simp only [R.SYS_FLASH_ADDR]; omega
  have hctrl : off ≠ R.SYS_FLASH_CTRL := by simp only [R.SYS_FLASH_CTRL]; omega
  have hdata : ¬ off < R.SYS_FLASH_DATA 64 := by simp only [R.SYS_FLASH_DATA]; omega
  simp [flashReg, haddr, hctrl, hdata]

/-- Between the flash registers and the end of the HIF window, an offset shows its register. -/
theorem lookAt_hif {off : Nat} (hlo : 0x200 ≤ off) (hhi : off < 0x200000) (s : State) : s.lookAt off = s.regN off := by
  have huser : userPage off = false := by rw [userPage, decide_eq_false (by omega), Bool.false_and]
  have hview : s.view off = s.regN off := by rw [State.view]; exact if_pos hhi
  simp [State.lookAt, huser, not_flashReg hlo, hview]

theorem lookAt_ringIrq {k : Nat} (hk : k < 64) (s : State) : s.lookAt (R.HIF_RING_IRQ k) = s.regN (R.HIF_RING_IRQ k) := by
  have hat : R.HIF_RING_IRQ k = 0x101014 + 0x20 * k := rfl
  exact lookAt_hif (by omega) (by omega) s

theorem lookAt_memColl (s : State) : s.lookAt R.MEM_COLL = s.regN R.MEM_COLL := rfl

theorem lookAt_timNowLo (s : State) : s.lookAt R.TIM_NOW_NS_LO = s.ns % 2 ^ 32 := rfl
theorem lookAt_timNowHi (s : State) : s.lookAt R.TIM_NOW_NS_HI = s.ns / 2 ^ 32 % 2 ^ 32 := rfl
theorem lookAt_timNowFrac (s : State) : s.lookAt R.TIM_NOW_FRAC = s.now % 2 ^ 32 := rfl

theorem ofNat_mod_two_pow (width n : Nat) : BitVec.ofNat width (n % 2 ^ width) = BitVec.ofNat width n := by
  apply BitVec.eq_of_toNat_eq
  simp

/-- A read of TIM_NOW_NS_LO keeps the rest of the instant (R350). -/
theorem capture_timNowLo (s : State) :
    s.capture R.TIM_NOW_NS_LO = { s with
      captured := Sparse.insert (Sparse.insert s.captured R.TIM_NOW_NS_HI (BitVec.ofNat 32 (s.ns / 2 ^ 32)))
        R.TIM_NOW_FRAC (BitVec.ofNat 32 s.now) } := by
  rw [State.capture, captures_timNowLo]
  simp only [List.foldl, lookAt_timNowHi, lookAt_timNowFrac, ofNat_mod_two_pow]

/-! ## Which reads are served -/

theorem rcFieldRead_unanswered {off : Fin 67108864} {s : State} (h : s.answers = false) (met : Word) :
    exec (.rcFieldRead off met) s = .next { s with readData := [] } := by
  have hr : s.regRead off met.toNat = { s with readData := [] } := by simp [State.regRead, h]
  have hm : s.misaligned off true = { s with readData := [] } := by simp [State.misaligned, h]
  rw [exec_rcFieldRead, execRcFieldRead, hr, hm, ite_self]
  exact answer_of_kept rfl rfl

theorem misalignedRead_unanswered {off : Fin 67108864} {s : State} (h : s.answers = false) :
    exec (.misalignedRegisterAccess off true) s = .next { s with readData := [] } := by
  have hm : s.misaligned off true = { s with readData := [] } := by simp [State.misaligned, h]
  rw [exec_misalignedRegisterAccess, execMisalignedRegisterAccess, hm]
  exact answer_of_kept rfl rfl

theorem rcFieldRead_unserved {off : Fin 67108864} {s : State} (ha : s.answers = true) (hs : s.serves off = false) (met : Word) :
    exec (.rcFieldRead off met) s = .next { s with readData := [0] } := by
  have hr : s.regRead off met.toNat = { s with readData := [0] } := by simp [State.regRead, ha, hs]
  have hm : s.misaligned off true = { s with readData := [0] } := by simp [State.misaligned, ha, hs]
  rw [exec_rcFieldRead, execRcFieldRead, hr, hm, ite_self]
  exact answer_of_kept rfl rfl

theorem misalignedRead_unserved {off : Fin 67108864} {s : State} (ha : s.answers = true) (hs : s.serves off = false) :
    exec (.misalignedRegisterAccess off true) s = .next { s with readData := [0] } := by
  have hm : s.misaligned off true = { s with readData := [0] } := by simp [State.misaligned, ha, hs]
  rw [exec_misalignedRegisterAccess, execMisalignedRegisterAccess, hm]
  exact answer_of_kept rfl rfl

theorem misaligned_read {off : Nat} {s : State} (ha : s.answers = true) (hs : s.serves off = true) :
    s.misaligned off true = { s.report 249 kRegAccess off with readData := [0xFFFFFFFF] } := by
  simp only [State.misaligned, ha, hs, Bool.not_true, Bool.false_eq_true, if_false, if_true]
  rfl

theorem misalignedRead_served {off : Fin 67108864} {s : State} (ha : s.answers = true) (hs : s.serves off = true) :
    exec (.misalignedRegisterAccess off true) s = .next { s.report 249 kRegAccess off with readData := [0xFFFFFFFF] } := by
  rw [exec_misalignedRegisterAccess, execMisalignedRegisterAccess, misaligned_read ha hs]
  exact answer_of_kept rfl rfl

theorem rcFieldRead_unaligned {off : Fin 67108864} {s : State} (ha : s.answers = true) (hs : s.serves off = true)
    (hoff : off.val % 4 ≠ 0) (met : Word) :
    exec (.rcFieldRead off met) s = .next { s.report 249 kRegAccess off with readData := [0xFFFFFFFF] } := by
  rw [exec_rcFieldRead, execRcFieldRead, if_neg hoff, misaligned_read ha hs]
  exact answer_of_kept rfl rfl

theorem regRead_served {off : Nat} {s : State} (ha : s.answers = true) (hs : s.serves off = true) (met : Nat) :
    s.regRead off met = s.readServed off met := by
  simp [State.regRead, ha, hs]

theorem rcFieldRead_served {off : Fin 67108864} {s : State} (ha : s.answers = true) (hs : s.serves off = true)
    (hal : off.val % 4 = 0) (met : Word) : exec (.rcFieldRead off met) s = s.answer (s.readServed off met.toNat) := by
  rw [exec_rcFieldRead, execRcFieldRead, if_pos hal, regRead_served ha hs]

theorem readServed_fresh {off : Nat} {s : State} (hc : Sparse.find? s.captured off = none) (met : Nat) :
    s.readServed off met =
      (State.capture { s with readData := [BitVec.ofNat 32 (s.readValue off met)] } off).clearRc off met := by
  simp only [State.readServed, hc]

/-! ## The reads of the statement -/

section
variable {off : Fin 67108864} {s : State}

/-- An aligned read of a served offset that no LO read holds: the value, the RC fields cleared, and nothing else of a register. -/
theorem rcFieldRead_fresh (ha : s.answers = true) (hs : s.serves off = true) (hal : off.val % 4 = 0)
    (hc : Sparse.find? s.captured off = none) (met : Word) :
    ∃ t, exec (.rcFieldRead off met) s = .next t ∧ t.readData = [BitVec.ofNat 32 (s.readValue off met.toNat)] ∧
      FieldsCleared { s with readData := t.readData } t (rcFields off) off met.toNat := by
  obtain ⟨m, hm⟩ := capture_eq { s with readData := [BitVec.ofNat 32 (s.readValue off met.toNat)] } off
  have h := clearRc_cleared (State.capture { s with readData := [BitVec.ofNat 32 (s.readValue off met.toNat)] } off) off met.toNat
  refine ⟨Answered s (s.readServed off met.toNat), rcFieldRead_served ha hs hal met, ?_⟩
  rw [readServed_fresh hc]
  rw [hm] at h ⊢
  exact ⟨h.readData, h.other, h.beside, h.cleared, h.pool, h.faultIn, rfl⟩

/-- A register without an RC field and without a capture is only read. -/
theorem rcFieldRead_plain (ha : s.answers = true) (hs : s.serves off = true) (hal : off.val % 4 = 0)
    (hc : Sparse.find? s.captured off = none) (hrc : rcFields off = []) (hcap : captures off = []) (met : Word) :
    exec (.rcFieldRead off met) s = .next { s with readData := [BitVec.ofNat 32 (s.lookAt off)] } := by
  rw [rcFieldRead_served ha hs hal, readServed_fresh hc, capture_of_none hcap, clearRc_of_none hrc,
    readValue_of_unmet (by simp [hrc])]
  exact answer_of_kept rfl rfl

theorem rcFieldRead_fields (ha : s.answers = true) (hs : s.serves off = true) (hal : off.val % 4 = 0)
    (hc : Sparse.find? s.captured off = none) (met : Word) :
    ∃ t w, exec (.rcFieldRead off met) s = .next t ∧ t.readData = [BitVec.ofNat 32 w] ∧
      (∀ i, i < 32 → (∀ f ∈ rcFields off, fieldMet met.toNat f = true → i < f.lo ∨ f.lo + f.width ≤ i) →
        bitOf w i = bitOf (s.lookAt off) i) ∧
      (∀ f ∈ rcFields off, fieldMet met.toNat f = true → 0 < bitsOf (s.lookAt off) f.lo f.width →
        bitsOf (s.lookAt off) f.lo f.width < 2 ^ f.width - 1 →
        bitsOf w f.lo f.width = bitsOf (s.lookAt off) f.lo f.width - 1) ∧
      (∀ f ∈ rcFields off, t.fld f = if fieldMet met.toNat f = true then 1 else 0) ∧
      (∀ i, i < 32 → (∀ f ∈ rcFields off, i < f.lo ∨ f.lo + f.width ≤ i) → bitOf (t.regN off) i = bitOf (s.regN off) i) ∧
      (∀ x, x ≠ off.val → t.regN x = s.regN x) ∧ t.pool = s.pool ∧ t.faultIn = s.faultIn := by
  obtain ⟨t, hexec, hdata, hclear⟩ := rcFieldRead_fresh ha hs hal hc met
  refine ⟨t, s.readValue off met.toNat, hexec, hdata, fun i _ h => ?_, fun f hf hm => bitsOf_readValue_met hf hm, hclear.cleared,
    fun i _ h => ?_, hclear.other, hclear.pool, hclear.faultIn⟩
  · rw [bitOf_eq, bitOf_eq, bitsOf_readValue_beside fun f hf hm => by have := h f hf hm; omega]
  · rw [bitOf_eq, bitOf_eq, hclear.beside i 1 fun f hf => by have := h f hf; omega]
    rfl

theorem rcFieldRead_memColl (hu : s.inUse = true) (hoff : off.val = R.MEM_COLL) (hc : Sparse.find? s.captured off = none) (met : Word) :
    let n := s.fld F.MEM_COLL.COUNT
    (met = 0 → ∃ t, exec (.rcFieldRead off met) s = .next t ∧ t.readData = [s.reg off] ∧ t.fld F.MEM_COLL.COUNT = 0 ∧
      t.fld F.MEM_COLL.CLASS = s.fld F.MEM_COLL.CLASS ∧ t.pool = s.pool) ∧
    (met = 0xFFFF0000 → 0 < n → n < 65535 → ∃ t w, exec (.rcFieldRead off met) s = .next t ∧ t.readData = [w] ∧
      bitsOf w.toNat 16 16 = n - 1 ∧ t.fld F.MEM_COLL.COUNT = 1) := by
  intro n
  have hal : off.val % 4 = 0 := by rw [hoff]; decide
  have hrc : rcFields off = [F.MEM_COLL.COUNT] := by rw [hoff, rcFields_memColl]
  have hlook : s.lookAt off = s.regN off := by rw [hoff, lookAt_memColl]
  have hcount : F.MEM_COLL.COUNT ∈ rcFields off := by rw [hrc]; exact List.mem_cons_self
  obtain ⟨t, hexec, hdata, hclear⟩ := rcFieldRead_fresh (answers_of_inUse hu) (serves_of_inUse hu off) hal hc met
  constructor
  · rintro rfl
    have hunmet : ∀ f ∈ rcFields off, fieldMet (0 : Word).toNat f = false := fun f _ => fieldMet_zero f
    refine ⟨t, hexec, ?_, ?_, ?_, hclear.pool⟩
    · rw [hdata, readValue_of_unmet hunmet, hlook]
      simp [State.regN]
    · rw [hclear.cleared _ hcount, hunmet _ hcount]
      rfl
    · have h := hclear.beside 0 3 (by rw [hrc]; decide)
      rw [hoff] at h
      exact h
  · rintro rfl hpos hlt
    have hmet : fieldMet (0xFFFF0000 : Word).toNat F.MEM_COLL.COUNT = true := by decide
    have hn : n = bitsOf (s.lookAt off) 16 16 := by rw [hlook, hoff]; rfl
    refine ⟨t, _, hexec, hdata, ?_, ?_⟩
    · rw [BitVec.toNat_ofNat, bitsOf_mod_two_pow _ (by decide), hn]
      rw [hn] at hpos hlt
      exact bitsOf_readValue_met hcount hmet hpos hlt
    · rw [hclear.cleared _ hcount, hmet]
      rfl

theorem loReadCapture_timNow (hu : s.inUse = true) (hoff : off.val = R.TIM_NOW_NS_LO) (hc : Sparse.find? s.captured off = none) :
    ∃ t, exec (.loReadCapture off) s = .next t ∧ t.readData = [BitVec.ofNat 32 s.ns] ∧ t.regs = s.regs ∧
      Sparse.find? t.captured R.TIM_NOW_NS_HI = some (BitVec.ofNat 32 (s.ns / 2 ^ 32)) ∧
      Sparse.find? t.captured R.TIM_NOW_FRAC = some (BitVec.ofNat 32 s.now) := by
  have hread : s.loRead off = State.capture { s with readData := [BitVec.ofNat 32 s.ns] } R.TIM_NOW_NS_LO := by
    rw [hoff] at hc ⊢
    rw [State.loRead, captures_timNowLo, if_neg (List.cons_ne_nil _ _), regRead_served (answers_of_inUse hu) (serves_of_inUse hu _),
      readServed_fresh hc, clearRc_of_none rcFields_timNowLo, readValue_of_unmet (by simp [rcFields_timNowLo]), lookAt_timNowLo,
      ofNat_mod_two_pow]
  refine ⟨Answered s (s.loRead off), rfl, ?_⟩
  rw [hread, capture_timNowLo]
  refine ⟨rfl, rfl, ?_, ?_⟩
  · simp [Answered, Sparse.find_insert, R.TIM_NOW_NS_HI, R.TIM_NOW_FRAC, State.ns]
  · simp [Answered, Sparse.find_insert]

theorem rcFieldRead_timNowHi (hu : s.inUse = true) (hoff : off.val = R.TIM_NOW_NS_HI) {w : Word}
    (hc : Sparse.find? s.captured off = some w) (met : Word) :
    exec (.rcFieldRead off met) s = .next { s with readData := [w] } := by
  rw [rcFieldRead_served (answers_of_inUse hu) (serves_of_inUse hu off) (by rw [hoff]; decide), State.readServed, hc]
  simp only [hoff, beq_self_eq_true, Bool.true_or, if_true]
  exact answer_of_kept rfl rfl

theorem loReadCapture_other (hcap : captures off = []) : exec (.loReadCapture off) s = .next s := by
  rw [exec_loReadCapture, execLoReadCapture, State.loRead, if_pos hcap]
  exact answer_of_kept rfl rfl

end

end Sys2Proof.Machine
end

section
/-! SUPPORT. The statement on register accesses, from the lemmas on writes and on reads. -/
namespace Sys2Proof.Machine

/-- Settles O26: an aligned write is followed into its window and taken apart into the RW and W1C bits it merges and the ST bits it stages;
an aligned read is the value shown before the events met and a fold of cleared fields, which do not overlap on any card. -/
theorem registerAccess : Obligations.RegisterAccess := by
  unfold Obligations.RegisterAccess
  constructor
  · intro off value met s
    refine ⟨fun ha => ?_, fun ha hs => ?_, fun hs => ?_, fun hu hplain => ?_, fun hu hlo hhi hal => ?_, ?_, ?_, ?_, ?_⟩
    · have hs := not_serves_of_not_answers ha off
      exact ⟨registerWrite_unserved hs value met, misalignedWrite_unserved hs⟩
    · exact ⟨misalignedWrite_served ha hs, fun hoff => registerWrite_unaligned ha hs hoff value met⟩
    · exact ⟨registerWrite_unserved hs value met, misalignedWrite_unserved hs⟩
    · exact registerWrite_plain hu hplain.1 hplain.2 value met
    · exact registerWrite_reserved hu ⟨hlo, hhi⟩ hal value met
    · rintro hu ⟨k, hk, hoff⟩
      exact registerWrite_ringIrq hu hk hoff value met
    · intro w hu hw hoff
      exact registerWrite_evPend hu hw hoff value met
    · intro u hst hu hsrc hoff
      exact registerWrite_srcMemBase hst hu hsrc hoff value met
    · rintro hst hu ⟨u, hsrc, hoff⟩
      exact registerWrite_srcPlayedLo hst hu hsrc hoff value met
  · intro off met s
    refine ⟨fun ha => ?_, fun ha hs => ?_, fun ha hs => ?_, fun ha hs hal hc => ?_, fun ha hs hal hc hrc hcap => ?_, ?_, ?_, ?_, ?_, ?_⟩
    · exact ⟨rcFieldRead_unanswered ha met, misalignedRead_unanswered ha⟩
    · exact ⟨rcFieldRead_unserved ha hs met, misalignedRead_unserved ha hs⟩
    · exact ⟨misalignedRead_served ha hs, fun hoff => rcFieldRead_unaligned ha hs hoff met⟩
    · exact rcFieldRead_fields ha hs hal hc met
    · exact rcFieldRead_plain ha hs hal hc hrc hcap met
    · rintro - ⟨k, hk, hoff⟩
      rw [hoff, lookAt_ringIrq hk]
    · intro hu hoff hc
      exact rcFieldRead_memColl hu hoff hc met
    · intro hu hoff hc
      exact loReadCapture_timNow hu hoff hc
    · intro w hu hoff hc
      exact rcFieldRead_timNowHi hu hoff hc met
    · exact loReadCapture_other

end Sys2Proof.Machine
end

section
/-! SUPPORT. Beginning an instruction: what a row answers whose engine begins it, with the causes of the opcode at hand and its effect. -/
namespace Sys2Proof.Machine

/-! ## Rows and their opcodes -/

theorem exec_vec (sg : Fin 64) (s : State) : exec (.vec sg) s = s.answer (s.runInstr sg 0x01 none) := rfl
theorem exec_rpt (sg : Fin 64) (s : State) : exec (.rpt sg) s = s.answer (s.runInstr sg 0x02 none) := rfl
theorem exec_jmp (sg : Fin 64) (s : State) : exec (.jmp sg) s = s.answer (s.runInstr sg 0x03 none) := rfl
theorem exec_lbeg (sg : Fin 64) (s : State) : exec (.lbeg sg) s = s.answer (s.runInstr sg 0x05 none) := rfl
theorem exec_lend (sg : Fin 64) (s : State) : exec (.lend sg) s = s.answer (s.runInstr sg 0x06 none) := rfl
theorem exec_call (sg : Fin 64) (s : State) : exec (.call sg) s = s.answer (s.runInstr sg 0x07 none) := rfl
theorem exec_ret (sg : Fin 64) (s : State) : exec (.ret sg) s = s.answer (s.runInstr sg 0x08 none) := rfl
theorem exec_tset (sg : Fin 64) (s : State) : exec (.tset sg) s = s.answer (s.runInstr sg 0x0B none) := rfl
theorem exec_setg (sg : Fin 64) (s : State) : exec (.setg sg) s = s.answer (s.runInstr sg 0x10 none) := rfl
theorem exec_clf (sg : Fin 64) (s : State) : exec (.clf sg) s = s.answer (s.runInstr sg 0x11 none) := rfl
theorem exec_halt (sg : Fin 64) (s : State) : exec (.halt sg) s = s.answer (s.runInstr sg 0x12 none) := rfl

/-! ## What a row answers whose engine begins an instruction -/

/-- Reading a sound instruction reports nothing. -/
theorem readInstr_of_sound {s : State} {sg : Nat} (h : s.poisoned (s.pcAddr sg) 8 = false) : s.readInstr sg = s := by
  have hnone : s.badWords (s.pcAddr sg) 8 = [] := by simpa [State.poisoned] using h
  rw [State.readInstr, State.reportPoison, hnone, List.foldl_nil]

section
variable {s b t : State} {sg : Nat} {e : Engine} {w : Nat}

theorem Begins.engine_eq (h : Begins s b sg e w) : e = b.engine sg := by
  obtain ⟨-, -, -, he, -⟩ := h
  exact he

theorem Begins.nextInstr_eq (h : Begins s b sg e w) : s.nextInstr sg = some (iOp w, iX w) := by
  obtain ⟨hdue, hopen, rfl, rfl, hrun, hcur, rfl, -⟩ := h
  simp [State.nextInstr, hdue, hopen, hrun, hcur]

/-- A sound instruction without a cause begins. -/
theorem Begins.beginInstr_of_none (h : Begins s b sg e w) {m start : Nat} (hc : b.beginCause sg w m start = none) :
    b.beginInstr sg m start = .ok (b.beginEffect sg e.pc w m start) := by
  obtain ⟨-, -, -, rfl, -, -, rfl, hsound⟩ := h
  simp only [State.beginInstr, hsound, hc, Bool.false_eq_true, if_false]

/-- A sound instruction with a cause does not begin. -/
theorem Begins.beginInstr_of_some (h : Begins s b sg e w) {m start cause : Nat}
    (hc : b.beginCause sg w m start = some cause) : b.beginInstr sg m start = .error cause := by
  obtain ⟨-, -, -, rfl, -, -, rfl, hsound⟩ := h
  simp only [State.beginInstr, hsound, hc, Bool.false_eq_true, if_false]

/-- The engine begins the instruction: its effect, then its first line. -/
theorem Begins.issueRun_of_none (h : Begins s b sg e w) (hc : b.beginCause sg w (b.seCycle sg) e.nextStart = none) :
    (s.advance sg).issueRun sg =
      (b.beginEffect sg e.pc w (b.seCycle sg) e.nextStart).issueCurrent sg (b.seCycle sg) e.nextStart := by
  have hbegin := h.beginInstr_of_none hc
  obtain ⟨-, -, rfl, rfl, -, hcur, -, hsound⟩ := h
  simp only [State.issueRun, hcur, Option.isNone_none, if_true, readInstr_of_sound hsound, hbegin]

/-- A cause ends the burst at the line that the instruction would issue first. -/
theorem Begins.issueRun_of_some (h : Begins s b sg e w) {cause : Nat}
    (hc : b.beginCause sg w (b.seCycle sg) e.nextStart = some cause) :
    (s.advance sg).issueRun sg = (b.setEngine sg { e with nextStart := e.nextStart + b.period sg }).stopLine sg
      (b.seCycle sg) e.nextStart cause := by
  have hbegin := h.beginInstr_of_some hc
  obtain ⟨-, -, rfl, rfl, -, hcur, -, hsound⟩ := h
  simp only [State.issueRun, hcur, Option.isNone_none, if_true, readInstr_of_sound hsound, hbegin]

theorem Begins.runInstr_eq (h : Begins s b sg e w) (op : Nat) :
    s.runInstr sg op none = if iOp w = op then (s.advance sg).issueRun sg else s := by
  simp [State.runInstr, h.nextInstr_eq]

/-- The row of the opcode at hand carries out the effect and issues the first line. -/
theorem Begins.answer_begun (h : Begins s b sg e w) {op : Nat} (hop : iOp w = op)
    (hc : b.beginCause sg w (b.seCycle sg) e.nextStart = none)
    (ht : b.beginEffect sg e.pc w (b.seCycle sg) e.nextStart = t) :
    s.answer (s.runInstr sg op none) = .next (Answered s (t.issueCurrent sg (b.seCycle sg) e.nextStart)) := by
  rw [h.runInstr_eq, if_pos hop, h.issueRun_of_none hc, ht, answer_eq]

/-- The row of the opcode at hand ends the burst with the cause that holds. -/
theorem Begins.answer_stopped (h : Begins s b sg e w) {op cause : Nat} (hop : iOp w = op)
    (hc : b.beginCause sg w (b.seCycle sg) e.nextStart = some cause) :
    s.answer (s.runInstr sg op none) = .next (Answered s ((b.setEngine sg { e with
      nextStart := e.nextStart + b.period sg }).stopLine sg (b.seCycle sg) e.nextStart cause)) := by
  rw [h.runInstr_eq, if_pos hop, h.issueRun_of_some hc, answer_eq]

/-- The row of another opcode changes nothing. -/
theorem Begins.answer_skipped (h : Begins s b sg e w) {op : Nat} (hop : iOp w ≠ op) :
    s.answer (s.runInstr sg op none) = .next s := by
  rw [h.runInstr_eq, if_neg hop]
  exact answer_of_kept rfl rfl

end

/-! ## Causes, opcode by opcode -/

theorem lowestCause_single (holds : Bool) (c : Nat) : lowestCause [(holds, c)] = if holds then some c else none := by
  cases holds <;> rfl

/-- Of two causes in rising order the first that holds is the lowest. -/
theorem lowestCause_pair (first second : Bool) {c d : Nat} (h : c ≤ d) :
    lowestCause [(first, c), (second, d)] = if first then some c else if second then some d else none := by
  cases first <;> cases second <;> simp [lowestCause, h]

section
variable (s : State) (sg m start : Nat) {w : Nat}

/-- VEC, RPT, JMP, TSET, SETG, CLF and HALT have no cause of their own. -/
theorem beginCause_straight (h : iOp w ∈ [0x01, 0x02, 0x03, 0x0B, 0x10, 0x11, 0x12]) : s.beginCause sg w m start = none := by
  simp only [List.mem_cons, List.not_mem_nil, or_false] at h
  rcases h with h | h | h | h | h | h | h <;> simp only [State.beginCause, h]

theorem beginCause_lbeg (h : iOp w = 0x05) : s.beginCause sg w m start =
    if 8 ≤ (s.engine sg).loops.length then some 0x07
    else if (if iX w = 0 then iA w else s.gr sg (iA w % 16)) = 0 then some 0x08 else none := by
  have hrising : 0x07 ≤ 0x08 := by decide
  simp only [State.beginCause, h, cLoopDepth, cZeroCount, lowestCause_pair _ _ hrising, decide_eq_true_eq, beq_iff_eq]

theorem beginCause_lend_nil (h : iOp w = 0x06) (hl : (s.engine sg).loops = []) : s.beginCause sg w m start = some 0x07 := by
  simp only [State.beginCause, h, hl, cLoopDepth]

theorem beginCause_lend_cons (h : iOp w = 0x06) {l : LoopLevel} {t : List LoopLevel} (hl : (s.engine sg).loops = l :: t) :
    s.beginCause sg w m start = if l.level = (s.engine sg).calls.length then none else some 0x07 := by
  simp only [State.beginCause, h, hl, cLoopDepth]

theorem beginCause_call (h : iOp w = 0x07) :
    s.beginCause sg w m start = if 16 ≤ (s.engine sg).calls.length then some 0x06 else none := by
  simp only [State.beginCause, h, lowestCause_single, decide_eq_true_eq, cStack]

theorem beginCause_ret (h : iOp w = 0x08) :
    s.beginCause sg w m start = if (s.engine sg).calls = [] then some 0x06 else none := by
  simp only [State.beginCause, h, lowestCause_single, List.isEmpty_iff, cStack]

end

/-! ## Effects, opcode by opcode -/

section
variable (s : State) (sg m start : Nat) {w : Nat}

/-- VEC and RPT issue A lines and go on with the next instruction. -/
theorem beginEffect_lines (h : iOp w = 0x01 ∨ iOp w = 0x02) : s.beginEffect sg (s.engine sg).pc w m start =
    s.setEngine sg { s.engine sg with cur := some ⟨(s.engine sg).pc, w, m, 0, iA w, (s.engine sg).pc + 1, 0, none, []⟩ } := by
  rcases h with h | h <;> simp only [State.beginEffect, h, Current.of]

theorem beginEffect_jmp (h : iOp w = 0x03) : s.beginEffect sg (s.engine sg).pc w m start =
    s.setEngine sg { s.engine sg with cur := oneLine (s.engine sg) w m (iA w) } := by
  simp only [State.beginEffect, h, Current.of, oneLine]

theorem beginEffect_lbeg (h : iOp w = 0x05) : s.beginEffect sg (s.engine sg).pc w m start =
    s.setEngine sg { s.engine sg with
      loops := ⟨if iX w = 0 then iA w else s.gr sg (iA w % 16), (s.engine sg).calls.length⟩ :: (s.engine sg).loops
      cur := oneLine (s.engine sg) w m ((s.engine sg).pc + 1) } := by
  simp only [State.beginEffect, h, Current.of, oneLine]

theorem beginEffect_lend (h : iOp w = 0x06) {l : LoopLevel} {t : List LoopLevel} (hl : (s.engine sg).loops = l :: t) :
    s.beginEffect sg (s.engine sg).pc w m start =
      if l.remaining = 1 then
        s.setEngine sg { s.engine sg with loops := t, cur := oneLine (s.engine sg) w m ((s.engine sg).pc + 1) }
      else s.setEngine sg { s.engine sg with
        loops := { l with remaining := l.remaining - 1 } :: t, cur := oneLine (s.engine sg) w m (iA w) } := by
  simp only [State.beginEffect, h, hl, Current.of, oneLine]

theorem beginEffect_call (h : iOp w = 0x07) : s.beginEffect sg (s.engine sg).pc w m start =
    s.setEngine sg { s.engine sg with
      calls := ((s.engine sg).pc + 1) :: (s.engine sg).calls, cur := oneLine (s.engine sg) w m (iA w) } := by
  simp only [State.beginEffect, h, Current.of, oneLine]

theorem beginEffect_ret (h : iOp w = 0x08) {a : Nat} {t : List Nat} (hcalls : (s.engine sg).calls = a :: t) :
    s.beginEffect sg (s.engine sg).pc w m start =
      s.setEngine sg { s.engine sg with calls := t, cur := oneLine (s.engine sg) w m a } := by
  simp only [State.beginEffect, h, hcalls, List.headD_cons, List.tail_cons, Current.of, oneLine]

theorem beginEffect_tset (h : iOp w = 0x0B) : s.beginEffect sg (s.engine sg).pc w m start =
    s.setEngine sg { s.engine sg with
      ts := iA w % 256, cur := oneLine (s.engine sg) w m ((s.engine sg).pc + 1) } := by
  simp only [State.beginEffect, h, Current.of, oneLine]

theorem beginEffect_setg (h : iOp w = 0x10) : s.beginEffect sg (s.engine sg).pc w m start =
    (s.setEngine sg { s.engine sg with cur := oneLine (s.engine sg) w m ((s.engine sg).pc + 1) }).setReg
      (R.SE_GR sg (iX w)) (iA w) := by
  simp only [State.beginEffect, h, Current.of, oneLine]

theorem beginEffect_clf (h : iOp w = 0x11) : s.beginEffect sg (s.engine sg).pc w m start =
    s.setEngine sg { s.engine sg with clf := m, cur := oneLine (s.engine sg) w m ((s.engine sg).pc + 1) } := by
  simp only [State.beginEffect, h, Current.of, oneLine]

theorem beginEffect_halt (h : iOp w = 0x12) : s.beginEffect sg (s.engine sg).pc w m start =
    s.setEngine sg { s.engine sg with cur := oneLine (s.engine sg) w m ((s.engine sg).pc + 1) } := by
  simp only [State.beginEffect, h, Current.of, oneLine]

end

end Sys2Proof.Machine
end

section
/-! SUPPORT. The statement on straight-line, loop and call instructions, from the lemmas on beginning an instruction. -/
namespace Sys2Proof.Machine

/-- Settles O1: each row whose opcode is at hand answers its effect and first line, or the stop with the cause that its stacks and its
count give; the row of another opcode leaves everything unchanged. -/
theorem straightAndLoops : Obligations.StraightAndLoops := by
  unfold Obligations.StraightAndLoops
  constructor
  · intro sg s b e w h
    obtain rfl := h.engine_eq
    have hnone := fun hop => beginCause_straight (w := w) b sg (b.seCycle sg) (b.engine sg).nextStart hop
    refine ⟨fun hop => ?_, fun hop => ?_, fun hop => ?_, fun hop => ?_, fun hop => ?_, fun hop => ?_, fun hop => ?_,
      h.answer_skipped, h.answer_skipped, h.answer_skipped, h.answer_skipped, h.answer_skipped, h.answer_skipped,
      h.answer_skipped⟩
    · rw [exec_vec]
      exact h.answer_begun hop (hnone (by simp [hop])) (beginEffect_lines _ _ _ _ (.inl hop))
    · rw [exec_rpt]
      exact h.answer_begun hop (hnone (by simp [hop])) (beginEffect_lines _ _ _ _ (.inr hop))
    · rw [exec_jmp]
      exact h.answer_begun hop (hnone (by simp [hop])) (beginEffect_jmp _ _ _ _ hop)
    · rw [exec_tset]
      exact h.answer_begun hop (hnone (by simp [hop])) (beginEffect_tset _ _ _ _ hop)
    · rw [exec_setg]
      exact h.answer_begun hop (hnone (by simp [hop])) (beginEffect_setg _ _ _ _ hop)
    · rw [exec_clf]
      exact h.answer_begun hop (hnone (by simp [hop])) (beginEffect_clf _ _ _ _ hop)
    · rw [exec_halt]
      exact h.answer_begun hop (hnone (by simp [hop])) (beginEffect_halt _ _ _ _ hop)
  · intro sg s b e w h
    obtain rfl := h.engine_eq
    refine ⟨fun hop => ?_, fun hop => ?_, fun hop => ?_, fun hop => ?_⟩
    · rw [exec_lbeg]
      have hcause := beginCause_lbeg b sg (b.seCycle sg) (b.engine sg).nextStart hop
      refine ⟨fun hfull => ?_, fun hroom hzero => ?_, fun hroom hcount => ?_⟩
      · exact h.answer_stopped hop (by rw [hcause, if_pos hfull])
      · exact h.answer_stopped hop (by rw [hcause, if_neg hroom.not_ge, if_pos hzero])
      · exact h.answer_begun hop (by rw [hcause, if_neg hroom.not_ge, if_neg hcount]) (beginEffect_lbeg _ _ _ _ hop)
    · rw [exec_lend]
      refine ⟨fun hnil => h.answer_stopped hop (beginCause_lend_nil _ _ _ _ hop hnil), fun l t hcons => ?_⟩
      have hcause := beginCause_lend_cons b sg (b.seCycle sg) (b.engine sg).nextStart hop hcons
      have heffect := beginEffect_lend b sg (b.seCycle sg) (b.engine sg).nextStart hop hcons
      refine ⟨fun hother => ?_, fun hown hlast => ?_, fun hown hmore => ?_⟩
      · exact h.answer_stopped hop (by rw [hcause, if_neg hother])
      · exact h.answer_begun hop (by rw [hcause, if_pos hown]) (by rw [heffect, if_pos hlast])
      · exact h.answer_begun hop (by rw [hcause, if_pos hown]) (by rw [heffect, if_neg hmore])
    · rw [exec_call]
      have hcause := beginCause_call b sg (b.seCycle sg) (b.engine sg).nextStart hop
      refine ⟨fun hfull => ?_, fun hroom => ?_⟩
      · exact h.answer_stopped hop (by rw [hcause, if_pos hfull])
      · exact h.answer_begun hop (by rw [hcause, if_neg hroom.not_ge]) (beginEffect_call _ _ _ _ hop)
    · rw [exec_ret]
      have hcause := beginCause_ret b sg (b.seCycle sg) (b.engine sg).nextStart hop
      refine ⟨fun hnil => ?_, fun a t hcons => ?_⟩
      · exact h.answer_stopped hop (by rw [hcause, if_pos hnil])
      · exact h.answer_begun hop (by rw [hcause, if_neg (by simp [hcons])]) (beginEffect_ret _ _ _ _ hop hcons)

end Sys2Proof.Machine
end

section
/-! SUPPORT. The start of a burst: what clearing the fail counts changes, and the registers that the other parts of a start keep. -/
namespace Sys2Proof.Machine

/-! ## Members -/

theorem mem_bits256 {s : State} {reg : Nat → Nat} {n : Nat} :
    n ∈ s.bits256 reg ↔ n < 256 ∧ bitOf (s.regN (reg (n / 32))) (n % 32) = true := by
  simp only [State.bits256, List.mem_flatMap, List.mem_range]
  constructor
  · rintro ⟨w, hw, hn⟩
    split at hn
    · cases hn
    · simp only [bitsSet, List.mem_map, List.mem_filter, List.mem_range] at hn
      obtain ⟨j, ⟨hj, hbit⟩, rfl⟩ := hn
      have hdiv : (32 * w + j) / 32 = w := by omega
      have hmod : (32 * w + j) % 32 = j := by omega
      exact ⟨by omega, by rwa [hdiv, hmod]⟩
  · rintro ⟨hlt, hbit⟩
    refine ⟨n / 32, by omega, ?_⟩
    have hne : s.regN (reg (n / 32)) ≠ 0 := fun h0 => by simp [h0] at hbit
    rw [if_neg hne]
    simp only [bitsSet, List.mem_map, List.mem_filter, List.mem_range]
    exact ⟨n % 32, ⟨by omega, hbit⟩, by omega⟩

theorem mem_members {s : State} {sg ch : Nat} : ch ∈ s.members sg ↔ ch < 256 ∧ s.isMember sg ch = true := mem_bits256

theorem members_congr {s t : State} {sg : Nat} (h : ∀ w, w < 8 → t.regN (R.SE_CHMAP sg w) = s.regN (R.SE_CHMAP sg w)) (ch : Nat) :
    ch ∈ t.members sg ↔ ch ∈ s.members sg := by
  simp only [mem_members, State.isMember]
  exact and_congr_right fun hch => by rw [h (ch / 32) (by omega)]

/-! ## Clearing the fail counts -/

/-- The offsets of a group's first-fail records. -/
abbrev FirstFailOffset (sg off : Nat) : Prop := R.CMP_FF_0 sg 0 ≤ off ∧ off < R.CMP_FF_0 sg 16

/-- Clear the fail count and SAT of a channel. -/
def clearChannel (s : State) (ch : Nat) : State := (s.setReg (R.CMP_FAILCNT ch) 0).setFld (F.CMP_CHSTAT.SAT ch) 0

theorem clearCounts_eq (s : State) (sg : Nat) :
    s.clearCounts sg = ((s.members sg).foldl clearChannel s).resetRegs (R.CMP_FF_0 sg 0) (R.CMP_FF_0 sg 16) := rfl

theorem failCnt_ne_chStat (c d : Nat) : R.CMP_FAILCNT c ≠ R.CMP_CHSTAT d := by simp only [R.CMP_FAILCNT, R.CMP_CHSTAT]; omega

theorem failCnt_inj {c d : Nat} : R.CMP_FAILCNT c = R.CMP_FAILCNT d ↔ c = d := by simp only [R.CMP_FAILCNT]; omega

theorem chStat_inj {c d : Nat} : R.CMP_CHSTAT c = R.CMP_CHSTAT d ↔ c = d := by simp only [R.CMP_CHSTAT]; omega

theorem regN_clearChannel_other {s : State} {ch off : Nat} (hcnt : off ≠ R.CMP_FAILCNT ch) (hstat : off ≠ R.CMP_CHSTAT ch) :
    (clearChannel s ch).regN off = s.regN off := by
  rw [clearChannel, regN_setFld_other _ _ _ _ hstat, regN_setReg_other _ _ _ _ hcnt]

theorem failCnt_clearChannel (s : State) (ch c : Nat) :
    (clearChannel s ch).regN (R.CMP_FAILCNT c) = if c = ch then 0 else s.regN (R.CMP_FAILCNT c) := by
  rw [clearChannel, regN_setFld_other _ _ _ _ (failCnt_ne_chStat c ch), regN_setReg]
  simp only [failCnt_inj, Nat.zero_mod]

theorem sat_clearChannel (s : State) (ch c : Nat) :
    (clearChannel s ch).fld (F.CMP_CHSTAT.SAT c) = if c = ch then 0 else s.fld (F.CMP_CHSTAT.SAT c) := by
  by_cases hc : c = ch
  · subst hc
    rw [if_pos rfl, clearChannel, fld_setFld_same _ _ _ (by simp [F.CMP_CHSTAT.SAT])]
    rfl
  · rw [if_neg hc, clearChannel, fld_setFld_other _ _ _ _ (chStat_inj.not.mpr hc), fld_setReg_other _ _ _ _ (failCnt_ne_chStat ch c).symm]

/-- A field of CMP_CHSTAT that lies apart from SAT. -/
theorem chStat_clearChannel (s : State) (ch : Nat) {g : Field} {c : Nat} (hg : g.off = R.CMP_CHSTAT c)
    (hapart : g.lo + g.width ≤ 1 ∨ 2 ≤ g.lo) : (clearChannel s ch).fld g = s.fld g := by
  have hset : (s.setReg (R.CMP_FAILCNT ch) 0).fld g = s.fld g := fld_setReg_other _ _ _ _ (hg ▸ (failCnt_ne_chStat ch c).symm)
  by_cases hc : c = ch
  · subst hc
    rw [clearChannel, fld_setFld_apart _ _ _ _ (by simp [F.CMP_CHSTAT.SAT]) hg hapart, hset]
  · rw [clearChannel, fld_setFld_other _ _ _ _ (hg ▸ chStat_inj.not.mpr hc), hset]

/-- What clearing the fail counts of a list of channels leaves. -/
structure ChannelsCleared (s t : State) (l : List Nat) : Prop where
  failCnt : ∀ c, t.regN (R.CMP_FAILCNT c) = if c ∈ l then 0 else s.regN (R.CMP_FAILCNT c)
  sat : ∀ c, t.fld (F.CMP_CHSTAT.SAT c) = if c ∈ l then 0 else s.fld (F.CMP_CHSTAT.SAT c)
  crossed : ∀ c, t.fld (F.CMP_CHSTAT.CROSSED c) = s.fld (F.CMP_CHSTAT.CROSSED c)
  crossCnt : ∀ c, t.fld (F.CMP_CHSTAT.CROSSCNT c) = s.fld (F.CMP_CHSTAT.CROSSCNT c)
  regs : ∀ off, (∀ c ∈ l, off ≠ R.CMP_FAILCNT c ∧ off ≠ R.CMP_CHSTAT c) → t.regN off = s.regN off
  pool : t.pool = s.pool
  engines : t.engines = s.engines

theorem foldl_clearChannel (l : List Nat) (s : State) : ChannelsCleared s (l.foldl clearChannel s) l := by
  induction l generalizing s with
  | nil => exact ⟨fun _ => by simp, fun _ => by simp, fun _ => rfl, fun _ => rfl, fun _ _ => rfl, rfl, rfl⟩
  | cons ch l ih =>
    obtain ⟨hcnt, hsat, hcrossed, hcross, hregs, hpool, hengines⟩ := ih (clearChannel s ch)
    refine ⟨fun c => ?_, fun c => ?_, fun c => ?_, fun c => ?_, fun off hoff => ?_, hpool, hengines⟩
    · rw [List.foldl_cons, hcnt, failCnt_clearChannel]
      by_cases hc : c = ch <;> simp [hc]
    · rw [List.foldl_cons, hsat, sat_clearChannel]
      by_cases hc : c = ch <;> simp [hc]
    · rw [List.foldl_cons, hcrossed, chStat_clearChannel s ch (c := c) rfl (.inl (by simp [F.CMP_CHSTAT.CROSSED]))]
    · rw [List.foldl_cons, hcross, chStat_clearChannel s ch (c := c) rfl (.inr (by simp [F.CMP_CHSTAT.CROSSCNT]))]
    · obtain ⟨hne, hl⟩ := List.forall_mem_cons.mp hoff
      rw [List.foldl_cons, hregs off hl, regN_clearChannel_other hne.1 hne.2]

theorem regN_resetRegs (s : State) (lo hi off : Nat) :
    (s.resetRegs lo hi).regN off = if lo ≤ off ∧ off < hi then (regReset off).toNat else s.regN off := by
  simp only [State.regN, State.reg, State.resetRegs, Sparse.get_eraseRange]
  split <;> rfl

/-- The compare registers read 0 after reset. -/
theorem regReset_compare {off : Nat} (h : 0x1800000 ≤ off ∧ off < 0x2000000) : regReset off = 0 := by
  have hnone : resetCards.find? (fun c => c.covers off) = none := by
    simp only [List.find?_eq_none, resetCards, List.forall_mem_cons, Card.covers, onGrid, Bool.and_eq_true, decide_eq_true_eq,
      beq_iff_eq, List.not_mem_nil, false_implies, implies_true, and_true]
    omega
  simp only [regReset, hnone]

theorem regN_clearCounts_of_not_firstFail {sg off : Nat} (h : ¬ FirstFailOffset sg off) (s : State) :
    (s.clearCounts sg).regN off = ((s.members sg).foldl clearChannel s).regN off := by
  rw [clearCounts_eq, regN_resetRegs, if_neg h]

theorem firstFail_clearCounts {sg off : Nat} (hsg : sg < 64) (h : FirstFailOffset sg off) (s : State) :
    (s.clearCounts sg).regN off = 0 := by
  have hreset : regReset off = 0 := regReset_compare (by simp only [FirstFailOffset, R.CMP_FF_0] at h; omega)
  rw [clearCounts_eq, regN_resetRegs, if_pos h, hreset]
  rfl

/-- Of the registers apart from the channels' and the first-fail records, clearing the counts changes none. -/
theorem regN_clearCounts_outside {sg off : Nat} (hch : off < 0x1800000 ∨ R.CMP_SGCFG 0 ≤ off) (hff : ¬ FirstFailOffset sg off) (s : State) :
    (s.clearCounts sg).regN off = s.regN off := by
  rw [regN_clearCounts_of_not_firstFail hff, (foldl_clearChannel _ s).regs off fun c hc => ?_]
  have hlt := (mem_members.mp hc).1
  simp only [R.CMP_FAILCNT, R.CMP_CHSTAT, R.CMP_SGCFG] at hch ⊢
  omega

theorem failCnt_clearCounts {c : Nat} (hc : c < 256) (s : State) (sg : Nat) :
    (s.clearCounts sg).regN (R.CMP_FAILCNT c) = if c ∈ s.members sg then 0 else s.regN (R.CMP_FAILCNT c) := by
  rw [regN_clearCounts_of_not_firstFail (by simp only [FirstFailOffset, R.CMP_FAILCNT, R.CMP_FF_0]; omega),
    (foldl_clearChannel _ s).failCnt]

theorem clearCounts_pool (s : State) (sg : Nat) : (s.clearCounts sg).pool = s.pool := (foldl_clearChannel _ s).pool

theorem clearCounts_engines (s : State) (sg : Nat) : (s.clearCounts sg).engines = s.engines := (foldl_clearChannel _ s).engines

theorem chStat_clearCounts {c : Nat} (hc : c < 256) {g : Field} (hg : g.off = R.CMP_CHSTAT c) (s : State) (sg : Nat) :
    (s.clearCounts sg).fld g = ((s.members sg).foldl clearChannel s).fld g := by
  rw [State.fld, hg, regN_clearCounts_of_not_firstFail (by simp only [FirstFailOffset, R.CMP_CHSTAT, R.CMP_FF_0]; omega), State.fld, hg]

/-! ## The fail state cleared -/

/-- The offsets of the fail state: the channels' compare registers, and the site fails and first-fail records of a group. -/
abbrev FailOffset (sg off : Nat) : Prop :=
  (0x1800000 ≤ off ∧ off < R.CMP_SGCFG 0) ∨ off = R.CMP_SITEFAIL sg ∨ FirstFailOffset sg off

theorem failOffset_failCnt {c : Nat} (hc : c < 256) (sg : Nat) : FailOffset sg (R.CMP_FAILCNT c) :=
  .inl (by simp only [R.CMP_FAILCNT, R.CMP_SGCFG]; omega)

theorem failOffset_chStat {c : Nat} (hc : c < 256) (sg : Nat) : FailOffset sg (R.CMP_CHSTAT c) :=
  .inl (by simp only [R.CMP_CHSTAT, R.CMP_SGCFG]; omega)

/-- The fail state of a group is cleared from s to t: its site fails and, unless they are kept, the counts and SAT of its members and its
first-fail records. CROSSED and CROSSCNT of the members are as before. -/
structure FailStateCleared (s t : State) (sg : Nat) (keeps : Bool) : Prop where
  siteFail : t.regN (R.CMP_SITEFAIL sg) = 0
  failCnt : ∀ c ∈ s.members sg, t.regN (R.CMP_FAILCNT c) = if keeps = true then s.regN (R.CMP_FAILCNT c) else 0
  sat : ∀ c ∈ s.members sg, t.fld (F.CMP_CHSTAT.SAT c) = if keeps = true then s.fld (F.CMP_CHSTAT.SAT c) else 0
  records : ∀ off, FirstFailOffset sg off → t.regN off = if keeps = true then s.regN off else 0
  crossed : ∀ c ∈ s.members sg, t.fld (F.CMP_CHSTAT.CROSSED c) = s.fld (F.CMP_CHSTAT.CROSSED c)
  crossCnt : ∀ c ∈ s.members sg, t.fld (F.CMP_CHSTAT.CROSSCNT c) = s.fld (F.CMP_CHSTAT.CROSSCNT c)

theorem failStateCleared_kept {s : State} {sg : Nat} (h : s.regN (R.CMP_SITEFAIL sg) = 0) : FailStateCleared s s sg true :=
  ⟨h, fun _ _ => rfl, fun _ _ => rfl, fun _ _ => rfl, fun _ _ => rfl, fun _ _ => rfl⟩

theorem failStateCleared_clearCounts {s : State} {sg : Nat} (hsg : sg < 64) (h : s.regN (R.CMP_SITEFAIL sg) = 0) :
    FailStateCleared s (s.clearCounts sg) sg false := by
  have hch := foldl_clearChannel (s.members sg) s
  refine ⟨?_, fun c hc => ?_, fun c hc => ?_, fun off hoff => ?_, fun c hc => ?_, fun c hc => ?_⟩
  · rw [regN_clearCounts_outside _ _ s, h]
    all_goals simp only [FirstFailOffset, R.CMP_SITEFAIL, R.CMP_SGCFG, R.CMP_FF_0]; omega
  · rw [failCnt_clearCounts (mem_members.mp hc).1, if_pos hc]
    rfl
  · rw [chStat_clearCounts (mem_members.mp hc).1 rfl, hch.sat, if_pos hc]
    rfl
  · exact firstFail_clearCounts hsg hoff s
  · rw [chStat_clearCounts (mem_members.mp hc).1 rfl, hch.crossed]
  · rw [chStat_clearCounts (mem_members.mp hc).1 rfl, hch.crossCnt]

theorem fld_congr {s t : State} {f : Field} (h : t.regN f.off = s.regN f.off) : t.fld f = s.fld f := by rw [State.fld, h, State.fld]

/-- Clearing is said of the members and of the fail registers alone, the site fails before it excepted. -/
theorem FailStateCleared.congr {s t s' t' : State} {sg : Nat} {keeps : Bool} (h : FailStateCleared s t sg keeps)
    (hmem : ∀ c, c ∈ s'.members sg → c ∈ s.members sg)
    (hs : ∀ off, FailOffset sg off → off ≠ R.CMP_SITEFAIL sg → s.regN off = s'.regN off)
    (ht : ∀ off, FailOffset sg off → t'.regN off = t.regN off) : FailStateCleared s' t' sg keeps := by
  have hcnt : ∀ {c}, c ∈ s'.members sg → s.regN (R.CMP_FAILCNT c) = s'.regN (R.CMP_FAILCNT c) := fun hc =>
    hs _ (failOffset_failCnt (mem_members.mp hc).1 sg) (by have := (mem_members.mp hc).1; simp only [R.CMP_FAILCNT, R.CMP_SITEFAIL]; omega)
  have hstat : ∀ {c}, c ∈ s'.members sg → s.regN (R.CMP_CHSTAT c) = s'.regN (R.CMP_CHSTAT c) := fun hc =>
    hs _ (failOffset_chStat (mem_members.mp hc).1 sg) (by have := (mem_members.mp hc).1; simp only [R.CMP_CHSTAT, R.CMP_SITEFAIL]; omega)
  have htstat : ∀ {c}, c ∈ s'.members sg → t'.regN (R.CMP_CHSTAT c) = t.regN (R.CMP_CHSTAT c) := fun hc =>
    ht _ (failOffset_chStat (mem_members.mp hc).1 sg)
  refine ⟨?_, fun c hc => ?_, fun c hc => ?_, fun off hoff => ?_, fun c hc => ?_, fun c hc => ?_⟩
  · rw [ht _ (.inr (.inl rfl)), h.siteFail]
  · rw [ht _ (failOffset_failCnt (mem_members.mp hc).1 sg), h.failCnt c (hmem c hc), hcnt hc]
  · rw [fld_congr (htstat hc), h.sat c (hmem c hc), fld_congr (hstat hc)]
  · have hne : off ≠ R.CMP_SITEFAIL sg := by simp only [FirstFailOffset, R.CMP_FF_0, R.CMP_SITEFAIL] at hoff ⊢; omega
    rw [ht off (.inr (.inr hoff)), h.records off hoff, hs off (.inr (.inr hoff)) hne]
  · rw [fld_congr (htstat hc), h.crossed c (hmem c hc), fld_congr (hstat hc)]
  · rw [fld_congr (htstat hc), h.crossCnt c (hmem c hc), fld_congr (hstat hc)]

/-! ## CLEAR -/

theorem exec_cmpClear (sg : Fin 64) (s : State) :
    exec (.cmpClear sg) s = s.answer (s.regWrite (R.CMP_SGCTRL sg) 1 0) := rfl

theorem regWrite_cmpCtrl {s : State} {sg : Nat} (hu : s.inUse = true) (hsg : sg < 64) (v met : Nat) :
    s.regWrite (R.CMP_SGCTRL sg) v met = s.cmpCtrlWrite sg v := by
  have hat : R.CMP_SGCTRL sg = 0x1820000 + 0x400 * sg + 8 := by simp only [R.CMP_SGCTRL]; omega
  rw [State.regWrite, if_pos (serves_of_inUse hu _), hat, writeServed_channel (by omega), State.channelWrite,
    instanceOf_at sg 8 hsg (by decide)]
  simp only [if_true]

theorem exec_cmpClear_busy {s : State} {sg : Fin 64} (hu : s.inUse = true) (hbusy : s.eState sg ≠ 0) :
    exec (.cmpClear sg) s = .next (s.report 249 kRegAccess (R.CMP_SGCTRL sg)) := by
  have hwrite : s.cmpCtrlWrite sg 1 = s.report 249 kRegAccess (R.CMP_SGCTRL sg) := if_pos hbusy
  rw [exec_cmpClear, regWrite_cmpCtrl hu sg.isLt, hwrite]
  exact answer_of_kept rfl rfl

theorem exec_cmpClear_idle {s : State} {sg : Fin 64} (hu : s.inUse = true) (hidle : s.eState sg = 0) :
    exec (.cmpClear sg) s = .next (Answered s ((s.setReg (R.CMP_SITEFAIL sg) 0).clearCounts sg)) := by
  have hwrite : s.cmpCtrlWrite sg 1 = (s.setReg (R.CMP_SITEFAIL sg) 0).clearCounts sg := if_neg (not_not.mpr hidle)
  rw [exec_cmpClear, regWrite_cmpCtrl hu sg.isLt, hwrite, answer_eq]

/-! ## What the parts of a start keep -/

/-- The offsets of the sequence engines and of the compare registers of channels and groups. -/
abbrev BurstOffset (off : Nat) : Prop := (0x1000000 ≤ off ∧ off < 0x1400000) ∨ (0x1800000 ≤ off ∧ off < 0x1840000)

/-- What the units and events of a burst's start leave alone: the engine and compare registers, and the commits that wait. -/
structure KeepsBurst (s t : State) : Prop where
  groupPend : t.groupPend = s.groupPend
  regs : ∀ off, BurstOffset off → t.regN off = s.regN off

theorem keepsBurst_refl (s : State) : KeepsBurst s s := ⟨rfl, fun _ _ => rfl⟩

theorem KeepsBurst.trans {s t u : State} (h : KeepsBurst s t) (h' : KeepsBurst t u) : KeepsBurst s u :=
  ⟨h'.groupPend.trans h.groupPend, fun off hoff => (h'.regs off hoff).trans (h.regs off hoff)⟩

theorem KeepsBurst.ite {s a b : State} {p : Prop} [Decidable p] (ha : KeepsBurst s a) (hb : KeepsBurst s b) :
    KeepsBurst s (if p then a else b) := by
  split <;> assumption

theorem KeepsBurst.foldl {α : Type} {f : State → α → State} {l : List α} (hf : ∀ s, ∀ a ∈ l, KeepsBurst s (f s a)) (s : State) :
    KeepsBurst s (l.foldl f s) := by
  induction l generalizing s with
  | nil => exact keepsBurst_refl s
  | cons a l ih =>
    obtain ⟨ha, hl⟩ := List.forall_mem_cons.mp fun x hx s => hf s x hx
    exact (ha s).trans (ih (fun s x hx => hl x hx s) (f s a))

theorem setReg_keepsBurst {off : Nat} (h : ¬ BurstOffset off) (s : State) (v : Nat) : KeepsBurst s (s.setReg off v) :=
  ⟨rfl, fun x hx => regN_setReg_other s off v x (by rintro rfl; exact h hx)⟩

theorem setFld_keepsBurst {f : Field} (h : ¬ BurstOffset f.off) (s : State) (v : Nat) : KeepsBurst s (s.setFld f v) :=
  setReg_keepsBurst h s _

/-! ### Events -/

theorem sendMsix_keepsBurst {vec : Nat} (h : vec < 64) (s : State) : KeepsBurst s (s.sendMsix vec) := by
  unfold State.sendMsix
  refine .ite (setReg_keepsBurst ?_ s _) ⟨rfl, fun _ _ => rfl⟩
  omega

/-- The pending bits of the 256 event sources lie in HIF_EVPEND. -/
theorem signal_keepsBurst {ev : Nat} (h : ev < 256) (s : State) : KeepsBurst s (s.signal ev) := by
  have hpend : KeepsBurst s (s.setFld (evPend ev) 1) := setFld_keepsBurst (by simp only [evPend, R.HIF_EVPEND]; omega) s 1
  unfold State.signal
  exact .ite (keepsBurst_refl s) (hpend.trans (.ite (sendMsix_keepsBurst (fld_lt _ _) _) (keepsBurst_refl _)))

theorem cnsSample_keepsBurst (s : State) (k : Nat) : KeepsBurst s (s.cnsSample k) := by
  have hreg64 : ∀ {lo hi : Nat} (s : State) (v : Nat), ¬ BurstOffset lo → ¬ BurstOffset hi → KeepsBurst s (s.setReg64 lo hi v) :=
    fun s v hlo hhi => (setReg_keepsBurst hlo s v).trans (setReg_keepsBurst hhi _ _)
  have hstat : ∀ {f : Field} (s : State) (v : Nat), f.off = R.CNS_SAMPSTAT → KeepsBurst s (s.setFld f v) :=
    fun s v hf => setFld_keepsBurst (by rw [hf]; decide) s v
  unfold State.cnsSample
  refine .ite ?_ (.ite (hstat _ _ rfl) (hstat _ _ rfl))
  exact (hreg64 _ _ (by decide) (by decide)).trans <| (hreg64 _ _ (by decide) (by decide)).trans <|
    (setReg_keepsBurst (by decide) _ _).trans <| (hstat _ _ rfl).trans <| (hstat _ _ rfl).trans (signal_keepsBurst (by decide) _)

theorem cnsAdd_keepsBurst {k : Nat} (hk : k < 8) (s : State) (n : Nat) : KeepsBurst s (s.cnsAdd k n) := by
  have hcount : ∀ v w : Nat, KeepsBurst s ((s.setReg (R.CNS_CTR_LO k) v).setFld (F.CNS_CTR_HI.COUNT k) w) := fun v w =>
    (setReg_keepsBurst (by simp only [R.CNS_CTR_LO]; omega) s v).trans
      (setFld_keepsBurst (by simp only [F.CNS_CTR_HI.COUNT, R.CNS_CTR_HI]; omega) _ w)
  have hwrapped : ∀ (s : State) (v : Nat), KeepsBurst s (s.setFld F.CNS_OVF.WRAPPED v) := setFld_keepsBurst (by decide)
  unfold State.cnsAdd
  exact .ite (hcount _ _) ((hcount _ _).trans <| (hwrapped _ _).trans (.ite (cnsSample_keepsBurst _ k) (keepsBurst_refl _)))

theorem count_keepsBurst (s : State) (ev n : Nat) : KeepsBurst s (s.count ev n) := by
  refine .foldl (fun s k hk => ?_) s
  have hadd := cnsAdd_keepsBurst (List.mem_range.mp hk) s
  exact .ite (.ite (hadd n) (.ite (keepsBurst_refl s) ⟨(hadd 1).groupPend, (hadd 1).regs⟩)) (keepsBurst_refl s)

/-! ### The safe-waveform cycle in progress -/

/-- The clamp registers and the clamp event of one of the 256 channels are none of a burst. -/
theorem clamp_keepsBurst {ch : Nat} (hch : ch < 256) (s : State) (bit cycle : Nat) : KeepsBurst s (s.clamp ch bit cycle) := by
  have htstat : ¬ BurstOffset (R.CH_TSTAT ch) := by simp only [R.CH_TSTAT]; omega
  have hfirst : ¬ BurstOffset (R.CH_CLAMPFIRST ch) := by simp only [R.CH_CLAMPFIRST]; omega
  have hcnt : ¬ BurstOffset (F.CH_CLAMPCNT.COUNT ch).off := by simp only [F.CH_CLAMPCNT.COUNT, R.CH_CLAMPCNT]; omega
  unfold State.clamp
  exact (KeepsBurst.ite (setReg_keepsBurst hfirst s cycle) (keepsBurst_refl s)).trans <| (setReg_keepsBurst htstat _ _).trans <|
    (setFld_keepsBurst hcnt _ _).trans <| (signal_keepsBurst (by omega) _).trans (count_keepsBurst _ _ _)

theorem placeLevel_keepsBurst {e : Edge} (hch : e.ch < 256) (s : State) : KeepsBurst s (s.placeLevel e) := by
  have hclamp : ∀ (p : Prop) [Decidable p] (bit : Nat) (c : Chan),
      KeepsBurst s ((if p then s.clamp e.ch bit e.cycle else s).setChan e.ch c) := fun p _ bit c =>
    (KeepsBurst.ite (clamp_keepsBurst hch s bit e.cycle) (keepsBurst_refl s)).trans ⟨rfl, fun _ _ => rfl⟩
  unfold State.placeLevel
  cases e.out with
  | drv => exact .ite (keepsBurst_refl s) (hclamp _ _ _)
  | den => exact .ite (keepsBurst_refl s) (hclamp _ _ _)

theorem placeLevels_keepsBurst {l : List Edge} (h : ∀ e ∈ l, e.ch < 256) (s : State) : KeepsBurst s (s.placeLevels l) :=
  .foldl (f := State.placeLevel) (fun s e he => placeLevel_keepsBurst (h e he) s) s

theorem setEngine_keepsBurst (s : State) (sg : Nat) (e : Engine) : KeepsBurst s (s.setEngine sg e) := ⟨rfl, fun _ _ => rfl⟩

/-- The edges a group's engine keeps of its latest safe-waveform cycle are of the part's 256 channels. -/
abbrev SafeInRange (s : State) (sg : Nat) : Prop := ∀ e ∈ (s.engine sg).safe, e.ch < 256

theorem placeSafe_keepsBurst {s : State} {sg : Nat} (h : SafeInRange s sg) (keep : Edge → Bool) : KeepsBurst s (s.placeSafe sg keep) := by
  unfold State.placeSafe
  have hplaced : ∀ f, KeepsBurst s (s.placeLevels ((s.engine sg).safe.filter f)) := fun f =>
    placeLevels_keepsBurst (fun e he => h e (List.mem_filter.mp he).1) s
  exact .ite (keepsBurst_refl s) ((hplaced _).trans (setEngine_keepsBurst _ sg _))

theorem edgesOf_ch (s : State) (p : Spot) (code : Nat) : ∀ e ∈ s.edgesOf p code, e.ch = p.ch := by
  intro e he
  simp only [State.edgesOf, List.mem_append, List.mem_ite_nil_right, List.mem_singleton] at he
  rcases he with ((he | he) | he) | he <;> rw [he.2]

/-- Every edge of a safe-waveform cycle is of one of the 256 channels. -/
theorem safeEdges_inRange (s : State) (sg start : Nat) : ∀ e ∈ s.safeEdges sg start, e.ch < 256 := by
  intro e he
  simp only [State.safeEdges, List.mem_flatMap] at he
  obtain ⟨ch, hch, q, -, he⟩ := he
  exact edgesOf_ch s _ _ e he ▸ (mem_members.mp hch).1

theorem acqBurst_engine (s : State) (sg start g : Nat) : (s.acqBurst sg start).engine g = s.engine g := by
  unfold State.acqBurst
  generalize s.acqUnitsOf sg = l
  induction l generalizing s with
  | nil => rfl
  | cons u l ih => exact ih _

theorem setAcq_keepsBurst (s : State) (u : Nat) (a : AcqUnit) : KeepsBurst s (s.setAcq u a) := ⟨rfl, fun _ _ => rfl⟩

theorem acqBurst_keepsBurst (s : State) (sg start : Nat) : KeepsBurst s (s.acqBurst sg start) := by
  unfold State.acqBurst
  exact .foldl (fun s u _ => setAcq_keepsBurst s u _) s

/-! ### The units -/

theorem setSrc_keepsBurst (s : State) (u : Nat) (v : SrcUnit) : KeepsBurst s (s.setSrc u v) := ⟨rfl, fun _ _ => rfl⟩

theorem srcStop_keepsBurst (s : State) (u : Nat) : KeepsBurst s (s.srcStop u) := by
  have hjump : KeepsBurst s (s.srcDropJump u) := by
    refine .ite ((setSrc_keepsBurst s u _).trans (setFld_keepsBurst ?_ _ 1)) (keepsBurst_refl s)
    simp only [F.SRC_JSTAT.DISCARDED, R.SRC_JSTAT]; omega
  refine hjump.trans (.trans (setFld_keepsBurst ?_ _ 0) (setSrc_keepsBurst _ u _))
  simp only [F.SRC_STAT.STATE, R.SRC_STAT]; omega

theorem modJstat_keepsBurst {f : Field} {u : Nat} (hf : f.off = R.MOD_JSTAT u) (s : State) (v : Nat) : KeepsBurst s (s.setFld f v) :=
  setFld_keepsBurst (by rw [hf, R.MOD_JSTAT]; omega) s v

theorem setModu_keepsBurst (s : State) (u : Nat) (m : ModUnit) : KeepsBurst s (s.setModu u m) := ⟨rfl, fun _ _ => rfl⟩

theorem modStart_keepsBurst (s : State) (u : Nat) : KeepsBurst s (s.modStart u) :=
  (setModu_keepsBurst s u _).trans (modJstat_keepsBurst rfl _ 0)

theorem modBoundary_keepsBurst (s : State) (u : Nat) : KeepsBurst s (s.modBoundary u) := by
  unfold State.modBoundary
  dsimp only
  split
  · exact setModu_keepsBurst s u _
  · exact setModu_keepsBurst s u _
  · exact (modJstat_keepsBurst rfl _ _).trans <| (modJstat_keepsBurst rfl _ _).trans <| (modJstat_keepsBurst rfl _ _).trans <|
      (modJstat_keepsBurst rfl _ _).trans (setModu_keepsBurst _ u _)
  · exact (KeepsBurst.ite (modJstat_keepsBurst rfl s 1) (keepsBurst_refl s)).trans (setModu_keepsBurst _ u _)

theorem modJump_keepsBurst (s : State) (u e : Nat) : KeepsBurst s (s.modJump u e) := by
  have hpull : KeepsBurst s (s.modPull u) :=
    (KeepsBurst.ite (modBoundary_keepsBurst s u) (keepsBurst_refl s)).trans (setModu_keepsBurst _ u _)
  have hreach : KeepsBurst s (s.modReach u) := .ite hpull (keepsBurst_refl s)
  refine hreach.trans (.ite (modJstat_keepsBurst rfl _ 1) (.trans ?_ (setModu_keepsBurst _ u _)))
  exact .ite (modJstat_keepsBurst rfl _ 1) (keepsBurst_refl _)

theorem latchJumps_keepsBurst (s : State) : KeepsBurst s s.latchJumps :=
  .foldl (fun s u _ => (modJump_keepsBurst s u _).trans (setReg_keepsBurst (by simp only [R.MOD_JUMP]; omega) _ 0)) s

/-- The group's source, modulation and check-value units at a burst's start. -/
def startUnits (s : State) (sg : Nat) : State :=
  let s := (unitsServing fun u => s.srcServes u sg).foldl (fun (s : State) u => (s.srcStop u).setFld (F.SRC_JSTAT.VALID u) 0) s
  let s := ((unitsServing fun u => s.modServes u sg).foldl (fun (s : State) u => s.modStart u) s).latchJumps
  ((List.range 32).filter fun u => s.cvServes u sg).foldl (fun (s : State) u => s.cvStart u) s

theorem cvStart_keepsBurst (s : State) (u : Nat) : KeepsBurst s (s.cvStart u) := ⟨rfl, fun _ _ => rfl⟩

theorem startUnits_keepsBurst (s : State) (sg : Nat) : KeepsBurst s (startUnits s sg) := by
  unfold startUnits
  refine .trans (.foldl (fun s u _ => (srcStop_keepsBurst s u).trans (setFld_keepsBurst ?_ _ 0)) s) <|
    .trans (.foldl (fun s u _ => modStart_keepsBurst s u) _) <|
    (latchJumps_keepsBurst _).trans (.foldl (fun s u _ => cvStart_keepsBurst s u) _)
  simp only [F.SRC_JSTAT.VALID, R.SRC_JSTAT]; omega

/-! ## The start of a burst -/

theorem exec_burstStart (sg : Fin 64) (s : State) : exec (.burstStart sg) s = s.answer (s.burstStart sg) := rfl

theorem meetTack_unmet {s : State} {start : Nat} (h : ∀ job, ¬ MeetsTack s job start) (sg : Nat) : s.meetTack sg start = s := by
  unfold State.meetTack
  cases htack : s.tack with
  | none => rfl
  | some job => exact if_neg fun hmet => h job ⟨htack, hmet⟩

/-- A start that is due, matched where it is paired and at which no Tack commits. -/
theorem exec_burstStart_due {s : State} {sg : Fin 64} {t0 : Nat} (hstart : (s.engine sg).start = some t0) (harmed : s.eState sg = 1)
    (hdue : t0 ≤ toTick s.now + 49152) (hpair : s.paired sg = true → (s.pair sg).matched = true) (htack : ∀ job, ¬ MeetsTack s job t0) :
    exec (.burstStart sg) s = .next (Answered s (s.startBurst sg t0)) := by
  have hmay : s.eState sg = 1 ∧ t0 ≤ toTick s.now + 49152 ∧ ((!s.paired sg) = true ∨ (s.pair sg).matched = true) := by
    refine ⟨harmed, hdue, ?_⟩
    cases hp : s.paired sg with
    | true => exact .inr (hpair hp)
    | false => exact .inl rfl
  have hbegun : s.burstStart sg = s.startBurst sg t0 := by simp only [State.burstStart, hstart, if_pos hmay, meetTack_unmet htack]
  rw [exec_burstStart, hbegun, answer_eq]

theorem groupValues_none {s : State} {sg : Nat} (h : ∀ c ∈ s.groupPend, c.sg ≠ sg) (cycle start : Nat) :
    s.groupValues sg cycle start = s := by
  have hnone : ∀ b, (s.groupPend.filter fun c => c.due b sg cycle start) = [] := fun b => by
    simp only [List.filter_eq_nil_iff, GroupCommit.due, Bool.and_eq_true, beq_iff_eq]
    exact fun c hc hdue => h c hc hdue.1
  simp only [State.groupValues, hnone, List.isEmpty_nil, if_true]

/-- The group as it enters RUNNING with its site fails cleared. -/
def enterRunningState (s : State) (sg start : Nat) : State :=
  (((s.acqBurst sg start).cutSafe sg start).setFld (F.SE_STATE.STATE sg) 2).setReg (R.CMP_SITEFAIL sg) 0

/-- Clear the counts of a group unless its KEEPCNT keeps them. -/
def clearUnlessKept (s : State) (sg : Nat) : State := if s.flag (F.CMP_SGCFG.KEEPCNT sg) then s else s.clearCounts sg

/-- The registers of the burst before that a start sets back: AUTOMASK, cause, the log's counts, burst number and cycle. -/
def startRegisters (s : State) (sg : Nat) : State :=
  let s := (s.setReg (R.SE_AUTOMASKED sg) 0).setReg (R.SE_CAUSE sg) 0
  let s := (s.setReg (R.CMP_SGLOGGED sg) 0).setReg (R.CMP_SGCAPPED sg) 0
  (s.addMod (F.CMP_SGBURST.NUMBER sg) 1).setReg64 (R.SE_CYCLE_LO sg) (R.SE_CYCLE_HI sg) 0

/-- The offsets of those registers. -/
def startOffsets (sg : Nat) : List Nat :=
  [R.SE_AUTOMASKED sg, R.SE_CAUSE sg, R.CMP_SGLOGGED sg, R.CMP_SGCAPPED sg, R.CMP_SGBURST sg, R.SE_CYCLE_LO sg, R.SE_CYCLE_HI sg]

theorem regN_startRegisters {sg off : Nat} (h : off ∉ startOffsets sg) (s : State) : (startRegisters s sg).regN off = s.regN off := by
  simp only [startOffsets, List.mem_cons, List.not_mem_nil, or_false, not_or] at h
  obtain ⟨hmask, hcause, hlogged, hcapped, hburst, hlo, hhi⟩ := h
  simp only [startRegisters, State.setReg64, State.addMod]
  rw [regN_setReg_other _ _ _ _ hhi, regN_setReg_other _ _ _ _ hlo, regN_setFld_other _ _ _ _ hburst, regN_setReg_other _ _ _ _ hcapped,
    regN_setReg_other _ _ _ _ hlogged, regN_setReg_other _ _ _ _ hcause, regN_setReg_other _ _ _ _ hmask]

theorem cutSafe_keepsBurst {s : State} {sg : Nat} (h : SafeInRange s sg) (start : Nat) :
    KeepsBurst s ((s.acqBurst sg start).cutSafe sg start) := by
  have hsafe : SafeInRange (s.acqBurst sg start) sg := by rwa [SafeInRange, acqBurst_engine]
  exact (acqBurst_keepsBurst s sg start).trans (placeSafe_keepsBurst hsafe _)

theorem regN_enterRunningState {s : State} {sg : Nat} (h : SafeInRange s sg) (start : Nat) {off : Nat} (hoff : BurstOffset off)
    (hstate : off ≠ R.SE_STATE sg) (hfail : off ≠ R.CMP_SITEFAIL sg) : (enterRunningState s sg start).regN off = s.regN off := by
  rw [enterRunningState, regN_setReg_other _ _ _ _ hfail, regN_setFld_other _ _ _ _ hstate, (cutSafe_keepsBurst h start).regs off hoff]

/-- Without commits that wait, a burst's start clears the counts of the group in RUNNING unless KEEPCNT keeps them, sets the registers of
the burst before back and starts the units. -/
theorem startBurst_regN {s : State} {sg start : Nat} (hsafe : SafeInRange s sg) (hpend : ∀ c ∈ s.groupPend, c.sg ≠ sg) {off : Nat}
    (hoff : BurstOffset off) (hout : off ∉ startOffsets sg) :
    (s.startBurst sg start).regN off = (clearUnlessKept (enterRunningState s sg start) sg).regN off := by
  have hvalues : (((s.acqBurst sg start).cutSafe sg start).setFld (F.SE_STATE.STATE sg) 2).groupValues sg 0 start =
      ((s.acqBurst sg start).cutSafe sg start).setFld (F.SE_STATE.STATE sg) 2 :=
    groupValues_none (by rwa [setFld_groupPend, (cutSafe_keepsBurst hsafe start).groupPend]) 0 start
  have hparts : (s.startBurst sg start).regN off = (startUnits (startRegisters (clearUnlessKept
      (((((s.acqBurst sg start).cutSafe sg start).setFld (F.SE_STATE.STATE sg) 2).groupValues sg 0 start).setReg
        (R.CMP_SITEFAIL sg) 0) sg) sg) sg).regN off := rfl
  rw [hparts, hvalues, (startUnits_keepsBurst _ sg).regs off hoff, regN_startRegisters hout, enterRunningState]

theorem failOffset_burst {sg off : Nat} (hsg : sg < 64) (h : FailOffset sg off) : BurstOffset off ∧ off ∉ startOffsets sg := by
  simp only [FailOffset, FirstFailOffset, R.CMP_SGCFG, R.CMP_SITEFAIL, R.CMP_FF_0] at h
  refine ⟨by omega, ?_⟩
  simp only [startOffsets, R.SE_AUTOMASKED, R.SE_CAUSE, R.CMP_SGLOGGED, R.CMP_SGCAPPED, R.CMP_SGBURST, R.SE_CYCLE_LO, R.SE_CYCLE_HI,
    List.mem_cons, List.not_mem_nil, or_false]
  omega

theorem mem_members_siteFail (s : State) (sg v c : Nat) :
    c ∈ (s.setReg (R.CMP_SITEFAIL sg) v).members sg ↔ c ∈ s.members sg :=
  members_congr (fun w hw => regN_setReg_other _ _ _ _ (by simp only [R.SE_CHMAP, R.CMP_SITEFAIL]; omega)) c

/-- CLEAR clears the whole fail state, KEEPCNT or not. -/
theorem clear_failStateCleared (s : State) {sg : Nat} (hsg : sg < 64) :
    FailStateCleared s ((s.setReg (R.CMP_SITEFAIL sg) 0).clearCounts sg) sg false :=
  (failStateCleared_clearCounts hsg (regN_setReg_same s _ 0)).congr (fun c => (mem_members_siteFail s sg 0 c).mpr)
    (fun off _ hne => regN_setReg_other s _ 0 off hne) fun _ _ => rfl

/-- CLEAR leaves the fail counts of the channels outside the group. -/
theorem clear_failCnt_other {s : State} {sg ch : Nat} (hlt : ch < 256) (hmem : s.isMember sg ch = false) :
    ((s.setReg (R.CMP_SITEFAIL sg) 0).clearCounts sg).regN (R.CMP_FAILCNT ch) = s.regN (R.CMP_FAILCNT ch) := by
  have hout : ch ∉ (s.setReg (R.CMP_SITEFAIL sg) 0).members sg := by
    rw [mem_members_siteFail, mem_members, hmem]
    simp
  rw [failCnt_clearCounts hlt, if_neg hout, regN_setReg_other]
  simp only [R.CMP_FAILCNT, R.CMP_SITEFAIL]; omega

/-- A start clears the site fails, and the rest of the fail state unless KEEPCNT is set. -/
theorem startBurst_failStateCleared {s : State} {sg start : Nat} (hsg : sg < 64) (hsafe : SafeInRange s sg)
    (hpend : ∀ c ∈ s.groupPend, c.sg ≠ sg) : FailStateCleared s (s.startBurst sg start) sg (s.flag (F.CMP_SGCFG.KEEPCNT sg)) := by
  have hregs := fun {off} => regN_enterRunningState (off := off) hsafe start
  have hzero : (enterRunningState s sg start).regN (R.CMP_SITEFAIL sg) = 0 := regN_setReg_same _ _ 0
  have hkeep : (enterRunningState s sg start).flag (F.CMP_SGCFG.KEEPCNT sg) = s.flag (F.CMP_SGCFG.KEEPCNT sg) := by
    rw [State.flag, State.flag, fld_congr (hregs ?_ ?_ ?_)]
    all_goals simp only [F.CMP_SGCFG.KEEPCNT, R.CMP_SGCFG, R.SE_STATE, R.CMP_SITEFAIL]; omega
  have hmem : ∀ c, c ∈ (enterRunningState s sg start).members sg ↔ c ∈ s.members sg := members_congr fun w hw => hregs
    (by simp only [R.SE_CHMAP]; omega) (by simp only [R.SE_CHMAP, R.SE_STATE]; omega) (by simp only [R.SE_CHMAP, R.CMP_SITEFAIL]; omega)
  have hcleared : FailStateCleared (enterRunningState s sg start) (clearUnlessKept (enterRunningState s sg start) sg) sg
      (s.flag (F.CMP_SGCFG.KEEPCNT sg)) := by
    rw [clearUnlessKept, hkeep]
    cases s.flag (F.CMP_SGCFG.KEEPCNT sg) with
    | true => exact failStateCleared_kept hzero
    | false => exact failStateCleared_clearCounts hsg hzero
  refine hcleared.congr (fun c => (hmem c).mpr) (fun off hoff hne => hregs (failOffset_burst hsg hoff).1 ?_ hne) fun off hoff => ?_
  · simp only [FailOffset, FirstFailOffset, R.CMP_SGCFG, R.CMP_SITEFAIL, R.CMP_FF_0, R.SE_STATE] at hoff ⊢
    omega
  · obtain ⟨hburst, hout⟩ := failOffset_burst hsg hoff
    exact startBurst_regN hsafe hpend hburst hout

theorem startBurst_eState {s : State} {sg start : Nat} (hsg : sg < 64) (hsafe : SafeInRange s sg)
    (hpend : ∀ c ∈ s.groupPend, c.sg ≠ sg) : (s.startBurst sg start).eState sg = 2 := by
  have hstate : (enterRunningState s sg start).eState sg = 2 := by
    rw [State.eState, enterRunningState, fld_setReg_other, fld_setFld_same]
    · rfl
    all_goals simp only [F.SE_STATE.STATE, R.SE_STATE, R.CMP_SITEFAIL]; omega
  have hclear : (clearUnlessKept (enterRunningState s sg start) sg).regN (R.SE_STATE sg) =
      (enterRunningState s sg start).regN (R.SE_STATE sg) := by
    unfold clearUnlessKept
    split
    · rfl
    · exact regN_clearCounts_outside (.inl (by simp only [R.SE_STATE]; omega))
        (by simp only [FirstFailOffset, R.SE_STATE, R.CMP_FF_0]; omega) _
  rw [← hstate]
  refine fld_congr ((startBurst_regN hsafe hpend ?_ ?_).trans hclear)
  · simp only [F.SE_STATE.STATE, R.SE_STATE]; omega
  · simp only [F.SE_STATE.STATE, startOffsets, R.SE_STATE, R.SE_AUTOMASKED, R.SE_CAUSE, R.CMP_SGLOGGED, R.CMP_SGCAPPED, R.CMP_SGBURST,
      R.SE_CYCLE_LO, R.SE_CYCLE_HI, List.mem_cons, List.not_mem_nil, or_false]
    omega

end Sys2Proof.Machine
end

section
/-! SUPPORT. The statement on clearing the fail state, state by state: where it holds, and a state where it fails. -/
namespace Sys2Proof.Machine

@[simp] theorem answered_fld (s t : State) (f : Field) : (Answered s t).fld f = t.fld f := rfl
@[simp] theorem answered_pool (s t : State) : (Answered s t).pool = t.pool := rfl
@[simp] theorem answered_engines (s t : State) : (Answered s t).engines = t.engines := rfl

/-- What `Obligations.CompareClear` says of one group in one state in use. -/
def ClearsFailState (sg : Fin 64) (s : State) : Prop :=
  (s.eState sg ≠ 0 → exec (.cmpClear sg) s = .next (s.report 249 kRegAccess (R.CMP_SGCTRL sg))) ∧
  (s.eState sg = 0 → ∃ t, exec (.cmpClear sg) s = .next t ∧ t.regN (R.CMP_SITEFAIL sg) = 0 ∧
    (∀ k, k < 16 → t.regN (R.CMP_FF_0 sg k) = 0 ∧ t.regN (R.CMP_FF_1 sg k) = 0 ∧ t.regN (R.CMP_FF_2 sg k) = 0 ∧
      t.regN (R.CMP_FF_3 sg k) = 0) ∧
    (∀ ch, ch < 256 → s.isMember sg ch = true → t.regN (R.CMP_FAILCNT ch) = 0 ∧ t.fld (F.CMP_CHSTAT.SAT ch) = 0 ∧
      t.fld (F.CMP_CHSTAT.CROSSED ch) = s.fld (F.CMP_CHSTAT.CROSSED ch) ∧
      t.fld (F.CMP_CHSTAT.CROSSCNT ch) = s.fld (F.CMP_CHSTAT.CROSSCNT ch)) ∧
    (∀ ch, ch < 256 → s.isMember sg ch = false → t.regN (R.CMP_FAILCNT ch) = s.regN (R.CMP_FAILCNT ch)) ∧
    t.pool = s.pool ∧ t.engines = s.engines) ∧
  (∀ t0, (s.engine sg).start = some t0 → s.eState sg = 1 → t0 ≤ toTick s.now + 49152 →
    (s.paired sg = true → (s.pair sg).matched = true) → (∀ c ∈ s.groupPend, c.sg ≠ sg.val) →
    (∀ job, ¬ MeetsTack s job t0) →
    let keeps := s.flag (F.CMP_SGCFG.KEEPCNT sg)
    ∃ t, exec (.burstStart sg) s = .next t ∧ t.eState sg = 2 ∧ t.regN (R.CMP_SITEFAIL sg) = 0 ∧
      (∀ k, k < 16 → t.regN (R.CMP_FF_0 sg k) = (if keeps = true then s.regN (R.CMP_FF_0 sg k) else 0) ∧
        t.regN (R.CMP_FF_1 sg k) = (if keeps = true then s.regN (R.CMP_FF_1 sg k) else 0) ∧
        t.regN (R.CMP_FF_2 sg k) = (if keeps = true then s.regN (R.CMP_FF_2 sg k) else 0) ∧
        t.regN (R.CMP_FF_3 sg k) = if keeps = true then s.regN (R.CMP_FF_3 sg k) else 0) ∧
      ∀ ch, ch < 256 → s.isMember sg ch = true →
        t.regN (R.CMP_FAILCNT ch) = (if keeps = true then s.regN (R.CMP_FAILCNT ch) else 0) ∧
        t.fld (F.CMP_CHSTAT.SAT ch) = (if keeps = true then s.fld (F.CMP_CHSTAT.SAT ch) else 0) ∧
        t.fld (F.CMP_CHSTAT.CROSSED ch) = s.fld (F.CMP_CHSTAT.CROSSED ch) ∧
        t.fld (F.CMP_CHSTAT.CROSSCNT ch) = s.fld (F.CMP_CHSTAT.CROSSCNT ch))

theorem compareClear_iff : Obligations.CompareClear ↔ ∀ (sg : Fin 64) (s : State), s.inUse = true → ClearsFailState sg s := Iff.rfl

theorem FailStateCleared.answered {s t : State} {sg : Nat} {keeps : Bool} (h : FailStateCleared s t sg keeps) :
    FailStateCleared s (Answered s t) sg keeps :=
  h.congr (fun _ hc => hc) (fun _ _ _ => rfl) (fun off _ => answered_regN s t off)

theorem FailStateCleared.firstFail {s t : State} {sg : Nat} {keeps : Bool} (h : FailStateCleared s t sg keeps) {k : Nat} (hk : k < 16) :
    t.regN (R.CMP_FF_0 sg k) = (if keeps = true then s.regN (R.CMP_FF_0 sg k) else 0) ∧
    t.regN (R.CMP_FF_1 sg k) = (if keeps = true then s.regN (R.CMP_FF_1 sg k) else 0) ∧
    t.regN (R.CMP_FF_2 sg k) = (if keeps = true then s.regN (R.CMP_FF_2 sg k) else 0) ∧
    t.regN (R.CMP_FF_3 sg k) = if keeps = true then s.regN (R.CMP_FF_3 sg k) else 0 := by
  refine ⟨h.records _ ?_, h.records _ ?_, h.records _ ?_, h.records _ ?_⟩ <;>
    simp only [FirstFailOffset, R.CMP_FF_0, R.CMP_FF_1, R.CMP_FF_2, R.CMP_FF_3] <;> omega

theorem FailStateCleared.channel {s t : State} {sg : Nat} {keeps : Bool} (h : FailStateCleared s t sg keeps) {ch : Nat} (hlt : ch < 256)
    (hmem : s.isMember sg ch = true) :
    t.regN (R.CMP_FAILCNT ch) = (if keeps = true then s.regN (R.CMP_FAILCNT ch) else 0) ∧
    t.fld (F.CMP_CHSTAT.SAT ch) = (if keeps = true then s.fld (F.CMP_CHSTAT.SAT ch) else 0) ∧
    t.fld (F.CMP_CHSTAT.CROSSED ch) = s.fld (F.CMP_CHSTAT.CROSSED ch) ∧
    t.fld (F.CMP_CHSTAT.CROSSCNT ch) = s.fld (F.CMP_CHSTAT.CROSSCNT ch) := by
  have hc := mem_members.mpr ⟨hlt, hmem⟩
  exact ⟨h.failCnt ch hc, h.sat ch hc, h.crossed ch hc, h.crossCnt ch hc⟩

/-- Where the safe edges in hand are of the part's 256 channels, CLEAR and a start clear the fail state as R127 says. -/
theorem clearsFailState_of_safeInRange {sg : Fin 64} {s : State} (hu : s.inUse = true) (hsafe : SafeInRange s sg) :
    ClearsFailState sg s := by
  refine ⟨exec_cmpClear_busy hu, fun hidle => ?_, fun t0 hstart harmed hdue hpair hpend htack => ?_⟩
  · have hclear := (clear_failStateCleared s sg.isLt).answered
    refine ⟨_, exec_cmpClear_idle hu hidle, hclear.siteFail, fun k hk => ?_, fun ch hlt hmem => ?_, fun ch hlt hmem => ?_, ?_, ?_⟩
    · simpa using hclear.firstFail hk
    · simpa using hclear.channel hlt hmem
    · rw [answered_regN, clear_failCnt_other hlt hmem]
    · rw [answered_pool, clearCounts_pool, setReg_pool]
    · rw [answered_engines, clearCounts_engines, setReg_engines]
  · have hcleared := (startBurst_failStateCleared (start := t0) sg.isLt hsafe hpend).answered
    refine ⟨_, exec_burstStart_due hstart harmed hdue hpair htack, (answered_fld _ _ _).trans (startBurst_eState sg.isLt hsafe hpend),
      hcleared.siteFail, fun k hk => hcleared.firstFail hk, fun ch hlt hmem => hcleared.channel hlt hmem⟩

/-- A channel number beyond the part's 256, whose clamp event would have bit 0 of CMP_CHSTAT of channel 0 for its pending bit. -/
def strayChannel : Nat := 16 * (32 * ((R.CMP_CHSTAT 0 - R.HIF_EVPEND 0) / 4) - 64)

/-- Group 0 of channel 0, ARMED for tick 1, with a pulse of the stray channel among its safe edges: its second edge comes in the tick of
the first and is clamped. The stray channel counts as a member by a word that lies far beyond the eight of SE_CHMAP. -/
def strayStart : State :=
  ((((State.reset.setReg R.SYS_BOOT_STATE 0x88000000).setReg (R.SE_CHMAP 0 0) 1).setReg (R.SE_CHMAP 0 (strayChannel / 32)) 1).setFld
    (F.SE_STATE.STATE 0) 1).setEngine 0 { Engine.idle with
      start := some 1
      safe := [⟨strayChannel, .drv, 0, true, 0⟩, ⟨strayChannel, .drv, 0, false, 0⟩] }

theorem strayStart_inUse : strayStart.inUse = true := by decide +kernel

/-- The start is due, unpaired, and meets neither a commit that waits nor a Tack. -/
theorem strayStart_armed : (strayStart.engine 0).start = some 1 ∧ strayStart.eState 0 = 1 ∧ 1 ≤ toTick strayStart.now + 49152 ∧
    strayStart.paired 0 = false ∧ strayStart.groupPend = [] ∧ strayStart.tack = none := by decide +kernel

/-- The start of the burst sets CROSSED of channel 0, a member of the group. -/
theorem strayStart_crossed : strayStart.isMember 0 0 = true ∧ strayStart.fld (F.CMP_CHSTAT.CROSSED 0) = 0 ∧
    (strayStart.burstStart (0 : Fin 64)).fld (F.CMP_CHSTAT.CROSSED 0) = 1 := by decide +kernel

theorem not_clearsFailState_strayStart : ¬ ClearsFailState 0 strayStart := by
  rintro ⟨-, -, hstart⟩
  obtain ⟨hmember, hbefore, hafter⟩ := strayStart_crossed
  obtain ⟨hat, harmed, hdue, hunpaired, hnopend, hnotack⟩ := strayStart_armed
  have hpair : strayStart.paired 0 = true → (strayStart.pair 0).matched = true := fun h => absurd (hunpaired.symm.trans h) (by decide)
  have hpend : ∀ c ∈ strayStart.groupPend, c.sg ≠ 0 := fun c hc => absurd (hnopend ▸ hc) List.not_mem_nil
  have htack : ∀ job, ¬ MeetsTack strayStart job 1 := fun job h => absurd (hnotack.symm.trans h.1) (by simp)
  obtain ⟨t, hexec, -, -, -, hchannel⟩ := hstart 1 hat harmed hdue hpair hpend htack
  obtain ⟨-, -, hcrossed, -⟩ := hchannel 0 (by decide) hmember
  rw [exec_burstStart, answer_eq] at hexec
  obtain rfl := Host.Outcome.next.inj hexec
  rw [answered_fld, hafter, hbefore] at hcrossed
  exact absurd hcrossed Nat.one_ne_zero

/-- Refutes O14: over every state, a start may set CROSSED. An engine whose safe edges name a channel beyond the 256 (no safe-waveform cycle
makes one: `safeEdges_inRange`) signals, when the start places and clamps such an edge, an event beyond the 256 sources, and its pending
bit falls into CMP_CHSTAT of a member. Where all safe edges name channels of the part the statement holds:
`clearsFailState_of_safeInRange`. -/
theorem not_compareClear : ¬ Obligations.CompareClear := by
  rw [compareClear_iff]
  exact fun h => not_clearsFailState_strayStart (h 0 strayStart strayStart_inUse)

end Sys2Proof.Machine
end

section
/-! SUPPORT. Bits under a mask and places of a list, counting and signalling, and what a signalled event leaves of device time. -/
namespace Sys2Proof

/-- A field under a mask that has all its bits reads as before. -/
theorem bitsOf_and_ones {m lo width : Nat} (n : Nat) (h : bitsOf m lo width = 2 ^ width - 1) :
    bitsOf (n &&& m) lo width = bitsOf n lo width := by
  have hsplit : bitsOf (n &&& m) lo width = bitsOf n lo width &&& bitsOf m lo width := by
    simp only [bitsOf, Nat.and_div_two_pow, Nat.and_mod_two_pow]
  rw [hsplit, h, and_all_ones (bitsOf_lt n lo width)]

theorem nth_setAt_same {α : Type} [Inhabited α] (l : List α) (i : Nat) (v d : α) : nth (setAt l i v) i d = v := by
  induction i generalizing l with
  | zero => cases l <;> rfl
  | succ i ih => cases l <;> exact ih _

end Sys2Proof

namespace Sys2Proof.Machine

theorem flag_congr {s t : State} {f : Field} (h : t.regN f.off = s.regN f.off) : t.flag f = s.flag f := by
  rw [State.flag, fld_congr h, State.flag]

theorem fld_addSat_same (s : State) (f : Field) (n : Nat) (hw : f.lo + f.width ≤ 32) :
    (s.addSat f n).fld f = min (s.fld f + n) (2 ^ f.width - 1) := by
  have hpos := Nat.two_pow_pos f.width
  rw [State.addSat, fld_setFld_same s f _ hw, Nat.mod_eq_of_lt (by omega)]

theorem regN_addSat_other (s : State) (f : Field) (n : Nat) {off : Nat} (h : off ≠ f.off) : (s.addSat f n).regN off = s.regN off :=
  regN_setFld_other s f _ off h

/-- The value written to a register pair is read back from it. -/
theorem reg64_setReg64_same (s : State) {lo hi : Nat} (hne : lo ≠ hi) (v : Nat) : (s.setReg64 lo hi v).reg64 lo hi = v % 2 ^ 64 := by
  rw [State.reg64, State.setReg64, regN_setReg_same, regN_setReg_other _ _ _ _ hne, regN_setReg_same]
  omega

/-- What an event signalled, or an engine changed, leaves alone: the counters of time, the pins, the clock's own state and every register
above the host interface's window. -/
structure KeepsTime (s t : State) : Prop where
  clk : t.clk = s.clk
  now : t.now = s.now
  clock : t.clock = s.clock
  pins : t.pins = s.pins
  regs : ∀ off, 0x200000 ≤ off → t.regN off = s.regN off

theorem keepsTime_refl (s : State) : KeepsTime s s := ⟨rfl, rfl, rfl, rfl, fun _ _ => rfl⟩

theorem KeepsTime.trans {s t u : State} (h : KeepsTime s t) (h' : KeepsTime t u) : KeepsTime s u :=
  ⟨h'.clk.trans h.clk, h'.now.trans h.now, h'.clock.trans h.clock, h'.pins.trans h.pins,
    fun off hoff => (h'.regs off hoff).trans (h.regs off hoff)⟩

theorem KeepsTime.ite {s a b : State} {p : Prop} [Decidable p] (ha : KeepsTime s a) (hb : KeepsTime s b) :
    KeepsTime s (if p then a else b) := by
  split <;> assumption

theorem KeepsTime.foldl {α : Type} {f : State → α → State} (hf : ∀ s a, KeepsTime s (f s a)) (l : List α) (s : State) :
    KeepsTime s (l.foldl f s) := by
  induction l generalizing s with
  | nil => exact keepsTime_refl s
  | cons a l ih => exact (hf s a).trans (ih (f s a))

theorem KeepsTime.trigger {s t : State} (h : KeepsTime s t) (n : Nat) : t.trigger n = s.trigger n := by
  rw [State.trigger, h.clock, State.trigger]

theorem setReg_keepsTime {off : Nat} (h : off < 0x200000) (s : State) (v : Nat) : KeepsTime s (s.setReg off v) :=
  ⟨rfl, rfl, rfl, rfl, fun x hx => regN_setReg_other s off v x (by omega)⟩

theorem sendMsix_keepsTime {vec : Nat} (h : vec < 64) (s : State) : KeepsTime s (s.sendMsix vec) := by
  unfold State.sendMsix
  exact .ite (setReg_keepsTime (by omega) s _) ⟨rfl, rfl, rfl, rfl, fun _ _ => rfl⟩

theorem signal_keepsTime {ev : Nat} (h : ev < 256) (s : State) : KeepsTime s (s.signal ev) := by
  have hpend : KeepsTime s (s.setFld (evPend ev) 1) := setReg_keepsTime (by simp only [evPend, R.HIF_EVPEND]; omega) s _
  unfold State.signal
  exact .ite (keepsTime_refl s) (hpend.trans (.ite (sendMsix_keepsTime (fld_lt _ _) _) (keepsTime_refl _)))

/-- A signalled event is pending: the message it sends changes no pending bit. -/
theorem evPend_signal {ev : Nat} (h : ev < 256) (s : State) : (s.signal ev).flag (evPend ev) = true := by
  have hset : (s.setFld (evPend ev) 1).flag (evPend ev) = true := by
    rw [State.flag, fld_setFld_same s _ 1 (by simp only [evPend]; omega)]
    rfl
  have hbelow : (evPend ev).off < 0x1F8000 := by simp only [evPend, R.HIF_EVPEND]; omega
  unfold State.signal
  split
  · assumption
  · dsimp only
    split
    · rw [flag_congr ((sendMsix_keepsBelowPba _ _).regs _ hbelow), hset]
    · exact hset

@[simp] theorem answered_flag (s t : State) (f : Field) : (Answered s t).flag f = t.flag f := rfl
@[simp] theorem answered_trigger (s t : State) (n : Nat) : (Answered s t).trigger n = t.trigger n := rfl
@[simp] theorem answered_pins (s t : State) : (Answered s t).pins = t.pins := rfl

end Sys2Proof.Machine
end

section
/-! SUPPORT. Time triggers (R362–R364): their commands, the writes of TT_CFG, the schedule's parts and a firing. -/
namespace Sys2Proof.Machine

/-! ## The trigger's own state and registers -/

theorem ttStat_high (n : Nat) : 0x200000 ≤ R.TT_STAT n := by simp only [R.TT_STAT]; omega
theorem ttCfg_high (n : Nat) : 0x200000 ≤ R.TT_CFG n := by simp only [R.TT_CFG]; omega
theorem ttStat_ne_ttCfg (n : Nat) : R.TT_STAT n ≠ R.TT_CFG n := by simp only [R.TT_STAT, R.TT_CFG]; omega

theorem trigger_setTrigger_same (s : State) (n : Nat) (t : Trigger) : (s.setTrigger n t).trigger n = t := Sparse.get_set_same _ _ n t

@[simp] theorem regN_setTrigger (s : State) (n : Nat) (t : Trigger) (off : Nat) : (s.setTrigger n t).regN off = s.regN off := rfl
@[simp] theorem fld_setTrigger (s : State) (n : Nat) (t : Trigger) (f : Field) : (s.setTrigger n t).fld f = s.fld f := rfl
@[simp] theorem flag_setTrigger (s : State) (n : Nat) (t : Trigger) (f : Field) : (s.setTrigger n t).flag f = s.flag f := rfl
@[simp] theorem trigger_setFld (s : State) (f : Field) (v n : Nat) : (s.setFld f v).trigger n = s.trigger n := rfl
@[simp] theorem trigger_addSat (s : State) (f : Field) (v n : Nat) : (s.addSat f v).trigger n = s.trigger n := rfl

/-! ## The schedule -/

theorem ttInstant_zero (s : State) (n : Nat) :
    s.ttInstant n 0 = s.reg64 (R.TT_START_LO n) (R.TT_START_HI n) * 2 ^ 32 + s.regN (R.TT_START_FRAC n) := by
  rw [State.ttInstant, Nat.zero_mul, Nat.add_zero]

/-- The instants of the firings follow from the registers between TT_CFG and TT_STAT. -/
theorem ttInstant_congr {s t : State} {n : Nat} (h : ∀ off, R.TT_CFG n < off → off < R.TT_STAT n → t.regN off = s.regN off)
    (k : Nat) : t.ttInstant n k = s.ttInstant n k := by
  have hpair : ∀ {lo hi}, (R.TT_CFG n < lo ∧ lo < R.TT_STAT n) → (R.TT_CFG n < hi ∧ hi < R.TT_STAT n) →
      t.reg64 lo hi = s.reg64 lo hi := fun hlo hhi => by rw [State.reg64, h _ hlo.1 hlo.2, h _ hhi.1 hhi.2, State.reg64]
  rw [State.ttInstant, hpair, hpair, h (R.TT_START_FRAC n), State.ttInstant]
  all_goals
    simp only [R.TT_CFG, R.TT_START_LO, R.TT_START_HI, R.TT_START_FRAC, R.TT_PERIOD_LO, R.TT_PERIOD_HI, R.TT_STAT]
    omega

/-- Every schedule has a first firing. -/
theorem ttHas_zero (s : State) (n : Nat) : s.ttHas n 0 = true := by
  unfold State.ttHas
  split
  · rcases Nat.eq_zero_or_pos (s.regN (R.TT_COUNT n)) with h | h <;> simp [h]
  · rfl

/-- A ONESHOT trigger has no second firing. -/
theorem ttHas_one_oneshot {s : State} {n : Nat} (h : s.flag (F.TT_CFG.MODE n) = false) : s.ttHas n 1 = false := by
  simp [State.ttHas, h]

/-- No firing is committed when the schedule has no next one, or while it lies more than 100 ns ahead. -/
theorem ttCommit_none {s : State} {n : Nat}
    (h : s.ttHas n (s.trigger n).next = false ∨ s.now + 100 * 2 ^ 32 < s.ttInstant n (s.trigger n).next) (fuel : Nat) :
    s.ttCommit n fuel = s := by
  cases fuel with
  | zero => rfl
  | succ fuel =>
    refine if_neg ?_
    rcases h with h | h
    · simp only [h, Bool.and_false, Bool.false_and, Bool.false_eq_true, not_false_eq_true]
    · simp only [decide_eq_false h.not_ge, Bool.and_false, Bool.false_eq_true, not_false_eq_true]

/-- The trigger disabled: it no longer waits for a last firing. -/
def ttEnded (s : State) (n : Nat) : State := (s.setTrigger n { s.trigger n with stopping := false }).setFld (F.TT_CFG.EN n) 0

theorem ttSettle_ended {s : State} {n : Nat} (hc : (s.trigger n).committed = [])
    (h : (s.trigger n).stopping = true ∨ s.ttHas n (s.trigger n).next = false) : s.ttSettle n = ttEnded s n :=
  if_pos (by rcases h with h | h <;> simp [hc, h])

theorem ttSettle_committed {s : State} {n : Nat} (hc : (s.trigger n).committed ≠ []) : s.ttSettle n = s :=
  if_neg (by simp [hc])

theorem ttSettle_going {s : State} {n : Nat} (hstop : (s.trigger n).stopping = false) (hnext : s.ttHas n (s.trigger n).next = true) :
    s.ttSettle n = s :=
  if_neg (by simp [hstop, hnext])

theorem en_ttEnded (s : State) (n : Nat) : (ttEnded s n).flag (F.TT_CFG.EN n) = false := by
  rw [State.flag, ttEnded, fld_setFld_same _ (F.TT_CFG.EN n) 0 (Nat.le_refl 32)]
  rfl

theorem regN_ttEnded_other (s : State) {n off : Nat} (h : off ≠ R.TT_CFG n) : (ttEnded s n).regN off = s.regN off :=
  regN_setFld_other _ (F.TT_CFG.EN n) 0 off h

theorem committed_ttEnded (s : State) (n : Nat) : ((ttEnded s n).trigger n).committed = (s.trigger n).committed := by
  rw [ttEnded, trigger_setFld, trigger_setTrigger_same]

theorem pins_ttEnded (s : State) (n : Nat) : (ttEnded s n).pins = s.pins := by
  rw [ttEnded, setFld_pins, State.setTrigger]

/-- What settling a trigger leaves alone: its committed firings, the pins and every register but its TT_CFG. -/
structure KeepsFirings (s t : State) (n : Nat) : Prop where
  committed : (t.trigger n).committed = (s.trigger n).committed
  pins : t.pins = s.pins
  regs : ∀ off, off ≠ R.TT_CFG n → t.regN off = s.regN off

theorem ttSettle_keepsFirings (s : State) (n : Nat) : KeepsFirings s (s.ttSettle n) n := by
  have hended : KeepsFirings s (ttEnded s n) n := ⟨committed_ttEnded s n, pins_ttEnded s n, fun off hoff => regN_ttEnded_other s hoff⟩
  unfold State.ttSettle
  dsimp only
  split
  · exact hended
  · exact ⟨rfl, rfl, fun _ _ => rfl⟩

theorem retrigger_keepsTime (s : State) (n : Nat) : KeepsTime s (s.retrigger n) := by
  unfold State.retrigger
  refine .foldl (fun s sg => ?_) _ s
  dsimp only
  split
  · exact .ite ⟨rfl, rfl, rfl, rfl, fun _ _ => rfl⟩ (keepsTime_refl s)
  · exact keepsTime_refl s

/-- A trigger just enabled whose schedule goes on from firing k: those before it are missed. -/
def ttFrom (s : State) (n k : Nat) : State := (s.setTrigger n { Trigger.off with next := k }).addSat (F.TT_STAT.MISSED n) k

theorem trigger_ttFrom (s : State) (n k : Nat) : (ttFrom s n k).trigger n = { Trigger.off with next := k } := by
  rw [ttFrom, trigger_addSat, trigger_setTrigger_same]

theorem regN_ttFrom_other (s : State) {n off : Nat} (k : Nat) (h : off ≠ R.TT_STAT n) : (ttFrom s n k).regN off = s.regN off :=
  regN_addSat_other _ (F.TT_STAT.MISSED n) k h

theorem missed_ttFrom (s : State) (n k : Nat) :
    (ttFrom s n k).fld (F.TT_STAT.MISSED n) = min (s.fld (F.TT_STAT.MISSED n) + k) 255 :=
  fld_addSat_same _ (F.TT_STAT.MISSED n) k (by simp only [F.TT_STAT.MISSED]; omega)

/-- A fresh trigger whose first firing lies more than 100 ns ahead goes on from it. -/
theorem ttSkip_ahead {s : State} {n : Nat} (hfresh : s.trigger n = Trigger.off) (h : s.now + 100 * 2 ^ 32 < s.ttInstant n 0) :
    s.ttSkip n 0 = ttFrom s n 0 := by
  have hfirst : s.ttFirst n (s.now + 100 * 2 ^ 32) = 0 := if_pos h.le
  have hskip : s.ttSkip n 0 = ((ttFrom s n 0).ttCommit n 16).ttSettle n := by
    simp only [State.ttSkip, hfirst, hfresh, Trigger.off, ttFrom, Nat.max_self, Nat.zero_min, Nat.sub_zero]
  have hinstant : (ttFrom s n 0).ttInstant n 0 = s.ttInstant n 0 :=
    ttInstant_congr (fun off _ hoff => regN_ttFrom_other s 0 hoff.ne) 0
  rw [hskip, ttCommit_none (.inr _), ttSettle_going]
  · rw [trigger_ttFrom]; rfl
  · rw [trigger_ttFrom]; exact ttHas_zero _ n
  · rw [trigger_ttFrom, hinstant]; exact h

/-- A fresh ONESHOT trigger whose instant lies less than 100 ns ahead misses it and is disabled. -/
theorem ttSkip_near {s : State} {n : Nat} (hfresh : s.trigger n = Trigger.off) (hmode : s.flag (F.TT_CFG.MODE n) = false)
    (h : s.ttInstant n 0 < s.now + 100 * 2 ^ 32) : s.ttSkip n 0 = ttEnded (ttFrom s n 1) n := by
  have hfirst : s.ttFirst n (s.now + 100 * 2 ^ 32) = 1 := by
    rw [State.ttFirst, if_neg h.not_ge, hmode, if_neg Bool.false_ne_true]
  have hskip : s.ttSkip n 0 = ((ttFrom s n 1).ttCommit n 16).ttSettle n := by
    simp only [State.ttSkip, hfirst, hfresh, hmode, Trigger.off, ttFrom, Nat.zero_max, Nat.min_self, Nat.sub_zero,
      Bool.false_eq_true, if_false]
  have hmode' : (ttFrom s n 1).flag (F.TT_CFG.MODE n) = false := by
    rw [flag_congr (regN_ttFrom_other s 1 (ttStat_ne_ttCfg n).symm), hmode]
  have hlast : (ttFrom s n 1).ttHas n ((ttFrom s n 1).trigger n).next = false := by
    rw [trigger_ttFrom]; exact ttHas_one_oneshot hmode'
  rw [hskip, ttCommit_none (.inl hlast), ttSettle_ended (by rw [trigger_ttFrom]; rfl) (.inr hlast)]

/-! ## Writes of TT_CFG -/

theorem writeServed_peripheral {off : Nat} (h : 0x800000 ≤ off ∧ off < 0xE00000) (s : State) (v met : Nat) :
    s.writeServed off v met = s.peripheralWrite off v met := by
  simp only [State.writeServed]
  repeat rw [if_neg (by omega)]
  rw [if_pos (by omega)]

theorem peripheralWrite_ttCfg {n : Nat} (hn : n < 4) (s : State) (v met : Nat) :
    s.peripheralWrite (R.TT_CFG n) v met = s.ttCfgWrite n v := by
  have hat : R.TT_CFG n = 0xB01000 + 0x40 * n + 0 := rfl
  have hother : ∀ off, off < 0xB01000 ∨ 0xB02000 ≤ off → R.TT_CFG n ≠ off := fun off hoff => by simp only [R.TT_CFG]; omega
  unfold State.peripheralWrite
  repeat rw [if_neg (hother _ (by decide))]
  rw [hat, instanceOf_outside (base := 0x901000) (by omega), instanceOf_outside (base := 0xA00000) (by omega),
    instanceOf_at n 0 hn (by decide)]
  rfl

theorem regWrite_ttCfg {s : State} {n : Nat} (hu : s.inUse = true) (hn : n < 4) (v met : Nat) :
    s.regWrite (R.TT_CFG n) v met = s.ttCfgWrite n v := by
  rw [State.regWrite, if_pos (serves_of_inUse hu _), writeServed_peripheral (by simp only [R.TT_CFG]; omega), peripheralWrite_ttCfg hn]

/-- The word that a TT_ENABLE writes to TT_CFG. -/
def enableWord (periodic outen pol : Bool) (width : Nat) : Nat :=
  2 ^ 31 + b2n periodic * 2 ^ 30 + b2n outen * 2 ^ 29 + b2n pol * 2 ^ 28 + width

theorem b2n_le_one (b : Bool) : b2n b ≤ 1 := by cases b <;> decide

theorem b2n_beq_one (b : Bool) : (b2n b == 1) = b := by cases b <;> rfl

/-- The fields of the word are the operands of the command. -/
theorem enableWord_fields (periodic outen pol : Bool) {width : Nat} (hw : width < 65536) :
    let v := enableWord periodic outen pol width
    v < 2 ^ 32 ∧ bitsOf v 31 1 = 1 ∧ bitsOf v 30 1 = b2n periodic ∧ bitsOf v 29 1 = b2n outen ∧ bitsOf v 0 16 = width := by
  have hperiodic := b2n_le_one periodic
  have houten := b2n_le_one outen
  have hpol := b2n_le_one pol
  simp only [enableWord, bitsOf]
  omega

/-- What makes an enable discarded (R364): the trigger enabled already, a pulse under 4 ns, or a period under 8 ns or the pulse + 4 ns. -/
abbrev EnableRefused (s : State) (n : Nat) (periodic outen : Bool) (width : Nat) : Prop :=
  s.flag (F.TT_CFG.EN n) = true ∨ (outen = true ∧ width < 4) ∨
    (periodic = true ∧ (s.reg64 (R.TT_PERIOD_LO n) (R.TT_PERIOD_HI n) < width + 4 ∨ s.reg64 (R.TT_PERIOD_LO n) (R.TT_PERIOD_HI n) < 8))

/-- TT_CFG taken over and the trigger as if it had never been enabled. -/
def enabling (s : State) (n v : Nat) : State := (s.setReg (R.TT_CFG n) (v &&& 0xF000FFFF)).setTrigger n Trigger.off

section
variable {s : State} {n width : Nat} (hw : width < 65536) (periodic outen pol : Bool)
include hw

theorem ttCfgWrite_enableWord (s : State) (n : Nat) :
    s.ttCfgWrite n (enableWord periodic outen pol width) =
      if EnableRefused s n periodic outen width then s.regFault (R.TT_CFG n)
      else ((enabling s n (enableWord periodic outen pol width)).ttSkip n 0).retrigger n := by
  obtain ⟨-, hen, hperiodic, houten, hwidth⟩ := enableWord_fields periodic outen pol hw
  rw [State.ttCfgWrite, bitOf_eq, hen, if_pos (beq_self_eq_true 1)]
  simp only [State.ttEnable, State.ttEnabled, bitOf_eq, hperiodic, houten, hwidth, b2n_beq_one, EnableRefused, Bool.or_eq_true,
    Bool.and_eq_true, decide_eq_true_eq, or_assoc, enabling]

/-- A field of TT_CFG that the enabling write has, as its word gives it. -/
theorem fld_enabling {f : Field} (hf : f.off = R.TT_CFG n) (hones : bitsOf 0xF000FFFF f.lo f.width = 2 ^ f.width - 1) :
    (enabling s n (enableWord periodic outen pol width)).fld f = bitsOf (enableWord periodic outen pol width) f.lo f.width := by
  have hlt := (enableWord_fields periodic outen pol hw).1
  rw [enabling, fld_setTrigger, ← hf, fld_setReg_same, Nat.mod_eq_of_lt (Nat.and_le_left.trans_lt hlt), bitsOf_and_ones _ hones]

theorem enabling_fields :
    let u := enabling s n (enableWord periodic outen pol width)
    u.flag (F.TT_CFG.EN n) = true ∧ u.flag (F.TT_CFG.MODE n) = periodic ∧ u.flag (F.TT_CFG.OUTEN n) = outen ∧
      u.fld (F.TT_CFG.WIDTH n) = width := by
  obtain ⟨-, hen, hperiodic, houten, hwidth⟩ := enableWord_fields periodic outen pol hw
  have hfld := fun f hf hones => fld_enabling (s := s) (n := n) hw periodic outen pol (f := f) hf hones
  refine ⟨?_, ?_, ?_, (hfld (F.TT_CFG.WIDTH n) rfl (by simp [F.TT_CFG.WIDTH, bitsOf])).trans hwidth⟩
  · rw [State.flag, hfld (F.TT_CFG.EN n) rfl (by simp [F.TT_CFG.EN, bitsOf])]
    exact congrArg (· == 1) hen
  · rw [State.flag, hfld (F.TT_CFG.MODE n) rfl (by simp [F.TT_CFG.MODE, bitsOf])]
    exact (congrArg (· == 1) hperiodic).trans (b2n_beq_one periodic)
  · rw [State.flag, hfld (F.TT_CFG.OUTEN n) rfl (by simp [F.TT_CFG.OUTEN, bitsOf])]
    exact (congrArg (· == 1) houten).trans (b2n_beq_one outen)

end

theorem regN_enabling_other (s : State) {n off : Nat} (v : Nat) (h : off ≠ R.TT_CFG n) : (enabling s n v).regN off = s.regN off :=
  regN_setReg_other s _ _ off h

theorem trigger_enabling (s : State) (n v : Nat) : (enabling s n v).trigger n = Trigger.off := trigger_setTrigger_same _ n _

theorem now_enabling (s : State) (n v : Nat) : (enabling s n v).now = s.now := rfl

theorem missed_enabling (s : State) (n v : Nat) : (enabling s n v).fld (F.TT_STAT.MISSED n) = s.fld (F.TT_STAT.MISSED n) :=
  fld_congr (regN_enabling_other s v (ttStat_ne_ttCfg n))

theorem ttInstant_enabling (s : State) (n v : Nat) :
    (enabling s n v).ttInstant n 0 = s.reg64 (R.TT_START_LO n) (R.TT_START_HI n) * 2 ^ 32 + s.regN (R.TT_START_FRAC n) := by
  rw [ttInstant_congr (fun off hoff _ => regN_enabling_other s v hoff.ne') 0, ttInstant_zero]

/-- TT_CFG is as before once the schedule goes on and the bursts that wait for the trigger follow it. -/
theorem ttFrom_retrigger_fld (s : State) (n k : Nat) {f : Field} (hf : f.off = R.TT_CFG n) :
    ((ttFrom s n k).retrigger n).fld f = s.fld f := by
  have hhigh : 0x200000 ≤ f.off := hf ▸ ttCfg_high n
  have hne : f.off ≠ R.TT_STAT n := hf ▸ (ttStat_ne_ttCfg n).symm
  exact fld_congr (((retrigger_keepsTime _ n).regs _ hhigh).trans (regN_ttFrom_other s k hne))

theorem ttFrom_retrigger_flag (s : State) (n k : Nat) {f : Field} (hf : f.off = R.TT_CFG n) :
    ((ttFrom s n k).retrigger n).flag f = s.flag f := by rw [State.flag, ttFrom_retrigger_fld s n k hf, State.flag]

/-! ## The enabling and disabling commands -/

section
variable {s : State} {n : Fin 4} {width : Fin 65536} {periodic outen : Bool} (pol : Bool)

theorem exec_ttEnable (s : State) (hu : s.inUse = true) :
    exec (.ttEnable n periodic outen pol width) s = s.answer (s.ttCfgWrite n (enableWord periodic outen pol width)) := by
  rw [← regWrite_ttCfg hu n.isLt _ 0]
  rfl

theorem ttEnable_refused (hu : s.inUse = true) (hbad : EnableRefused s n periodic outen width) :
    exec (.ttEnable n periodic outen pol width) s = .next (s.report 249 kRegAccess (R.TT_CFG n)) := by
  rw [exec_ttEnable pol s hu, ttCfgWrite_enableWord width.isLt, if_pos hbad]
  exact answer_of_kept rfl rfl

/-- An enable whose START lies more than 100 ns ahead: the trigger waits for its first firing. -/
theorem ttEnable_ahead (hu : s.inUse = true) (hok : ¬ EnableRefused s n periodic outen width)
    (hahead : s.now + 100 * 2 ^ 32 < s.reg64 (R.TT_START_LO n) (R.TT_START_HI n) * 2 ^ 32 + s.regN (R.TT_START_FRAC n)) :
    ∃ u, exec (.ttEnable n periodic outen pol width) s = .next u ∧ u.flag (F.TT_CFG.EN n) = true ∧
      u.flag (F.TT_CFG.MODE n) = periodic ∧ u.flag (F.TT_CFG.OUTEN n) = outen ∧ u.fld (F.TT_CFG.WIDTH n) = width ∧
      u.trigger n = Trigger.off ∧ u.fld (F.TT_STAT.MISSED n) = s.fld (F.TT_STAT.MISSED n) := by
  set t := enabling s n (enableWord periodic outen pol width)
  have hskip : t.ttSkip n 0 = ttFrom t n 0 :=
    ttSkip_ahead (trigger_enabling s n _) (by rw [ttInstant_enabling, now_enabling]; exact hahead)
  have hwaits := retrigger_keepsTime (ttFrom t n 0) n
  obtain ⟨hen, hmode, houten, hwidth⟩ := enabling_fields (s := s) (n := n) width.isLt periodic outen pol
  refine ⟨Answered s ((ttFrom t n 0).retrigger n), ?_, ?_, ?_, ?_, ?_, ?_, ?_⟩
  · rw [exec_ttEnable pol s hu, ttCfgWrite_enableWord width.isLt, if_neg hok, hskip, answer_eq]
  · rw [answered_flag, ttFrom_retrigger_flag t n 0 rfl, hen]
  · rw [answered_flag, ttFrom_retrigger_flag t n 0 rfl, hmode]
  · rw [answered_flag, ttFrom_retrigger_flag t n 0 rfl, houten]
  · rw [answered_fld, ttFrom_retrigger_fld t n 0 rfl, hwidth]
  · rw [answered_trigger, hwaits.trigger, trigger_ttFrom]
    rfl
  · have hlt : s.fld (F.TT_STAT.MISSED n) < 2 ^ 8 := fld_lt s (F.TT_STAT.MISSED n)
    rw [answered_fld, fld_congr (hwaits.regs _ (ttStat_high n)), missed_ttFrom, missed_enabling]
    omega

/-- An enable of a ONESHOT whose instant lies less than 100 ns ahead: missed, and disabled again. -/
theorem ttEnable_near (hu : s.inUse = true) (hok : ¬ EnableRefused s n periodic outen width) (honeshot : periodic = false)
    (hnear : s.reg64 (R.TT_START_LO n) (R.TT_START_HI n) * 2 ^ 32 + s.regN (R.TT_START_FRAC n) < s.now + 100 * 2 ^ 32) :
    ∃ u, exec (.ttEnable n periodic outen pol width) s = .next u ∧ u.flag (F.TT_CFG.EN n) = false ∧
      u.fld (F.TT_STAT.MISSED n) = min (s.fld (F.TT_STAT.MISSED n) + 1) 255 := by
  set t := enabling s n (enableWord periodic outen pol width)
  obtain ⟨-, hmode, -⟩ := enabling_fields (s := s) (n := n) width.isLt periodic outen pol
  have hskip : t.ttSkip n 0 = ttEnded (ttFrom t n 1) n :=
    ttSkip_near (trigger_enabling s n _) (hmode.trans honeshot) (by rw [ttInstant_enabling, now_enabling]; exact hnear)
  have hends := retrigger_keepsTime (ttEnded (ttFrom t n 1) n) n
  refine ⟨Answered s ((ttEnded (ttFrom t n 1) n).retrigger n), ?_, ?_, ?_⟩
  · rw [exec_ttEnable pol s hu, ttCfgWrite_enableWord width.isLt, if_neg hok, hskip, answer_eq]
  · rw [answered_flag, flag_congr (hends.regs _ (ttCfg_high n)), en_ttEnded]
  · rw [answered_fld, fld_congr (hends.regs _ (ttStat_high n)), fld_congr (regN_ttEnded_other _ (ttStat_ne_ttCfg n)), missed_ttFrom,
      missed_enabling]

end

section
variable {s : State} {n : Fin 4} (value : Word)

theorem exec_ttDisable (hu : s.inUse = true) : exec (.ttDisable n value) s = s.answer (s.ttDisable n (value.toNat % 2 ^ 31)) := by
  have hbit : bitOf (value.toNat % 2 ^ 31) 31 = false := by
    rw [bitOf_eq_testBit]
    exact Nat.testBit_lt_two_pow (Nat.mod_lt _ (Nat.two_pow_pos 31))
  have hwrite : s.ttCfgWrite n (value.toNat % 2 ^ 31) = s.ttDisable n (value.toNat % 2 ^ 31) := by
    rw [State.ttCfgWrite, hbit, if_neg Bool.false_ne_true]
  rw [← hwrite, ← regWrite_ttCfg hu n.isLt _ 0]
  rfl

theorem ttDisable_disabled (hu : s.inUse = true) (hon : s.flag (F.TT_CFG.EN n) = false) :
    exec (.ttDisable n value) s = .next (s.setReg (R.TT_CFG n) (value.toNat % 2 ^ 31 &&& 0x7000FFFF)) := by
  rw [exec_ttDisable value hu, State.ttDisable, State.ttEnabled, hon, if_neg Bool.false_ne_true]
  exact answer_of_kept rfl rfl

/-- EN = 0 of an enabled trigger ends its schedule: at once, or after the firings already committed. -/
theorem ttDisable_enabled (hu : s.inUse = true) (hon : s.flag (F.TT_CFG.EN n) = true) :
    ∃ u, exec (.ttDisable n value) s = .next u ∧ (u.trigger n).committed = (s.trigger n).committed ∧
      u.flag (F.TT_CFG.EN n) = decide ((s.trigger n).committed ≠ []) ∧
      ((s.trigger n).committed ≠ [] → (u.trigger n).stopping = true) := by
  set t := s.setTrigger n { s.trigger n with stopping := true }
  have htrigger : t.trigger n = { s.trigger n with stopping := true } := trigger_setTrigger_same s n _
  have hends := retrigger_keepsTime (t.ttSettle n) n
  refine ⟨Answered s ((t.ttSettle n).retrigger n), ?_, ?_, ?_, fun hc => ?_⟩
  · rw [exec_ttDisable value hu, State.ttDisable, State.ttEnabled, hon, if_pos rfl, answer_eq]
  · rw [answered_trigger, hends.trigger, (ttSettle_keepsFirings t n).committed, htrigger]
  · rw [answered_flag, flag_congr (hends.regs _ (ttCfg_high n))]
    by_cases hc : (s.trigger n).committed = []
    · rw [ttSettle_ended (by rw [htrigger]; exact hc) (.inl (by rw [htrigger])), en_ttEnded]
      simp [hc]
    · rw [ttSettle_committed (by rw [htrigger]; exact hc), flag_setTrigger, hon]
      simp [hc]
  · rw [answered_trigger, hends.trigger, ttSettle_committed (by rw [htrigger]; exact hc), htrigger]

end

/-! ## Firings and their pulses -/

theorem exec_ttFire (n : Fin 4) (s : State) : exec (.ttFire n) s = s.answer (s.ttFire n) := rfl

theorem exec_ttoutPulseEnd (n : Fin 4) (s : State) : exec (.ttoutPulseEnd n) s = s.answer (s.ttoutEnds n) := rfl

theorem exec_ttinEdge (k : Fin 2) (onEdge : Bool) (s : State) : exec (.ttinEdge k onEdge) s = s.answer (s.ttinEdge k onEdge) := rfl

section
variable {s : State} {n : Fin 4}

theorem ttFire_uncommitted (h : (s.trigger n).committed = []) : exec (.ttFire n) s = .next s := by
  have hfire : s.ttFire n = s := by simp only [State.ttFire, h]
  rw [exec_ttFire, hfire]
  exact answer_of_kept rfl rfl

theorem ttFire_early {i : Nat} {rest : List Nat} (h : (s.trigger n).committed = i :: rest) (hi : s.now < i) :
    exec (.ttFire n) s = .next s := by
  have hfire : s.ttFire n = s := by simp only [State.ttFire, h, if_pos hi]
  rw [exec_ttFire, hfire]
  exact answer_of_kept rfl rfl

/-- A firing taken off the committed ones, counted and signalled. -/
def fired (s : State) (n : Nat) (rest : List Nat) : State :=
  ((s.setTrigger n { s.trigger n with committed := rest }).addSat (F.TT_STAT.FIRED n) 1).signal (196 + n)

/-- The pulse that a firing starts on TTOUT (R363). -/
def pulsed (s : State) (n : Nat) : State :=
  if s.flag (F.TT_CFG.OUTEN n) then s.ttoutPulse n (some (s.clk + s.fld (F.TT_CFG.WIDTH n))) else s

theorem ttFire_due_eq {i : Nat} {rest : List Nat} (h : (s.trigger n).committed = i :: rest) (hi : i ≤ s.now) :
    s.ttFire n = (pulsed (fired s n rest) n).ttSettle n := by
  simp only [State.ttFire, h, if_neg hi.not_gt]
  rfl

/-- A firing taken off the committed ones is counted in FIRED and its event is pending; TT_CFG is as before. -/
theorem fired_effect (s : State) {n : Nat} (hn : n < 4) (rest : List Nat) :
    ((fired s n rest).trigger n).committed = rest ∧
    (fired s n rest).fld (F.TT_STAT.FIRED n) = min (s.fld (F.TT_STAT.FIRED n) + 1) 65535 ∧
    (fired s n rest).flag (evPend (196 + n)) = true ∧ (fired s n rest).pins = s.pins ∧ (fired s n rest).clk = s.clk ∧
    (fired s n rest).regN (R.TT_CFG n) = s.regN (R.TT_CFG n) := by
  have hkept := signal_keepsTime (ev := 196 + n) (by omega)
    ((s.setTrigger n { s.trigger n with committed := rest }).addSat (F.TT_STAT.FIRED n) 1)
  refine ⟨?_, ?_, evPend_signal (by omega) _, ?_, ?_, ?_⟩
  · rw [fired, hkept.trigger, trigger_addSat, trigger_setTrigger_same]
  · rw [fired, fld_congr (hkept.regs _ (ttStat_high n)), fld_addSat_same _ _ _ (by simp only [F.TT_STAT.FIRED]; omega)]
    rfl
  · rw [fired, hkept.pins, State.addSat, setFld_pins]
    rfl
  · rw [fired, hkept.clk, State.addSat, setFld_clk]
    rfl
  · rw [fired, hkept.regs _ (ttCfg_high n), regN_addSat_other _ _ _ (ttStat_ne_ttCfg n).symm]
    rfl

@[simp] theorem regN_ttoutPulse (s : State) (n : Nat) (upto : Option Nat) (off : Nat) : (s.ttoutPulse n upto).regN off = s.regN off := rfl
@[simp] theorem trigger_ttoutPulse (s : State) (n : Nat) (upto : Option Nat) (m : Nat) :
    (s.ttoutPulse n upto).trigger m = s.trigger m := rfl

theorem ttoutEnd_ttoutPulse (s : State) (n : Nat) (upto : Option Nat) : nth (s.ttoutPulse n upto).pins.ttoutEnd n none = upto :=
  nth_setAt_same s.pins.ttoutEnd n upto none

theorem regN_pulsed (s : State) (n off : Nat) : (pulsed s n).regN off = s.regN off := by
  unfold pulsed
  split
  · rw [regN_ttoutPulse]
  · rfl

theorem trigger_pulsed (s : State) (n m : Nat) : (pulsed s n).trigger m = s.trigger m := by
  unfold pulsed
  split
  · rw [trigger_ttoutPulse]
  · rfl

theorem ttoutEnd_pulsed (s : State) (n : Nat) : nth (pulsed s n).pins.ttoutEnd n none =
    if s.flag (F.TT_CFG.OUTEN n) = true then some (s.clk + s.fld (F.TT_CFG.WIDTH n)) else nth s.pins.ttoutEnd n none := by
  unfold pulsed
  split
  · rw [ttoutEnd_ttoutPulse]
  · rfl

/-- A due firing counts, signals and, with OUTEN, drives TTOUT for WIDTH ns. -/
theorem ttFire_due {i : Nat} {rest : List Nat} (h : (s.trigger n).committed = i :: rest) (hi : i ≤ s.now) :
    ∃ u, exec (.ttFire n) s = .next u ∧ (u.trigger n).committed = rest ∧
      u.fld (F.TT_STAT.FIRED n) = min (s.fld (F.TT_STAT.FIRED n) + 1) 65535 ∧ u.flag (evPend (196 + n)) = true ∧
      nth u.pins.ttoutEnd n none = if s.flag (F.TT_CFG.OUTEN n) = true then some (s.clk + s.fld (F.TT_CFG.WIDTH n))
        else nth s.pins.ttoutEnd n none := by
  obtain ⟨hcommitted, hfired, hpend, hpins, hclk, hcfg⟩ := fired_effect s n.isLt rest
  have hsettle := ttSettle_keepsFirings (pulsed (fired s n rest) n) n
  have hreg := fun off hoff => (hsettle.regs off hoff).trans (regN_pulsed (fired s n rest) n off)
  refine ⟨Answered s ((pulsed (fired s n rest) n).ttSettle n), ?_, ?_, ?_, ?_, ?_⟩
  · rw [exec_ttFire, ttFire_due_eq h hi, answer_eq]
  · rw [answered_trigger, hsettle.committed, trigger_pulsed, hcommitted]
  · rw [answered_fld, fld_congr (hreg _ (ttStat_ne_ttCfg n)), hfired]
  · rw [answered_flag, flag_congr (hreg _ (by simp only [evPend, R.HIF_EVPEND, R.TT_CFG]; omega)), hpend]
  · rw [answered_pins, hsettle.pins, ttoutEnd_pulsed, flag_congr (f := F.TT_CFG.OUTEN n) hcfg,
      fld_congr (f := F.TT_CFG.WIDTH n) hcfg, hclk, hpins]

/-- At the end of its pulse TTOUT has its inactive level again. -/
theorem ttoutPulseEnd_due {e : Nat} (h : nth s.pins.ttoutEnd n none = some e) (he : e ≤ s.clk) :
    ∃ u, exec (.ttoutPulseEnd n) s = .next u ∧ u.ttout n = s.flag (F.TT_CFG.POL n) ∧ u.regs = s.regs := by
  have hends : s.ttoutEnds n = s.ttoutPulse n none := by simp only [State.ttoutEnds, h, if_pos he]
  refine ⟨Answered s (s.ttoutPulse n none), by rw [exec_ttoutPulseEnd, hends, answer_eq], ?_, rfl⟩
  have hlevel : (s.ttoutPulse n none).ttout n = s.flag (F.TT_CFG.POL n) := by
    rw [State.ttout, ttoutEnd_ttoutPulse, Option.isSome_none, Bool.false_and, Bool.false_bne]
    rfl
  exact hlevel

theorem ttoutPulseEnd_early {e : Nat} (h : nth s.pins.ttoutEnd n none = some e) (he : s.clk < e) :
    exec (.ttoutPulseEnd n) s = .next s := by
  have hends : s.ttoutEnds n = s := by simp only [State.ttoutEnds, h, if_neg he.not_ge]
  rw [exec_ttoutPulseEnd, hends]
  exact answer_of_kept rfl rfl

theorem ttoutPulseEnd_idle (h : nth s.pins.ttoutEnd n none = none) : exec (.ttoutPulseEnd n) s = .next s := by
  have hends : s.ttoutEnds n = s := by simp only [State.ttoutEnds, h]
  rw [exec_ttoutPulseEnd, hends]
  exact answer_of_kept rfl rfl

end

/-! ## Edges of TTIN (R365) -/

/-- The time-clock edge at or after an edge of TTIN: this one, or the next. -/
abbrev stampEdge (s : State) (onEdge : Bool) : Nat := if onEdge = true then s.now else (s.now + s.incr).toNat

/-- The count of the edges on a TTIN. -/
abbrev ttinCount (k : Nat) : Field := if k = 0 then F.TIM_TTINCNT.CNT0 else F.TIM_TTINCNT.CNT1

theorem ttinCount_shape (k : Nat) : (ttinCount k).off = R.TIM_TTINCNT ∧ (ttinCount k).width = 16 ∧ (ttinCount k).lo + 16 ≤ 32 := by
  unfold ttinCount
  split <;> decide

theorem ttinEdge_effect (k : Fin 2) (onEdge : Bool) (s : State) :
    ∃ u, exec (.ttinEdge k onEdge) s = .next u ∧
      u.reg64 (R.TIM_TTIN_LO k) (R.TIM_TTIN_HI k) = stampEdge s onEdge / 2 ^ 32 % 2 ^ 64 ∧
      u.fld (ttinCount k) = min (s.fld (ttinCount k) + 1) 65535 ∧ u.flag (evPend 195) = true ∧ u.now = s.now := by
  set stamped := s.setReg64 (R.TIM_TTIN_LO k) (R.TIM_TTIN_HI k) (stampEdge s onEdge / 2 ^ 32 % 2 ^ 64)
  obtain ⟨hoff, hwidth, hlo⟩ := ttinCount_shape k
  have hkept := signal_keepsTime (ev := 195) (by decide) (stamped.addSat (ttinCount k) 1)
  have hpair : ∀ off, 0x200000 ≤ off → off ≠ R.TIM_TTINCNT →
      ((stamped.addSat (ttinCount k) 1).signal 195).regN off = stamped.regN off :=
    fun off hhigh hne => (hkept.regs off hhigh).trans (regN_addSat_other _ _ _ (hoff ▸ hne))
  refine ⟨Answered s ((stamped.addSat (ttinCount k) 1).signal 195), ?_, ?_, ?_, evPend_signal (by decide) _, hkept.now⟩
  · rw [exec_ttinEdge, State.ttinEdge, answer_eq]
  · have hread : stamped.reg64 (R.TIM_TTIN_LO k) (R.TIM_TTIN_HI k) = stampEdge s onEdge / 2 ^ 32 % 2 ^ 64 := by
      rw [reg64_setReg64_same s (by simp only [R.TIM_TTIN_LO, R.TIM_TTIN_HI]; omega), Nat.mod_mod]
    rw [← hread, State.reg64, State.reg64, answered_regN, answered_regN, hpair, hpair]
    all_goals simp only [R.TIM_TTIN_LO, R.TIM_TTIN_HI, R.TIM_TTINCNT]; omega
  · have hcount : stamped.fld (ttinCount k) = s.fld (ttinCount k) := by
      refine fld_congr ((regN_setReg_other _ _ _ _ ?_).trans (regN_setReg_other _ _ _ _ ?_))
      all_goals rw [hoff]; simp only [R.TIM_TTIN_LO, R.TIM_TTIN_HI, R.TIM_TTINCNT]; omega
    rw [answered_fld, fld_congr (hkept.regs _ (by rw [hoff]; decide)), fld_addSat_same _ _ _ (by rw [hwidth]; exact hlo), hcount, hwidth]
    rfl

end Sys2Proof.Machine
end

section
/-! SUPPORT. The statement on time triggers and TTIN edges, from the lemmas on the schedule, the firings and the edges. -/
namespace Sys2Proof.Machine

/-- Settles O43: each write of TT_CFG is followed to the schedule it makes, skips or ends, a firing to its count, event and pulse, and an
edge to its stamp. -/
theorem timeTriggers : Obligations.TimeTriggers := by
  unfold Obligations.TimeTriggers
  constructor
  · intro n periodic outen pol width value s
    exact ⟨ttEnable_refused pol, ttEnable_ahead pol, ttEnable_near pol, ttDisable_disabled value, ttDisable_enabled value,
      ttFire_uncommitted, fun i rest h => ⟨ttFire_early h, ttFire_due h⟩, fun e => ttoutPulseEnd_due, fun e => ttoutPulseEnd_early,
      ttoutPulseEnd_idle⟩
  · intro k onEdge s
    exact ttinEdge_effect k onEdge s

end Sys2Proof.Machine
end

section
/-! SUPPORT. Attestation (R412–R414), the lifecycle and provisioning (R425) and boundary scan (R426): what each command's effect is, case
by case. -/
namespace Sys2Proof.Sparse

variable {V : Type}

theorem entriesIn_dropTo {k lo : Nat} (h : k < lo) (m : List (Nat × V)) (hi : Nat) :
    entriesIn (dropTo k m) lo hi = entriesIn m lo hi := by
  induction m with
  | nil => rfl
  | cons p t ih =>
    obtain ⟨j, w⟩ := p
    by_cases hj : j ≤ k
    · have hout : ¬ lo ≤ j := by omega
      simpa [dropTo, hj, entriesIn, hout] using ih
    · simp [dropTo, hj]

theorem entriesIn_insert_below {k lo : Nat} (h : k < lo) (m : List (Nat × V)) (v : V) (hi : Nat) :
    entriesIn (insert m k v) lo hi = entriesIn m lo hi := by
  have hk : ¬ lo ≤ k := by omega
  induction m with
  | nil => simp [insert, entriesIn, hk]
  | cons p t ih =>
    obtain ⟨j, w⟩ := p
    rcases Nat.lt_trichotomy k j with hlt | rfl | hgt
    · simp [insert, show k ≠ j by omega, hlt, entriesIn, hk]
    · simpa [insert, entriesIn, hk] using entriesIn_dropTo h t hi
    · unfold entriesIn at ih ⊢
      simp only [insert, show k ≠ j by omega, show ¬ k < j by omega, if_false, List.filter_cons, ih]

theorem entriesIn_erase_below {k lo : Nat} (h : k < lo) (m : List (Nat × V)) (hi : Nat) :
    entriesIn (erase m k) lo hi = entriesIn m lo hi := by
  have hk : ¬ lo ≤ k := by omega
  induction m with
  | nil => rfl
  | cons p t ih =>
    obtain ⟨j, w⟩ := p
    rcases Nat.lt_trichotomy k j with hlt | rfl | hgt
    · simp [erase, show k ≠ j by omega, hlt]
    · simpa [erase, entriesIn, hk] using entriesIn_dropTo h t hi
    · unfold entriesIn at ih ⊢
      simp only [erase, show k ≠ j by omega, show ¬ k < j by omega, if_false, List.filter_cons, ih]

/-- A write below a range changes no entry of the range, in a list of any form. -/
theorem entriesIn_set_below [DecidableEq V] (d : Nat → V) {k lo : Nat} (h : k < lo) (m : List (Nat × V)) (v : V) (hi : Nat) :
    entriesIn (set d m k v) lo hi = entriesIn m lo hi := by
  unfold set
  split
  · exact entriesIn_erase_below h m hi
  · exact entriesIn_insert_below h m v hi

theorem getMany_length (d : Nat → V) (m : List (Nat × V)) (a n : Nat) : (getMany d m a n).length = n := by
  induction n generalizing a with
  | zero => rfl
  | succ n ih => simp [getMany, ih]

theorem getMany_add (d : Nat → V) (m : List (Nat × V)) (a n k : Nat) :
    getMany d m a (n + k) = getMany d m a n ++ getMany d m (a + n) k := by
  induction n generalizing a with
  | zero => simp [getMany]
  | succ n ih => simp [getMany, Nat.succ_add, ih, Nat.add_assoc]

/-- Two lists written one behind the other are read back, each at its place. -/
theorem getMany_setMany_append [DecidableEq V] (d : Nat → V) (m : List (Nat × V)) (a : Nat) (l r : List V) :
    getMany d (setMany d m a (l ++ r)) a l.length = l ∧ getMany d (setMany d m a (l ++ r)) (a + l.length) r.length = r := by
  apply List.append_inj _ (getMany_length d _ a l.length)
  rw [← getMany_add, ← List.length_append, getMany_setMany_same]

end Sys2Proof.Sparse

namespace Sys2Proof.Machine

/-! ## The commands and their answers -/

theorem exec_attestationStart (s : State) : exec .attestationStart s = s.answer (s.regWrite R.SHR_ATT_CTRL (2 ^ 31) 0) := rfl
theorem exec_attestationDone (s : State) : exec .attestationDone s = s.answer s.attDone := rfl
theorem exec_lifecycleDeploy (s : State) : exec .lifecycleDeploy s = s.answer (s.regWrite R.SHR_CTRL 0xA5C30002 0) := rfl
theorem exec_lifecycleReturn (s : State) : exec .lifecycleReturn s = s.answer (s.regWrite R.SHR_CTRL 0xA5C30004 0) := rfl

theorem exec_lifecycleProvision (seed : Nat) (helper certificate : List Byte) (sets : List (Fin 2 × List Byte)) (s : State) :
    exec (.lifecycleProvision seed helper certificate sets) s =
      s.answer (s.provision seed helper certificate (sets.map fun x => (x.1.val, x.2))) := rfl

theorem exec_extestInstruction (code : Fin 4) (s : State) : exec (.extestInstruction code) s = s.answer (s.extest code.val) := rfl

/-! ## Writes of SHR_ATT_CTRL and SHR_CTRL -/

theorem writeServed_flt {off : Nat} (h : 0x500000 ≤ off ∧ off < 0x700000) (s : State) (v met : Nat) :
    s.writeServed off v met = s.fltWrite off v met := by
  simp only [State.writeServed]
  repeat rw [if_neg (by omega)]
  rw [if_pos (by omega)]

theorem regWrite_attCtrl {s : State} (h : s.inUse = true) (v met : Nat) : s.regWrite R.SHR_ATT_CTRL v met = s.attStart v := by
  rw [State.regWrite, if_pos (serves_of_inUse h _), writeServed_flt (by decide), State.fltWrite]
  rfl

theorem regWrite_shrCtrl {s : State} (h : s.inUse = true) (v met : Nat) : s.regWrite R.SHR_CTRL v met = s.shrCtrlWrite v := by
  rw [State.regWrite, if_pos (serves_of_inUse h _), writeServed_flt (by decide), State.fltWrite]
  rfl

theorem attestationStart_busy {s : State} (h : s.inUse = true) (hb : s.flag F.SHR_ATT_CTRL.BUSY = true) :
    exec .attestationStart s = .next (s.report 249 kRegAccess R.SHR_ATT_CTRL) := by
  have hstart : s.attStart (2 ^ 31) = s.report 249 kRegAccess R.SHR_ATT_CTRL := by
    rw [State.attStart, if_neg (by decide), if_pos hb, State.regFault]
  rw [exec_attestationStart, regWrite_attCtrl h, hstart]
  exact answer_of_kept rfl rfl

theorem attestationStart_idle {s : State} (h : s.inUse = true) (hb : s.flag F.SHR_ATT_CTRL.BUSY = false) :
    exec .attestationStart s = .next (s.setFld F.SHR_ATT_CTRL.BUSY 1) := by
  have hstart : s.attStart (2 ^ 31) = s.setFld F.SHR_ATT_CTRL.BUSY 1 := by
    rw [State.attStart, if_neg (by decide), if_neg (by simp [hb])]
  rw [exec_attestationStart, regWrite_attCtrl h, hstart]
  exact answer_of_kept (setFld_pending ..) (setFld_part ..)

/-- DEPLOY with CONFIRM moves a PROVISIONED device alone. -/
theorem shrCtrlWrite_deploy (s : State) :
    s.shrCtrlWrite 0xA5C30002 = if s.fusedState = 1 then s.moveLifecycle 2 else s.report 249 kRegAccess R.SHR_CTRL := by
  have hbits : bitOf 0xA5C30002 0 = false ∧ bitOf 0xA5C30002 1 = true ∧ bitOf 0xA5C30002 2 = false ∧
      bitsOf 0xA5C30002 16 16 = 0xA5C3 := by decide
  obtain ⟨hcommit, hdeploy, hreturn, hconfirm⟩ := hbits
  by_cases hfused : s.fusedState = 1 <;>
    simp [State.shrCtrlWrite, hcommit, hdeploy, hreturn, hconfirm, hfused, State.regFault]

/-- RETURN with CONFIRM moves a PROVISIONED or DEPLOYED device. -/
theorem shrCtrlWrite_return (s : State) :
    s.shrCtrlWrite 0xA5C30004 = if s.fusedState = 1 ∨ s.fusedState = 2 then s.moveLifecycle 3 else s.report 249 kRegAccess R.SHR_CTRL := by
  have hbits : bitOf 0xA5C30004 0 = false ∧ bitOf 0xA5C30004 1 = false ∧ bitOf 0xA5C30004 2 = true ∧
      bitsOf 0xA5C30004 16 16 = 0xA5C3 := by decide
  obtain ⟨hcommit, hdeploy, hreturn, hconfirm⟩ := hbits
  by_cases hfused : s.fusedState = 1 ∨ s.fusedState = 2
  · have hmay : s.fusedState ≠ 1 → s.fusedState = 2 := hfused.resolve_left
    simpa [State.shrCtrlWrite, hcommit, hdeploy, hreturn, hconfirm, hfused] using fun h h' => absurd (hmay h) h'
  · have hnot := not_or.mp hfused
    simp [State.shrCtrlWrite, hdeploy, hreturn, hconfirm, hnot, State.regFault]

/-- An effect that moves the lifecycle or reports a fault is the command's answer. -/
theorem answer_move_or_report (s : State) (p : Prop) [Decidable p] (v addr : Nat) :
    s.answer (if p then s.moveLifecycle v else s.report 249 kRegAccess addr) =
      .next (if p then s.moveLifecycle v else s.report 249 kRegAccess addr) := by
  split
  · exact answer_of_kept (setFld_pending ..) (setFld_part ..)
  · exact answer_of_kept rfl rfl

theorem lifecycleDeploy_inUse {s : State} (h : s.inUse = true) :
    exec .lifecycleDeploy s = .next (if s.fusedState = 1 then s.moveLifecycle 2 else s.report 249 kRegAccess R.SHR_CTRL) := by
  rw [exec_lifecycleDeploy, regWrite_shrCtrl h, shrCtrlWrite_deploy, answer_move_or_report]

theorem lifecycleReturn_inUse {s : State} (h : s.inUse = true) :
    exec .lifecycleReturn s =
      .next (if s.fusedState = 1 ∨ s.fusedState = 2 then s.moveLifecycle 3 else s.report 249 kRegAccess R.SHR_CTRL) := by
  rw [exec_lifecycleReturn, regWrite_shrCtrl h, shrCtrlWrite_return, answer_move_or_report]

/-! ## The report and its buffer -/

@[simp] theorem idPub_setFld (s : State) (f : Field) (v : Nat) : (s.setFld f v).idPub = s.idPub := rfl
@[simp] theorem kaPub_setFld (s : State) (f : Field) (v : Nat) : (s.setFld f v).kaPub = s.kaPub := rfl
@[simp] theorem ns_setFld (s : State) (f : Field) (v : Nat) : (s.setFld f v).ns = s.ns := rfl

/-- The report reads no field of SHR_ATT_CTRL. -/
theorem reportHead_setFld_attCtrl {f : Field} (hf : f.off = R.SHR_ATT_CTRL) (s : State) (v : Nat) :
    (s.setFld f v).reportHead = s.reportHead := by
  have hreg : ∀ off, off ≠ R.SHR_ATT_CTRL → (s.setFld f v).regN off = s.regN off :=
    fun off h => regN_setFld_other s f v off (by rwa [hf])
  have hfld : ∀ g : Field, g.off ≠ R.SHR_ATT_CTRL → (s.setFld f v).fld g = s.fld g :=
    fun g h => fld_setFld_other s f g v (by rwa [hf])
  have hgroups : (fun n g => if ((s.setFld f v).engine g).sec.isSome then setBit n g else n) =
      fun n g => if (s.engine g).sec.isSome then setBit n g else n := rfl
  have hnonce : ∀ w, (s.setFld f v).regN (R.SHR_ATT_NONCE w) = s.regN (R.SHR_ATT_NONCE w) :=
    fun w => hreg _ (by simp only [R.SHR_ATT_NONCE, R.SHR_ATT_CTRL]; omega)
  unfold State.reportHead
  simp only [hgroups, State.lifecycle, State.debug, hnonce, hreg R.SYS_PART_ID (by decide),
    hreg R.SEQ_UCODE_VERSION (by decide), hreg R.SHR_FWVERSION (by decide), hfld F.SHR_STAT.LIFECYCLE (by decide),
    hfld F.SHR_STAT.DEBUG (by decide), hfld F.SHR_STAT.FWCOPY (by decide), hfld F.SEQ_UCODE_SVN.RUNNING (by decide),
    hfld F.SEQ_UCODE_SVN.FUSED_MIN (by decide), hfld F.SEQ_UCODE_STATUS.RESULT (by decide), hfld F.SHR_FWSVN.RUNNING (by decide),
    hfld F.SHR_FWSVN.FUSED_MIN (by decide), idPub_setFld, kaPub_setFld, ns_setFld, setFld_part, setFld_shroud]

theorem reportHead_length (s : State) : s.reportHead.length = 256 := by
  unfold State.reportHead
  simp only [List.length_append, toBytes_length, List.length_flatMap, List.map_const', List.sum_replicate, List.length_range]
  rfl

theorem poolAllocs_setReg_below {off : Nat} (h : off < 0x801000) (s : State) (v : Nat) : (s.setReg off v).poolAllocs = s.poolAllocs := by
  have hbase : ∀ k, (s.setReg off v).regN (R.MEM_AT_BASE k) = s.regN (R.MEM_AT_BASE k) :=
    fun k => regN_setReg_other s off v _ (by simp only [R.MEM_AT_BASE]; omega)
  simp only [State.poolAllocs, setReg_regs, Sparse.entriesIn_set_below regReset h, hbase]

theorem reportBuffer_setReg_below {off : Nat} (h : off < 0x801000) (s : State) (v a : Nat) :
    (s.setReg off v).reportBuffer a = s.reportBuffer a := by
  simp only [State.reportBuffer, State.poolHolding, poolAllocs_setReg_below h]

/-- A report's buffer is aligned to 64 bytes and lies in one unprotected allocation (R414). -/
theorem reportBuffer_iff (s : State) (a : Nat) :
    s.reportBuffer a = true ↔ a % 64 = 0 ∧ ∃ p, s.poolHolding a 512 = some p ∧ p.prot = false := by
  unfold State.reportBuffer
  cases s.poolHolding a 512 <;> simp

@[simp] theorem poolWrite_part (s : State) (a : Nat) (bs : List Byte) : (s.poolWrite a bs).part = s.part := rfl
@[simp] theorem poolWrite_pending (s : State) (a : Nat) (bs : List Byte) : (s.poolWrite a bs).pending = s.pending := rfl
@[simp] theorem poolWrite_deep (s : State) (a : Nat) (bs : List Byte) : (s.poolWrite a bs).deep = s.deep := rfl
@[simp] theorem poolWrite_host (s : State) (a : Nat) (bs : List Byte) : (s.poolWrite a bs).host = s.host := rfl
@[simp] theorem fld_poolWrite (s : State) (a : Nat) (bs : List Byte) (f : Field) : (s.poolWrite a bs).fld f = s.fld f := rfl

/-! ## The end of a requested report -/

/-- The device may attest: its identity is in force, it has left MANUFACTURING, and no vendor-debug session is open (R413). -/
abbrev MayAttest (s : State) : Prop :=
  s.flag F.SHR_STAT.IDENT = true ∧ s.fld F.SHR_STAT.LIFECYCLE ≠ 0 ∧ s.fld F.SHR_STAT.DEBUG ≠ 2

/-- The report and its signature by the identity key (R412). -/
def signedReport (s : State) (key : Nat) : List Byte := s.reportHead ++ toBytes 64 (Config.ed25519Sign key s.reportHead)

theorem signedReport_length (s : State) (key : Nat) : (signedReport s key).length = 320 := by
  rw [signedReport, List.length_append, reportHead_length, toBytes_length]

theorem mayAttest_setFld_busy (s : State) : MayAttest (s.setFld F.SHR_ATT_CTRL.BUSY 0) ↔ MayAttest s := by
  simp only [MayAttest, State.flag, fld_setFld_other s F.SHR_ATT_CTRL.BUSY F.SHR_STAT.IDENT 0 (by decide),
    fld_setFld_other s F.SHR_ATT_CTRL.BUSY F.SHR_STAT.LIFECYCLE 0 (by decide),
    fld_setFld_other s F.SHR_ATT_CTRL.BUSY F.SHR_STAT.DEBUG 0 (by decide)]

theorem reportBuffer_setFld_busy (s : State) (a : Nat) : (s.setFld F.SHR_ATT_CTRL.BUSY 0).reportBuffer a = s.reportBuffer a :=
  reportBuffer_setReg_below (by decide) s _ a

/-- The refusal is judged when BUSY already reads 0, and is that of the device as it was asked. -/
theorem attestRefused_iff (s : State) :
    ((!(s.setFld F.SHR_ATT_CTRL.BUSY 0).flag F.SHR_STAT.IDENT) = true ∨ (s.setFld F.SHR_ATT_CTRL.BUSY 0).lifecycle = 0 ∨
      (s.setFld F.SHR_ATT_CTRL.BUSY 0).debug = 2) ↔ ¬ MayAttest s := by
  rw [← mayAttest_setFld_busy]
  simp only [MayAttest, State.lifecycle, State.debug, Bool.not_eq_true', ne_eq, not_and_or, not_not, Bool.not_eq_true]

theorem attDone_idle {s : State} (hb : s.flag F.SHR_ATT_CTRL.BUSY = false) : s.attDone = s := by
  unfold State.attDone
  rw [if_pos (by simp [hb])]

/-- Without the derived keys the report is refused. -/
theorem attDone_noKeys {s : State} (hb : s.flag F.SHR_ATT_CTRL.BUSY = true) (hk : s.shroud.keys = none) :
    s.attDone = (s.setFld F.SHR_ATT_CTRL.BUSY 0).setFld F.SHR_ATT_CTRL.RESULT 1 := by
  unfold State.attDone
  rw [if_neg (by simp [hb])]
  simp only [setFld_shroud, hk]

/-- With the keys, a device that may not attest refuses the report. -/
theorem attDone_refused {s : State} {keys : Nat × Nat} (hb : s.flag F.SHR_ATT_CTRL.BUSY = true) (hk : s.shroud.keys = some keys)
    (hm : ¬ MayAttest s) : s.attDone = (s.setFld F.SHR_ATT_CTRL.BUSY 0).setFld F.SHR_ATT_CTRL.RESULT 1 := by
  unfold State.attDone
  rw [if_neg (by simp [hb])]
  simp only [setFld_shroud, hk]
  rw [if_pos ((attestRefused_iff s).mpr hm)]

/-- A device that may attest judges the buffer, and writes the report with the certificate behind it. -/
theorem attDone_mayAttest {s : State} {keys : Nat × Nat} (hb : s.flag F.SHR_ATT_CTRL.BUSY = true) (hk : s.shroud.keys = some keys)
    (hm : MayAttest s) :
    s.attDone =
      if (!s.reportBuffer (s.regN R.SHR_ATT_ADDR)) = true then (s.setFld F.SHR_ATT_CTRL.BUSY 0).setFld F.SHR_ATT_CTRL.RESULT 2
      else ((s.setFld F.SHR_ATT_CTRL.BUSY 0).poolWrite (s.regN R.SHR_ATT_ADDR)
        (signedReport s keys.1 ++ s.kept.certificate.take 160)).setFld F.SHR_ATT_CTRL.RESULT 0 := by
  unfold State.attDone
  rw [if_neg (by simp [hb])]
  simp only [setFld_shroud, hk]
  rw [if_neg (fun h => (attestRefused_iff s).mp h hm), reportHead_setFld_attCtrl rfl, reportBuffer_setFld_busy, setFld_kept, signedReport]

theorem attestationDone_idle {s : State} (hb : s.flag F.SHR_ATT_CTRL.BUSY = false) : exec .attestationDone s = .next s := by
  rw [exec_attestationDone, attDone_idle hb]
  exact answer_of_kept rfl rfl

/-- A refused request shows its RESULT, and nothing is written. -/
theorem answer_attestRefused (s : State) (result : Nat) :
    s.answer ((s.setFld F.SHR_ATT_CTRL.BUSY 0).setFld F.SHR_ATT_CTRL.RESULT result) =
      .next ((s.setFld F.SHR_ATT_CTRL.BUSY 0).setFld F.SHR_ATT_CTRL.RESULT result) :=
  answer_of_kept (by rw [setFld_pending, setFld_pending]) (by rw [setFld_part, setFld_part])

theorem attestationDone_noIdentity {s : State} (hb : s.flag F.SHR_ATT_CTRL.BUSY = true) (h : s.shroud.keys = none ∨ ¬ MayAttest s) :
    exec .attestationDone s = .next ((s.setFld F.SHR_ATT_CTRL.BUSY 0).setFld F.SHR_ATT_CTRL.RESULT 1) := by
  rw [exec_attestationDone, ← answer_attestRefused]
  cases hk : s.shroud.keys with
  | none => rw [attDone_noKeys hb hk]
  | some keys => rw [attDone_refused hb hk (h.resolve_left (by simp [hk]))]

theorem attestationDone_badBuffer {s : State} {keys : Nat × Nat} (hb : s.flag F.SHR_ATT_CTRL.BUSY = true)
    (hk : s.shroud.keys = some keys) (hm : MayAttest s) (hbuf : s.reportBuffer (s.regN R.SHR_ATT_ADDR) = false) :
    exec .attestationDone s = .next ((s.setFld F.SHR_ATT_CTRL.BUSY 0).setFld F.SHR_ATT_CTRL.RESULT 2) := by
  rw [exec_attestationDone, attDone_mayAttest hb hk hm, if_pos (by rw [hbuf]; rfl), answer_attestRefused]

/-- The state behind a report that is written. -/
def reported (s : State) (key : Nat) : State :=
  ((s.setFld F.SHR_ATT_CTRL.BUSY 0).poolWrite (s.regN R.SHR_ATT_ADDR)
    (signedReport s key ++ s.kept.certificate.take 160)).setFld F.SHR_ATT_CTRL.RESULT 0

theorem attestationDone_reported {s : State} {keys : Nat × Nat} (hb : s.flag F.SHR_ATT_CTRL.BUSY = true)
    (hk : s.shroud.keys = some keys) (hm : MayAttest s) (hbuf : s.reportBuffer (s.regN R.SHR_ATT_ADDR) = true) :
    exec .attestationDone s = .next (reported s keys.1) := by
  rw [exec_attestationDone, attDone_mayAttest hb hk hm, if_neg (by simp [hbuf]), reported]
  exact answer_of_kept (by rw [setFld_pending, poolWrite_pending, setFld_pending]) (by rw [setFld_part, poolWrite_part, setFld_part])

theorem reported_result (s : State) (key : Nat) : (reported s key).fld F.SHR_ATT_CTRL.RESULT = 0 := by
  rw [reported, fld_setFld_same _ _ 0 (by decide), Nat.zero_mod]

theorem reported_busy (s : State) (key : Nat) : (reported s key).flag F.SHR_ATT_CTRL.BUSY = false := by
  have hbusy : (reported s key).fld F.SHR_ATT_CTRL.BUSY = 0 := by
    rw [reported, fld_setFld_apart _ F.SHR_ATT_CTRL.RESULT F.SHR_ATT_CTRL.BUSY 0 (by decide) rfl (by decide), fld_poolWrite,
      fld_setFld_same _ _ 0 (by decide), Nat.zero_mod]
  rw [State.flag, hbusy]
  rfl

theorem reported_pool (s : State) (key : Nat) :
    (reported s key).pool =
      Sparse.setMany poolDefault s.pool (s.regN R.SHR_ATT_ADDR) (signedReport s key ++ s.kept.certificate.take 160) := by
  rw [reported, setFld_pool, State.poolWrite, setFld_pool]

/-- The signed report and the certificate stand at the offset, one behind the other. -/
theorem reported_poolRead (s : State) (key : Nat) :
    (reported s key).poolRead (s.regN R.SHR_ATT_ADDR) 320 = signedReport s key ∧
    (reported s key).poolRead (s.regN R.SHR_ATT_ADDR + 320) (s.kept.certificate.take 160).length = s.kept.certificate.take 160 := by
  rw [State.poolRead, State.poolRead, reported_pool, ← signedReport_length s key]
  exact Sparse.getMany_setMany_append poolDefault s.pool _ _ _

/-- Nothing of the pool beside the report's 480 bytes changes. -/
theorem reported_poolRead_beside (s : State) (key : Nat) {x n : Nat}
    (h : x + n ≤ s.regN R.SHR_ATT_ADDR ∨ s.regN R.SHR_ATT_ADDR + 480 ≤ x) : (reported s key).poolRead x n = s.poolRead x n := by
  have hlen : (signedReport s key ++ s.kept.certificate.take 160).length ≤ 480 := by
    rw [List.length_append, signedReport_length, List.length_take]
    omega
  rw [State.poolRead, reported_pool, Sparse.getMany_setMany_other poolDefault s.pool _ x n _ (by omega), State.poolRead]

theorem reported_deep (s : State) (key : Nat) : (reported s key).deep = s.deep := by
  rw [reported, setFld_deep, poolWrite_deep, setFld_deep]

theorem reported_host (s : State) (key : Nat) : (reported s key).host = s.host := by
  rw [reported, setFld_host, poolWrite_host, setFld_host]

/-! ## Provisioning -/

/-- Steps that write the keeping store alone write it alone together. -/
theorem foldl_keepOnly {α : Type} {f : State → α → State} (hf : ∀ s x, ∃ k, f s x = { s with keep := k }) (l : List α) (s : State) :
    ∃ k, l.foldl f s = { s with keep := k } := by
  induction l generalizing s with
  | nil => exact ⟨s.keep, rfl⟩
  | cons x l ih =>
    obtain ⟨k, hk⟩ := hf s x
    obtain ⟨k', hk'⟩ := ih (f s x)
    exact ⟨k', by rw [List.foldl_cons, hk', hk]⟩

theorem closeRecord_keepOnly (s : State) (a : Nat) (bs : List Byte) (base len seq : Nat) :
    ∃ k, (s.keepWrite a bs).closeRecord base len seq = { s with keep := k } := ⟨_, rfl⟩

/-- A device that is not blank, or not in vendor-debug, is not provisioned. -/
theorem provision_refused {s : State} (h : ¬ (s.fusedState = 0 ∧ s.debug = 2)) (seed : Nat) (helper certificate : List Byte)
    (sets : List (Nat × List Byte)) : s.provision seed helper certificate sets = s := by
  unfold State.provision
  rw [if_pos (not_and_or.mp h)]

/-- The state behind a provisioning that leaves a keeping store: fused seed, helper data, certificate, and the move to PROVISIONED. -/
def provisioned (s : State) (seed : Nat) (helper certificate : List Byte) (keep : List Host.Cell) : State :=
  State.setFld { s with
    fuses := { s.fuses with seed := some seed, lcNext := some 1 }
    kept := { s.kept with helper := helper, certificate := certificate }
    keep := keep } F.SHR_STAT.LCPEND 1

theorem provision_permitted {s : State} (h : s.fusedState = 0 ∧ s.debug = 2) (seed : Nat) (helper certificate : List Byte)
    (sets : List (Nat × List Byte)) :
    ∃ k, s.provision seed helper certificate sets = provisioned s seed helper certificate k := by
  unfold State.provision
  rw [if_neg (not_or.mpr ⟨not_not.mpr h.1, not_not.mpr h.2⟩)]
  obtain ⟨k, hk⟩ := foldl_keepOnly (fun (s : State) (x : Nat × List Byte) => closeRecord_keepOnly s
      (s.copyToWrite (slotAt x.1 0) (slotAt x.1 1) 0x50 slotLen).1 (x.2.take slotLen)
      (s.copyToWrite (slotAt x.1 0) (slotAt x.1 1) 0x50 slotLen).1 slotLen
      (s.copyToWrite (slotAt x.1 0) (slotAt x.1 1) 0x50 slotLen).2) sets
    { s with fuses := { s.fuses with seed := some seed }, kept := { s.kept with helper := helper, certificate := certificate } }
  refine ⟨k, ?_⟩
  simp only [hk, State.moveLifecycle, provisioned]

theorem lifecycleProvision_refused {s : State} (h : ¬ (s.fusedState = 0 ∧ s.debug = 2)) (seed : Nat) (helper certificate : List Byte)
    (sets : List (Fin 2 × List Byte)) : exec (.lifecycleProvision seed helper certificate sets) s = .next s := by
  rw [exec_lifecycleProvision, provision_refused h]
  exact answer_of_kept rfl rfl

theorem lifecycleProvision_permitted {s : State} (h : s.fusedState = 0 ∧ s.debug = 2) (seed : Nat) (helper certificate : List Byte)
    (sets : List (Fin 2 × List Byte)) :
    ∃ t, exec (.lifecycleProvision seed helper certificate sets) s = .next t ∧
      t.fuses = { s.fuses with seed := some seed, lcNext := some 1 } ∧
      t.kept = { s.kept with helper := helper, certificate := certificate } ∧ t.flag F.SHR_STAT.LCPEND = true ∧
      t.fld F.SHR_STAT.LIFECYCLE = s.fld F.SHR_STAT.LIFECYCLE ∧ t.pool = s.pool ∧ t.flash = s.flash := by
  obtain ⟨k, hk⟩ := provision_permitted h seed helper certificate (sets.map fun x => (x.1.val, x.2))
  have hexec : exec (.lifecycleProvision seed helper certificate sets) s = .next (provisioned s seed helper certificate k) := by
    rw [exec_lifecycleProvision, hk]
    exact answer_of_kept (by rw [provisioned, setFld_pending]) (by rw [provisioned, setFld_part])
  refine ⟨_, hexec, by rw [provisioned, setFld_fuses], by rw [provisioned, setFld_kept], ?_, ?_, by rw [provisioned, setFld_pool],
    by rw [provisioned, setFld_flash]⟩
  · rw [provisioned, State.flag, fld_setFld_same _ _ 1 (by decide)]
    rfl
  · exact fld_setFld_apart _ F.SHR_STAT.LCPEND F.SHR_STAT.LIFECYCLE 1 (by decide) rfl (by decide)

/-! ## Boundary scan -/

theorem enginesQuiet_iff (s : State) : s.enginesQuiet = true ↔ ∀ g, g < 64 → s.eState g = 0 ∨ s.eState g = 4 := by
  simp [State.enginesQuiet, List.all_eq_true]

theorem extestInstruction_quiet {s : State} (h : s.enginesQuiet = true) (code : Fin 4) :
    exec (.extestInstruction code) s = .next { s with pins := { s.pins with scan := code } } := by
  rw [exec_extestInstruction, State.extest, if_pos h]
  exact answer_of_kept rfl rfl

theorem extestInstruction_busy {s : State} (h : ¬ s.enginesQuiet = true) (code : Fin 4) :
    exec (.extestInstruction code) s = .next { s with pins := { s.pins with scan := 0 } } := by
  rw [exec_extestInstruction, State.extest, if_neg h]
  exact answer_of_kept rfl rfl

end Sys2Proof.Machine
end

section
/-! SUPPORT. The statement on attestation, the lifecycle, provisioning and boundary scan, from the lemmas on each command. -/
namespace Sys2Proof.Machine

/-- Settles O48: each command's answer follows its cases; a report reads nothing that the end of BUSY changes and is written as one
range, and provisioning writes the fuses, the keeping store and LCPEND alone. -/
theorem attestationAndLifecycle : Obligations.AttestationAndLifecycle := by
  unfold Obligations.AttestationAndLifecycle
  refine ⟨fun s hu => ?_, fun s => ?_, fun seed helper certificate sets code s => ?_⟩
  · exact ⟨attestationStart_busy hu, attestationStart_idle hu, lifecycleDeploy_inUse hu, lifecycleReturn_inUse hu⟩
  · refine ⟨attestationDone_idle, attestationDone_noIdentity, fun keys hb hk hm => ⟨fun hbuf => ?_, fun hbuf => ?_⟩⟩
    · exact attestationDone_badBuffer hb hk hm (Bool.eq_false_iff.mpr fun h => hbuf ((reportBuffer_iff s _).mp h))
    · obtain ⟨hreport, hcertificate⟩ := reported_poolRead s keys.1
      exact ⟨reported s keys.1, attestationDone_reported hb hk hm ((reportBuffer_iff s _).mpr hbuf), reported_result s _,
        reported_busy s _, hreport, reportHead_length s, hcertificate, fun x n => reported_poolRead_beside s _, reported_deep s _,
        reported_host s _⟩
  · exact ⟨fun h => lifecycleProvision_refused h seed helper certificate sets,
      fun h => lifecycleProvision_permitted h seed helper certificate sets,
      fun h => extestInstruction_quiet ((enginesQuiet_iff s).mpr h) code,
      fun h => extestInstruction_busy (fun hq => h ((enginesQuiet_iff s).mp hq)) code⟩

end Sys2Proof.Machine
end

section
/-! SUPPORT. Crow's Nest (R434–R442): the values of its counters, a counter that wraps and the sample it takes, the writes of its registers,
a check error and the totals of a bandwidth window. -/
namespace Sys2Proof.Machine

/-! ## The commands -/

theorem exec_cnsCounterWrap (k : Fin 8) (n : Nat) (s : State) : exec (.cnsCounterWrap k n) s = s.answer (s.cnsWrap k n) := rfl
theorem exec_cnsCounterCheckError (k : Fin 8) (s : State) : exec (.cnsCounterCheckError k) s = s.answer (s.cnsCheckError k) := rfl
theorem exec_cnsBwWindowEnd (s : State) : exec .cnsBwWindowEnd s = s.answer s.bwWindowEnd := rfl

theorem exec_cnsClearAll (run : Bool) (s : State) :
    exec (.cnsClearAll run) s = s.answer (s.regWrite R.CNS_GCTRL (2 + b2n run) 0) := rfl

theorem exec_cnsCounterWrite (k : Fin 8) (hi : Bool) (value : Word) (s : State) :
    exec (.cnsCounterWrite k hi value) s = s.answer (s.regWrite (if hi then R.CNS_CTR_HI k else R.CNS_CTR_LO k) value.toNat 0) := rfl

@[simp] theorem answered_cnsStopped (s t : State) : (Answered s t).cnsStopped = t.cnsStopped := rfl
@[simp] theorem answered_faultIn (s t : State) : (Answered s t).faultIn = t.faultIn := rfl
@[simp] theorem answered_bwNow (s t : State) : (Answered s t).bwNow = t.bwNow := rfl
@[simp] theorem answered_bwStart (s t : State) : (Answered s t).bwStart = t.bwStart := rfl
@[simp] theorem answered_reg64 (s t : State) (lo hi : Nat) : (Answered s t).reg64 lo hi = t.reg64 lo hi := rfl
@[simp] theorem answered_cns (s t : State) (k : Nat) : (Answered s t).cns k = t.cns k := rfl

/-! ## Fields and register pairs -/

/-- A field takes a value modulo its width. -/
theorem setFld_eq_of_mod_eq (s : State) {f : Field} {v w : Nat} (h : v % 2 ^ f.width = w % 2 ^ f.width) : s.setFld f v = s.setFld f w := by
  rw [State.setFld, putBits, h, State.setFld, putBits]

theorem reg64_congr {s t : State} {lo hi : Nat} (hlo : t.regN lo = s.regN lo) (hhi : t.regN hi = s.regN hi) :
    t.reg64 lo hi = s.reg64 lo hi := by rw [State.reg64, hlo, hhi, State.reg64]

theorem reg64_lt (s : State) (lo hi : Nat) : s.reg64 lo hi < 2 ^ 64 := by
  have hlo := regN_lt s lo
  have hhi := regN_lt s hi
  rw [State.reg64]
  omega

theorem regN_setReg64_other (s : State) {lo hi off : Nat} (v : Nat) (hlo : off ≠ lo) (hhi : off ≠ hi) :
    (s.setReg64 lo hi v).regN off = s.regN off :=
  (regN_setReg_other _ _ _ _ hhi).trans (regN_setReg_other _ _ _ _ hlo)

/-! ## The value of a counter -/

theorem cns_congr {s t : State} {k : Nat} (hlo : t.regN (R.CNS_CTR_LO k) = s.regN (R.CNS_CTR_LO k))
    (hhi : t.regN (R.CNS_CTR_HI k) = s.regN (R.CNS_CTR_HI k)) : t.cns k = s.cns k := by
  rw [State.cns, hlo, fld_congr (f := F.CNS_CTR_HI.COUNT k) hhi, State.cns]

/-- Whether a counter counts is read from RUN, its CFG and the counters that a check error stopped. -/
theorem cnsCounts_congr {s t : State} {k : Nat} (hctrl : t.regN R.CNS_GCTRL = s.regN R.CNS_GCTRL)
    (hcfg : t.regN (R.CNS_CTR_CFG k) = s.regN (R.CNS_CTR_CFG k)) (hstopped : t.cnsStopped = s.cnsStopped) (ev : Nat) :
    t.cnsCounts k ev = s.cnsCounts k ev := by
  rw [State.cnsCounts, flag_congr (f := F.CNS_GCTRL.RUN) hctrl, flag_congr (f := F.CNS_CTR_CFG.EN k) hcfg,
    fld_congr (f := F.CNS_CTR_CFG.EVENT k) hcfg, hstopped, State.cnsCounts]

theorem not_cnsCounts_of_stopped {s : State} {k : Nat} (h : k ∈ s.cnsStopped) (ev : Nat) : s.cnsCounts k ev = false := by
  simp [State.cnsCounts, h]

theorem regN_setCns_other (s : State) {k off : Nat} (v : Nat) (hlo : off ≠ R.CNS_CTR_LO k) (hhi : off ≠ R.CNS_CTR_HI k) :
    (s.setCns k v).regN off = s.regN off :=
  (regN_setFld_other _ (F.CNS_CTR_HI.COUNT k) _ off hhi).trans (regN_setReg_other _ _ _ off hlo)

@[simp] theorem setCns_cnsStopped (s : State) (k v : Nat) : (s.setCns k v).cnsStopped = s.cnsStopped :=
  (setFld_cnsStopped ..).trans (setReg_cnsStopped ..)
@[simp] theorem setCns_faultIn (s : State) (k v : Nat) : (s.setCns k v).faultIn = s.faultIn :=
  (setFld_faultIn ..).trans (setReg_faultIn ..)

theorem ctrLo_ne_ctrHi (j k : Nat) : R.CNS_CTR_LO j ≠ R.CNS_CTR_HI k := by simp only [R.CNS_CTR_LO, R.CNS_CTR_HI]; omega

/-- The value registers lie within the window of the eight counters, beside the CFG that begins each 16 bytes of it. -/
theorem ctr_apart {k off : Nat} (hk : k < 8) (h : off < 0x700040 ∨ 0x7000C0 ≤ off ∨ off % 16 = 0) :
    off ≠ R.CNS_CTR_LO k ∧ off ≠ R.CNS_CTR_HI k := by
  simp only [R.CNS_CTR_LO, R.CNS_CTR_HI]
  omega

theorem ctrCfg_mod (k : Nat) : R.CNS_CTR_CFG k % 16 = 0 := by simp only [R.CNS_CTR_CFG]; omega

/-- A counter holds 48 bits. -/
theorem cns_setCns_same (s : State) (k v : Nat) : (s.setCns k v).cns k = v % 2 ^ 48 := by
  have hlo : (s.setCns k v).regN (R.CNS_CTR_LO k) = v % 2 ^ 32 :=
    (regN_setFld_other _ (F.CNS_CTR_HI.COUNT k) _ _ (ctrLo_ne_ctrHi k k)).trans (regN_setReg_same s _ v)
  have hhi : (s.setCns k v).fld (F.CNS_CTR_HI.COUNT k) = v / 2 ^ 32 % 2 ^ 16 :=
    fld_setFld_same _ (F.CNS_CTR_HI.COUNT k) _ (by simp only [F.CNS_CTR_HI.COUNT]; omega)
  rw [State.cns, hlo, hhi]
  omega

theorem cns_setCns_other (s : State) {j k : Nat} (h : j ≠ k) (v : Nat) : (s.setCns k v).cns j = s.cns j := by
  refine cns_congr (regN_setCns_other s v ?_ (ctrLo_ne_ctrHi j k)) (regN_setCns_other s v (ctrLo_ne_ctrHi k j).symm ?_)
  all_goals simp only [R.CNS_CTR_LO, R.CNS_CTR_HI]; omega

/-! ## The sample of a wrap (R440) -/

/-- What a sample leaves alone: the pool, the engines, the stopped counters, and the counters with their control and CNS_OVF. -/
structure KeepsCounters (s t : State) : Prop where
  pool : t.pool = s.pool
  engines : t.engines = s.engines
  stopped : t.cnsStopped = s.cnsStopped
  regs : ∀ off, R.CNS_CYCLE_LO ≤ off → off < R.CNS_SAMPSTAT → t.regN off = s.regN off

theorem keepsCounters_refl (s : State) : KeepsCounters s s := ⟨rfl, rfl, rfl, fun _ _ _ => rfl⟩

theorem KeepsCounters.trans {s t u : State} (h : KeepsCounters s t) (h' : KeepsCounters t u) : KeepsCounters s u :=
  ⟨h'.pool.trans h.pool, h'.engines.trans h.engines, h'.stopped.trans h.stopped,
    fun off hlo hhi => (h'.regs off hlo hhi).trans (h.regs off hlo hhi)⟩

theorem KeepsCounters.ite {s a b : State} {p : Prop} [Decidable p] (ha : KeepsCounters s a) (hb : KeepsCounters s b) :
    KeepsCounters s (if p then a else b) := by
  split <;> assumption

theorem setReg_keepsCounters {off : Nat} (h : off < R.CNS_CYCLE_LO ∨ R.CNS_SAMPSTAT ≤ off) (s : State) (v : Nat) :
    KeepsCounters s (s.setReg off v) :=
  ⟨rfl, rfl, rfl, fun x _ _ => regN_setReg_other s off v x (by omega)⟩

theorem setReg64_keepsCounters {lo hi : Nat} (hlo : R.CNS_SAMPSTAT ≤ lo) (hhi : R.CNS_SAMPSTAT ≤ hi) (s : State) (v : Nat) :
    KeepsCounters s (s.setReg64 lo hi v) :=
  (setReg_keepsCounters (.inr hlo) s v).trans (setReg_keepsCounters (.inr hhi) _ _)

theorem sendMsix_keepsCounters {vec : Nat} (h : vec < 64) (s : State) : KeepsCounters s (s.sendMsix vec) := by
  unfold State.sendMsix
  exact .ite (setReg_keepsCounters (by simp only [R.CNS_CYCLE_LO]; omega) s _) ⟨rfl, rfl, rfl, fun _ _ _ => rfl⟩

theorem signal_keepsCounters {ev : Nat} (h : ev < 256) (s : State) : KeepsCounters s (s.signal ev) := by
  have hpend : KeepsCounters s (s.setFld (evPend ev) 1) :=
    setReg_keepsCounters (by simp only [evPend, R.HIF_EVPEND, R.CNS_CYCLE_LO]; omega) s _
  unfold State.signal
  exact .ite (keepsCounters_refl s) (hpend.trans (.ite (sendMsix_keepsCounters (fld_lt _ _) _) (keepsCounters_refl _)))

/-- CNS_CYCLE and the count and address of engine e, written down (R440). -/
def stamped (s : State) (e : Nat) : State :=
  ((s.setReg64 R.CNS_SAMP_CYC_LO R.CNS_SAMP_CYC_HI s.cnsCycle).setReg64 R.CNS_SAMP_VC_LO R.CNS_SAMP_VC_HI
    (s.reg64 (R.SE_CYCLE_LO e) (R.SE_CYCLE_HI e))).setReg R.CNS_SAMP_IA (e * 2 ^ 24 + s.fld (F.SE_STATE.IA e))

/-- The sample that counter k takes: its engine's stamp, and the counter itself in CNS_SAMPSTAT. -/
def sampled (s : State) (k : Nat) : State :=
  ((stamped s (s.fld (F.CNS_CTR_CFG.ENGINE k))).setFld F.CNS_SAMPSTAT.CTRS (2 ^ k)).setFld F.CNS_SAMPSTAT.VALID 1

/-- The engines' registers lie behind those of Crow's Nest, so a sample reads them as they were. -/
theorem cnsSample_free {s : State} {k : Nat} (h : s.flag F.CNS_SAMPSTAT.VALID = false) : s.cnsSample k = (sampled s k).signal 210 := by
  have hengine : ∀ (u : State) {lo hi off : Nat} (v : Nat), lo < 0x1000000 → hi < 0x1000000 → 0x1000000 ≤ off →
      (u.setReg64 lo hi v).regN off = u.regN off := fun u lo hi off v hlo hhi hoff =>
    regN_setReg64_other u v (by omega) (by omega)
  rw [State.cnsSample, if_pos (by rw [h]; rfl)]
  dsimp only
  rw [reg64_congr (hengine s s.cnsCycle (by decide) (by decide) _) (hengine s s.cnsCycle (by decide) (by decide) _),
    fld_congr ((hengine _ _ (by decide) (by decide) _).trans (hengine s s.cnsCycle (by decide) (by decide) _))]
  · rfl
  all_goals simp only [F.SE_STATE.IA, R.SE_STATE, R.SE_CYCLE_LO, R.SE_CYCLE_HI]; omega

theorem cnsSample_missed {s : State} {k : Nat} (h : s.flag F.CNS_SAMPSTAT.VALID = true)
    (hcycle : s.reg64 R.CNS_SAMP_CYC_LO R.CNS_SAMP_CYC_HI ≠ s.cnsCycle) : s.cnsSample k = s.addSat F.CNS_SAMPSTAT.LOST 1 := by
  rw [State.cnsSample, if_neg (by simp [h]), if_neg (by simpa using hcycle)]

theorem cnsSample_keepsCounters (s : State) (k : Nat) : KeepsCounters s (s.cnsSample k) := by
  have hstat : ∀ {f : Field} (u : State) (v : Nat), f.off = R.CNS_SAMPSTAT → KeepsCounters u (u.setFld f v) :=
    fun u v hf => setReg_keepsCounters (.inr hf.ge) u _
  unfold State.cnsSample
  refine .ite ?_ (.ite (hstat _ _ rfl) (hstat _ _ rfl))
  exact (setReg64_keepsCounters (by decide) (by decide) _ _).trans <| (setReg64_keepsCounters (by decide) (by decide) _ _).trans <|
    (setReg_keepsCounters (.inr (by decide)) _ _).trans <| (hstat _ _ rfl).trans <| (hstat _ _ rfl).trans <|
    signal_keepsCounters (by decide) _

theorem stamped_cycle {s : State} (h : s.cnsCycle < 2 ^ 64) (e : Nat) :
    (stamped s e).reg64 R.CNS_SAMP_CYC_LO R.CNS_SAMP_CYC_HI = s.cnsCycle := by
  have hread : ∀ off, off = R.CNS_SAMP_CYC_LO ∨ off = R.CNS_SAMP_CYC_HI →
      (stamped s e).regN off = (s.setReg64 R.CNS_SAMP_CYC_LO R.CNS_SAMP_CYC_HI s.cnsCycle).regN off := by
    rintro off (rfl | rfl)
    all_goals rw [stamped, regN_setReg_other _ _ _ _ (by decide), regN_setReg64_other _ _ (by decide) (by decide)]
  rw [reg64_congr (hread _ (.inl rfl)) (hread _ (.inr rfl)), reg64_setReg64_same s (by decide), Nat.mod_eq_of_lt h]

theorem stamped_engineCycle (s : State) (e : Nat) :
    (stamped s e).reg64 R.CNS_SAMP_VC_LO R.CNS_SAMP_VC_HI = s.reg64 (R.SE_CYCLE_LO e) (R.SE_CYCLE_HI e) := by
  rw [stamped, reg64_congr (regN_setReg_other _ _ _ _ (by decide)) (regN_setReg_other _ _ _ _ (by decide)),
    reg64_setReg64_same _ (by decide), Nat.mod_eq_of_lt (reg64_lt s _ _)]

theorem stamped_address (s : State) {e : Nat} (he : e < 2 ^ 6) :
    (stamped s e).regN R.CNS_SAMP_IA = e * 2 ^ 24 + s.fld (F.SE_STATE.IA e) := by
  have haddr : s.fld (F.SE_STATE.IA e) < 2 ^ 24 := fld_lt s _
  rw [stamped, regN_setReg_same, Nat.mod_eq_of_lt (by omega)]

/-- The sample of counter k in the registers of t: where s stood as it was taken, and its event pending. -/
structure SampleTaken (s : State) (k : Nat) (t : State) : Prop where
  valid : t.flag F.CNS_SAMPSTAT.VALID = true
  counter : t.fld F.CNS_SAMPSTAT.CTRS = 2 ^ k
  cycle : t.reg64 R.CNS_SAMP_CYC_LO R.CNS_SAMP_CYC_HI = s.cnsCycle
  engineCycle : t.reg64 R.CNS_SAMP_VC_LO R.CNS_SAMP_VC_HI =
    s.reg64 (R.SE_CYCLE_LO (s.fld (F.CNS_CTR_CFG.ENGINE k))) (R.SE_CYCLE_HI (s.fld (F.CNS_CTR_CFG.ENGINE k)))
  address : t.regN R.CNS_SAMP_IA =
    s.fld (F.CNS_CTR_CFG.ENGINE k) * 2 ^ 24 + s.fld (F.SE_STATE.IA (s.fld (F.CNS_CTR_CFG.ENGINE k)))
  event : t.flag (evPend 210) = true

theorem cnsSample_takes {s : State} {k : Nat} (hk : k < 8) (h : s.flag F.CNS_SAMPSTAT.VALID = false) (hcycle : s.cnsCycle < 2 ^ 64) :
    SampleTaken s k (s.cnsSample k) := by
  have hsignal : ∀ off, 0x200000 ≤ off → ((sampled s k).signal 210).regN off = (sampled s k).regN off :=
    (signal_keepsTime (by decide) _).regs
  have hstamp : ∀ off, 0x200000 ≤ off → off ≠ R.CNS_SAMPSTAT →
      ((sampled s k).signal 210).regN off = (stamped s (s.fld (F.CNS_CTR_CFG.ENGINE k))).regN off := fun off hoff hne =>
    (hsignal off hoff).trans <| (regN_setFld_other _ F.CNS_SAMPSTAT.VALID _ _ hne).trans (regN_setFld_other _ F.CNS_SAMPSTAT.CTRS _ _ hne)
  have hvalid : (sampled s k).fld F.CNS_SAMPSTAT.VALID = 1 := fld_setFld_same _ F.CNS_SAMPSTAT.VALID _ (by decide)
  have hctrs : (sampled s k).fld F.CNS_SAMPSTAT.CTRS = 2 ^ k % 2 ^ 8 :=
    (fld_setFld_apart _ F.CNS_SAMPSTAT.VALID F.CNS_SAMPSTAT.CTRS _ (by decide) rfl (.inl (by decide))).trans
      (fld_setFld_same _ F.CNS_SAMPSTAT.CTRS _ (by decide))
  rw [cnsSample_free h]
  constructor
  case valid =>
    rw [State.flag, fld_congr (hsignal _ (by decide)), hvalid]
    rfl
  case counter => rw [fld_congr (hsignal _ (by decide)), hctrs, Nat.mod_eq_of_lt (Nat.pow_lt_pow_right (by decide) hk)]
  case cycle => rw [reg64_congr (hstamp _ (by decide) (by decide)) (hstamp _ (by decide) (by decide)), stamped_cycle hcycle]
  case engineCycle => rw [reg64_congr (hstamp _ (by decide) (by decide)) (hstamp _ (by decide) (by decide)), stamped_engineCycle]
  case address => rw [hstamp _ (by decide) (by decide), stamped_address s (fld_lt s _)]
  case event => exact evPend_signal (by decide) _

/-- A sample is the same from two states that agree on the cycle, on the counter's CFG and on every engine's registers. -/
theorem SampleTaken.congr {s s' t : State} {k : Nat} (h : SampleTaken s' k t) (hcycle : s'.cnsCycle = s.cnsCycle)
    (hcfg : s'.regN (R.CNS_CTR_CFG k) = s.regN (R.CNS_CTR_CFG k)) (hregs : ∀ off, 0x1000000 ≤ off → s'.regN off = s.regN off) :
    SampleTaken s k t := by
  have hengine : s'.fld (F.CNS_CTR_CFG.ENGINE k) = s.fld (F.CNS_CTR_CFG.ENGINE k) := fld_congr hcfg
  have hcount : ∀ e, s'.reg64 (R.SE_CYCLE_LO e) (R.SE_CYCLE_HI e) = s.reg64 (R.SE_CYCLE_LO e) (R.SE_CYCLE_HI e) := fun e =>
    reg64_congr (hregs _ (Nat.le_add_right_of_le (by decide))) (hregs _ (Nat.le_add_right_of_le (by decide)))
  have haddr : ∀ e, s'.fld (F.SE_STATE.IA e) = s.fld (F.SE_STATE.IA e) := fun e =>
    fld_congr (hregs _ (Nat.le_add_right_of_le (by decide)))
  refine ⟨h.valid, h.counter, h.cycle.trans hcycle, ?_, ?_, h.event⟩
  · rw [h.engineCycle, hengine, hcount]
  · rw [h.address, hengine, haddr]

/-! ## A counter that wraps (R435) -/

/-- Counter k given a value past its end, with its CNS_OVF bit set. -/
def wrapped (s : State) (k v : Nat) : State := (s.setCns k v).setFld F.CNS_OVF.WRAPPED (setBit (s.fld F.CNS_OVF.WRAPPED) k)

theorem cnsAdd_wrapped {s : State} {k n : Nat} (hk : k < 8) (h : 2 ^ 48 ≤ s.cns k + n) :
    s.cnsAdd k n = if s.flag (F.CNS_CTR_CFG.SAMPLE k) = true then (wrapped s k (s.cns k + n)).cnsSample k else wrapped s k (s.cns k + n) := by
  have hother : ∀ off, off < 0x700040 ∨ 0x7000C0 ≤ off ∨ off % 16 = 0 →
      (s.setCns k (s.cns k + n)).regN off = s.regN off :=
    fun off hoff => regN_setCns_other s _ (ctr_apart hk hoff).1 (ctr_apart hk hoff).2
  have hflag : (wrapped s k (s.cns k + n)).flag (F.CNS_CTR_CFG.SAMPLE k) = s.flag (F.CNS_CTR_CFG.SAMPLE k) :=
    flag_congr ((regN_setFld_other _ _ _ _ (by simp only [F.CNS_CTR_CFG.SAMPLE, F.CNS_OVF.WRAPPED, R.CNS_CTR_CFG, R.CNS_OVF]; omega)).trans
      (hother _ (.inr (.inr (ctrCfg_mod k)))))
  have hovf : (s.setCns k (s.cns k + n)).fld F.CNS_OVF.WRAPPED = s.fld F.CNS_OVF.WRAPPED := fld_congr (hother _ (.inl (by decide)))
  rw [← hflag, wrapped, ← hovf, State.cnsAdd, if_neg h.not_gt]
  rfl

section
variable (s : State) {k : Nat} (v : Nat)

theorem wrapped_pool : (wrapped s k v).pool = s.pool := (setFld_pool ..).trans ((setFld_pool ..).trans (setReg_pool ..))
theorem wrapped_engines : (wrapped s k v).engines = s.engines := (setFld_engines ..).trans ((setFld_engines ..).trans (setReg_engines ..))
theorem wrapped_cnsStopped : (wrapped s k v).cnsStopped = s.cnsStopped := (setFld_cnsStopped ..).trans (setCns_cnsStopped ..)

theorem wrapped_cnsCycle : (wrapped s k v).cnsCycle = s.cnsCycle := by
  have hclk : (wrapped s k v).clk = s.clk := (setFld_clk ..).trans ((setFld_clk ..).trans (setReg_clk ..))
  have hboot : (wrapped s k v).boot = s.boot := (setFld_boot ..).trans ((setFld_boot ..).trans (setReg_boot ..))
  rw [State.cnsCycle, State.cycle, hclk, hboot, State.cnsCycle, State.cycle]

theorem cns_wrapped_same : (wrapped s k v).cns k = v % 2 ^ 48 := by
  rw [← cns_setCns_same s k v]
  refine cns_congr (regN_setFld_other _ _ _ _ ?_) (regN_setFld_other _ _ _ _ ?_)
  all_goals simp only [F.CNS_OVF.WRAPPED, R.CNS_OVF, R.CNS_CTR_LO, R.CNS_CTR_HI]; omega

theorem cns_wrapped_other {j : Nat} (h : j ≠ k) : (wrapped s k v).cns j = s.cns j := by
  rw [← cns_setCns_other s h v]
  refine cns_congr (regN_setFld_other _ _ _ _ ?_) (regN_setFld_other _ _ _ _ ?_)
  all_goals simp only [F.CNS_OVF.WRAPPED, R.CNS_OVF, R.CNS_CTR_LO, R.CNS_CTR_HI]; omega

theorem ovf_wrapped {i : Nat} (hi : i < 8) :
    bitOf ((wrapped s k v).fld F.CNS_OVF.WRAPPED) i = (decide (i = k) || bitOf (s.fld F.CNS_OVF.WRAPPED) i) := by
  have hfield : (wrapped s k v).fld F.CNS_OVF.WRAPPED = setBit (s.fld F.CNS_OVF.WRAPPED) k % 2 ^ 8 :=
    fld_setFld_same _ F.CNS_OVF.WRAPPED _ (by decide)
  rw [hfield, bitOf_mod_two_pow _ hi, bitOf_setBit]

theorem regN_wrapped_other (hk : k < 8) {off : Nat} (hovf : off ≠ R.CNS_OVF)
    (h : off < 0x700040 ∨ 0x7000C0 ≤ off ∨ off % 16 = 0) : (wrapped s k v).regN off = s.regN off :=
  (regN_setFld_other _ F.CNS_OVF.WRAPPED _ _ hovf).trans (regN_setCns_other s v (ctr_apart hk h).1 (ctr_apart hk h).2)

end

/-- What a wrap to a value v leaves: counter k at the remainder and still counting, its CNS_OVF bit, the other counters as they were, and
the sample taken, counted as lost or not asked for. -/
structure WrapsTo (s : State) (k v : Nat) (t : State) : Prop where
  value : t.cns k = v % 2 ^ 48
  counts : ∀ ev, t.cnsCounts k ev = s.cnsCounts k ev
  ovf : ∀ i, i < 8 → bitOf (t.fld F.CNS_OVF.WRAPPED) i = (decide (i = k) || bitOf (s.fld F.CNS_OVF.WRAPPED) i)
  others : ∀ j, j < 8 → j ≠ k → t.cns j = s.cns j
  pool : t.pool = s.pool
  engines : t.engines = s.engines
  taken : s.flag (F.CNS_CTR_CFG.SAMPLE k) = true → s.flag F.CNS_SAMPSTAT.VALID = false → SampleTaken s k t
  lost : s.flag (F.CNS_CTR_CFG.SAMPLE k) = true → s.flag F.CNS_SAMPSTAT.VALID = true →
    s.reg64 R.CNS_SAMP_CYC_LO R.CNS_SAMP_CYC_HI ≠ s.cnsCycle →
    t.fld F.CNS_SAMPSTAT.LOST = min (s.fld F.CNS_SAMPSTAT.LOST + 1) 65535 ∧
      t.reg64 R.CNS_SAMP_CYC_LO R.CNS_SAMP_CYC_HI = s.reg64 R.CNS_SAMP_CYC_LO R.CNS_SAMP_CYC_HI
  unasked : s.flag (F.CNS_CTR_CFG.SAMPLE k) = false → t.regN R.CNS_SAMPSTAT = s.regN R.CNS_SAMPSTAT

/-- The wrapped counters are read alike in every state that keeps them. -/
theorem KeepsCounters.cns {s t : State} (h : KeepsCounters s t) {j : Nat} (hj : j < 8) : t.cns j = s.cns j := by
  refine cns_congr (h.regs _ ?_ ?_) (h.regs _ ?_ ?_)
  all_goals simp only [R.CNS_CYCLE_LO, R.CNS_SAMPSTAT, R.CNS_CTR_LO, R.CNS_CTR_HI]; omega

theorem KeepsCounters.cnsCounts {s t : State} (h : KeepsCounters s t) {j : Nat} (hj : j < 8) (ev : Nat) :
    t.cnsCounts j ev = s.cnsCounts j ev := by
  refine cnsCounts_congr (h.regs _ ?_ ?_) (h.regs _ ?_ ?_) h.stopped ev
  all_goals simp only [R.CNS_CYCLE_LO, R.CNS_SAMPSTAT, R.CNS_GCTRL, R.CNS_CTR_CFG]; omega

theorem cnsAdd_wrapsTo {s : State} {k n : Nat} (hk : k < 8) (hwrap : 2 ^ 48 ≤ s.cns k + n) (hcycle : s.cnsCycle < 2 ^ 64) :
    WrapsTo s k (s.cns k + n) (s.cnsAdd k n) := by
  set w := wrapped s k (s.cns k + n)
  have hadd := cnsAdd_wrapped hk hwrap
  have hkeep : KeepsCounters w (s.cnsAdd k n) := hadd ▸ .ite (cnsSample_keepsCounters w k) (keepsCounters_refl w)
  have hother : ∀ off, off ≠ R.CNS_OVF → off < 0x700040 ∨ 0x7000C0 ≤ off ∨ off % 16 = 0 → w.regN off = s.regN off :=
    fun _ => regN_wrapped_other s _ hk
  have hcfg : w.regN (R.CNS_CTR_CFG k) = s.regN (R.CNS_CTR_CFG k) :=
    hother _ (by simp only [R.CNS_CTR_CFG, R.CNS_OVF]; omega) (.inr (.inr (ctrCfg_mod k)))
  have hvalid : w.flag F.CNS_SAMPSTAT.VALID = s.flag F.CNS_SAMPSTAT.VALID := flag_congr (hother _ (by decide) (.inr (.inl (by decide))))
  have hpair : w.reg64 R.CNS_SAMP_CYC_LO R.CNS_SAMP_CYC_HI = s.reg64 R.CNS_SAMP_CYC_LO R.CNS_SAMP_CYC_HI :=
    reg64_congr (hother _ (by decide) (.inr (.inl (by decide)))) (hother _ (by decide) (.inr (.inl (by decide))))
  have hcyc : w.cnsCycle = s.cnsCycle := wrapped_cnsCycle s _
  constructor
  case value => rw [hkeep.cns hk, cns_wrapped_same]
  case counts =>
    exact fun ev => (hkeep.cnsCounts hk ev).trans (cnsCounts_congr (hother _ (by decide) (.inl (by decide))) hcfg (wrapped_cnsStopped s _) ev)
  case ovf =>
    intro i hi
    rw [fld_congr (hkeep.regs _ (by decide) (by decide)), ovf_wrapped s _ hi]
  case others => exact fun j hj hne => (hkeep.cns hj).trans (cns_wrapped_other s _ hne)
  case pool => exact hkeep.pool.trans (wrapped_pool s _)
  case engines => exact hkeep.engines.trans (wrapped_engines s _)
  case taken =>
    intro hsample hfree
    rw [hadd, if_pos hsample]
    exact (cnsSample_takes hk (hvalid.trans hfree) (hcyc.trans_lt hcycle)).congr hcyc hcfg fun off hoff =>
      hother off (by simp only [R.CNS_OVF]; omega) (.inr (.inl (by omega)))
  case lost =>
    intro hsample hheld hne
    rw [hadd, if_pos hsample, cnsSample_missed (hvalid.trans hheld) (by rwa [hpair, hcyc]), fld_addSat_same _ _ _ (by decide),
      fld_congr (hother _ (by decide) (.inr (.inl (by decide)))), ← hpair]
    exact ⟨rfl, reg64_congr (regN_addSat_other _ _ _ (by decide)) (regN_addSat_other _ _ _ (by decide))⟩
  case unasked =>
    intro hsample
    rw [hadd, if_neg (by simp [hsample]), hother _ (by decide) (.inr (.inl (by decide)))]

/-- What a counter remembers of the cycle it last counted, and the queue and the part, are read by none of this. -/
theorem WrapsTo.answered {s t : State} {k v : Nat} (h : WrapsTo s k v t) (last : List (Option Nat)) :
    WrapsTo s k v (Answered s { t with cnsLast := last }) :=
  ⟨h.value, h.counts, h.ovf, h.others, h.pool, h.engines, fun hsample hfree =>
    have hs := h.taken hsample hfree
    ⟨hs.valid, hs.counter, hs.cycle, hs.engineCycle, hs.address, hs.event⟩, h.lost, h.unasked⟩

/-- What the counter of this command adds: one in MODE 1, and each occurrence in MODE 0 (R434). -/
abbrev cnsStep (s : State) (k n : Nat) : Nat := if s.flag (F.CNS_CTR_CFG.MODE k) = true then 1 else n

theorem cnsCounterWrap_quiet {s : State} {k : Fin 8} {n : Nat}
    (h : s.cnsCounts k (s.fld (F.CNS_CTR_CFG.EVENT k)) = false ∨ s.cns k + cnsStep s k n < 2 ^ 48) :
    exec (.cnsCounterWrap k n) s = .next s := by
  have hquiet : s.cnsWrap k n = s := by
    rw [State.cnsWrap, if_neg]
    simpa only [Bool.and_eq_true, decide_eq_true_eq, not_and_or, Bool.not_eq_true, not_le] using h
  rw [exec_cnsCounterWrap, hquiet]
  exact answer_of_kept rfl rfl

theorem cnsWrap_adds {s : State} {k n : Nat} (hcounts : s.cnsCounts k (s.fld (F.CNS_CTR_CFG.EVENT k)) = true)
    (hwrap : 2 ^ 48 ≤ s.cns k + cnsStep s k n)
    (hfresh : s.flag (F.CNS_CTR_CFG.MODE k) = false ∨ nth s.cnsLast k none ≠ some s.cycle) :
    ∃ last, s.cnsWrap k n = { s.cnsAdd k (cnsStep s k n) with cnsLast := last } := by
  have hsee : s.cnsWrap k n = s.cnsSee k (s.fld (F.CNS_CTR_CFG.EVENT k)) n := by
    rw [State.cnsWrap, if_pos]
    rw [hcounts, Bool.true_and, decide_eq_true hwrap]
  rw [hsee, State.cnsSee, if_pos hcounts]
  cases hmode : s.flag (F.CNS_CTR_CFG.MODE k) with
  | false => exact ⟨(s.cnsAdd k n).cnsLast, by simp only [cnsStep, hmode]; rfl⟩
  | true =>
    have hlast : nth s.cnsLast k none ≠ some s.cycle := hfresh.resolve_left (by simp [hmode])
    exact ⟨_, by simp only [cnsStep, hmode, if_neg hlast]; rfl⟩

theorem cnsCounterWrap_wrapsTo {s : State} {k : Fin 8} {n : Nat} (hcounts : s.cnsCounts k (s.fld (F.CNS_CTR_CFG.EVENT k)) = true)
    (hwrap : 2 ^ 48 ≤ s.cns k + cnsStep s k n)
    (hfresh : s.flag (F.CNS_CTR_CFG.MODE k) = false ∨ nth s.cnsLast k none ≠ some s.cycle) (hcycle : s.cnsCycle < 2 ^ 64) :
    ∃ t, exec (.cnsCounterWrap k n) s = .next t ∧ WrapsTo s k (s.cns k + cnsStep s k n) t := by
  obtain ⟨last, hadd⟩ := cnsWrap_adds hcounts hwrap hfresh
  exact ⟨_, by rw [exec_cnsCounterWrap, hadd, answer_eq], (cnsAdd_wrapsTo k.isLt hwrap hcycle).answered last⟩

/-! ## Writes of CNS_GCTRL and of a counter's value (R435, R438) -/

theorem regWrite_cns {s : State} {off : Nat} (hu : s.inUse = true) (h : 0x700000 ≤ off ∧ off < 0x7F0000) (v met : Nat) :
    s.regWrite off v met = s.cnsRegWrite off v met := by
  rw [State.regWrite, if_pos (serves_of_inUse hu off)]
  simp only [State.writeServed]
  repeat rw [if_neg (by omega)]
  rw [if_pos (by omega)]

theorem not_userPage {off : Nat} (h : off < 0x7F0000) : ¬ userPage off = true := by
  simp only [userPage, Bool.and_eq_true, decide_eq_true_eq]
  omega

theorem regWrite_cnsGctrl {s : State} (hu : s.inUse = true) (v met : Nat) : s.regWrite R.CNS_GCTRL v met = s.cnsCtrlWrite v := by
  rw [regWrite_cns hu (by decide), State.cnsRegWrite, if_neg (not_userPage (by decide)), if_pos rfl]

/-- A write of either value register of a counter. -/
theorem regWrite_cnsCounter {s : State} {k : Nat} (hu : s.inUse = true) (hk : k < 8) (hi : Bool) (v met : Nat) :
    s.regWrite (if hi = true then R.CNS_CTR_HI k else R.CNS_CTR_LO k) v met = s.cnsWrite k hi v := by
  obtain ⟨r, hat, hr⟩ : ∃ r, (if hi = true then R.CNS_CTR_HI k else R.CNS_CTR_LO k) = 0x700040 + 0x10 * k + r ∧
      r = if hi = true then 8 else 4 := by
    refine ⟨_, ?_, rfl⟩
    cases hi <;> simp only [R.CNS_CTR_HI, R.CNS_CTR_LO, if_true, Bool.false_eq_true, if_false] <;> omega
  have hr16 : r < 0x10 := by rw [hr]; split <;> decide
  rw [hat, regWrite_cns hu (by omega), State.cnsRegWrite, if_neg (not_userPage (by omega)), if_neg (by simp only [R.CNS_GCTRL]; omega),
    if_neg (by simp only [R.CNS_BWCFG]; omega), instanceOf_at k r hk hr16, hr]
  cases hi <;> rfl

theorem cnsCtrlWrite_clear (s : State) (run : Bool) :
    s.cnsCtrlWrite (2 + b2n run) = s.cnsClearAll.setFld F.CNS_GCTRL.RUN (b2n run) := by
  rw [State.cnsCtrlWrite, if_pos (by cases run <;> decide)]
  exact setFld_eq_of_mod_eq _ (by cases run <;> decide)

theorem cnsClearAll_running {s : State} (hu : s.inUse = true) (hrun : s.flag F.CNS_GCTRL.RUN = true) (run : Bool) :
    exec (.cnsClearAll run) s = .next ((s.report 249 kRegAccess R.CNS_GCTRL).setFld F.CNS_GCTRL.RUN (b2n run)) := by
  have hclear : s.cnsClearAll = s.report 249 kRegAccess R.CNS_GCTRL := by rw [State.cnsClearAll, if_pos hrun, State.regFault]
  rw [exec_cnsClearAll, regWrite_cnsGctrl hu, cnsCtrlWrite_clear, hclear]
  exact answer_of_kept (setFld_pending ..) (setFld_part ..)

/-- The counters of a list cleared: they hold 0, and neither another register nor a fault message is changed. -/
structure CountersCleared (s t : State) (l : List Nat) : Prop where
  cns : ∀ j, t.cns j = if j ∈ l then 0 else s.cns j
  regs : ∀ off, (∀ k ∈ l, off ≠ R.CNS_CTR_LO k ∧ off ≠ R.CNS_CTR_HI k) → t.regN off = s.regN off
  faultIn : t.faultIn = s.faultIn

theorem foldl_setCns_zero (l : List Nat) (s : State) : CountersCleared s (l.foldl (fun u k => u.setCns k 0) s) l := by
  induction l generalizing s with
  | nil => exact ⟨fun j => by simp, fun _ _ => rfl, rfl⟩
  | cons k l ih =>
    obtain ⟨hcns, hregs, hfault⟩ := ih (s.setCns k 0)
    rw [setCns_faultIn] at hfault
    rw [List.foldl_cons]
    refine ⟨fun j => ?_, fun off hoff => ?_, hfault⟩
    · rw [hcns]
      by_cases hjk : j = k
      · simp [hjk, cns_setCns_same]
      · simp [hjk, cns_setCns_other s hjk]
    · obtain ⟨hk, hl⟩ := List.forall_mem_cons.mp hoff
      exact (hregs off hl).trans (regN_setCns_other s 0 hk.1 hk.2)

theorem cnsClearAll_stopped {s : State} (hu : s.inUse = true) (hrun : s.flag F.CNS_GCTRL.RUN = false) (run : Bool) :
    ∃ t, exec (.cnsClearAll run) s = .next t ∧ t.flag F.CNS_GCTRL.RUN = run ∧
      (∀ j, j < 8 → t.cns j = 0 ∧ t.regN (R.CNS_CTR_CFG j) = s.regN (R.CNS_CTR_CFG j)) ∧ t.faultIn = s.faultIn := by
  have hclear : s.cnsClearAll = (List.range 8).foldl (fun u k => u.setCns k 0) s := by rw [State.cnsClearAll, if_neg (by simp [hrun])]
  obtain ⟨hcns, hregs, hfault⟩ : CountersCleared s s.cnsClearAll (List.range 8) := hclear ▸ foldl_setCns_zero _ s
  have hother : ∀ off, off ≠ R.CNS_GCTRL → (s.cnsClearAll.setFld F.CNS_GCTRL.RUN (b2n run)).regN off = s.cnsClearAll.regN off :=
    fun off => regN_setFld_other _ F.CNS_GCTRL.RUN _ off
  refine ⟨Answered s (s.cnsClearAll.setFld F.CNS_GCTRL.RUN (b2n run)), ?_, ?_, fun j hj => ⟨?_, ?_⟩, ?_⟩
  · rw [exec_cnsClearAll, regWrite_cnsGctrl hu, cnsCtrlWrite_clear, answer_eq]
  · rw [answered_flag, State.flag, fld_setFld_same _ _ _ (by decide)]
    cases run <;> rfl
  · have hzero : s.cnsClearAll.cns j = 0 := by rw [hcns, if_pos (List.mem_range.mpr hj)]
    rw [← hzero]
    refine cns_congr (hother _ ?_) (hother _ ?_)
    all_goals simp only [R.CNS_GCTRL, R.CNS_CTR_LO, R.CNS_CTR_HI]; omega
  · rw [answered_regN, hother _ (by simp only [R.CNS_GCTRL, R.CNS_CTR_CFG]; omega)]
    exact hregs _ fun k hk => ctr_apart (List.mem_range.mp hk) (.inr (.inr (ctrCfg_mod j)))
  · rw [answered_faultIn, setFld_faultIn, hfault]

section
variable {s : State} {k : Fin 8} (hi : Bool) (value : Word)

theorem cnsCounterWrite_enabled (hu : s.inUse = true) (hen : s.flag (F.CNS_CTR_CFG.EN k) = true) :
    exec (.cnsCounterWrite k hi value) s =
      .next (s.report 249 kRegAccess (if hi = true then R.CNS_CTR_HI k else R.CNS_CTR_LO k)) := by
  rw [exec_cnsCounterWrite, regWrite_cnsCounter hu k.isLt, State.cnsWrite, if_pos hen, State.regFault]
  exact answer_of_kept rfl rfl

/-- The value register written: CNS_CTR_LO whole, CNS_CTR_HI in its 16 bits alone. -/
theorem regN_cnsWritten :
    let off := if hi = true then R.CNS_CTR_HI k else R.CNS_CTR_LO k
    (if hi = true then s.setFld (F.CNS_CTR_HI.COUNT k) value.toNat else s.setReg (R.CNS_CTR_LO k) value.toNat).regN off =
      if hi = true then s.regN off / 65536 * 65536 + value.toNat % 65536 else value.toNat := by
  cases hi with
  | false =>
    simp only [Bool.false_eq_true, if_false]
    rw [regN_setReg_same, Nat.mod_eq_of_lt value.isLt]
  | true =>
    have hput : ∀ n, putBits n 0 16 value.toNat = n / 65536 * 65536 + value.toNat % 65536 := fun n => by
      simp only [putBits]
      omega
    simp only [if_true]
    rw [← hput]
    exact regN_setFld_same s (F.CNS_CTR_HI.COUNT k) _ (by simp only [F.CNS_CTR_HI.COUNT]; omega)

theorem faultIn_cnsWritten :
    (if hi = true then s.setFld (F.CNS_CTR_HI.COUNT k) value.toNat else s.setReg (R.CNS_CTR_LO k) value.toNat).faultIn = s.faultIn := by
  cases hi with
  | false => exact setReg_faultIn ..
  | true => exact setFld_faultIn ..

/-- A written counter goes on after a check error. -/
theorem cnsCounterWrite_disabled (hu : s.inUse = true) (hen : s.flag (F.CNS_CTR_CFG.EN k) = false) :
    let off := if hi = true then R.CNS_CTR_HI k else R.CNS_CTR_LO k
    ∃ t, exec (.cnsCounterWrite k hi value) s = .next t ∧
      t.regN off = (if hi = true then s.regN off / 65536 * 65536 + value.toNat % 65536 else value.toNat) ∧
      k.val ∉ t.cnsStopped ∧ t.faultIn = s.faultIn := by
  intro off
  refine ⟨Answered s (s.cnsWrite k hi value.toNat), ?_, ?_, ?_, ?_⟩
  · rw [exec_cnsCounterWrite, regWrite_cnsCounter hu k.isLt, answer_eq]
  all_goals rw [State.cnsWrite, if_neg (by simp [hen])]
  · exact regN_cnsWritten hi value
  · simp
  · exact faultIn_cnsWritten hi value

end

/-! ## A check error in a counter (R438) -/

theorem cnsStopped_checkError (s : State) (k : Nat) :
    (s.cnsCheckError k).cnsStopped = if s.cnsStopped.contains k then s.cnsStopped else s.cnsStopped ++ [k] := by
  have h : ((s.setCns k 0).report 269 kCheck 0).cnsStopped = s.cnsStopped := (report_cnsStopped ..).trans (setCns_cnsStopped ..)
  rw [State.cnsCheckError, h]

theorem mem_cnsStopped_checkError (s : State) (k : Nat) : k ∈ (s.cnsCheckError k).cnsStopped := by
  rw [cnsStopped_checkError]
  split
  · rwa [← List.contains_iff_mem]
  · exact List.mem_append_right _ (List.mem_singleton_self k)

theorem faultIn_checkError (s : State) (k : Nat) : (s.cnsCheckError k).faultIn = insertFault s.faultIn ⟨s.cycle, 269, kCheck, 0⟩ := by
  have hclk : (s.setCns k 0).clk = s.clk := (setFld_clk ..).trans (setReg_clk ..)
  rw [State.cnsCheckError, State.report, setCns_faultIn, State.cycle, hclk, State.cycle]

theorem regN_checkError (s : State) (k off : Nat) : (s.cnsCheckError k).regN off = (s.setCns k 0).regN off := by
  simp only [State.cnsCheckError, State.report, State.regN, State.reg]

theorem cns_checkError (s : State) (k : Nat) : (s.cnsCheckError k).cns k = 0 := by
  rw [cns_congr (regN_checkError s k _) (regN_checkError s k _), cns_setCns_same, Nat.zero_mod]

theorem cnsCounterCheckError_effect (k : Fin 8) (s : State) :
    ∃ t, exec (.cnsCounterCheckError k) s = .next t ∧ t.cns k = 0 ∧ (∀ ev, t.cnsCounts k ev = false) ∧
      t.faultIn = insertFault s.faultIn ⟨s.cycle, 269, kCheck, 0⟩ := by
  refine ⟨Answered s (s.cnsCheckError k), ?_, (answered_cns s _ k).trans (cns_checkError s k), fun ev => ?_, ?_⟩
  · rw [exec_cnsCounterCheckError, answer_eq]
  · exact not_cnsCounts_of_stopped (answered_cnsStopped s _ ▸ mem_cnsStopped_checkError s k) ev
  · rw [answered_faultIn, faultIn_checkError]

/-! ## The end of a bandwidth window (R442) -/

/-- The total of a port stands in its pair of registers. -/
def storeTotal (s : State) (p : Nat) : State := s.setReg64 (R.CNS_BW_LO p) (R.CNS_BW_HI p) (nth s.bwNow p 0)

@[simp] theorem storeTotal_bwNow (s : State) (p : Nat) : (storeTotal s p).bwNow = s.bwNow := by simp [storeTotal, State.setReg64]
@[simp] theorem storeTotal_bwStart (s : State) (p : Nat) : (storeTotal s p).bwStart = s.bwStart := by simp [storeTotal, State.setReg64]

/-- The totals of a list of ports stored: the counts of the window and every other register are as they were. -/
structure TotalsStored (s t : State) (l : List Nat) : Prop where
  bwNow : t.bwNow = s.bwNow
  bwStart : t.bwStart = s.bwStart
  totals : ∀ p ∈ l, t.reg64 (R.CNS_BW_LO p) (R.CNS_BW_HI p) = nth s.bwNow p 0 % 2 ^ 64
  regs : ∀ off, (∀ p ∈ l, off ≠ R.CNS_BW_LO p ∧ off ≠ R.CNS_BW_HI p) → t.regN off = s.regN off

theorem foldl_storeTotal (l : List Nat) (s : State) : TotalsStored s (l.foldl storeTotal s) l := by
  induction l generalizing s with
  | nil => exact ⟨rfl, rfl, by simp, fun _ _ => rfl⟩
  | cons p l ih =>
    obtain ⟨hnow, hstart, htotals, hregs⟩ := ih (storeTotal s p)
    rw [storeTotal_bwNow] at hnow htotals
    rw [storeTotal_bwStart] at hstart
    rw [List.foldl_cons]
    refine ⟨hnow, hstart, fun q hq => ?_, fun off hoff => ?_⟩
    · by_cases hql : q ∈ l
      · exact htotals q hql
      · obtain rfl : q = p := (List.mem_cons.mp hq).resolve_right hql
        have hapart : ∀ r ∈ l, r ≠ q := fun r hr hrq => hql (hrq ▸ hr)
        rw [reg64_congr (hregs _ fun r hr => ?_) (hregs _ fun r hr => ?_)]
        · exact reg64_setReg64_same s (by simp only [R.CNS_BW_LO, R.CNS_BW_HI]; omega) _
        all_goals have := hapart r hr; simp only [R.CNS_BW_LO, R.CNS_BW_HI]; omega
    · obtain ⟨hp, hl⟩ := List.forall_mem_cons.mp hoff
      exact (hregs off hl).trans (regN_setReg64_other s _ hp.1 hp.2)

theorem bwWindowEnd_early {s : State} (h : ¬ (s.flag F.CNS_BWCFG.EN = true ∧ s.bwStart + s.bwWindow ≤ s.clk)) :
    exec .cnsBwWindowEnd s = .next s := by
  have hend : s.bwWindowEnd = s := by rw [State.bwWindowEnd, if_neg (by simpa using h)]
  rw [exec_cnsBwWindowEnd, hend]
  exact answer_of_kept rfl rfl

/-- The twelve totals stored, the counts of the next window at 0 from the end of this one, and the window counted. -/
def windowEnded (s : State) : State :=
  let t := (List.range 12).foldl storeTotal s
  { t with bwNow := [0, 0, 0, 0, 0, 0, 0, 0, 0, 0, 0, 0], bwStart := t.bwStart + t.bwWindow }.setReg R.CNS_BWSTAT (t.regN R.CNS_BWSTAT + 1)

theorem bwWindowEnd_due {s : State} (h : s.flag F.CNS_BWCFG.EN = true ∧ s.bwStart + s.bwWindow ≤ s.clk) :
    s.bwWindowEnd = windowEnded s := by
  rw [State.bwWindowEnd, if_pos (by simpa using h)]
  rfl

theorem windowEnded_effect (s : State) :
    (windowEnded s).bwStart = s.bwStart + s.bwWindow ∧
    (∀ p, p < 12 → nth (windowEnded s).bwNow p 0 = 0 ∧
      (windowEnded s).reg64 (R.CNS_BW_LO p) (R.CNS_BW_HI p) = nth s.bwNow p 0 % 2 ^ 64) ∧
    (windowEnded s).regN R.CNS_BWSTAT = (s.regN R.CNS_BWSTAT + 1) % 2 ^ 32 := by
  obtain ⟨-, hstart, htotals, hregs⟩ := foldl_storeTotal (List.range 12) s
  have hbelow : ∀ off, off < R.CNS_BW_LO 0 → ((List.range 12).foldl storeTotal s).regN off = s.regN off := fun off hoff =>
    hregs off fun p _ => by simp only [R.CNS_BW_LO, R.CNS_BW_HI] at *; omega
  have hstat : ∀ off, off ≠ R.CNS_BWSTAT → (windowEnded s).regN off = ((List.range 12).foldl storeTotal s).regN off :=
    fun off => regN_setReg_other _ R.CNS_BWSTAT _ off
  have hzero : ∀ p, p < 12 → nth [0, 0, 0, 0, 0, 0, 0, 0, 0, 0, 0, 0] p 0 = 0 := by decide
  refine ⟨?_, fun p hp => ⟨?_, ?_⟩, ?_⟩
  · have hwindow : ((List.range 12).foldl storeTotal s).bwWindow = s.bwWindow := by
      rw [State.bwWindow, fld_congr (f := F.CNS_BWCFG.WIN) (hbelow _ (by decide)), State.bwWindow]
    rw [windowEnded, setReg_bwStart, hstart, hwindow]
  · rw [windowEnded, setReg_bwNow]
    exact hzero p hp
  · rw [reg64_congr (hstat _ ?_) (hstat _ ?_), htotals p (List.mem_range.mpr hp)]
    all_goals simp only [R.CNS_BW_LO, R.CNS_BW_HI, R.CNS_BWSTAT]; omega
  · rw [← hbelow R.CNS_BWSTAT (by decide)]
    exact regN_setReg_same _ R.CNS_BWSTAT _

theorem cnsBwWindowEnd_due {s : State} (h : s.flag F.CNS_BWCFG.EN = true ∧ s.bwStart + s.bwWindow ≤ s.clk) :
    ∃ t, exec .cnsBwWindowEnd s = .next t ∧ t.bwStart = s.bwStart + s.bwWindow ∧
      (∀ p, p < 12 → nth t.bwNow p 0 = 0 ∧ t.reg64 (R.CNS_BW_LO p) (R.CNS_BW_HI p) = nth s.bwNow p 0 % 2 ^ 64) ∧
      t.regN R.CNS_BWSTAT = (s.regN R.CNS_BWSTAT + 1) % 2 ^ 32 := by
  refine ⟨Answered s (windowEnded s), by rw [exec_cnsBwWindowEnd, bwWindowEnd_due h, answer_eq], ?_⟩
  simp only [answered_bwNow, answered_bwStart, answered_reg64, answered_regN]
  exact windowEnded_effect s

end Sys2Proof.Machine
end

section
/-! SUPPORT. The statement on Crow's Nest, from the lemmas on its wraps, its writes, its check errors and its windows. -/
namespace Sys2Proof.Machine

/-- Settles O51: a wrap is one addition past 2^48 - 1 followed by its sample, CLRALL and the end of a window are folds over registers that
lie apart, and a write and a check error are read off the registers of their counter. -/
theorem crowsNest : Obligations.CrowsNest := by
  unfold Obligations.CrowsNest
  refine ⟨fun k n s => ⟨cnsCounterWrap_quiet, fun hcounts hwrap hfresh hcycle => ?_⟩, fun k hi run value s hu => ?_,
    cnsCounterCheckError_effect, fun s => ⟨bwWindowEnd_early, cnsBwWindowEnd_due⟩⟩
  · obtain ⟨t, hexec, h⟩ := cnsCounterWrap_wrapsTo hcounts hwrap hfresh hcycle
    refine ⟨t, hexec, h.value, (h.counts _).trans hcounts, h.ovf, h.others, h.pool, h.engines, fun hsample hfree => ?_, h.lost, h.unasked⟩
    obtain ⟨hvalid, hcounter, hcyc, hengine, haddr, hevent⟩ := h.taken hsample hfree
    exact ⟨hvalid, hcounter, hcyc, hengine, haddr, hevent⟩
  · exact ⟨fun hrun => cnsClearAll_running hu hrun run, fun hrun => cnsClearAll_stopped hu hrun run,
      cnsCounterWrite_enabled hi value hu, cnsCounterWrite_disabled hi value hu⟩

end Sys2Proof.Machine
end

section
/-! SUPPORT. A list of bytes as the number it spells, and a list put together again from its chunks. -/
namespace Sys2Proof

theorem ofBytes_lt (l : List Byte) : ofBytes l < 256 ^ l.length := by
  induction l with
  | nil => simp [ofBytes]
  | cons b l ih =>
    have hb : b.toNat < 256 := b.isLt
    rw [ofBytes, List.length_cons, Nat.pow_succ]
    omega

theorem toBytes_ofBytes {n : Nat} {l : List Byte} (h : l.length = n) : toBytes n (ofBytes l) = l := by
  induction l generalizing n with
  | nil => subst h; rfl
  | cons b l ih =>
    subst h
    have hb : b.toNat < 256 := b.isLt
    have hhead : BitVec.ofNat 8 (b.toNat + 256 * ofBytes l) = b := by
      apply BitVec.eq_of_toNat_eq
      rw [BitVec.toNat_ofNat]
      omega
    have htail : (b.toNat + 256 * ofBytes l) / 256 = ofBytes l := by omega
    rw [List.length_cons, ofBytes, toBytes, hhead, htail, ih rfl]

/-- Consecutive chunks of a list, one behind the other, are its start. -/
theorem flatMap_chunks {α : Type} (l : List α) (k n : Nat) :
    ((List.range n).flatMap fun w => (l.drop (k * w)).take k) = l.take (k * n) := by
  induction n with
  | zero => rfl
  | succ n ih => rw [List.range_succ, List.flatMap_append, ih, List.flatMap_singleton, Nat.mul_succ, List.take_add]

end Sys2Proof
end

section
/-! SUPPORT. The boot flash (R452): the GO writes that start an operation or are refused, the flash buffer as 64 registers, the bytes of the
flash, and what each operation leaves at its end. -/
namespace Sys2Proof.Machine

/-! ## The commands and the words they write -/

/-- The word that writes GO with an operation and a length to SYS_FLASH_CTRL. -/
def flashGoWord (op len : Nat) : Nat := 2 ^ 31 + op * 2 ^ 24 + len

theorem exec_flashRead (len : Fin 512) (s : State) :
    exec (.flashRead len) s = s.answer (s.regWrite R.SYS_FLASH_CTRL (flashGoWord 0 len) 0) := rfl

theorem exec_flashProgram (len : Fin 512) (s : State) :
    exec (.flashProgram len) s = s.answer (s.regWrite R.SYS_FLASH_CTRL (flashGoWord 1 len) 0) := rfl

theorem exec_flashErase (len : Fin 512) (s : State) :
    exec (.flashErase len) s = s.answer (s.regWrite R.SYS_FLASH_CTRL (flashGoWord 2 len) 0) := rfl

theorem exec_flashOpDone (error : Bool) (s : State) : exec (.flashOpDone error) s = s.answer (s.flashDone error) := rfl

theorem exec_pcieLinkTrained (rate : Fin 7) (width : Fin 9) (s : State) :
    exec (.pcieLinkTrained rate width) s = s.answer (s.linkTrained rate width) := rfl

theorem flashGoWord_fields {op len : Nat} (hop : op < 4) (hlen : len < 512) :
    bitOf (flashGoWord op len) 31 = true ∧ bitsOf (flashGoWord op len) 24 2 = op ∧ bitsOf (flashGoWord op len) 0 9 = len := by
  simp only [flashGoWord, bitOf, bitsOf, beq_iff_eq]
  omega

theorem regWrite_flashCtrl {s : State} (hf : s.flashServed = true) (ha : s.answers = true) (v met : Nat) :
    s.regWrite R.SYS_FLASH_CTRL v met = s.flashCtrlWrite v := by
  have hserves : s.serves R.SYS_FLASH_CTRL = true := by rw [State.serves, ha]; rfl
  rw [State.regWrite, if_pos hserves, State.writeServed, if_pos (by decide), State.sysWrite, hf]
  rfl

/-! ## GO -/

/-- What R452 excludes of a GO with READ (0), PROGRAM (1) or ERASE (2). -/
abbrev FlashBarred (s : State) (op len : Nat) : Prop :=
  (s.flag F.SYS_FLASH_CTRL.BUSY = true ∨ len < 4 ∨ 256 < len ∨ len % 4 ≠ 0) ∨
    (op < 2 ∧ 256 < s.regN R.SYS_FLASH_ADDR % 256 + len)

/-- The operation under way replaced, or none. -/
def withFlashOp (s : State) (f : Option FlashOp) : State := { s with boot := { s.boot with flash := f } }

section
variable (s : State) (f : Option FlashOp)

@[simp] theorem withFlashOp_boot : (withFlashOp s f).boot = { s.boot with flash := f } := rfl
@[simp] theorem withFlashOp_regN (off : Nat) : (withFlashOp s f).regN off = s.regN off := rfl
@[simp] theorem withFlashOp_fld (g : Field) : (withFlashOp s f).fld g = s.fld g := rfl
@[simp] theorem withFlashOp_flash : (withFlashOp s f).flash = s.flash := rfl
@[simp] theorem withFlashOp_faultIn : (withFlashOp s f).faultIn = s.faultIn := rfl
@[simp] theorem withFlashOp_micros : (withFlashOp s f).micros = s.micros := rfl
@[simp] theorem withFlashOp_shroud : (withFlashOp s f).shroud = s.shroud := rfl
@[simp] theorem withFlashOp_pending : (withFlashOp s f).pending = s.pending := rfl
@[simp] theorem withFlashOp_part : (withFlashOp s f).part = s.part := rfl

end

/-- An operation under way: SYS_FLASH_CTRL shows it, and it works on the address that SYS_FLASH_ADDR held. -/
def flashStarted (s : State) (op len : Nat) : State :=
  withFlashOp (((s.setFld F.SYS_FLASH_CTRL.OP op).setFld F.SYS_FLASH_CTRL.LEN len).setFld F.SYS_FLASH_CTRL.BUSY 1)
    (some ⟨op, s.regN R.SYS_FLASH_ADDR, len⟩)

section
variable {s : State} {op len : Nat}

/-- A GO that R452 excludes is a register access fault; any other starts its operation. -/
theorem flashCtrlWrite_go (hop : op < 3) (hlen : len < 512) : s.flashCtrlWrite (flashGoWord op len) =
    if FlashBarred s op len then s.report 249 kRegAccess R.SYS_FLASH_CTRL else flashStarted s op len := by
  obtain ⟨hgo, hops, hlens⟩ := flashGoWord_fields (show op < 4 by omega) hlen
  have hreserved : op ≠ 3 := by omega
  simp only [State.flashCtrlWrite, hgo, hops, hlens, Bool.not_true, Bool.false_eq_true, if_false]
  refine if_congr ?_ rfl rfl
  simp only [FlashBarred, Bool.or_eq_true, Bool.and_eq_true, decide_eq_true_eq, bne_iff_ne, beq_iff_eq]
  tauto

theorem answer_flashGo_barred (hf : s.flashServed = true) (ha : s.answers = true) (hop : op < 3) (hlen : len < 512)
    (h : FlashBarred s op len) :
    s.answer (s.regWrite R.SYS_FLASH_CTRL (flashGoWord op len) 0) = .next (s.report 249 kRegAccess R.SYS_FLASH_CTRL) := by
  rw [regWrite_flashCtrl hf ha, flashCtrlWrite_go hop hlen, if_pos h]
  exact answer_of_kept rfl rfl

theorem flashStarted_busy : (flashStarted s op len).flag F.SYS_FLASH_CTRL.BUSY = true := by
  rw [State.flag, flashStarted, withFlashOp_fld, fld_setFld_same _ _ _ (by decide)]
  rfl

theorem flashStarted_len (hlen : len < 512) : (flashStarted s op len).fld F.SYS_FLASH_CTRL.LEN = len := by
  rw [flashStarted, withFlashOp_fld, fld_setFld_apart _ F.SYS_FLASH_CTRL.BUSY F.SYS_FLASH_CTRL.LEN _ (by decide) rfl (by decide),
    fld_setFld_same _ _ _ (by decide)]
  exact Nat.mod_eq_of_lt hlen

theorem answer_flashGo_started (hf : s.flashServed = true) (ha : s.answers = true) (hop : op < 3) (hlen : len < 512)
    (h : ¬ FlashBarred s op len) :
    ∃ t, s.answer (s.regWrite R.SYS_FLASH_CTRL (flashGoWord op len) 0) = .next t ∧
      t.boot.flash = some ⟨op, s.regN R.SYS_FLASH_ADDR, len⟩ ∧ t.flag F.SYS_FLASH_CTRL.BUSY = true ∧
      t.fld F.SYS_FLASH_CTRL.LEN = len ∧ t.flash = s.flash ∧ t.faultIn = s.faultIn := by
  refine ⟨flashStarted s op len, ?_, ?_, flashStarted_busy, flashStarted_len hlen, ?_, ?_⟩
  · rw [regWrite_flashCtrl hf ha, flashCtrlWrite_go hop hlen, if_neg h]
    apply answer_of_kept
    · rw [flashStarted, withFlashOp_pending, setFld_pending, setFld_pending, setFld_pending]
    · rw [flashStarted, withFlashOp_part, setFld_part, setFld_part, setFld_part]
  · rw [flashStarted, withFlashOp_boot]
  · rw [flashStarted, withFlashOp_flash, setFld_flash, setFld_flash, setFld_flash]
  · rw [flashStarted, withFlashOp_faultIn, setFld_faultIn, setFld_faultIn, setFld_faultIn]

end

/-! ## The flash buffer -/

/-- One register of the flash buffer given its word. -/
def fillWord (word : Nat → Nat) (s : State) (w : Nat) : State := s.setReg (R.SYS_FLASH_DATA w) (word w)

/-- Registers of the flash buffer filled: they hold their words, and nothing else changes. -/
structure WordsFilled (s t : State) (l : List Nat) (word : Nat → Nat) : Prop where
  only : ∃ regs, t = { s with regs := regs }
  words : ∀ w ∈ l, t.regN (R.SYS_FLASH_DATA w) = word w % 2 ^ 32
  regs : ∀ off, (∀ w ∈ l, off ≠ R.SYS_FLASH_DATA w) → t.regN off = s.regN off

theorem foldl_fillWord (word : Nat → Nat) (l : List Nat) (s : State) : WordsFilled s (l.foldl (fillWord word) s) l word := by
  induction l generalizing s with
  | nil => exact ⟨⟨s.regs, rfl⟩, by simp, fun _ _ => rfl⟩
  | cons w l ih =>
    obtain ⟨⟨regs, honly⟩, hwords, hregs⟩ := ih (fillWord word s w)
    rw [List.foldl_cons]
    refine ⟨⟨regs, honly⟩, fun x hx => ?_, fun off hoff => ?_⟩
    · by_cases hxl : x ∈ l
      · exact hwords x hxl
      · obtain rfl : x = w := (List.mem_cons.mp hx).resolve_right hxl
        rw [hregs _ fun r hr => ?_]
        · exact regN_setReg_same s _ _
        · have hne : r ≠ x := fun h => hxl (h ▸ hr)
          simp only [R.SYS_FLASH_DATA]
          omega
    · obtain ⟨hw, hl⟩ := List.forall_mem_cons.mp hoff
      exact (hregs off hl).trans (regN_setReg_other s _ _ off hw)

/-- The bytes that a buffer filled from its start is to hold. -/
def refilled (s : State) (bs : List Byte) : List Byte := bs ++ (s.flashBuffer 256).drop bs.length

/-- The word of such bytes that a register of the buffer takes. -/
def bufferWord (all : List Byte) (w : Nat) : Nat := ofBytes ((all.drop (4 * w)).take 4)

theorem fillBuffer_filled (s : State) (bs : List Byte) :
    WordsFilled s (s.fillBuffer bs) (List.range 64) (bufferWord (refilled s bs)) := foldl_fillWord _ _ s

theorem flashBuffer_length (s : State) (n : Nat) : (s.flashBuffer n).length = min n 256 := by
  simp only [State.flashBuffer, List.length_take, List.length_flatMap, toBytes_length, List.map_const', List.sum_replicate,
    List.length_range]
  rfl

theorem flashBuffer_congr {s t : State} (h : ∀ w, t.regN (R.SYS_FLASH_DATA w) = s.regN (R.SYS_FLASH_DATA w)) (n : Nat) :
    t.flashBuffer n = s.flashBuffer n := by
  simp only [State.flashBuffer, h]

theorem refilled_length {s : State} {bs : List Byte} (h : bs.length ≤ 256) : (refilled s bs).length = 256 := by
  rw [refilled, List.length_append, List.length_drop, flashBuffer_length]
  omega

/-- A filled buffer holds the bytes given, and behind them what it held. -/
theorem flashBuffer_fillBuffer (s : State) {bs : List Byte} (h : bs.length ≤ 256) :
    (s.fillBuffer bs).flashBuffer 256 = bs ++ (s.flashBuffer 256).drop bs.length := by
  have hlength := refilled_length (s := s) h
  have hword : ∀ w ∈ List.range 64,
      toBytes 4 ((s.fillBuffer bs).regN (R.SYS_FLASH_DATA w)) = ((refilled s bs).drop (4 * w)).take 4 := by
    intro w hw
    have hw64 : w < 64 := List.mem_range.mp hw
    have hchunk : (((refilled s bs).drop (4 * w)).take 4).length = 4 := by
      rw [List.length_take, List.length_drop, hlength]
      omega
    have hlt : bufferWord (refilled s bs) w < 2 ^ 32 := by
      have := ofBytes_lt (((refilled s bs).drop (4 * w)).take 4)
      rwa [hchunk] at this
    rw [(fillBuffer_filled s bs).words w hw, Nat.mod_eq_of_lt hlt, bufferWord, toBytes_ofBytes hchunk]
  rw [State.flashBuffer, List.flatMap_congr hword, flatMap_chunks, List.take_take, List.take_of_length_le (by omega), refilled]

/-! ## The bytes of the flash -/

theorem flashRead_congr {s t : State} (h : t.flash = s.flash) (a n : Nat) : t.flashRead a n = s.flashRead a n := by
  rw [State.flashRead, h, State.flashRead]

theorem flashRead_length (s : State) (a n : Nat) : (s.flashRead a n).length = n := Sparse.getMany_length _ _ _ _

theorem flashRead_flashPut_same (s : State) (a : Nat) (bs : List Byte) : (s.flashPut a bs).flashRead a bs.length = bs :=
  Sparse.getMany_setMany_same _ _ _ _

theorem flashRead_flashPut_other (s : State) {a b n : Nat} {bs : List Byte} (h : b + n ≤ a ∨ a + bs.length ≤ b) :
    (s.flashPut a bs).flashRead b n = s.flashRead b n := Sparse.getMany_setMany_other _ _ _ _ _ _ h

/-- A byte of an erased range reads 0xFF, and every other byte as before. -/
theorem flashRead_flashGone (s : State) (lo hi x : Nat) :
    (s.flashGone lo hi).flashRead x 1 = if lo ≤ x ∧ x < hi then [0xFF] else s.flashRead x 1 := by
  have hget := Sparse.get_eraseRange erasedDefault s.flash lo hi x
  have hread : (s.flashGone lo hi).flashRead x 1 = [Sparse.get erasedDefault (Sparse.eraseRange s.flash lo hi) x] := rfl
  rw [hread, hget]
  split <;> rfl

/-! ## The end of an operation -/

/-- No operation is under way, and SYS_FLASH_CTRL shows how the last one ended. -/
def flashEnded (s : State) (error : Bool) : State :=
  ((withFlashOp s none).setFld F.SYS_FLASH_CTRL.BUSY 0).setFld F.SYS_FLASH_CTRL.RESULT (b2n error)

@[simp] theorem flashEnded_boot (s : State) (error : Bool) : (flashEnded s error).boot = { s.boot with flash := none } := by
  rw [flashEnded, setFld_boot, setFld_boot, withFlashOp_boot]
@[simp] theorem flashEnded_flash (s : State) (error : Bool) : (flashEnded s error).flash = s.flash := by
  rw [flashEnded, setFld_flash, setFld_flash, withFlashOp_flash]
@[simp] theorem flashEnded_micros (s : State) (error : Bool) : (flashEnded s error).micros = s.micros := by
  rw [flashEnded, setFld_micros, setFld_micros, withFlashOp_micros]
@[simp] theorem flashEnded_shroud (s : State) (error : Bool) : (flashEnded s error).shroud = s.shroud := by
  rw [flashEnded, setFld_shroud, setFld_shroud, withFlashOp_shroud]
@[simp] theorem flashEnded_pending (s : State) (error : Bool) : (flashEnded s error).pending = s.pending := by
  rw [flashEnded, setFld_pending, setFld_pending, withFlashOp_pending]
@[simp] theorem flashEnded_part (s : State) (error : Bool) : (flashEnded s error).part = s.part := by
  rw [flashEnded, setFld_part, setFld_part, withFlashOp_part]

theorem regN_flashEnded_other (s : State) (error : Bool) {off : Nat} (h : off ≠ R.SYS_FLASH_CTRL) :
    (flashEnded s error).regN off = s.regN off := by
  rw [flashEnded, regN_setFld_other _ _ _ off h, regN_setFld_other _ _ _ off h, withFlashOp_regN]

theorem flashEnded_busy (s : State) (error : Bool) : (flashEnded s error).fld F.SYS_FLASH_CTRL.BUSY = 0 :=
  (fld_setFld_apart _ F.SYS_FLASH_CTRL.RESULT F.SYS_FLASH_CTRL.BUSY _ (by decide) rfl (by decide)).trans
    (fld_setFld_same _ F.SYS_FLASH_CTRL.BUSY 0 (by decide))

theorem flashEnded_result (s : State) (error : Bool) : (flashEnded s error).fld F.SYS_FLASH_CTRL.RESULT = b2n error := by
  rw [flashEnded, fld_setFld_same _ _ _ (by decide)]
  cases error <;> rfl

theorem flashEnded_flashBuffer (s : State) (error : Bool) (n : Nat) : (flashEnded s error).flashBuffer n = s.flashBuffer n :=
  flashBuffer_congr (fun w => regN_flashEnded_other s error (by simp only [R.SYS_FLASH_DATA, R.SYS_FLASH_CTRL]; omega)) n

/-- What moving the bytes of a flash operation leaves alone: all but the flash, its buffer and the free values. -/
structure KeepsRunning (s t : State) : Prop where
  boot : t.boot = s.boot
  micros : t.micros = s.micros
  shroud : t.shroud = s.shroud
  pending : t.pending = s.pending
  part : t.part = s.part
  regs : ∀ off, off < R.SYS_FLASH_DATA 0 → t.regN off = s.regN off

theorem KeepsRunning.trans {s t u : State} (h : KeepsRunning s t) (h' : KeepsRunning t u) : KeepsRunning s u :=
  ⟨h'.boot.trans h.boot, h'.micros.trans h.micros, h'.shroud.trans h.shroud, h'.pending.trans h.pending, h'.part.trans h.part,
    fun off hoff => (h'.regs off hoff).trans (h.regs off hoff)⟩

theorem keepsRunning_refl (s : State) : KeepsRunning s s := ⟨rfl, rfl, rfl, rfl, rfl, fun _ _ => rfl⟩
theorem drawn_keepsRunning (s : State) : KeepsRunning s s.drawn := ⟨rfl, rfl, rfl, rfl, rfl, fun _ _ => rfl⟩
theorem flashPut_keepsRunning (s : State) (a : Nat) (bs : List Byte) : KeepsRunning s (s.flashPut a bs) :=
  ⟨rfl, rfl, rfl, rfl, rfl, fun _ _ => rfl⟩
theorem flashGone_keepsRunning (s : State) (lo hi : Nat) : KeepsRunning s (s.flashGone lo hi) :=
  ⟨rfl, rfl, rfl, rfl, rfl, fun _ _ => rfl⟩

theorem fillBuffer_flash (s : State) (bs : List Byte) : (s.fillBuffer bs).flash = s.flash := by
  obtain ⟨regs, honly⟩ := (fillBuffer_filled s bs).only
  rw [honly]

theorem fillBuffer_keepsRunning (s : State) (bs : List Byte) : KeepsRunning s (s.fillBuffer bs) := by
  obtain ⟨⟨regs, honly⟩, -, hregs⟩ := fillBuffer_filled s bs
  refine ⟨?_, ?_, ?_, ?_, ?_, fun off hoff => hregs off fun w _ => by simp only [R.SYS_FLASH_DATA] at *; omega⟩
  all_goals rw [honly]

theorem drawnIf_keepsRunning (s : State) (error : Bool) : KeepsRunning s (if error = true then s.drawn else s) := by
  split
  · exact drawn_keepsRunning s
  · exact keepsRunning_refl s

/-- What an engine's local store holds rests on the microsequencers, the patched image and the patch staging alone. -/
theorem localWord_congr {s t : State} (hmicros : t.micros = s.micros) (hpatch : t.boot.patch = s.boot.patch)
    (hstaging : t.boot.staging = s.boot.staging) (g a : Nat) : t.localWord g a = s.localWord g a := by
  have hmicro : t.micro g = s.micro g := by rw [State.micro, hmicros, State.micro]
  have hmaster (x : Nat) : t.masterWord x = s.masterWord x := by rw [State.masterWord, hpatch, hstaging, State.masterWord]
  simp only [State.localWord, hmicro, hmaster]

section
variable {s : State} {op addr len : Nat} (h : s.boot.flash = some ⟨op, addr, len⟩)
include h

/-- The end of an operation, by the operation. -/
theorem flashDone_some (error : Bool) : s.flashDone error =
    let t := flashEnded s error
    let drawn := if error = true then t.drawn else t
    let free (n : Nat) : List Byte := toBytes n (Config.freeValue t.free)
    if op = 0 then drawn.fillBuffer (if error = true then free len else t.flashRead addr len)
    else if op = 1 then drawn.flashPut addr (if error = true then free len else t.flashBuffer len)
    else if error = true then t.drawn.flashPut (addr / 65536 * 65536) (free 65536)
    else t.flashGone (addr / 65536 * 65536) (addr / 65536 * 65536 + 65536) := by
  rw [State.flashDone, h]
  rfl

/-- Whatever the operation and however it ends, what runs is as it was with no operation under way. -/
theorem flashDone_keepsRunning (error : Bool) : KeepsRunning (flashEnded s error) (s.flashDone error) := by
  rw [flashDone_some h]
  dsimp only
  split
  · exact (drawnIf_keepsRunning _ error).trans (fillBuffer_keepsRunning _ _)
  split
  · exact (drawnIf_keepsRunning _ error).trans (flashPut_keepsRunning _ _ _)
  split
  · exact (drawn_keepsRunning _).trans (flashPut_keepsRunning _ _ _)
  · exact flashGone_keepsRunning _ _ _

theorem flashDone_read (hop : op = 0) : s.flashDone false = (flashEnded s false).fillBuffer (s.flashRead addr len) := by
  simp only [flashDone_some h, if_pos hop, Bool.false_eq_true, if_false, flashRead_congr (flashEnded_flash s false)]

theorem flashDone_program (hop : op = 1) : s.flashDone false = (flashEnded s false).flashPut addr (s.flashBuffer len) := by
  have hread : op ≠ 0 := by omega
  simp only [flashDone_some h, if_neg hread, if_pos hop, Bool.false_eq_true, if_false, flashEnded_flashBuffer]

theorem flashDone_erase (hop : op = 2) :
    s.flashDone false = (flashEnded s false).flashGone (addr / 65536 * 65536) (addr / 65536 * 65536 + 65536) := by
  have hread : op ≠ 0 := by omega
  have hprogram : op ≠ 1 := by omega
  simp only [flashDone_some h, if_neg hread, if_neg hprogram, Bool.false_eq_true, if_false]

theorem flashDone_boot_flash (error : Bool) : (s.flashDone error).boot.flash = none := by
  rw [(flashDone_keepsRunning h error).boot, flashEnded_boot]

theorem flashDone_busy (error : Bool) : (s.flashDone error).flag F.SYS_FLASH_CTRL.BUSY = false := by
  rw [flag_congr ((flashDone_keepsRunning h error).regs _ (by decide)), State.flag, flashEnded_busy]
  rfl

theorem flashDone_result (error : Bool) : (s.flashDone error).fld F.SYS_FLASH_CTRL.RESULT = if error = true then 1 else 0 := by
  rw [fld_congr ((flashDone_keepsRunning h error).regs _ (by decide)), flashEnded_result, b2n]

theorem flashDone_localWord (error : Bool) (g a : Nat) : (s.flashDone error).localWord g a = s.localWord g a := by
  have hkept := flashDone_keepsRunning h error
  have hboot := hkept.boot.trans (flashEnded_boot s error)
  exact localWord_congr (hkept.micros.trans (flashEnded_micros s error)) (by rw [hboot]) (by rw [hboot]) g a

theorem flashDone_shroud (error : Bool) : (s.flashDone error).shroud = s.shroud :=
  (flashDone_keepsRunning h error).shroud.trans (flashEnded_shroud s error)

theorem flashDone_bootState (error : Bool) : (s.flashDone error).bootState = s.bootState :=
  fld_congr (f := F.SYS_BOOT_STATE.STATE)
    (((flashDone_keepsRunning h error).regs _ (by decide)).trans (regN_flashEnded_other s error (by decide)))

theorem exec_flashOpDone_some (error : Bool) : exec (.flashOpDone error) s = .next (s.flashDone error) := by
  have hkept := flashDone_keepsRunning h error
  rw [exec_flashOpDone]
  exact answer_of_kept (hkept.pending.trans (flashEnded_pending s error)) (hkept.part.trans (flashEnded_part s error))

/-- R452, READ: the buffer holds the flash's bytes, and the flash is as it was. -/
theorem flashDone_read_effect (hop : op = 0) (hlen : len ≤ 256) :
    (s.flashDone false).flashBuffer 256 = s.flashRead addr len ++ (s.flashBuffer 256).drop len ∧
      (s.flashDone false).flash = s.flash := by
  have hlength := flashRead_length s addr len
  constructor
  · rw [flashDone_read h hop, flashBuffer_fillBuffer _ (by omega), flashEnded_flashBuffer, hlength]
  · rw [flashDone_read h hop, fillBuffer_flash, flashEnded_flash]

/-- R452, PROGRAM: the flash holds the buffer's bytes, and every byte beside them is as it was. -/
theorem flashDone_program_effect (hop : op = 1) (hlen : len ≤ 256) :
    (s.flashDone false).flashRead addr len = s.flashBuffer len ∧
      ∀ x, x < addr ∨ addr + len ≤ x → (s.flashDone false).flashRead x 1 = s.flashRead x 1 := by
  have hlength : (s.flashBuffer len).length = len := by rw [flashBuffer_length, Nat.min_eq_left hlen]
  rw [flashDone_program h hop]
  refine ⟨?_, fun x hx => (flashRead_flashPut_other _ (by omega)).trans (flashRead_congr (flashEnded_flash s false) x 1)⟩
  have hsame := flashRead_flashPut_same (flashEnded s false) addr (s.flashBuffer len)
  rwa [hlength] at hsame

/-- R452, ERASE: the sector of 64 KiB that holds the address reads 0xFF, and every byte outside it is as it was. -/
theorem flashDone_erase_effect (hop : op = 2) :
    (∀ x, x / 65536 = addr / 65536 → (s.flashDone false).flashRead x 1 = [0xFF]) ∧
      ∀ x, x / 65536 ≠ addr / 65536 → (s.flashDone false).flashRead x 1 = s.flashRead x 1 := by
  rw [flashDone_erase h hop]
  refine ⟨fun x hx => ?_, fun x hx => ?_⟩
  · rw [flashRead_flashGone, if_pos (by omega)]
  · rw [flashRead_flashGone, if_neg (by omega), flashRead_congr (flashEnded_flash s false)]

end

theorem exec_flashOpDone_none {s : State} (h : s.boot.flash = none) (error : Bool) : exec (.flashOpDone error) s = .next s := by
  have hdone : s.flashDone error = s := by rw [State.flashDone, h]
  rw [exec_flashOpDone, hdone]
  exact answer_of_kept rfl rfl

end Sys2Proof.Machine
end

section
/-! SUPPORT. The statement on the boot flash and the host link, from the lemmas on GO writes and on the end of an operation. -/
namespace Sys2Proof.Machine

/-- Settles O56: a GO is refused or started by what R452 excludes, the end of an operation moves bytes between the flash and the registers of
its buffer alone, and the link's training writes one register. -/
theorem bootFlash : Obligations.BootFlash := by
  unfold Obligations.BootFlash
  refine ⟨fun len s hf ha => ?_, fun error s => ⟨fun h => exec_flashOpDone_none h error, fun op addr n h => ?_⟩, fun rate width s => ?_⟩
  · intro addr bad crosses goes refused
    have hrefused (op : Nat) (hop : op < 3) := answer_flashGo_barred hf ha hop len.isLt
    have hgoes (op : Nat) (hop : op < 3) := answer_flashGo_started hf ha hop len.isLt
    have hbarred (op : Nat) (hop : op < 2) : FlashBarred s op len ↔ bad ∨ crosses := or_congr_right (and_iff_right hop)
    have hbarred2 : FlashBarred s 2 len ↔ bad := or_iff_left fun h => absurd h.1 (by decide)
    refine ⟨fun h => ⟨?_, ?_⟩, fun h => ?_, fun hb hc => ⟨?_, ?_⟩, fun hb => ?_⟩
    · exact hrefused 0 (by decide) ((hbarred 0 (by decide)).mpr h)
    · exact hrefused 1 (by decide) ((hbarred 1 (by decide)).mpr h)
    · exact hrefused 2 (by decide) (hbarred2.mpr h)
    · exact hgoes 0 (by decide) (mt (hbarred 0 (by decide)).mp (not_or.mpr ⟨hb, hc⟩))
    · exact hgoes 1 (by decide) (mt (hbarred 1 (by decide)).mp (not_or.mpr ⟨hb, hc⟩))
    · exact hgoes 2 (by decide) (mt hbarred2.mp hb)
  · refine ⟨s.flashDone error, exec_flashOpDone_some h error, flashDone_boot_flash h error, flashDone_busy h error,
      flashDone_result h error, flashDone_localWord h error, flashDone_shroud h error, flashDone_bootState h error,
      fun hop he hlen => ?_, fun hop he hlen => ?_, fun hop he => ?_⟩ <;> subst he
    · exact flashDone_read_effect h hop hlen
    · exact flashDone_program_effect h hop hlen
    · exact flashDone_erase_effect h hop
  · rw [exec_pcieLinkTrained, State.linkTrained]
    exact answer_of_kept (setReg_pending ..) (setReg_part ..)

end Sys2Proof.Machine
end
